-- ==== Sys2Proof/Word.lean ====
section
/-! DEFINITION. Words and bytes: the two word types of the register and memory model and the little-endian conversions between
a list of bytes and a number (R6, R10). -/

namespace Sys2Proof

/-- A register word (R10). -/
abbrev Word := BitVec 32

/-- A byte of any memory. -/
abbrev Byte := BitVec 8

/-- The `n` little-endian bytes of `v` (R6). -/
def leBytes : Nat → Nat → List Byte
  | 0, _ => []
  | n + 1, v => BitVec.ofNat 8 v :: leBytes n (v / 256)

/-- The number whose little-endian bytes are `bs` (R6). -/
def leNat : List Byte → Nat
  | [] => 0
  | b :: bs => b.toNat + 256 * leNat bs

end Sys2Proof

namespace Sys2Proof.Machine

/-- The place of a register field: its lowest bit and its width. -/
structure Fld where
  lo : Nat
  w  : Nat
  deriving DecidableEq, Repr

/-- Everything a bus access may do to one register, or to each of `n1 × n2` registers at `off + s1·i + s2·j` (Table SCO-3):
the masks of the bits that are RW or RWS, W1C, WO and RC, the value after power-on reset, the mask of the RWS bits, and whether it is the LO (1) or HI (2) half of an event counter (R394). -/
structure RegDesc where
  off : Nat
  n1  : Nat
  s1  : Nat
  n2  : Nat
  s2  : Nat
  rw  : Nat
  w1c : Nat
  wo  : Nat
  rc  : Nat
  rst : Nat
  rws : Nat
  cnt : Nat
  deriving DecidableEq, Repr

end Sys2Proof.Machine
end

