-- ==== Sys2Proof/Syntax.lean ====
section
/-! DEFINITION. The commands the part takes: one constructor per row of the command table, with its operands. What the
environment contributes (a reading, the bytes in host memory, what a decoder decided, how long a pulse was) is an operand. -/

namespace Sys2Proof.Machine

/-- Who asks the buffer (Table BUF-3, BUF_ERR_ADDR.SOURCE). -/
inductive Requester where
  | core (c : Fin 4)
  | hif
  | hub
  deriving DecidableEq, Repr

/-- What the array's own code finds at a hit: nothing, a corrected word, or word `w` of the line uncorrectable (R348). -/
inductive ArrayCheck where
  | good
  | corrected
  | uncorrectable (w : Fin 4)
  deriving DecidableEq, Repr

/-- What a loop-back test measured on a slice: mean sample and mean absolute sample in 1/16 LSB, lock, bit errors (R436). -/
structure Slice where
  offset : Int
  ampl   : Nat
  lock   : Bool
  err    : Nat
  deriving DecidableEq, Repr

end Sys2Proof.Machine

namespace Sys2Proof

/-! ## Operands -/

/-- A controller: a physical or virtual function (R263, Table HIF-1). -/
abbrev CtlNo := Fin 64
/-- A 16-bit number of the host: a queue's, a doorbell's value. -/
abbrev QueueNo := Fin 65536
/-- A 16-bit number. -/
abbrev HalfWord := Fin 65536
/-- Sixteen bits. -/
abbrev HalfBits := BitVec 16
/-- A tag (R23). -/
abbrev TagNo := Fin 8192
/-- A state that CMD_OP.EXPECT names. -/
abbrev StateNo := Fin 8
/-- A page of the buffer. -/
abbrev PageNo := Fin 8388608
/-- A host port: 0 port A, 1 port B. -/
abbrev PortNo := Fin 2
/-- A bank of the Keep. -/
abbrev BankNo := Fin 2
/-- One of two: a spare slice, a DRAM channel. -/
abbrev PairNo := Fin 2
/-- An actuator. -/
abbrev ActNo := Fin 4
/-- A head of an actuator. -/
abbrev HeadNo := Fin 8
/-- A control core. -/
abbrev CoreNo := Fin 4
/-- A Track Sequencer: 0 to 3, or 4 the spare. -/
abbrev SeqNo := Fin 5
/-- A 32-bit word of a control store. -/
abbrev CsWordNo := Fin 65536
/-- A head mask. -/
abbrev MaskNo := Fin 256
/-- A work register of a Track Sequencer. -/
abbrev WorkReg := Fin 16
/-- A loop counter of a Track Sequencer. -/
abbrev LoopReg := Fin 4
/-- A microword address. -/
abbrev MicroAddr := Fin 8192
/-- A wedge number. -/
abbrev WedgeNo := Fin 1024
/-- A reader input of an actuator: three a head. -/
abbrev InputNo := Fin 24
/-- An ADC slice of an actuator: 24 and two spares. -/
abbrev SliceNo := Fin 26
/-- An entry of the page retirement list. -/
abbrev RetNo := Fin 2048
/-- A way of the stage cache. -/
abbrev WayNo := Fin 16
/-- A protection region of the Keep. -/
abbrev RegionNo := Fin 16
/-- A switched power domain (Table PWR-1). -/
abbrev DomainNo := Fin 36
/-- A temperature sensor. -/
abbrev SensorNo := Fin 24
/-- An interrupt source (Table ARC-11). -/
abbrev SourceNo := Fin 256
/-- A key slot. -/
abbrev SlotNo := Fin 128
/-- A unit with a Unit State Register. -/
abbrev UnitNo := Fin 36
/-- MGT_NODE.ID. -/
abbrev NodeNo := Fin 4096
/-- MGT_BUDGET.SEEK. -/
abbrev SeekNo := Fin 16
/-- MGT_MBOX.RSP_LEN. -/
abbrev RspLen := Fin 4096
/-- Bytes. -/
abbrev Bytes := List Byte
/-- Numbers. -/
abbrev Nats := List Nat
/-- Signed numbers. -/
abbrev Ints := List Int
/-- Errors that the cells of the buffer devices have taken: a word, and whether two of its bits are wrong. -/
abbrev Flips := List (Nat × Bool)
/-- Equaliser taps: reader, tap, value. -/
abbrev Taps := List (Nat × Nat × Int)
/-- What a loop-back test measured, slice by slice. -/
abbrev Slices := List (Nat × Machine.Slice)

/-- What a configuration request reads, of what the manual gives a value to (R266, R268, R270, R271). -/
inductive ConfigItem where
  | vendorDevice
  | revisionClass
  | subsystem
  | vfDeviceId
  | totalVfs
  | msixTableSize
  | slotClockConfig
  | clockPowerManagement
  | other
  deriving DecidableEq, Repr

/-- A management command carried in band by NVMe-MI Send (R277, Table FRZ-5): served by hardware, or the bytes of one that is
passed to firmware through the mailbox. -/
inductive MiCmd where
  | readDataStructure (off len : Nat)
  | healthPoll
  | configurationGet
  | configurationSet (unit : Bool) (v : Nat)
  | unitStateGet
  | unitStateSet (u code : Nat)
  | friezeRead (off len : Nat)
  | friezeFreeze (freeze : Bool)
  | fleetBudget (assist seek : Nat)
  | fleetIdentitySet (id : Nat)
  | passed (req : List Byte)
  | unsupported
  deriving DecidableEq, Repr

/-- What the link's check finds on a packet as it arrives (R91, R100): no error, a corrected word, an uncorrectable word, or a
protocol error. -/
inductive LinkFault where
  | good
  | corrected
  | uncorrectable
  | protocol
  deriving DecidableEq, Repr

/-- A trace message by its source (Table FRZ-4): a microword's tag, a write of TRC_FW, a record written. -/
inductive TraceEvent where
  | tag (unit tag : Nat)
  | fw (core : Fin 4) (v : Word)
  | frz (typ src : Nat)
  deriving DecidableEq, Repr

/-! ## Commands -/

/-- The commands (spec/opcode_table.json), in the order of the families of the files that give their meanings. -/
inductive Instr where
  /-- SQ_TAIL_DOORBELL: The host writes a submission-queue tail doorbell; the value is checked and fetching from that queue is
  enabled (R275). -/
  | sqTailDoorbell (n : CtlNo) (q : QueueNo) (v : HalfWord)
  /-- CQ_HEAD_DOORBELL: The host writes a completion-queue head doorbell, releasing posted completion entries or being ignored
  as invalid (R275). -/
  | cqHeadDoorbell (n : CtlNo) (q : QueueNo) (v : HalfWord)
  /-- SHADOW_DOORBELL_POLL: At each poll interval the Host Interface reads a queue's shadow doorbell and writes EventIdx (R274).
  The doorbell of submission queue `q`, or with `cq` of completion queue `q`, reads `v`. -/
  | shadowDoorbellPoll (n : CtlNo) (q : QueueNo) (cq : Bool) (v : HalfWord)
  /-- COMMAND_FETCH: When tag reserve and ceiling allow, the Host Interface fetches a submission entry into a FREE tag, copies
  it to control SRAM and queues NEW (R272). `entry` is the submission entry in host memory, `sel` the choice of the controller's
  own arbitration among its queues. -/
  | commandFetch (t : TagNo) (sel : Nat) (entry : Bytes)
  /-- CONFIG_REQUEST: A PCIe configuration request is answered, or answered with Retry Status while CFG_READY is 0 (R268). -/
  | configRequest (n : CtlNo) (item : ConfigItem)
  /-- LINK_TRAINING_START: Link training begins within 1 ms of the later of PERST# deassertion and LTSSM enable (R267). -/
  | linkTrainingStart (port : PortNo)
  /-- LINK_DOWN: A port's data link goes down or a hot reset is received, resetting that port's controllers (R268). `hot`: the
  port received a hot reset. -/
  | linkDown (port : PortNo) (hot : Bool)
  /-- FUNCTION_LEVEL_RESET: A Function Level Reset resets that controller and its tags are ended as Aborted-by-Reset (R306). -/
  | functionLevelReset (n : CtlNo)
  /-- CONTROLLER_ENABLE_CLEAR: The host clears CC.EN, which starts a controller reset (R306). -/
  | controllerEnableClear (n : CtlNo)
  /-- NVM_SUBSYSTEM_RESET: An NVM Subsystem Reset resets every controller (R306). -/
  | nvmSubsystemReset
  /-- SHUTDOWN_NOTIFICATION: A write of CC.SHN acts as a Flush of every namespace and leads to the clean-shutdown record (R308).
  `recorded`: firmware has written the clean-shutdown record. -/
  | shutdownNotification (n : CtlNo) (recorded : Bool)
  /-- VF_CONFIG_WRITE: The host writes NumVFs or VF Enable of a PF, setting HIF_EVT.VF_CFG (R287). -/
  | vfConfigWrite (pf : PortNo) (num : HalfWord) (en : Bool)
  /-- PTM_DIALOGUE: Every PTM_INT ms with SRC 2 the Host Interface runs a PTM exchange on port A and yields W and L (R466). `w`
  is the master time the dialogue obtained and `l` the local time of the same instant. -/
  | ptmDialogue (w : Nat) (l : Nat)
  /-- HIF_FN_RES_WRITE: A write of a controller's queue and vector resources is applied or refused (R271). -/
  | hifFnResWrite (c : CoreNo) (n : CtlNo) (v : Word)
  /-- HIF_FN_TAG_WRITE: A write of a controller's tag reserve and ceiling is applied or refused (R272). -/
  | hifFnTagWrite (c : CoreNo) (n : CtlNo) (v : Word)
  /-- HIF_LINK_CFG_WRITE: A write of the link configuration is applied, or the MODE change is refused while a port may train
  (R264). -/
  | hifLinkCfgWrite (c : CoreNo) (v : Word)
  /-- HIF_SRIOV_WRITE: A write of TotalVFs is applied only while CFG_READY is 0 and the sum is within 62 (R268). -/
  | hifSriovWrite (c : CoreNo) (v : Word)
  /-- LINK_UP: A port's link completes training and comes up, or changes rate or width, setting HIF_EVT.LINK_A or LINK_B (R287).
  `speed` and `width` are what the partner allows. -/
  | linkUp (port : PortNo) (speed : Nat) (width : Nat)
  /-- PCIE_UNCORRECTABLE_ERROR: AER logs an uncorrectable PCIe error and HIF_EVT.AER_UNCORR sets, asserting source 23 (R287). -/
  | pcieUncorrectableError
  /-- CONTROLLER_ENABLE: The host sets CC.EN to 1, after which firmware sets CSTS.RDY and the controller's resources can no
  longer be reassigned (R476). `asqs` and `acqs` are the sizes of the admin queues. -/
  | controllerEnable (n : CtlNo) (asqs : Nat) (acqs : Nat)
  /-- INTERRUPT_COALESCING_TIMEOUT: The aggregation time of the Interrupt Coalescing feature runs out and the Host Interface
  sends the held interrupt (R278). `v` is the vector. -/
  | interruptCoalescingTimeout (n : CtlNo) (v : Nat)
  /-- DELETE_IO_SQ: Delete I/O Submission Queue stops fetching, aborts unadmitted tags and completes once the queue's tags drain
  (R275). -/
  | deleteIoSq (t : TagNo)
  /-- CREATE_IO_SQ: Create I/O Submission Queue sets up a contiguous submission ring (R273). -/
  | createIoSq (t : TagNo)
  /-- DELETE_IO_CQ: Delete I/O Completion Queue removes a completion ring (R273). -/
  | deleteIoCq (t : TagNo)
  /-- CREATE_IO_CQ: Create I/O Completion Queue sets up a contiguous completion ring (R273). -/
  | createIoCq (t : TagNo)
  /-- GET_LOG_PAGE: Get Log Page returns a supported log or completes with Invalid Log Page (R286). `pg` is the buffer page the
  data goes through, `fw` what firmware supplies of the page. -/
  | getLogPage (t : TagNo) (pg : PageNo) (fw : Bytes)
  /-- IDENTIFY: Identify returns the controller or namespace data structure (R285). `pg` is the buffer page the data goes
  through, `fw` what firmware supplies of Identify Controller. -/
  | identify (t : TagNo) (pg : PageNo) (fw : Bytes)
  /-- ABORT_COMMAND: The Abort command looks for its target tag and completes with caught or not caught (R301). -/
  | abortCommand (t : TagNo)
  /-- SET_FEATURES: Set Features changes a supported feature or completes with Invalid Field in Command (R278). `data` is the
  Timestamp in host memory. -/
  | setFeatures (t : TagNo) (data : Bytes)
  /-- GET_FEATURES: Get Features returns a supported feature's value (R278). -/
  | getFeatures (t : TagNo) (pg : PageNo)
  /-- ASYNC_EVENT_REQUEST: An Asynchronous Event Request is held outstanding, up to 16 per controller (R277). -/
  | asyncEventRequest (t : TagNo)
  /-- NAMESPACE_MANAGEMENT: Namespace Management creates or deletes a zoned or conventional namespace (R276). `data` is the data
  structure in host memory; `zcap` and `share` the zone capacity and active zones that firmware gives a new zoned namespace. -/
  | namespaceManagement (t : TagNo) (data : Bytes) (zcap : Nat) (share : Nat)
  /-- NAMESPACE_ATTACHMENT: Namespace Attachment attaches or detaches a namespace to controllers (R276). `data` is the
  Controller List. -/
  | namespaceAttachment (t : TagNo) (data : Bytes)
  /-- FIRMWARE_COMMIT: Firmware Commit commits an image, and with action 3 holds fetch, drains and activates without reset
  (R309). -/
  | firmwareCommit (t : TagNo)
  /-- FW_ACTIVATION_TIMEOUT: If draining has not ended 4 s after FETCH_HOLD, the old image is kept and the Commit fails (R309).
  -/
  | fwActivationTimeout
  /-- FIRMWARE_IMAGE_DOWNLOAD: Firmware Image Download receives part of a new image (R277). `data` is the part of the image in
  host memory. -/
  | firmwareImageDownload (t : TagNo) (data : Bytes)
  /-- DEVICE_SELF_TEST: Device Self-test runs firmware's composition of the memory and analogue self-tests (R277). `ended`:
  firmware's composition of the self-tests has ended with that result. -/
  | deviceSelfTest (t : TagNo) (ended : Option Nat)
  /-- VIRTUALIZATION_MANAGEMENT: Virtualization Management is executed by writing HIF_FNn_RES (R271). -/
  | virtualizationManagement (t : TagNo)
  /-- NVME_MI_SEND: NVMe-MI Send carries a management command in band (R277). -/
  | nvmeMiSend (t : TagNo) (mi : MiCmd)
  /-- NVME_MI_RECEIVE: NVMe-MI Receive returns a management response in band (R277). -/
  | nvmeMiReceive (t : TagNo) (pg : PageNo)
  /-- DOORBELL_BUFFER_CONFIG: Doorbell Buffer Config sets the shadow doorbell and EventIdx buffers of a controller (R274). -/
  | doorbellBufferConfig (t : TagNo)
  /-- FORMAT_NVM: Format NVM formats a namespace, resetting every zone of a zoned namespace (R277). `swept`: the sweeps that R58
  asks for are done. -/
  | formatNvm (t : TagNo) (swept : Bool)
  /-- SECURITY_SEND: Security Send is passed to firmware, which drives the key store and locking ranges (R422). `ok`: firmware
  accepts the protocol's data. -/
  | securitySend (t : TagNo) (ok : Bool)
  /-- SECURITY_RECEIVE: Security Receive returns security protocol data from firmware (R422). `data` is what firmware returns.
  -/
  | securityReceive (t : TagNo) (pg : PageNo) (data : Bytes)
  /-- SANITIZE: Sanitize performs a crypto erase by GEN on every slot in use, and every zone becomes Empty (R427). -/
  | sanitize (t : TagNo)
  /-- UNSUPPORTED_OPCODE: A fetched command with an opcode outside Table HIF-4 completes with Invalid Command Opcode (R277). -/
  | unsupportedOpcode (t : TagNo)
  /-- FLUSH: Flush completes once every covered write is on the media, or with Write Fault after a deferred error (R305). -/
  | flush (t : TagNo)
  /-- WRITE: Write stores host data, ordered against overlapping commands of its queue (R298). `pg` is the first buffer page of
  the data. -/
  | write (t : TagNo) (pg : PageNo)
  /-- READ: Read returns data, zeros above a zone's write pointer, and may cross zone boundaries (R281). `failed` are the
  sectors that recovery could not deliver. -/
  | read (t : TagNo) (pg : PageNo) (failed : Nats)
  /-- WRITE_ZEROES: Write Zeroes records zero sectors and deallocates nothing (R284). -/
  | writeZeroes (t : TagNo) (pg : PageNo)
  /-- DATASET_MANAGEMENT: Dataset Management attributes are taken as hints and deallocate has no effect (R284). -/
  | datasetManagement (t : TagNo)
  /-- VERIFY: Verify reads and checks without transfer and counts as a read for ordering (R298). -/
  | verify (t : TagNo) (failed : Nats)
  /-- ZONE_CLOSE: Zone Management Send Close closes a zone (R280). -/
  | zoneClose (t : TagNo)
  /-- ZONE_FINISH: Zone Management Send Finish moves a zone to Full (R280). -/
  | zoneFinish (t : TagNo)
  /-- ZONE_OPEN: Zone Management Send Open opens a zone, implicitly closing another if MOR would be exceeded (R280). -/
  | zoneOpen (t : TagNo)
  /-- ZONE_RESET: Reset Zone raises ZGEN durably, sweeping the zone first when the new ZGEN was held since its last sweep (R58).
  `cap`: the capacity the re-formed stripe's class gives (R65); `swept`: the sweep that R58 asks for is done. -/
  | zoneReset (t : TagNo) (cap : Option Nat) (swept : Bool)
  /-- ZONE_OFFLINE: Offline is accepted from the host only for Read Only zones (R280). -/
  | zoneOffline (t : TagNo)
  /-- REPORT_ZONES: Zone Management Receive returns zone descriptors (R277). -/
  | reportZones (t : TagNo) (pg : PageNo)
  /-- ZONE_APPEND: Zone Append places up to 32 LBAs at the write pointer within one commit group and returns the first LBA
  (R282). -/
  | zoneAppend (t : TagNo) (pg : PageNo)
  /-- ZONE_AUDIT: Zone Audit runs Band Audit on one zone and returns row counts and a log entry (R283). `rows`, `noHeads` and
  `rebuilt` are what Band Audit counted. -/
  | zoneAudit (t : TagNo) (rows : Nat) (noHeads : Nat) (rebuilt : Nat)
  /-- ADMIT: CMD_OP ADMIT moves a tag from FETCHED to ADMITTED (R291). `expect` is the state the tag is expected to hold. -/
  | admitOp (c : CoreNo) (t : TagNo) (expect : StateNo)
  /-- XFER_IN: CMD_OP XFER_IN starts moving a write's data through the crypto engine to the buffer, or writes zero sectors
  (R291). -/
  | xferIn (c : CoreNo) (t : TagNo) (expect : StateNo)
  /-- XFER_IN_COMPLETE: The host data move ends, setting DIN and queueing DATA_IN, or queueing XFER_ERR on an error (R291).
  `data` is what host memory gave, `err` whether the move met a PCIe error. -/
  | xferInComplete (t : TagNo) (data : Bytes) (err : Bool)
  /-- ACK: CMD_OP ACK posts a write's completion and moves the tag to DESTAGING (R291). -/
  | ack (c : CoreNo) (t : TagNo) (expect : StateNo)
  /-- POST: CMD_OP POST moves XLEN bytes out if XOUT is 1 and then posts the completion and frees the tag (R291). -/
  | post (c : CoreNo) (t : TagNo) (expect : StateNo)
  /-- POST_TRANSFER_COMPLETE: The XOUT data move of a POST ends and the completion is posted and the tag freed (R291). -/
  | postTransferComplete (t : TagNo) (err : Bool)
  /-- ABORT_OP: CMD_OP ABORT marks the carrier's descriptors to close unsent and sends ABRT for sent tasks (R303). -/
  | abortOp (c : CoreNo) (t : TagNo) (expect : StateNo)
  /-- RELEASE: CMD_OP RELEASE frees a tag without posting (R307). -/
  | release (c : CoreNo) (t : TagNo) (expect : StateNo)
  /-- CMD_EVQ_READ: A read of CMD_EVQ removes and returns the oldest queued event (R292). -/
  | cmdEvqRead (c : CoreNo)
  /-- FETCH_HOLD_WRITE: A write of CMD_CTRL.FETCH_HOLD stops or restarts tags entering FETCHED (R309). -/
  | fetchHoldWrite (c : CoreNo) (v : Word)
  /-- DQ_TAIL_WRITE: A write of CMD_DQn_TAIL posts descriptors, which are checked in ring order and bound to their tags (R295).
  -/
  | dqTailWrite (c : CoreNo) (n : ActNo) (v : Word)
  /-- TASK_SEND: When a task credit is held and the throttle allows, the dispatcher sends the next descriptor's TASK and moves
  ADMITTED tags to DISPATCHED (R296). -/
  | taskSend (n : ActNo)
  /-- DESCRIPTOR_CLOSE_UNSENT: An aborted descriptor not yet sent is closed in ring order as though an ABORTED STAT had arrived
  (R303). -/
  | descriptorCloseUnsent (n : ActNo)
  /-- STAT_RECEIVE: A STAT arrives at the dispatcher, is written, merged into bound tags, and moves finished tags to DONE
  (R297). -/
  | statReceive (n : ActNo) (f : LinkFault)
  /-- LINK_RESET: LNK_CTRL.RESET empties the link, restores credits, faults the task in the registers and closes outstanding
  tasks with ACT_RESET (R297). `enable` is LNK_CTRL.ENABLE of the write. -/
  | linkReset (c : CoreNo) (n : ActNo) (enable : Bool)
  /-- XRDY_RECEIVE: An XRDY adds COUNT downstream data credits for its task at the Buffer Hub (R96). -/
  | xrdyReceive (n : ActNo) (f : LinkFault)
  /-- DATA_DOWN_SEND: While it holds credit, the Buffer Hub sends the next downstream DATA of a task (R96). -/
  | dataDownSend (n : ActNo)
  /-- DATA_UP_RECEIVE: An upstream DATA arrives and the Buffer Hub places the sector by SIDX and returns a credit (R93). -/
  | dataUpReceive (n : ActNo) (f : LinkFault)
  /-- TASK_PACKET_RECEIVE: A TASK packet arrives at the Track Sequencer's task queue (R95). -/
  | taskPacketReceive (n : ActNo) (f : LinkFault)
  /-- TASK_ENTER: When no task is held, RUN is 1 and HALTED is 0, a queued task moves into the task registers (R101). -/
  | taskEnter (n : ActNo)
  /-- DATA_DOWN_RECEIVE: A downstream DATA packet arrives and is placed in the track buffer or maquette store, or discarded
  (R97). -/
  | dataDownReceive (n : ActNo) (f : LinkFault)
  /-- ABRT_RECEIVE: An ABRT removes a queued task, locks ABORTED on a task before its point of no return, or only flags a late
  abort (R98). -/
  | abrtReceive (n : ActNo) (f : LinkFault)
  /-- WAIT_TIMEOUT: A wait lasting longer than TSQ_WAIT_LIMIT is a fault (R122). -/
  | waitTimeout (n : ActNo)
  /-- SAFE_GAP: 64 words executed without a safe point is a fault (R123). -/
  | safeGap (n : ActNo)
  /-- END_TIMEOUT: Microcode not sending STAT within TSQ_END_LIMIT after a lock takes the fault path (R112). -/
  | endTimeout (n : ActNo)
  /-- MQ_STORE_PARITY_ERROR: A parity error in a slot in use ends the task MAQUETTE_BAD PARITY, empties the slot and logs a
  Frieze event (R84). -/
  | mqStoreParityError (n : ActNo)
  /-- TIMELINE_HIT: The timeline reaches the armed compare point and TL_HIT sets (R121). -/
  | timelineHit (n : ActNo)
  /-- PARITY_READY: Formation of the current row's parity by XOR 1 ends and PAR_READY sets (R121). -/
  | parityReady (n : ActNo)
  /-- REBUILD_END: A parity rebuild ends 544 clocks after CHN 3, the slot becomes REBUILT and ROW_READ_DONE can set (R199). -/
  | rebuildEnd (n : ActNo)
  /-- TSQ_RUN_WRITE: A write of TSQ_CTRL.RUN enables tasks, and a change from 1 to 0 with a task held posts STOP (R124). -/
  | tsqRunWrite (c : CoreNo) (t : SeqNo) (run : Bool)
  /-- TSQ_RESUME: TSQ_CTRL.RESUME clears HALTED and TSQ_FAULT so tasks may enter again (R125). -/
  | tsqResume (c : CoreNo) (t : SeqNo)
  /-- CS_CHECK: TSQ_CTRL.CS_CHECK starts the control-store CRC computation (R127). -/
  | csCheck (c : CoreNo) (t : SeqNo)
  /-- CS_CHECK_END: The control-store CRC ends, filling TSQ_CS_CRC and setting CS_VALID (R127). -/
  | csCheckEnd (t : SeqNo)
  /-- CONTROL_STORE_WRITE: A write to the control store stores 32 bits with parity, or is a bus error while running or busy
  (R126). `i` is the 32-bit word of the control store. -/
  | controlStoreWrite (c : CoreNo) (t : SeqNo) (i : CsWordNo) (v : Word)
  /-- TSQ_ATTACH: A write of ATTACH and HOST attaches or detaches the spare Track Sequencer or is refused (R128). -/
  | tsqAttach (c : CoreNo) (attach : Bool) (host : ActNo)
  /-- TSQ_ENV_WRITE: A write of TSQ_ENV.TEMP sets the temperature and resets AGE to 0 (R86). -/
  | tsqEnvWrite (c : CoreNo) (t : SeqNo) (v : Word)
  /-- MICROWORD_ISSUE: The Track Sequencer issues one microword, samples conditions, acts and chooses the next address (R117).
  `parityErr`: the word fetched has a parity error. -/
  | microwordIssue (n : ActNo) (parityErr : Bool)
  /-- GATE_IDLE: GATE 1 sets the phase IDLE (R108). -/
  | gateIdle (n : ActNo)
  /-- GATE_READ: GATE 2 sets the phase READ (R108). -/
  | gateRead (n : ActNo)
  /-- GATE_WRITE: GATE 3 sets the phase WRITE (R108). -/
  | gateWrite (n : ActNo)
  /-- WG_ARM: GATE 4 arms the write gates of the heads in WGM (R109). `wgm` is WGM. -/
  | wgArm (n : ActNo) (wgm : MaskNo)
  /-- WG_DROP: GATE 5 drops the write gates of the heads in WGM with cause WG_DROP (R220). -/
  | wgDrop (n : ActNo) (wgm : MaskNo)
  /-- RG_ARM: GATE 6 arms the read gates of the heads in RGM (R118). `rgm` is RGM. -/
  | rgArm (n : ActNo) (rgm : MaskNo)
  /-- RG_DROP: GATE 7 drops the read gates of the heads in RGM (R118). -/
  | rgDrop (n : ActNo) (rgm : MaskNo)
  /-- GATE_DROP_ALL: GATE 8 drops every gate, holds WQ low and sets IDLE (R146). -/
  | gateDropAll (n : ActNo)
  /-- ROW_OPEN: ROW OPEN has the position unit grant the next window, or report ROWS_DONE, or lock an ending code (R105). -/
  | rowOpen (n : ActNo)
  /-- ROW_CLOSE: ROW CLOSE has the position unit judge and record the window as written, abandoned or not written (R107). -/
  | rowClose (n : ActNo)
  /-- XRDY_SEND: LNK 1 sends XRDY with COUNT, stalling for track-buffer space (R96). `sa` is the work register that holds COUNT.
  -/
  | xrdySend (n : ActNo) (sa : WorkReg)
  /-- DATA_UP_SEND: LNK 2 sends upstream DATA for a track-buffer sector, stalling for credit (R118). `sa` is the work register
  that holds the sector's place. -/
  | dataUpSend (n : ActNo) (sa : WorkReg)
  /-- STAT_SEND: LNK 3 sends STAT, ending the task and stopping execution (R113). -/
  | statSend (n : ActNo)
  /-- PARITY_FORM: XOR 1 forms the parity of the current row (R45). -/
  | parityForm (n : ActNo)
  /-- TBUF_RELEASE: XOR 2 releases the track-buffer space of the last row closed as written (R118). -/
  | tbufRelease (n : ActNo)
  /-- CHN_ARM: CHN 1 arms the read channels of eligible heads for the granted window (R197). -/
  | chnArm (n : ActNo) (rgm : MaskNo)
  /-- CHN_COLLECT: CHN 2 finalises the head row, places its sectors in the track buffer and frees its entry (R197). -/
  | chnCollect (n : ActNo)
  /-- CHN_REBUILD: CHN 3 rebuilds the one missing slot of the head row from parity (R199). -/
  | chnRebuild (n : ActNo)
  /-- CHN_LADDER_STEP: CHN 4 moves the head row to its lowest permitted ladder step (R201). -/
  | chnLadderStep (n : ActNo)
  /-- SRV_SETPOINT: SRV 1 queues the granted window's set-point record to the Armature (R238). -/
  | srvSetpoint (n : ActNo)
  /-- SRV_SPLIT: SRV 2 sets SPLIT centring and queues a recentre record (R239). -/
  | srvSplit (n : ActNo) (rgm : MaskNo)
  /-- SRV_RECENTRE: SRV 3 sets NORMAL centring and queues a recentre record (R239). -/
  | srvRecentre (n : ActNo)
  /-- WRP_CODES: WRP 1 computes and queues CODES side frames and loads precompensation for heads in WGM (R211). -/
  | wrpCodes (n : ActNo) (wgm : MaskNo)
  /-- WRP_ASSIST_OFF: WRP 2 commands assist off on every head (R213). -/
  | wrpAssistOff (n : ActNo)
  /-- TLN_WINDOW: TLN 1 arms the timeline compare at the last granted window's start plus TOFS (R118). `tofs` is TOFS. -/
  | tlnWindow (n : ActNo) (tofs : Int)
  /-- TLN_WEDGE: TLN 2 arms the compare at a wedge and offset (R118). `sa` is the work register that holds the wedge. -/
  | tlnWedge (n : ActNo) (sa : WorkReg) (tofs : Int)
  /-- TLN_NOW: TLN 3 arms the compare at the current timeline plus TOFS (R118). -/
  | tlnNow (n : ActNo) (tofs : Int)
  /-- TLN_DISARM: TLN 4 disarms the timeline compare (R118). -/
  | tlnDisarm (n : ActNo)
  /-- ALU_ADD: ALU 1 adds two work registers (R118). -/
  | aluAdd (n : ActNo) (sa : WorkReg) (sb : WorkReg) (dst : WorkReg)
  /-- ALU_SUB: ALU 2 subtracts two work registers (R118). -/
  | aluSub (n : ActNo) (sa : WorkReg) (sb : WorkReg) (dst : WorkReg)
  /-- ALU_AND: ALU 3 ands two work registers (R118). -/
  | aluAnd (n : ActNo) (sa : WorkReg) (sb : WorkReg) (dst : WorkReg)
  /-- ALU_OR: ALU 4 ors two work registers (R118). -/
  | aluOr (n : ActNo) (sa : WorkReg) (sb : WorkReg) (dst : WorkReg)
  /-- ALU_XOR: ALU 5 xors two work registers (R118). -/
  | aluXor (n : ActNo) (sa : WorkReg) (sb : WorkReg) (dst : WorkReg)
  /-- ALU_SHIFT_LEFT: ALU 6 shifts a register left (R118). -/
  | aluShiftLeft (n : ActNo) (sa : WorkReg) (sb : WorkReg) (dst : WorkReg)
  /-- ALU_SHIFT_RIGHT: ALU 7 shifts a register right (R118). -/
  | aluShiftRight (n : ActNo) (sa : WorkReg) (sb : WorkReg) (dst : WorkReg)
  /-- ALU_IMMEDIATE: ALU 8 loads a zero-extended immediate (R118). -/
  | aluImmediate (n : ActNo) (dst : WorkReg) (imm : Word)
  /-- ALU_ADD_IMMEDIATE: ALU 9 adds a sign-extended immediate (R118). -/
  | aluAddImmediate (n : ActNo) (sa : WorkReg) (dst : WorkReg) (imm : Word)
  /-- ALU_TASK_FIELD: ALU 10 extracts a field of a task word (R118). -/
  | aluTaskField (n : ActNo) (dst : WorkReg) (imm : Word)
  /-- ALU_NEXT_EXTENSION: ALU 11 loads the next extension word (R118). -/
  | aluNextExtension (n : ActNo) (dst : WorkReg)
  /-- ALU_POSITION_VALUE: ALU 12 loads a position-unit value (R118). -/
  | aluPositionValue (n : ActNo) (dst : WorkReg) (imm : Word)
  /-- ALU_COMPARE: ALU 13 sets flags from A minus B (R118). -/
  | aluCompare (n : ActNo) (sa : WorkReg) (sb : WorkReg)
  /-- ALU_COMPARE_IMMEDIATE: ALU 14 sets flags from A minus an immediate (R118). -/
  | aluCompareImmediate (n : ActNo) (sa : WorkReg) (imm : Word)
  /-- CNT_LOAD_IMMEDIATE: CNT 1 loads a loop counter from an immediate (R118). -/
  | cntLoadImmediate (n : ActNo) (sel : LoopReg) (imm : Word)
  /-- CNT_DECREMENT: CNT 2 decrements a loop counter, stopping at 0 (R118). -/
  | cntDecrement (n : ActNo) (sel : LoopReg)
  /-- CNT_LOAD_REGISTER: CNT 3 loads a loop counter from a work register (R118). -/
  | cntLoadRegister (n : ActNo) (sel : LoopReg) (sa : WorkReg)
  /-- SETCODE: STA 1 sets the task's code when none is locked (R111). -/
  | setCode (n : ActNo) (code : Byte)
  /-- SET_REASON: STA 2 sets REASON when no code is locked (R118). -/
  | setReason (n : ActNo) (reason : Byte)
  /-- CALL: A call pushes the return address and jumps, faulting STACK_OVER when full (R119). -/
  | call (n : ActNo) (addr : MicroAddr)
  /-- RETURN: A return pops the next address, faulting STACK_UNDER when empty and clearing FAULT_ACTIVE when it pops a request
  entry (R119). -/
  | ret (n : ActNo)
  /-- WINDOW_OPENING: At a granted window's opening the staleness, inhibit and arming tests decide whether the window proceeds
  (R106). -/
  | windowOpening (n : ActNo)
  /-- WINDOW_END: The window closes and the group 2 outcome bits are set (R107). -/
  | windowEnd (n : ActNo)
  /-- SERVO_WINDOW_START: At each servo window the gate unit changes the code to SERVO and drives SWS (R137). -/
  | servoWindowStart (n : ActNo) (w : WedgeNo)
  /-- SERVO_WINDOW_END: Before the window ends the gate unit returns to the last set phase, with training on WRITE entry (R137).
  -/
  | servoWindowEnd (n : ActNo)
  /-- TURNAROUND_END: A turnaround gap ends and a GATE operation held during it takes effect (R136). -/
  | turnaroundEnd (n : ActNo)
  /-- WRITE_GATE_RISE: A head's write gate rises at its frame start adjusted by WLAT when every condition holds (R109). -/
  | writeGateRise (n : ActNo) (h : HeadNo)
  /-- WRITE_GATE_FALL: A head's write gate falls by itself at the end of its frame's postamble (R109). -/
  | writeGateFall (n : ActNo) (h : HeadNo)
  /-- SIDE_FRAME_SEND: Every 32 groups a CODES, MOD or HOLD side frame is sent on a lane (R144). -/
  | sideFrameSend (n : ActNo) (h : HeadNo)
  /-- WRITE_INHIBIT_DROP: A newly set inhibit bit drops that head's write gate within 2.4 ns, abandoning the row (R27). -/
  | writeInhibitDrop (n : ActNo) (h : HeadNo)
  /-- UNDERRUN: The serialiser reaches user data not present and drops the head's gate with cause UNDERRUN (R208). -/
  | underrun (n : ActNo) (h : HeadNo)
  /-- HSI_PCMD_WRITE: A write of HSI_PCMD requests a preamp register transaction, or sets OVERRUN while busy (R157). -/
  | hsiPcmdWrite (c : CoreNo) (n : ActNo) (v : Word)
  /-- PREAMP_TRANSACTION_START: Once the phase is IDLE with no gap, EN is 1 and it fits before the next servo window, the
  transaction starts (R157). -/
  | preampTransactionStart (n : ActNo)
  /-- PREAMP_TRANSACTION_END: A preamp transaction ends with its ACK and RESULT recorded in HSI_PSTAT (R155). `ack`, `rdata` and
  `chk` are the response bits the preamp sent. -/
  | preampTransactionEnd (n : ActNo) (ack : Byte) (rdata : HalfBits) (chk : Byte)
  /-- TELEMETRY_FRAME_RECEIVE: A telemetry frame is received, checked, held or discarded, and a new fault reported (R152). `c0`
  to `c4` are the frame's characters, `cut` a framing error or a frame cut short. -/
  | telemetryFrameReceive (n : ActNo) (h : HeadNo) (c0 : Byte) (c1 : Byte) (c2 : Byte) (c3 : Byte) (c4 : Byte) (cut : Bool)
  /-- MON_MISSING: MON_MISS servo windows without a good monitor frame drop the head's gate and hold a fault (R224). -/
  | monMissing (n : ActNo) (h : HeadNo)
  /-- FAULT_N_LOW: FAULT_N seen low from the end of a gap posts the PREAMP request and sets HSI_FLT.PIN (R159). -/
  | faultNLow (n : ActNo)
  /-- ASAFE_LOW: ASAFE seen low in WRITE without the controller pulling it posts the PREAMP request (R147). -/
  | asafeLow (n : ActNo)
  /-- WRP_MOD_WRITE: A write of WRP_MODh sets the MOD frame from the next span, or is refused for the family (R217). -/
  | wrpModWrite (c : CoreNo) (n : ActNo) (h : HeadNo) (v : Word)
  /-- WRP_FAMILY_WRITE: A write of WRP_CFG.FAMILY takes effect only with an empty store and idle Track Sequencer (R218). `v` is
  the word written to WRP_CFG. -/
  | wrpFamilyWrite (c : CoreNo) (n : ActNo) (v : Word)
  /-- READ_GATE_RISE: A read gate rises RG_LEAD bits before the armed frame and acquisition begins (R173). -/
  | readGateRise (n : ActNo) (h : HeadNo)
  /-- READ_GATE_FALL: A head's read gate falls after the frame's postamble, ending capture, or cutting framing to CUT if this
  comes before the decision (R180). `taps` are the equaliser taps that adaptation reached: reader, tap, value. -/
  | readGateFall (n : ActNo) (h : HeadNo) (taps : Taps)
  /-- ACQUISITION_END: After ACQ_LEN bits the loops switch to tracking gains and decision-directed phase detection (R173).
  `codes` are the gain codes the loops reached. -/
  | acquisitionEnd (n : ActNo) (h : HeadNo) (codes : Nats)
  /-- TA_ASSERT: An input's asperity detector asserts after MIN clocks above THR and erasure marking begins (R170). `i` is the
  input. -/
  | taAssert (n : ActNo) (i : InputNo)
  /-- TA_RELEASE: An asperity releases after 16 clocks at or below THR and its effects end 16 clocks later (R171). `start` and
  `len` are the codeword bits its effects have erased. -/
  | taRelease (n : ActNo) (i : InputNo) (start : Nat) (len : Nat)
  /-- TA_HOLD_LIMIT: An asperity longer than HOLD_MAX marks the input erased for the rest of the sector and sets TA_LONG (R171).
  -/
  | taHoldLimit (n : ActNo) (i : InputNo)
  /-- FRAMING_DECISION: After the SM2 window the head frames the sector from the SM1 and SM2 searches and reports the code
  (R178). `ds1` and `ds2` are the distances found at the positions of the SM1 and SM2 windows. -/
  | framingDecision (n : ActNo) (h : HeadNo) (ds1 : Nats) (ds2 : Nats)
  /-- RFE_SPARE_WRITE: A write of RFE_SPAREn switches an input to a spare slice or is refused as a conflict (R168). -/
  | rfeSpareWrite (c : CoreNo) (n : ActNo) (k : PairNo) (v : Word)
  /-- SPARE_SETTLE_END: 256 clocks after a spare switch the input's erased span ends (R169). -/
  | spareSettleEnd (n : ActNo)
  /-- AMPLITUDE_DROP: A mean amplitude below the drop level for MIN bits begins an erasure pointer (R189). -/
  | amplitudeDrop (n : ActNo) (h : HeadNo) (start : Nat) (len : Nat)
  /-- DECODE_END: A decode converges or runs out of global iterations and its sector result is set (R191). `hard` and `parity`
  are the hard decisions, `giter` the global iterations, `nflip` the decisions changed, `slip` the bit slip. -/
  | decodeEnd (n : ActNo) (h : HeadNo) (hard : Bytes) (parity : Nat) (giter : Nat) (nflip : Nat) (slip : Int)
  /-- DET_SPARE_WRITE: A write of DET_SPARE switches a head to engine 8, finalising its unfinished sectors (R204). -/
  | detSpareWrite (c : CoreNo) (n : ActNo) (v : Word)
  /-- ADC_TRIM_STEP: Every 1,024 clocks an ADC trim's APPLIED moves one code toward TARGET (R439). -/
  | adcTrimStep (n : ActNo) (i : SliceNo)
  /-- SERVO_FIELD_DEMOD: A head's servo field is demodulated into a found or missing position record sent to the Armature
  (R233). `wid` is the wedge number read, `diff` and `place` the SAM's differing cells and place, `gray` the track's Gray code,
  the rest the burst times. -/
  | servoFieldDemod (n : ActNo) (h : HeadNo) (wid : Nat) (diff : Nat) (place : Int) (gray : Nat) (ta1 : Int) (tb1 : Int) (ta2 : Int) (tb2 : Int)
  /-- FF_RECORD_QUEUE: During each data span the Track Sequencer queues the next wedge's feed-forward record (R238). -/
  | ffRecordQueue (n : ActNo)
  /-- WEDGE_EVALUATION: At each wedge reference the Armature takes records, runs the inner loop and forms the inhibit vector and
  status (R235). `period` is the wedge's period in SRV clocks. -/
  | wedgeEvaluation (n : ActNo) (w : WedgeNo) (period : Nat)
  /-- SHOCK_HOLD_END: The shock hold ends after HOLD further wedges (R253). -/
  | shockHoldEnd (n : ActNo)
  /-- SAT_TIMEOUT: A saturation count exceeding its limit raises SAT_TIMEOUT, dropping every write gate (R252). -/
  | satTimeout (n : ActNo)
  /-- HEAD_LOST: A head missing HEAD_MAX successive wedges in FOLLOW is lost and its effective state faulted (R254). -/
  | headLost (n : ActNo) (h : HeadNo)
  /-- SERVO_LOST: No active field found for ALL_MAX wedges puts the Armature in LOST and faults the actuator (R254). -/
  | servoLost (n : ActNo)
  /-- LOAD_ACQUIRED: An active head's field found in 8 successive wedges moves LOAD to SETTLE (R243). -/
  | loadAcquired (n : ActNo)
  /-- LOAD_TIMEOUT: LOAD lasting TMO wedges moves the Armature to LOST (R243). -/
  | loadTimeout (n : ActNo)
  /-- SETTLE_COMPLETE: SETTLE_N successive on-track wedges move SETTLE to FOLLOW (R243). -/
  | settleComplete (n : ActNo)
  /-- ARM_CMD_OFF: CMD OFF puts the Armature in OFF from the next wedge (R244). -/
  | armCmdOff (c : CoreNo) (n : ActNo)
  /-- ARM_CMD_LOAD: CMD LOAD starts head loading from OFF, LOST or RETRACT (R244). -/
  | armCmdLoad (c : CoreNo) (n : ActNo)
  /-- ARM_CMD_RETRACT: CMD RETRACT puts the Armature in RETRACT (R244). -/
  | armCmdRetract (c : CoreNo) (n : ActNo)
  /-- ARM_CMD_DIRECT: CMD DIRECT enters DIRECT from OFF in a non-service state or is refused (R244). -/
  | armCmdDirect (c : CoreNo) (n : ActNo)
  /-- SDL_FRAME_SEND: The Servo Drive Link frame of a wedge, or of the timer, is sent to the power driver (R236). `late`: the
  last frame was still being sent when this one fell due. -/
  | sdlFrameSend (n : ActNo) (late : Bool)
  /-- SDL_STATUS_RECEIVE: The driver's status word is received, kept or discarded as bad (R257). -/
  | sdlStatusReceive (n : ActNo) (w : Word)
  /-- SPL_FRAME_SEND: A Spindle Link frame is sent, with DEMAND from the speed loop in RUN (R260). `per` is the measured wedge
  period in 1/16 SRV clocks. -/
  | splFrameSend (per : Nat)
  /-- SPL_STATUS_RECEIVE: The spindle driver's status word is received and SPEED updated (R260). -/
  | splStatusReceive (w : Word)
  /-- SPL_MODE_WRITE: A write of SPL_CTRL.MODE changes the spindle mode and clears the integrator (R260). `v` is the word
  written to SPL_CTRL. -/
  | splModeWrite (c : CoreNo) (v : Word)
  /-- TIMELINE_LOCK: The actuator's channel-bit timeline gains or loses lock to the wedge rate, which switches SDL framing
  between each Tc and the timer (R259). -/
  | timelineLock (n : ActNo) (locked : Bool)
  /-- BUFFER_REQUEST: A request to the Buffer DRAM range is checked for retirement and served by the stage cache or DRAM (R336).
  A read of `n` bytes at usable address `a`, or with `data` a write of it; `chk` is what the array's code finds at a hit,
  `flips` the errors DRAM has taken (word, both bits). -/
  | bufferRequest (r : Machine.Requester) (a : Nat) (n : Nat) (data : Option Bytes) (chk : Machine.ArrayCheck) (flips : Flips)
  /-- WRITE_BACK_ISSUE: The buffer controller accepts a queued write-back and the victim copy becomes clean (R343). -/
  | writeBackIssue
  /-- WRITE_BACK_COMPLETE: DRAM acknowledges a write-back and its entry is freed (R343). -/
  | writeBackComplete
  /-- ST_RERUN: BUF_CTRL.ST_RERUN runs the checker self-test again or is refused (R329). -/
  | stRerun (c : CoreNo)
  /-- CHECKER_SELFTEST_END: The checker self-test ends, setting or not setting WC_FAIL and PC_FAIL (R329). -/
  | checkerSelftestEnd (wcFail : Bool) (pcFail : Bool)
  /-- BUF_INIT: BUF_CTRL.INIT starts training the buffer devices or is refused (R329). -/
  | bufInit (c : CoreNo)
  /-- TRAINING_END: Training ends with TRAINED or TRAIN_FAIL (R318). `size` and `ranks` are what the devices fitted report. -/
  | trainingEnd (size : Nat) (ranks : Nat) (converged : Bool)
  /-- BUF_ZERO: BUF_CTRL.ZERO starts the fill of every frame or is refused (R329). -/
  | bufZero (c : CoreNo)
  /-- FILL_END: The fill ends, setting FILLED and opening the buffer (R329). -/
  | fillEnd
  /-- SCRUB_PAGE: Every INTERVAL the scrubber reads one page whole and writes back any correction (R331). -/
  | scrubPage (flips : Flips)
  /-- BUF_RET_WRITE: A write of BUF_RETn retires or unretires a page (R333). -/
  | bufRetWrite (c : CoreNo) (n : RetNo) (v : Word)
  /-- BUF_BANK_RET_WRITE: A write of BUF_BANK_RETr retires DRAM banks (R333). -/
  | bufBankRetWrite (c : CoreNo) (r : PairNo) (v : Word)
  /-- BUF_INJ_WRITE: A write of BUF_INJ arms corruption of the next DRAM write of the named word (R351). -/
  | bufInjWrite (c : CoreNo) (v : Word)
  /-- STC_ENABLE_WRITE: A write of STC_CTRL.EN enables the cache if INV_DONE holds, or disables it into bypass (R337). `v` is
  the word written to STC_CTRL. -/
  | stcEnableWrite (c : CoreNo) (v : Word)
  /-- CLEAN_ALL: STC_OP 1 writes back every dirty line (R340). -/
  | cleanAll (c : CoreNo)
  /-- INVALIDATE_ALL: STC_OP 2 invalidates every line while the cache is disabled (R340). -/
  | invalidateAll (c : CoreNo)
  /-- CLEAN_INV_ALL: STC_OP 3 writes back and invalidates every line (R340). -/
  | cleanInvAll (c : CoreNo)
  /-- CLEAN_RANGE: STC_OP 4 writes back the dirty lines of a range (R340). -/
  | cleanRange (c : CoreNo)
  /-- CLEAN_INV_RANGE: STC_OP 5 writes back and invalidates the lines of a range (R340). -/
  | cleanInvRange (c : CoreNo)
  /-- CLEAN_INV_WAY: STC_OP 6 writes back and invalidates one way of every set (R340). -/
  | cleanInvWay (c : CoreNo) (way : WayNo)
  /-- STC_OP_COMPLETE: A maintenance operation completes and OP_DONE sets (R341). -/
  | stcOpComplete
  /-- STC_FENCE_WRITE: A write of STC_FENCE fences ways, or is refused when it would fence all 16 (R346). -/
  | stcFenceWrite (c : CoreNo) (v : Word)
  /-- DRAM_TEMPERATURE_POLL: Every 32 ms the buffer controller polls the devices' mode-register temperature and derates the
  refresh interval (R319). `code` is the mode-register temperature reading. -/
  | dramTemperaturePoll (code : Byte)
  /-- PROGRAM: Keep PROGRAM programs a page from the page buffer in verified pulses (R357). -/
  | program (c : CoreNo)
  /-- ERASE: Keep ERASE writes an intent record, erases a sector in pulses and reprograms its info row (R358). -/
  | erase (c : CoreNo)
  /-- INFO: Keep INFO reads a sector's info row into KEEP_INFO (R359). -/
  | info (c : CoreNo)
  /-- REMAP: Keep REMAP copies a sector to the lowest unused spare and programs a remap entry (R360). -/
  | remap (c : CoreNo)
  /-- DEFINE_REGION: DEFINE_REGION sets or undefines a protection region (R367). -/
  | defineRegion (c : CoreNo) (region : RegionNo)
  /-- SET_PASSWORD: SET_PASSWORD sets or removes a region's password (R367). -/
  | setPassword (c : CoreNo) (region : RegionNo)
  /-- UNLOCK: UNLOCK sets a region's latch on a matching password or counts a failure (R367). -/
  | unlock (c : CoreNo) (region : RegionNo)
  /-- LOCK: LOCK clears a region's unlock latch (R367). -/
  | lock (c : CoreNo) (region : RegionNo)
  /-- KEEP_PULSE_END: A program or erase pulse and its verify end, deciding whether another pulse follows (R358). `b` is the
  bank, `stuck` the bits that have not changed yet. -/
  | keepPulseEnd (b : BankNo) (stuck : Bytes)
  /-- KEEP_COMMAND_END: A Keep command ends, writing RESULT and OP and setting DONE (R356). -/
  | keepCommandEnd (b : BankNo)
  /-- KEEP_WINDOW_READ: A read through the direct-read window returns data or a bus error while its bank is busy (R355). `o` is
  the Keep offset, `n` the bytes. -/
  | keepWindowRead (c : CoreNo) (o : Nat) (n : Nat)
  /-- STREAM_START: KEEP_STR_CTRL.START begins a continuous read or ends at once on bad parameters or a busy bank (R372). -/
  | streamStart (c : CoreNo)
  /-- STREAM_STOP: KEEP_STR_CTRL.STOP ends the stream after the line in progress (R372). `n` is what has been delivered when the
  line in progress ends. -/
  | streamStop (c : CoreNo) (n : Nat)
  /-- STREAM_END: A stream ends, with STREAM_DONE or STREAM_ERR (R372). -/
  | streamEnd
  /-- POWER_ON_RESET: First power or PWR_OK low asserts power-on reset (R470). -/
  | powerOnReset
  /-- PIN_RESET: SYS_RST_N low, or a WAKE report, asserts pin reset (R470). -/
  | pinReset
  /-- RESET_RELEASE: A chip reset is released and the Plinth switches on domains and starts core 0 (R474). `testMode` is
  TEST_MODE at the release. -/
  | resetRelease (testMode : Bool)
  /-- BOOT_ROM_START: The boot ROM waits for Keep READY, redoes a pending erase, selects and checks a slot and streams it
  (R381). -/
  | bootRomStart
  /-- BOOT_HANDOFF: The boot ROM arms the watchdog and jumps to the image entry (R381). -/
  | bootHandoff
  /-- RECOVERY_WRITE: Vendor 0xC8 copies bytes into control SRAM in recovery (R478). -/
  | recoveryWrite (off : Nat) (bs : Bytes)
  /-- RECOVERY_BOOT: Vendor 0xC9 checks an image in control SRAM and boots it (R478). -/
  | recoveryBoot
  /-- PWR_REQUEST_WRITE: A write of PWR_REQ sets the target domain set, refusing requests that break prerequisites (R404). `hi`:
  PWR_REQ_HI. -/
  | pwrRequestWrite (c : CoreNo) (hi : Bool) (v : Word)
  /-- DOMAIN_SWITCH_ON: The Plinth completes switching one domain on and releases its reset (R404). -/
  | domainSwitchOn (k : DomainNo)
  /-- DOMAIN_SWITCH_OFF: The Plinth completes switching one domain off after draining accesses (R404). -/
  | domainSwitchOff (k : DomainNo)
  /-- STANDBY_ENTER: PWR_STBY.ENTER switches off every domain except management and optionally thermal (R407). `thmOn` is THM_ON
  of the write. -/
  | standbyEnter (c : CoreNo) (thmOn : Bool)
  /-- PCL_REPORT_RECEIVE: A REPORT frame gives rail voltages and currents and STATUS (R403). `bs` are the frame's bytes,
  `framing` a framing error. -/
  | pclReportReceive (bs : Bytes) (framing : Bool)
  /-- PCL_STATUS_RECEIVE: A STATUS frame is applied within 2 µs: brown-out, PERST, WAKE and hold-up state (R510). -/
  | pclStatusReceive (bs : Bytes) (framing : Bool)
  /-- PCL_REPORT_TIMEOUT: No report for 1 ms sets PWR_STALE and clears PCL_UP, holding the last powers (R403). -/
  | pclReportTimeout
  /-- BROWNOUT_ASSERT: Brown-out asserts: fetch and dispatch hold and Keep commands end BROWNOUT (R361). -/
  | brownoutAssert
  /-- BROWNOUT_CLEAR: Brown-out clears with PWR_OK high and fetch and dispatch resume (R315). -/
  | brownoutClear
  /-- TRIP_FRAME_SEND: A TRIP frame is sent on PCL_TX every 1 ms after a thermal trip (R512). -/
  | tripFrameSend
  /-- SENSOR_SAMPLE: A sensor is sampled, its rate and demand computed and the throttle updated (R409). `raw` is the conversion
  in 0.25 °C, `fault` whether it reports a fault. -/
  | sensorSample (i : SensorNo) (raw : Int) (fault : Bool)
  /-- REF_TRIM_APPLY: A reference trim code is applied at the first clock with no read gate up and no SERVO phase (R417). -/
  | refTrimApply (n : ActNo)
  /-- MODEL_UPDATE: Every 100 µs the thermal model filters rail powers and updates node estimates (R411). -/
  | modelUpdate
  /-- THROTTLE_DWELL_STEP: After each DWELL the throttle level falls by one toward its demand (R413). -/
  | throttleDwellStep
  /-- THROTTLE_HOLD_END: The 1 s hold after the hottest sensor fails ends (R413). -/
  | throttleHoldEnd
  /-- POWER_CAP_TICK: At the end of each millisecond the power demand rises or falls against CAP (R414). -/
  | powerCapTick
  /-- THERMAL_TRIP: A node at or above LIMIT for COUNT samples trips the Plinth, switching off all but management and thermal
  (R416). -/
  | thermalTrip
  /-- CORE_START: A write of SYS_CORE_START starts core 1 to 3 or is refused (R382). `k` is CORE, `addr` the control-SRAM
  offset. -/
  | coreStart (c : CoreNo) (k : CoreNo) (addr : Nat)
  /-- HUB_CLAIM: A read of HUB_CLAIMc returns and places in service the best qualifying source (R384). Core `c` reads
  HUB_CLAIMk. -/
  | hubClaim (c : CoreNo) (k : CoreNo)
  /-- HUB_COMPLETE: A write of HUB_COMPLETEc ends a source's service (R384). Core `c` writes source `i` to HUB_COMPLETEk. -/
  | hubComplete (c : CoreNo) (k : CoreNo) (i : SourceNo)
  /-- HUB_SRC_WRITE: A write of HUB_SRCi changes a source's enable, priority and target (R385). -/
  | hubSrcWrite (c : CoreNo) (i : SourceNo) (v : Word)
  /-- SWI_SET: A write of HUB_SWI_SET sets software interrupt bits (R386). -/
  | swiSet (c : CoreNo) (v : Word)
  /-- SWI_CLEAR: A write of HUB_SWI_CLR clears software interrupt bits (R386). -/
  | swiClear (c : CoreNo) (v : Word)
  /-- MACHINE_TIMER: The time base reaches a core's compare value and its timer interrupt becomes pending (R387). -/
  | machineTimer (k : CoreNo)
  /-- ACCESS_TIMEOUT: An access not complete 16 µs after leaving the L2 bridge completes with a TIMEOUT bus error (R393). A
  store of `n` bytes of `v`, or a load, at system address `a`. -/
  | accessTimeout (c : CoreNo) (store : Bool) (a : Nat) (n : Nat) (v : Nat)
  /-- REGISTER_WRITE: A write to a register with no row of its own takes effect in its domain or completes with a bus error
  (R389). A store of `n` bytes of `v` at system address `a`. -/
  | registerWrite (c : CoreNo) (a : Nat) (n : Nat) (v : Nat)
  /-- COUNTER_SAT_CLEAR: A write of 1 to a counter's SAT clears SAT and the count (R394). `a` is the address of the counter's HI
  register. -/
  | counterSatClear (c : CoreNo) (a : Nat)
  /-- COUNTER_LO_READ: A read of a counter's _LO captures its high bits and SAT for the next _HI read (R395). -/
  | counterLoRead (c : CoreNo) (a : Nat)
  /-- SNAPSHOT_GO: A write of TRC_SNAP.GO fixes the snapshot instant S (R397). `hold` is HOLD of the write. -/
  | snapshotGo (c : CoreNo) (hold : Bool)
  /-- SNAPSHOT_CAPTURE: At instant S every powered domain copies its counters into holding registers and DONE sets (R397). -/
  | snapshotCapture
  /-- WATCHDOG_KICK: A write of SYS_WDT_KICK with the key restarts stage 1, otherwise sets BADKEY (R398). -/
  | watchdogKick (c : CoreNo) (key : HalfWord)
  /-- WDT_WARN: Stage 1 expires, setting WARN, posting a Frieze event and starting stage 2 (R398). -/
  | wdtWarn
  /-- WATCHDOG_RESET: Stage 2 expires and a watchdog reset occurs (R398). -/
  | watchdogReset
  /-- WDT_CTRL_WRITE: A write of SYS_WDT_CTRL enables, stops, reconfigures or locks the watchdog (R399). -/
  | wdtCtrlWrite (c : CoreNo) (v : Word)
  /-- CONSOLE_WRITE: A write of SYS_CON_TX queues a character or is dropped when full (R514). -/
  | consoleWrite (c : CoreNo) (ch : Byte)
  /-- CONSOLE_CHAR_SEND: The next queued console character is sent on CON_TX (R514). -/
  | consoleCharSend
  /-- KEY_LOAD: Key command LOAD loads a slot from the staging words (R426). -/
  | keyLoad (c : CoreNo) (k : SlotNo)
  /-- KEY_GEN: Key command GEN fills a slot from the random source (R426). -/
  | keyGen (c : CoreNo) (k : SlotNo)
  /-- KEY_WRAP: Key command WRAP wraps a slot's key under the device root key into staging (R426). -/
  | keyWrap (c : CoreNo) (k : SlotNo)
  /-- KEY_UNWRAP: Key command UNWRAP unwraps staging into a slot (R426). -/
  | keyUnwrap (c : CoreNo) (k : SlotNo)
  /-- KEY_ERASE: Key command ERASE zeroes a slot and makes it EMPTY (R426). -/
  | keyErase (c : CoreNo) (k : SlotNo)
  /-- KEY_COMMAND_RUN: A waiting key command runs once every transfer using its slot has ended (R427). -/
  | keyCommandRun
  /-- KAT_END: The known-answer tests at crypto switch-on end, setting READY or KAT_FAIL (R430). -/
  | katEnd (failed : Bool)
  /-- RNG_HEALTH_FAIL: A random-source health test fails and GEN is refused until power-cycle (R429). -/
  | rngHealthFail
  /-- RNG_READ: A read of SEC_RNG consumes 32 random bits (R429). -/
  | rngRead (c : CoreNo)
  /-- MEMORY_TEST_GO: BCL_MB_CTRL.GO starts a memory self-test or ends PRECOND (R431). -/
  | memoryTestGo (c : CoreNo)
  /-- MEMORY_TEST_END: A memory self-test ends after restore with PASS, FAIL or ABORTED (R433). `bad` are the byte offsets of
  the failing words in ascending order, `bit` the first failing bit. -/
  | memoryTestEnd (bad : Nats) (bit : Nat)
  /-- LOOPBACK_GO: BCL_LB_CTRL.GO starts a loop-back test or is refused (R435). `v` is the word written to BCL_LB_CTRL, GO 1. -/
  | loopbackGo (c : CoreNo) (v : Word)
  /-- LOOPBACK_END: The loop-back measurement ends with per-slice OFFSET, AMPL, ERR and LOCK (R436). `xs` is what the test
  measured, slice by slice. -/
  | loopbackEnd (xs : Slices)
  /-- REF_CHECK_GO: BCL_REF_CTRL.GO starts the bandgap and reference check (R437). `v` is the word written to BCL_REF_CTRL, GO
  1. -/
  | refCheckGo (c : CoreNo) (v : Word)
  /-- REF_CHECK_END: The reference check ends, setting failure flags if out of tolerance (R437). `diff` is BG_A − BG_B in 0.1
  mV, `dev` each group's deviation in 0.1%. -/
  | refCheckEnd (diff : Int) (dev : Ints)
  /-- FRIEZE_RECORD_WRITE: A queued event is written to the Frieze log in timestamp and source order (R26). -/
  | friezeRecordWrite
  /-- FRZ_POST: A write of FRZ_POST queues a firmware record or is refused (R446). `v` is the word written to FRZ_POST. -/
  | frzPost (c : CoreNo) (v : Word)
  /-- FRZ_CLEAR: FRZ_CTRL.CLEAR empties a frozen log or is refused (R450). -/
  | frzClear (c : CoreNo)
  /-- FRZ_FREEZE_FW: A write of FREEZE_FW stops or restarts recording (R450). -/
  | frzFreezeFw (c : CoreNo) (freeze : Bool)
  /-- TRACE_MESSAGE_SEND: A trace message is queued for the trace port or dropped when the FIFO is full (R455). `m` is the
  message. -/
  | traceMessageSend (m : TraceEvent)
  /-- TRACE_SYNC: Every SYNC µs a SYNC message is sent on the trace port (R455). -/
  | traceSync
  /-- TRC_FW_WRITE: A write of TRC_FW queues a FW trace message (R455). -/
  | trcFwWrite (c : CoreNo) (v : Word)
  /-- TRACE_MESSAGE_OUT: A message leaves the trace FIFO onto TRC_D, freeing space, so that a pending DROP message can be sent
  (R455). -/
  | traceMessageOut
  /-- MI_READ_DATA_STRUCTURE: Read NVMe-MI Data Structure is served by hardware from the mailbox copy (R456). -/
  | miReadDataStructure (off : Nat) (len : Nat)
  /-- MI_SUBSYSTEM_HEALTH_POLL: NVM Subsystem Health Status Poll is served by hardware (R456). -/
  | miSubsystemHealthPoll
  /-- MI_CONFIGURATION_GET: Configuration Get is served by hardware (R456). -/
  | miConfigurationGet
  /-- MI_CONFIGURATION_SET: Configuration Set is served by hardware (R456). `unit`: the MCTP transmission unit, otherwise the
  SMBus frequency. -/
  | miConfigurationSet (unit : Bool) (v : Nat)
  /-- MI_CONTROLLER_HEALTH_POLL: Controller Health Status Poll is passed to firmware through the mailbox (R457). `req` are the
  command's bytes. -/
  | miControllerHealthPoll (req : Bytes)
  /-- MI_VPD_READ: VPD Read is passed to firmware through the mailbox (R457). -/
  | miVpdRead (req : Bytes)
  /-- MI_VPD_WRITE: VPD Write is passed to firmware through the mailbox (R457). -/
  | miVpdWrite (req : Bytes)
  /-- MI_RESET: The MI Reset command is passed to firmware through the mailbox (R457). -/
  | miReset (req : Bytes)
  /-- MI_ADMIN_TUNNEL: Tunnelled Identify, Get Log Page or Get Features is passed to firmware through the mailbox (R457). -/
  | miAdminTunnel (req : Bytes)
  /-- UNIT_STATE_GET: Vendor 0xC0 returns every Unit State Register (R456). -/
  | unitStateGet
  /-- UNIT_STATE_SET: Vendor 0xC1 sets one unit's requested field or answers Invalid Parameter (R460). -/
  | unitStateSet (u : Nat) (code : Nat)
  /-- FRIEZE_READ: Vendor 0xC2 returns Frieze log bytes (R456). -/
  | friezeRead (off : Nat) (len : Nat)
  /-- FRIEZE_FREEZE: Vendor 0xC3 sets or clears FREEZE_MI (R450). -/
  | friezeFreeze (freeze : Bool)
  /-- FLEET_BUDGET: Vendor 0xC4 writes MGT_BUDGET and sets BUDGET (R467). -/
  | fleetBudget (assist : Byte) (seek : SeekNo)
  /-- FLEET_IDENTITY_SET: Vendor 0xC5 writes the Fleet Node ID (R463). -/
  | fleetIdentitySet (id : NodeNo)
  /-- MI_UNSUPPORTED_COMMAND: An out-of-band management command not in Table FRZ-5 receives Invalid Command Opcode (R456). -/
  | miUnsupportedCommand
  /-- MAILBOX_DONE: Firmware's write of MGT_MBOX.DONE sends the response and releases the mailbox (R457). `len` is RSP_LEN. -/
  | mailboxDone (c : CoreNo) (len : RspLen)
  /-- MAILBOX_TIMEOUT: No DONE within TMO answers the held command with Internal Error (R457). -/
  | mailboxTimeout
  /-- UNIT_STATE_DISAGREE: Fields differing for LIMIT ms set DIS and post a disagreement record (R462). -/
  | unitStateDisagree (u : UnitNo)
  /-- FLEET_SYNC_MARK: A FLEET_SYNC pulse of valid width is a mark and the local time is captured (R464). `ns` is the pulse's
  width in nanoseconds. -/
  | fleetSyncMark (ns : Nat)
  /-- FLEET_SYNC_FRAME: A valid time frame gives W, and the offset is stepped or slewed (R465). `chars` are the frame's
  characters. -/
  | fleetSyncFrame (chars : Bytes)
  /-- TIME_SLEW_STEP: Every SLEW clocks the time base advances 41 or 39 ns while REM is non-zero (R465). -/
  | timeSlewStep
  /-- TIME_LOCK_LOSS: No valid frame or result for 2.5 s clears LOCKED and REM (R465). -/
  | timeLockLoss
  deriving DecidableEq, Repr

end Sys2Proof
end

