-- ==== Sys2Proof/Decode.lean ====
section
/-! DEFINITION. The command a word spells. The command table gives its rows no bits: a command is named with its operands, never
encoded, so no word spells one. -/

namespace Sys2Proof

/-- The command that `nbits` bits with value `w` spell by the command table: none, since no row of it has bits. -/
def decodeTableWord (_nbits _w : Nat) : Option Instr := none

end Sys2Proof
end

