-- ==== Sys2Proof/Config.lean ====
section
/-! DEFINITION. What the manual leaves open, as constants without a body: nothing can evaluate them or prove a value of them.
Each is applied to the counter `free` of State that the step reads and advances (log entry 4). -/

namespace Sys2Proof.Config

/-- Bits the manual does not determine: the words of the random source (R429), the contents of memory that a reset or a
switch-off leaves undefined (R434, R471), whether a write that times out has taken effect (R393), and the like. -/
opaque freeBits : Nat → Nat

/-- The device root key, 256 bits, unique to each part and set in fuses at manufacture (R426). -/
opaque deviceRootKey : Nat

end Sys2Proof.Config
end

