-- ==== Sys2Proof/Machine/Regs.lean ====
section
/-! DEFINITION. The register map: the address of every register of the manual (Tables ARC-9 and ARC-10 and each register's
heading) and the place of every field in it (each register's field map). A register is named as the manual names it; an index
of the manual (head, counter, slot ...) is an argument. -/

namespace Sys2Proof.Machine

/-! ## Windows (R30, Tables ARC-9 and ARC-10) -/

/-- Base of block register window `i` of Table ARC-9 (SYS 0, HIF 1, CMD 2, BUF 3, STC 4, SEC 5, KEEP 6, THM 7, FRZ 8, MGT 9,
BCL 10, TRC 11). -/
def Win.block (i : Nat) : Nat := 0x40000000 + 0x100000 * i

/-- Base of actuator window `n` (Table ARC-10). -/
def Win.act (n : Nat) : Nat := 0x41000000 + 0x400000 * n

/-- Base of the TSQ registers of Track Sequencer `t`: 0 to 3 in the actuator windows, 4 in the spare window (Table ARC-10). -/
def Win.tsq (t : Nat) : Nat := 0x41000000 + 0x400000 * t + 0x10000

/-- Base of the control store of Track Sequencer `t`. -/
def Win.cs (t : Nat) : Nat := 0x41000000 + 0x400000 * t + 0x20000

/-- Base of the LNK registers of actuator `n`. -/
def Win.lnk (n : Nat) : Nat := 0x41000000 + 0x400000 * n

/-- Base of the CHN window of head index `h` of actuator `n`; head index 8 holds the spare engines. -/
def Win.chn (n h : Nat) : Nat := 0x41000000 + 0x400000 * n + 0x80000 + 0x1000 * h

/-- Base of the WRP registers of actuator `n`. -/
def Win.wrp (n : Nat) : Nat := 0x41000000 + 0x400000 * n + 0x100000

/-- Base of the ARM registers of actuator `n`. -/
def Win.arm (n : Nat) : Nat := 0x41000000 + 0x400000 * n + 0x180000

/-! ## Register addresses -/

/-- TSQ_ENV: 03_maquettes.md, R90, heading "TSQ_ENV". -/
def Reg.TSQ_ENV (a : Nat) : Nat := 0x41010200 + 0x400000 * a
/-- TSQ_ENV_AGE: 03_maquettes.md, R90, heading "TSQ_ENV_AGE". -/
def Reg.TSQ_ENV_AGE (a : Nat) : Nat := 0x41010204 + 0x400000 * a
/-- TSQ_CAL_EPOCH: 03_maquettes.md, R90, heading "TSQ_CAL_EPOCH". -/
def Reg.TSQ_CAL_EPOCH (a : Nat) : Nat := 0x41010208 + 0x400000 * a
/-- TSQ_MQ_LAST: 03_maquettes.md, R90, heading "TSQ_MQ_LAST". -/
def Reg.TSQ_MQ_LAST (a : Nat) : Nat := 0x4101020c + 0x400000 * a
/-- TSQ_MQ_ID: 03_maquettes.md, R90, heading "TSQ_MQ_IDn, n = 0 to 7". -/
def Reg.TSQ_MQ_ID (a n : Nat) : Nat := 0x41010220 + 0x400000 * a + 8 * n
/-- TSQ_MQ_ST: 03_maquettes.md, R90, heading "TSQ_MQ_STn, n = 0 to 7". -/
def Reg.TSQ_MQ_ST (a n : Nat) : Nat := 0x41010224 + 0x400000 * a + 8 * n
/-- TSQ_TASK_LO: 04_track_sequencer.md, R131, heading "TSQ_TASKn_LO, TSQ_TASKn_HI, n = 0 to 7; TSQ_EXTm_LO, TSQ_EXTm_HI, m = 0 to 23". -/
def Reg.TSQ_TASK_LO (a n : Nat) : Nat := 0x41010000 + 0x400000 * a + 8 * n
/-- TSQ_TASK_HI: 04_track_sequencer.md, R131, heading "TSQ_TASKn_LO, TSQ_TASKn_HI, n = 0 to 7; TSQ_EXTm_LO, TSQ_EXTm_HI, m = 0 to 23". -/
def Reg.TSQ_TASK_HI (a n : Nat) : Nat := 0x41010004 + 0x400000 * a + 8 * n
/-- TSQ_EXT_LO: 04_track_sequencer.md, R131, heading "TSQ_TASKn_LO, TSQ_TASKn_HI, n = 0 to 7; TSQ_EXTm_LO, TSQ_EXTm_HI, m = 0 to 23". -/
def Reg.TSQ_EXT_LO (a m : Nat) : Nat := 0x41010040 + 0x400000 * a + 8 * m
/-- TSQ_EXT_HI: 04_track_sequencer.md, R131, heading "TSQ_TASKn_LO, TSQ_TASKn_HI, n = 0 to 7; TSQ_EXTm_LO, TSQ_EXTm_HI, m = 0 to 23". -/
def Reg.TSQ_EXT_HI (a m : Nat) : Nat := 0x41010044 + 0x400000 * a + 8 * m
/-- TSQ_CTRL: 04_track_sequencer.md, R131, heading "TSQ_CTRL". -/
def Reg.TSQ_CTRL (a : Nat) : Nat := 0x41010100 + 0x400000 * a
/-- TSQ_STATUS: 04_track_sequencer.md, R131, heading "TSQ_STATUS". -/
def Reg.TSQ_STATUS (a : Nat) : Nat := 0x41010104 + 0x400000 * a
/-- TSQ_FAULT: 04_track_sequencer.md, R131, heading "TSQ_FAULT". -/
def Reg.TSQ_FAULT (a : Nat) : Nat := 0x41010108 + 0x400000 * a
/-- TSQ_PC: 04_track_sequencer.md, R131, heading "TSQ_PC". -/
def Reg.TSQ_PC (a : Nat) : Nat := 0x4101010c + 0x400000 * a
/-- TSQ_ENTRY: 04_track_sequencer.md, R131, heading "TSQ_ENTRYk, k = 0 to 7". -/
def Reg.TSQ_ENTRY (a k : Nat) : Nat := 0x41010110 + 0x400000 * a + 4 * k
/-- TSQ_VEC: 04_track_sequencer.md, R131, heading "TSQ_VECn, n = 0 to 3". -/
def Reg.TSQ_VEC (a n : Nat) : Nat := 0x41010130 + 0x400000 * a + 4 * n
/-- TSQ_END_LIMIT: 04_track_sequencer.md, R131, heading "TSQ_END_LIMIT". -/
def Reg.TSQ_END_LIMIT (a : Nat) : Nat := 0x41010140 + 0x400000 * a
/-- TSQ_WAIT_LIMIT: 04_track_sequencer.md, R131, heading "TSQ_WAIT_LIMIT". -/
def Reg.TSQ_WAIT_LIMIT (a : Nat) : Nat := 0x41010144 + 0x400000 * a
/-- TSQ_CS_CRC: 04_track_sequencer.md, R131, heading "TSQ_CS_CRC". -/
def Reg.TSQ_CS_CRC (a : Nat) : Nat := 0x41010148 + 0x400000 * a
/-- TSQ_TNUM: 04_track_sequencer.md, R131, heading "TSQ_TNUM". -/
def Reg.TSQ_TNUM (a : Nat) : Nat := 0x4101014c + 0x400000 * a
/-- LNK_CTRL: 04_track_sequencer.md, R131, heading "LNK_CTRL". -/
def Reg.LNK_CTRL (a : Nat) : Nat := 0x41000000 + 0x400000 * a
/-- LNK_STATUS: 04_track_sequencer.md, R131, heading "LNK_STATUS". -/
def Reg.LNK_STATUS (a : Nat) : Nat := 0x41000004 + 0x400000 * a
/-- LNK_ERR: 04_track_sequencer.md, R131, heading "LNK_ERR". -/
def Reg.LNK_ERR (a : Nat) : Nat := 0x41000008 + 0x400000 * a
/-- LNK_CORR_LO: 04_track_sequencer.md, R131, heading "LNK_CORR_LO, LNK_CORR_HI". -/
def Reg.LNK_CORR_LO (a : Nat) : Nat := 0x41000010 + 0x400000 * a
/-- LNK_CORR_HI: 04_track_sequencer.md, R131, heading "LNK_CORR_LO, LNK_CORR_HI". -/
def Reg.LNK_CORR_HI (a : Nat) : Nat := 0x41000014 + 0x400000 * a
/-- HSI_PCFG: 05_head_stack_interface.md, R161, heading "HSI_PCFG". -/
def Reg.HSI_PCFG (a : Nat) : Nat := 0x41100800 + 0x400000 * a
/-- HSI_PCMD: 05_head_stack_interface.md, R161, heading "HSI_PCMD". -/
def Reg.HSI_PCMD (a : Nat) : Nat := 0x41100804 + 0x400000 * a
/-- HSI_PSTAT: 05_head_stack_interface.md, R161, heading "HSI_PSTAT". -/
def Reg.HSI_PSTAT (a : Nat) : Nat := 0x41100808 + 0x400000 * a
/-- HSI_TLM_A: 05_head_stack_interface.md, R161, heading "HSI_TLMh_A, HSI_TLMh_C, h = 0 to 7". -/
def Reg.HSI_TLM_A (a h : Nat) : Nat := 0x41100840 + 0x400000 * a + 8 * h
/-- HSI_TLM_C: 05_head_stack_interface.md, R161, heading "HSI_TLMh_A, HSI_TLMh_C, h = 0 to 7". -/
def Reg.HSI_TLM_C (a h : Nat) : Nat := 0x41100844 + 0x400000 * a + 8 * h
/-- HSI_FLT: 05_head_stack_interface.md, R161, heading "HSI_FLT". -/
def Reg.HSI_FLT (a : Nat) : Nat := 0x41100880 + 0x400000 * a
/-- HSI_TERR_LO: 05_head_stack_interface.md, R161, heading "HSI_TERR_LO, HSI_TERR_HI". -/
def Reg.HSI_TERR_LO (a : Nat) : Nat := 0x41100888 + 0x400000 * a
/-- HSI_TERR_HI: 05_head_stack_interface.md, R161, heading "HSI_TERR_LO, HSI_TERR_HI". -/
def Reg.HSI_TERR_HI (a : Nat) : Nat := 0x4110088c + 0x400000 * a
/-- HSI_BUS: 05_head_stack_interface.md, R161, heading "HSI_BUS". -/
def Reg.HSI_BUS (a : Nat) : Nat := 0x41100890 + 0x400000 * a
/-- RFE_RDR_CFG: 06_read_front_end.md, R182, heading "RFE_RDRk_CFG, k = 0 to 2". -/
def Reg.RFE_RDR_CFG (a hd k : Nat) : Nat := 0x41080000 + 0x400000 * a + 0x1000 * hd + 4 * k
/-- RFE_RDR_GAIN: 06_read_front_end.md, R182, heading "RFE_RDRk_GAIN, k = 0 to 2". -/
def Reg.RFE_RDR_GAIN (a hd k : Nat) : Nat := 0x41080010 + 0x400000 * a + 0x1000 * hd + 4 * k
/-- RFE_RDR_DLY: 06_read_front_end.md, R182, heading "RFE_RDRk_DLY, k = 0 to 2". -/
def Reg.RFE_RDR_DLY (a hd k : Nat) : Nat := 0x41080020 + 0x400000 * a + 0x1000 * hd + 4 * k
/-- RFE_TA_CFG: 06_read_front_end.md, R182, heading "RFE_TA_CFG". -/
def Reg.RFE_TA_CFG (a hd : Nat) : Nat := 0x41080030 + 0x400000 * a + 0x1000 * hd
/-- RFE_TR_CFG: 06_read_front_end.md, R182, heading "RFE_TR_CFG". -/
def Reg.RFE_TR_CFG (a hd : Nat) : Nat := 0x41080040 + 0x400000 * a + 0x1000 * hd
/-- RFE_AGC_CFG: 06_read_front_end.md, R182, heading "RFE_AGC_CFG". -/
def Reg.RFE_AGC_CFG (a hd : Nat) : Nat := 0x41080044 + 0x400000 * a + 0x1000 * hd
/-- RFE_SYNC_CFG: 06_read_front_end.md, R182, heading "RFE_SYNC_CFG". -/
def Reg.RFE_SYNC_CFG (a hd : Nat) : Nat := 0x41080100 + 0x400000 * a + 0x1000 * hd
/-- RFE_FRAME_LAST: 06_read_front_end.md, R182, heading "RFE_FRAME_LAST". -/
def Reg.RFE_FRAME_LAST (a hd : Nat) : Nat := 0x41080104 + 0x400000 * a + 0x1000 * hd
/-- RFE_CNT_LO: 06_read_front_end.md, R182, heading "RFE_CNTn_LO, RFE_CNTn_HI, n = 0 to 6". -/
def Reg.RFE_CNT_LO (a hd n : Nat) : Nat := 0x41080140 + 0x400000 * a + 0x1000 * hd + 8 * n
/-- RFE_CNT_HI: 06_read_front_end.md, R182, heading "RFE_CNTn_LO, RFE_CNTn_HI, n = 0 to 6". -/
def Reg.RFE_CNT_HI (a hd n : Nat) : Nat := 0x41080144 + 0x400000 * a + 0x1000 * hd + 8 * n
/-- RFE_EVT: 06_read_front_end.md, R182, heading "RFE_EVT". -/
def Reg.RFE_EVT (a hd : Nat) : Nat := 0x41080180 + 0x400000 * a + 0x1000 * hd
/-- RFE_SPARE: 06_read_front_end.md, R182, heading "RFE_SPAREn, n = 0, 1 (head index 8)". -/
def Reg.RFE_SPARE (a n : Nat) : Nat := 0x41088000 + 0x400000 * a + 4 * n
/-- RFE_SPARE_STAT: 06_read_front_end.md, R182, heading "RFE_SPARE_STAT (head index 8)". -/
def Reg.RFE_SPARE_STAT (a : Nat) : Nat := 0x41088008 + 0x400000 * a
/-- RFE_RATE: 06_read_front_end.md, R182, heading "RFE_RATE (head index 8)". -/
def Reg.RFE_RATE (a : Nat) : Nat := 0x41088010 + 0x400000 * a
/-- DET_CFG: 07_detection_recovery.md, R205, heading "DET_CFG". -/
def Reg.DET_CFG (a hd : Nat) : Nat := 0x41080108 + 0x400000 * a + 0x1000 * hd
/-- DET_EQ_CFG: 07_detection_recovery.md, R205, heading "DET_EQ_CFG". -/
def Reg.DET_EQ_CFG (a hd : Nat) : Nat := 0x4108010c + 0x400000 * a + 0x1000 * hd
/-- DET_TARGET: 07_detection_recovery.md, R205, heading "DET_TARGET". -/
def Reg.DET_TARGET (a hd : Nat) : Nat := 0x41080110 + 0x400000 * a + 0x1000 * hd
/-- DET_DROP: 07_detection_recovery.md, R205, heading "DET_DROP". -/
def Reg.DET_DROP (a hd : Nat) : Nat := 0x41080114 + 0x400000 * a + 0x1000 * hd
/-- DET_LAST_LO: 07_detection_recovery.md, R205, heading "DET_LAST_LO, DET_LAST_HI". -/
def Reg.DET_LAST_LO (a hd : Nat) : Nat := 0x41080118 + 0x400000 * a + 0x1000 * hd
/-- DET_LAST_HI: 07_detection_recovery.md, R205, heading "DET_LAST_LO, DET_LAST_HI". -/
def Reg.DET_LAST_HI (a hd : Nat) : Nat := 0x4108011c + 0x400000 * a + 0x1000 * hd
/-- DET_CNT_LO: 07_detection_recovery.md, R205, heading "DET_CNTn_LO, DET_CNTn_HI, n = 0 to 5". -/
def Reg.DET_CNT_LO (a hd n : Nat) : Nat := 0x41080188 + 0x400000 * a + 0x1000 * hd + 8 * n
/-- DET_CNT_HI: 07_detection_recovery.md, R205, heading "DET_CNTn_LO, DET_CNTn_HI, n = 0 to 5". -/
def Reg.DET_CNT_HI (a hd n : Nat) : Nat := 0x4108018c + 0x400000 * a + 0x1000 * hd + 8 * n
/-- DET_EVT: 07_detection_recovery.md, R205, heading "DET_EVT". -/
def Reg.DET_EVT (a hd : Nat) : Nat := 0x410801c0 + 0x400000 * a + 0x1000 * hd
/-- DET_NP: 07_detection_recovery.md, R205, heading "DET_NPs_c, s = 0, 1; c = 0 to 7". -/
def Reg.DET_NP (a hd s c : Nat) : Nat := 0x41080200 + 0x400000 * a + 0x1000 * hd + 32 * s + 4 * c
/-- DET_EQ: 07_detection_recovery.md, R205, heading "DET_EQk_t, k = 0 to 2; t = 0 to 31". -/
def Reg.DET_EQ (a hd k t : Nat) : Nat := 0x41080400 + 0x400000 * a + 0x1000 * hd + 128 * k + 4 * t
/-- DET_LADDER: 07_detection_recovery.md, R205, heading "DET_LADDERs, s = 1 to 31 (head index 8)". -/
def Reg.DET_LADDER (a s : Nat) : Nat := 0x41088600 + 0x400000 * a + 4 * s
/-- DET_SPARE: 07_detection_recovery.md, R205, heading "DET_SPARE (head index 8)". -/
def Reg.DET_SPARE (a : Nat) : Nat := 0x41088680 + 0x400000 * a
/-- DET_SPARE_STAT: 07_detection_recovery.md, R205, heading "DET_SPARE_STAT (head index 8)". -/
def Reg.DET_SPARE_STAT (a : Nat) : Nat := 0x41088684 + 0x400000 * a
/-- DET_ROWS: 07_detection_recovery.md, R205, heading "DET_ROWS (head index 8)". -/
def Reg.DET_ROWS (a : Nat) : Nat := 0x41088688 + 0x400000 * a
/-- WRP_CFG: 08_write_assist.md, R231, heading "WRP_CFG". -/
def Reg.WRP_CFG (a : Nat) : Nat := 0x41100000 + 0x400000 * a
/-- WRP_EVT: 08_write_assist.md, R231, heading "WRP_EVT". -/
def Reg.WRP_EVT (a : Nat) : Nat := 0x41100004 + 0x400000 * a
/-- WRP_DROP_LAST_LO: 08_write_assist.md, R231, heading "WRP_DROP_LAST_LO, WRP_DROP_LAST_HI". -/
def Reg.WRP_DROP_LAST_LO (a : Nat) : Nat := 0x41100008 + 0x400000 * a
/-- WRP_DROP_LAST_HI: 08_write_assist.md, R231, heading "WRP_DROP_LAST_LO, WRP_DROP_LAST_HI". -/
def Reg.WRP_DROP_LAST_HI (a : Nat) : Nat := 0x4110000c + 0x400000 * a
/-- WRP_MOD: 08_write_assist.md, R231, heading "WRP_MODh, h = 0 to 7". -/
def Reg.WRP_MOD (a h : Nat) : Nat := 0x41100040 + 0x400000 * a + 4 * h
/-- WRP_MON: 08_write_assist.md, R231, heading "WRP_MONh, h = 0 to 7". -/
def Reg.WRP_MON (a h : Nat) : Nat := 0x41100060 + 0x400000 * a + 4 * h
/-- WRP_CSTHR: 08_write_assist.md, R231, heading "WRP_CSTHRh, h = 0 to 7". -/
def Reg.WRP_CSTHR (a h : Nat) : Nat := 0x41100080 + 0x400000 * a + 4 * h
/-- WRP_SENT: 08_write_assist.md, R231, heading "WRP_SENTh, h = 0 to 7". -/
def Reg.WRP_SENT (a h : Nat) : Nat := 0x411000a0 + 0x400000 * a + 4 * h
/-- WRP_PRECOMP: 08_write_assist.md, R231, heading "WRP_PRECOMPh, h = 0 to 7". -/
def Reg.WRP_PRECOMP (a h : Nat) : Nat := 0x411000c0 + 0x400000 * a + 4 * h
/-- WRP_CNT_LO: 08_write_assist.md, R231, heading "WRP_CNTn_LO, WRP_CNTn_HI, n = 0 to 10". -/
def Reg.WRP_CNT_LO (a n : Nat) : Nat := 0x41100100 + 0x400000 * a + 8 * n
/-- WRP_CNT_HI: 08_write_assist.md, R231, heading "WRP_CNTn_LO, WRP_CNTn_HI, n = 0 to 10". -/
def Reg.WRP_CNT_HI (a n : Nat) : Nat := 0x41100104 + 0x400000 * a + 8 * n
/-- ARM_CTRL: 09_armature_servo.md, R263, heading "ARM_CTRL". -/
def Reg.ARM_CTRL (a : Nat) : Nat := 0x41180000 + 0x400000 * a
/-- ARM_STATUS: 09_armature_servo.md, R263, heading "ARM_STATUS". -/
def Reg.ARM_STATUS (a : Nat) : Nat := 0x41180004 + 0x400000 * a
/-- ARM_EVT: 09_armature_servo.md, R263, heading "ARM_EVT". -/
def Reg.ARM_EVT (a : Nat) : Nat := 0x41180008 + 0x400000 * a
/-- ARM_SAT_LIMIT: 09_armature_servo.md, R263, heading "ARM_SAT_LIMIT". -/
def Reg.ARM_SAT_LIMIT (a : Nat) : Nat := 0x4118000c + 0x400000 * a
/-- ARM_TRK: 09_armature_servo.md, R263, heading "ARM_TRK". -/
def Reg.ARM_TRK (a : Nat) : Nat := 0x41180010 + 0x400000 * a
/-- ARM_SETTLE: 09_armature_servo.md, R263, heading "ARM_SETTLE". -/
def Reg.ARM_SETTLE (a : Nat) : Nat := 0x41180014 + 0x400000 * a
/-- ARM_SEEK_MIN: 09_armature_servo.md, R263, heading "ARM_SEEK_MIN". -/
def Reg.ARM_SEEK_MIN (a : Nat) : Nat := 0x41180018 + 0x400000 * a
/-- ARM_SHOCK: 09_armature_servo.md, R263, heading "ARM_SHOCK". -/
def Reg.ARM_SHOCK (a : Nat) : Nat := 0x4118001c + 0x400000 * a
/-- ARM_LOSS: 09_armature_servo.md, R263, heading "ARM_LOSS". -/
def Reg.ARM_LOSS (a : Nat) : Nat := 0x41180020 + 0x400000 * a
/-- ARM_TBAND: 09_armature_servo.md, R263, heading "ARM_TBAND". -/
def Reg.ARM_TBAND (a : Nat) : Nat := 0x41180024 + 0x400000 * a
/-- ARM_BMAP: 09_armature_servo.md, R263, heading "ARM_BMAPi, i = 0 to 2". -/
def Reg.ARM_BMAP (a i : Nat) : Nat := 0x41180030 + 0x400000 * a + 4 * i
/-- ARM_SDL_CFG: 09_armature_servo.md, R263, heading "ARM_SDL_CFG". -/
def Reg.ARM_SDL_CFG (a : Nat) : Nat := 0x41180040 + 0x400000 * a
/-- ARM_SDL_STAT: 09_armature_servo.md, R263, heading "ARM_SDL_STAT". -/
def Reg.ARM_SDL_STAT (a : Nat) : Nat := 0x41180044 + 0x400000 * a
/-- ARM_LOAD: 09_armature_servo.md, R263, heading "ARM_LOAD". -/
def Reg.ARM_LOAD (a : Nat) : Nat := 0x41180048 + 0x400000 * a
/-- ARM_DIRECT: 09_armature_servo.md, R263, heading "ARM_DIRECTn, n = 0 to 8". -/
def Reg.ARM_DIRECT (a n : Nat) : Nat := 0x4118004c + 0x400000 * a + 4 * n
/-- ARM_HEAD: 09_armature_servo.md, R263, heading "ARM_HEADh, h = 0 to 7". -/
def Reg.ARM_HEAD (a h : Nat) : Nat := 0x41180080 + 0x400000 * a + 4 * h
/-- ARM_PES: 09_armature_servo.md, R263, heading "ARM_PESh, h = 0 to 7". -/
def Reg.ARM_PES (a h : Nat) : Nat := 0x411800a0 + 0x400000 * a + 4 * h
/-- ARM_WEDGE: 09_armature_servo.md, R263, heading "ARM_WEDGE". -/
def Reg.ARM_WEDGE (a : Nat) : Nat := 0x411800c0 + 0x400000 * a
/-- ARM_CNT_LO: 09_armature_servo.md, R263, heading "ARM_CNTn_LO, ARM_CNTn_HI, n = 0 to 4". -/
def Reg.ARM_CNT_LO (a n : Nat) : Nat := 0x41180100 + 0x400000 * a + 8 * n
/-- ARM_CNT_HI: 09_armature_servo.md, R263, heading "ARM_CNTn_LO, ARM_CNTn_HI, n = 0 to 4". -/
def Reg.ARM_CNT_HI (a n : Nat) : Nat := 0x41180104 + 0x400000 * a + 8 * n
/-- ARM_BANK: 09_armature_servo.md, R263, heading "ARM_BANKb_Wj, b = 0 to 15, j = 0 to 31". -/
def Reg.ARM_BANK (a b j : Nat) : Nat := 0x41180400 + 0x400000 * a + 128 * b + 4 * j
/-- SPL_CTRL: 09_armature_servo.md, R263, heading "SPL_CTRL (Armature 0 only)". -/
def Reg.SPL_CTRL : Nat := 0x41180c00
/-- SPL_CFG: 09_armature_servo.md, R263, heading "SPL_CFG (Armature 0 only)". -/
def Reg.SPL_CFG : Nat := 0x41180c04
/-- SPL_STAT: 09_armature_servo.md, R263, heading "SPL_STAT (Armature 0 only)". -/
def Reg.SPL_STAT : Nat := 0x41180c08
/-- SPL_SPEED: 09_armature_servo.md, R263, heading "SPL_SPEED (Armature 0 only)". -/
def Reg.SPL_SPEED : Nat := 0x41180c0c
/-- TSQ_SPF_CFG: 09_armature_servo.md, R263, heading "TSQ_SPF_CFG". -/
def Reg.TSQ_SPF_CFG (a : Nat) : Nat := 0x41010280 + 0x400000 * a
/-- TSQ_SPF_LAST: 09_armature_servo.md, R263, heading "TSQ_SPF_LAST". -/
def Reg.TSQ_SPF_LAST (a : Nat) : Nat := 0x41010284 + 0x400000 * a
/-- TSQ_RDOFS: 09_armature_servo.md, R263, heading "TSQ_RDOFSh, h = 0 to 7". -/
def Reg.TSQ_RDOFS (a h : Nat) : Nat := 0x410102a0 + 0x400000 * a + 4 * h
/-- SVD_CFG: 09_armature_servo.md, R263, heading "SVD_CFG (heads 0 to 7)". -/
def Reg.SVD_CFG (a hd : Nat) : Nat := 0x41080700 + 0x400000 * a + 0x1000 * hd
/-- SVD_CAL: 09_armature_servo.md, R263, heading "SVD_CAL (heads 0 to 7)". -/
def Reg.SVD_CAL (a hd : Nat) : Nat := 0x41080704 + 0x400000 * a + 0x1000 * hd
/-- SVD_RATE: 09_armature_servo.md, R263, heading "SVD_RATE (head index 8)". -/
def Reg.SVD_RATE (a : Nat) : Nat := 0x41088700 + 0x400000 * a
/-- HIF_CFG: 10_host_interface.md, R288, heading "HIF_CFG". -/
def Reg.HIF_CFG : Nat := 0x40100000
/-- HIF_LINK_CFG: 10_host_interface.md, R288, heading "HIF_LINK_CFG". -/
def Reg.HIF_LINK_CFG : Nat := 0x40100004
/-- HIF_LINK_STAT: 10_host_interface.md, R288, heading "HIF_LINK_STATp, p = 0 (port A), 1 (port B)". -/
def Reg.HIF_LINK_STAT (p : Nat) : Nat := 0x40100008 + 4 * p
/-- HIF_ID0: 10_host_interface.md, R288, heading "HIF_ID0, HIF_ID1, HIF_ID2". -/
def Reg.HIF_ID0 : Nat := 0x40100010
/-- HIF_ID1: 10_host_interface.md, R288, heading "HIF_ID0, HIF_ID1, HIF_ID2". -/
def Reg.HIF_ID1 : Nat := 0x40100014
/-- HIF_ID2: 10_host_interface.md, R288, heading "HIF_ID0, HIF_ID1, HIF_ID2". -/
def Reg.HIF_ID2 : Nat := 0x40100018
/-- HIF_SRIOV: 10_host_interface.md, R288, heading "HIF_SRIOV". -/
def Reg.HIF_SRIOV : Nat := 0x40100020
/-- HIF_POLL: 10_host_interface.md, R288, heading "HIF_POLL". -/
def Reg.HIF_POLL : Nat := 0x40100024
/-- HIF_EVT: 10_host_interface.md, R288, heading "HIF_EVT". -/
def Reg.HIF_EVT : Nat := 0x40100030
/-- HIF_FN_RES: 10_host_interface.md, R288, heading "HIF_FNn_RES, n = 0 to 63". -/
def Reg.HIF_FN_RES (n : Nat) : Nat := 0x40100100 + 8 * n
/-- HIF_FN_TAG: 10_host_interface.md, R288, heading "HIF_FNn_TAG, n = 0 to 63". -/
def Reg.HIF_FN_TAG (n : Nat) : Nat := 0x40100104 + 8 * n
/-- CMD_CTRL: 11_command_engine.md, R317, heading "CMD_CTRL". -/
def Reg.CMD_CTRL : Nat := 0x402f0000
/-- CMD_OP: 11_command_engine.md, R317, heading "CMD_OP". -/
def Reg.CMD_OP : Nat := 0x402f0004
/-- CMD_OP_RES: 11_command_engine.md, R317, heading "CMD_OP_RES". -/
def Reg.CMD_OP_RES : Nat := 0x402f0008
/-- CMD_EVQ: 11_command_engine.md, R317, heading "CMD_EVQ". -/
def Reg.CMD_EVQ : Nat := 0x402f000c
/-- CMD_SQE: 11_command_engine.md, R317, heading "CMD_SQE". -/
def Reg.CMD_SQE : Nat := 0x402f0010
/-- CMD_CNT: 11_command_engine.md, R317, heading "CMD_CNTi, i = 0 to 2". -/
def Reg.CMD_CNT (i : Nat) : Nat := 0x402f0014 + 4 * i
/-- CMD_EVT: 11_command_engine.md, R317, heading "CMD_EVT". -/
def Reg.CMD_EVT : Nat := 0x402f0020
/-- CMD_DQ_TAIL: 11_command_engine.md, R317, heading "CMD_DQn_TAIL, n = 0 to 3". -/
def Reg.CMD_DQ_TAIL (n : Nat) : Nat := 0x402f0040 + 8 * n
/-- CMD_DQ_PTR: 11_command_engine.md, R317, heading "CMD_DQn_PTR, n = 0 to 3". -/
def Reg.CMD_DQ_PTR (n : Nat) : Nat := 0x402f0044 + 8 * n
/-- BUF_CTRL: 12_buffer_cache.md, R351, heading "BUF_CTRL". -/
def Reg.BUF_CTRL : Nat := 0x40300000
/-- BUF_STATUS: 12_buffer_cache.md, R351, heading "BUF_STATUS". -/
def Reg.BUF_STATUS : Nat := 0x40300004
/-- BUF_DCFG: 12_buffer_cache.md, R351, heading "BUF_DCFG". -/
def Reg.BUF_DCFG : Nat := 0x40300008
/-- BUF_USABLE: 12_buffer_cache.md, R351, heading "BUF_USABLE". -/
def Reg.BUF_USABLE : Nat := 0x4030000c
/-- BUF_SCRUB: 12_buffer_cache.md, R351, heading "BUF_SCRUB". -/
def Reg.BUF_SCRUB : Nat := 0x40300010
/-- BUF_SCRUB_POS: 12_buffer_cache.md, R351, heading "BUF_SCRUB_POS". -/
def Reg.BUF_SCRUB_POS : Nat := 0x40300014
/-- BUF_EVT: 12_buffer_cache.md, R351, heading "BUF_EVT". -/
def Reg.BUF_EVT : Nat := 0x40300018
/-- BUF_ERR_ADDR_LO: 12_buffer_cache.md, R351, heading "BUF_ERR_ADDR_LO, BUF_ERR_ADDR_HI". -/
def Reg.BUF_ERR_ADDR_LO : Nat := 0x40300020
/-- BUF_ERR_ADDR_HI: 12_buffer_cache.md, R351, heading "BUF_ERR_ADDR_LO, BUF_ERR_ADDR_HI". -/
def Reg.BUF_ERR_ADDR_HI : Nat := 0x40300024
/-- BUF_BANK_RET: 12_buffer_cache.md, R351, heading "BUF_BANK_RETr, r = 0, 1". -/
def Reg.BUF_BANK_RET (r : Nat) : Nat := 0x40300030 + 4 * r
/-- BUF_INJ: 12_buffer_cache.md, R351, heading "BUF_INJ". -/
def Reg.BUF_INJ : Nat := 0x40300040
/-- BUF_INJ_ADDR: 12_buffer_cache.md, R351, heading "BUF_INJ_ADDR". -/
def Reg.BUF_INJ_ADDR : Nat := 0x40300044
/-- BUF_CNT_LO: 12_buffer_cache.md, R351, heading "BUF_CNTn_LO, BUF_CNTn_HI, n = 0 to 4". -/
def Reg.BUF_CNT_LO (n : Nat) : Nat := 0x40300080 + 8 * n
/-- BUF_CNT_HI: 12_buffer_cache.md, R351, heading "BUF_CNTn_LO, BUF_CNTn_HI, n = 0 to 4". -/
def Reg.BUF_CNT_HI (n : Nat) : Nat := 0x40300084 + 8 * n
/-- BUF_RET: 12_buffer_cache.md, R351, heading "BUF_RETn, n = 0 to 2,047". -/
def Reg.BUF_RET (n : Nat) : Nat := 0x40310000 + 4 * n
/-- STC_CTRL: 12_buffer_cache.md, R352, heading "STC_CTRL". -/
def Reg.STC_CTRL : Nat := 0x40400000
/-- STC_STATUS: 12_buffer_cache.md, R352, heading "STC_STATUS". -/
def Reg.STC_STATUS : Nat := 0x40400004
/-- STC_OP: 12_buffer_cache.md, R352, heading "STC_OP". -/
def Reg.STC_OP : Nat := 0x40400008
/-- STC_OP_BASE: 12_buffer_cache.md, R352, heading "STC_OP_BASE, STC_OP_LEN". -/
def Reg.STC_OP_BASE : Nat := 0x4040000c
/-- STC_OP_LEN: 12_buffer_cache.md, R352, heading "STC_OP_BASE, STC_OP_LEN". -/
def Reg.STC_OP_LEN : Nat := 0x40400010
/-- STC_FENCE: 12_buffer_cache.md, R352, heading "STC_FENCE". -/
def Reg.STC_FENCE : Nat := 0x40400014
/-- STC_VICTIM: 12_buffer_cache.md, R352, heading "STC_VICTIM". -/
def Reg.STC_VICTIM : Nat := 0x40400018
/-- STC_EVT: 12_buffer_cache.md, R352, heading "STC_EVT". -/
def Reg.STC_EVT : Nat := 0x4040001c
/-- STC_CNT_LO: 12_buffer_cache.md, R352, heading "STC_CNTn_LO, STC_CNTn_HI, n = 0 to 6". -/
def Reg.STC_CNT_LO (n : Nat) : Nat := 0x40400040 + 8 * n
/-- STC_CNT_HI: 12_buffer_cache.md, R352, heading "STC_CNTn_LO, STC_CNTn_HI, n = 0 to 6". -/
def Reg.STC_CNT_HI (n : Nat) : Nat := 0x40400044 + 8 * n
/-- KEEP_CMD: 13_keep_flash.md, R375, heading "KEEP_CMD". -/
def Reg.KEEP_CMD : Nat := 0x40600000
/-- KEEP_ADDR: 13_keep_flash.md, R375, heading "KEEP_ADDR". -/
def Reg.KEEP_ADDR : Nat := 0x40600004
/-- KEEP_ARG: 13_keep_flash.md, R375, heading "KEEP_ARG". -/
def Reg.KEEP_ARG : Nat := 0x40600008
/-- KEEP_STATUS: 13_keep_flash.md, R375, heading "KEEP_STATUS". -/
def Reg.KEEP_STATUS : Nat := 0x4060000c
/-- KEEP_EVT: 13_keep_flash.md, R375, heading "KEEP_EVT". -/
def Reg.KEEP_EVT : Nat := 0x40600010
/-- KEEP_WEAR_CFG: 13_keep_flash.md, R375, heading "KEEP_WEAR_CFG". -/
def Reg.KEEP_WEAR_CFG : Nat := 0x40600014
/-- KEEP_INFO_LO: 13_keep_flash.md, R375, heading "KEEP_INFO_LO, KEEP_INFO_HI". -/
def Reg.KEEP_INFO_LO : Nat := 0x40600018
/-- KEEP_INFO_HI: 13_keep_flash.md, R375, heading "KEEP_INFO_LO, KEEP_INFO_HI". -/
def Reg.KEEP_INFO_HI : Nat := 0x4060001c
/-- KEEP_PW_LO: 13_keep_flash.md, R375, heading "KEEP_PW_LO, KEEP_PW_HI". -/
def Reg.KEEP_PW_LO : Nat := 0x40600020
/-- KEEP_PW_HI: 13_keep_flash.md, R375, heading "KEEP_PW_LO, KEEP_PW_HI". -/
def Reg.KEEP_PW_HI : Nat := 0x40600024
/-- KEEP_STR_SRC: 13_keep_flash.md, R375, heading "KEEP_STR_SRC, KEEP_STR_DST_LO, KEEP_STR_DST_HI, KEEP_STR_LEN". -/
def Reg.KEEP_STR_SRC : Nat := 0x40600030
/-- KEEP_STR_DST_LO: 13_keep_flash.md, R375, heading "KEEP_STR_SRC, KEEP_STR_DST_LO, KEEP_STR_DST_HI, KEEP_STR_LEN". -/
def Reg.KEEP_STR_DST_LO : Nat := 0x40600034
/-- KEEP_STR_DST_HI: 13_keep_flash.md, R375, heading "KEEP_STR_SRC, KEEP_STR_DST_LO, KEEP_STR_DST_HI, KEEP_STR_LEN". -/
def Reg.KEEP_STR_DST_HI : Nat := 0x40600038
/-- KEEP_STR_LEN: 13_keep_flash.md, R375, heading "KEEP_STR_SRC, KEEP_STR_DST_LO, KEEP_STR_DST_HI, KEEP_STR_LEN". -/
def Reg.KEEP_STR_LEN : Nat := 0x4060003c
/-- KEEP_STR_CTRL: 13_keep_flash.md, R375, heading "KEEP_STR_CTRL". -/
def Reg.KEEP_STR_CTRL : Nat := 0x40600040
/-- KEEP_STR_STAT: 13_keep_flash.md, R375, heading "KEEP_STR_STAT". -/
def Reg.KEEP_STR_STAT : Nat := 0x40600044
/-- KEEP_INTENT: 13_keep_flash.md, R375, heading "KEEP_INTENTb, b = 0, 1". -/
def Reg.KEEP_INTENT (b : Nat) : Nat := 0x40600050 + 4 * b
/-- KEEP_REGION_LO: 13_keep_flash.md, R375, heading "KEEP_REGIONn_LO, KEEP_REGIONn_HI, n = 0 to 15". -/
def Reg.KEEP_REGION_LO (n : Nat) : Nat := 0x40600080 + 8 * n
/-- KEEP_REGION_HI: 13_keep_flash.md, R375, heading "KEEP_REGIONn_LO, KEEP_REGIONn_HI, n = 0 to 15". -/
def Reg.KEEP_REGION_HI (n : Nat) : Nat := 0x40600084 + 8 * n
/-- KEEP_SPARE: 13_keep_flash.md, R375, heading "KEEP_SPARE". -/
def Reg.KEEP_SPARE : Nat := 0x40600100
/-- KEEP_PW_FAIL: 13_keep_flash.md, R375, heading "KEEP_PW_FAIL". -/
def Reg.KEEP_PW_FAIL : Nat := 0x40600104
/-- KEEP_CNT_LO: 13_keep_flash.md, R375, heading "KEEP_CNTn_LO, KEEP_CNTn_HI, n = 0 to 2". -/
def Reg.KEEP_CNT_LO (n : Nat) : Nat := 0x40600180 + 8 * n
/-- KEEP_CNT_HI: 13_keep_flash.md, R375, heading "KEEP_CNTn_LO, KEEP_CNTn_HI, n = 0 to 2". -/
def Reg.KEEP_CNT_HI (n : Nat) : Nat := 0x40600184 + 8 * n
/-- KEEP_PAGEBUF: 13_keep_flash.md, R375, heading "KEEP_PAGEBUFw, w = 0 to 63". -/
def Reg.KEEP_PAGEBUF (w : Nat) : Nat := 0x40600200 + 4 * w
/-- SYS_ID: 14_cores_registers.md, R401, heading "SYS_ID". -/
def Reg.SYS_ID : Nat := 0x40000000
/-- SYS_RST_CAUSE: 14_cores_registers.md, R401, heading "SYS_RST_CAUSE". -/
def Reg.SYS_RST_CAUSE : Nat := 0x40000004
/-- SYS_CORE_CFG: 14_cores_registers.md, R401, heading "SYS_CORE_CFG". -/
def Reg.SYS_CORE_CFG : Nat := 0x40000008
/-- SYS_CORE_STAT: 14_cores_registers.md, R401, heading "SYS_CORE_STAT". -/
def Reg.SYS_CORE_STAT : Nat := 0x4000000c
/-- SYS_CORE_START: 14_cores_registers.md, R401, heading "SYS_CORE_START". -/
def Reg.SYS_CORE_START : Nat := 0x40000010
/-- SYS_BERR_LO: 14_cores_registers.md, R401, heading "SYS_BERR_LO, SYS_BERR_HI". -/
def Reg.SYS_BERR_LO : Nat := 0x40000020
/-- SYS_BERR_HI: 14_cores_registers.md, R401, heading "SYS_BERR_LO, SYS_BERR_HI". -/
def Reg.SYS_BERR_HI : Nat := 0x40000024
/-- SYS_EVT: 14_cores_registers.md, R401, heading "SYS_EVT". -/
def Reg.SYS_EVT : Nat := 0x40000028
/-- SYS_TIME_LO: 14_cores_registers.md, R401, heading "SYS_TIME_LO, SYS_TIME_HI". -/
def Reg.SYS_TIME_LO : Nat := 0x40000030
/-- SYS_TIME_HI: 14_cores_registers.md, R401, heading "SYS_TIME_LO, SYS_TIME_HI". -/
def Reg.SYS_TIME_HI : Nat := 0x40000034
/-- SYS_MTIMECMP_LO: 14_cores_registers.md, R401, heading "SYS_MTIMECMPc_LO, SYS_MTIMECMPc_HI, c = 0 to 3". -/
def Reg.SYS_MTIMECMP_LO (c : Nat) : Nat := 0x40000040 + 8 * c
/-- SYS_MTIMECMP_HI: 14_cores_registers.md, R401, heading "SYS_MTIMECMPc_LO, SYS_MTIMECMPc_HI, c = 0 to 3". -/
def Reg.SYS_MTIMECMP_HI (c : Nat) : Nat := 0x40000044 + 8 * c
/-- SYS_CNT_LO: 14_cores_registers.md, R401, heading "SYS_CNTn_LO, SYS_CNTn_HI, n = 0, 1". -/
def Reg.SYS_CNT_LO (n : Nat) : Nat := 0x40000080 + 8 * n
/-- SYS_CNT_HI: 14_cores_registers.md, R401, heading "SYS_CNTn_LO, SYS_CNTn_HI, n = 0, 1". -/
def Reg.SYS_CNT_HI (n : Nat) : Nat := 0x40000084 + 8 * n
/-- SYS_WDT_CTRL: 14_cores_registers.md, R401, heading "SYS_WDT_CTRL". -/
def Reg.SYS_WDT_CTRL : Nat := 0x40000100
/-- SYS_WDT_KICK: 14_cores_registers.md, R401, heading "SYS_WDT_KICK". -/
def Reg.SYS_WDT_KICK : Nat := 0x40000104
/-- SYS_WDT_STAT: 14_cores_registers.md, R401, heading "SYS_WDT_STAT". -/
def Reg.SYS_WDT_STAT : Nat := 0x40000108
/-- HUB_SRC: 14_cores_registers.md, R401, heading "HUB_SRCi, i = 0 to 255". -/
def Reg.HUB_SRC (i : Nat) : Nat := 0x40001000 + 4 * i
/-- HUB_PEND: 14_cores_registers.md, R401, heading "HUB_PENDj, j = 0 to 7". -/
def Reg.HUB_PEND (j : Nat) : Nat := 0x40001400 + 4 * j
/-- HUB_THR: 14_cores_registers.md, R401, heading "HUB_THRc, c = 0 to 3". -/
def Reg.HUB_THR (c : Nat) : Nat := 0x40001480 + 16 * c
/-- HUB_CLAIM: 14_cores_registers.md, R401, heading "HUB_CLAIMc, c = 0 to 3". -/
def Reg.HUB_CLAIM (c : Nat) : Nat := 0x40001484 + 16 * c
/-- HUB_COMPLETE: 14_cores_registers.md, R401, heading "HUB_COMPLETEc, c = 0 to 3". -/
def Reg.HUB_COMPLETE (c : Nat) : Nat := 0x40001488 + 16 * c
/-- HUB_SWI: 14_cores_registers.md, R401, heading "HUB_SWI, HUB_SWI_SET, HUB_SWI_CLR". -/
def Reg.HUB_SWI : Nat := 0x400014c0
/-- HUB_SWI_SET: 14_cores_registers.md, R401, heading "HUB_SWI, HUB_SWI_SET, HUB_SWI_CLR". -/
def Reg.HUB_SWI_SET : Nat := 0x400014c4
/-- HUB_SWI_CLR: 14_cores_registers.md, R401, heading "HUB_SWI, HUB_SWI_SET, HUB_SWI_CLR". -/
def Reg.HUB_SWI_CLR : Nat := 0x400014c8
/-- TRC_SNAP: 14_cores_registers.md, R401, heading "TRC_SNAP". -/
def Reg.TRC_SNAP : Nat := 0x40b00000
/-- TRC_SNAP_STAT: 14_cores_registers.md, R401, heading "TRC_SNAP_STAT". -/
def Reg.TRC_SNAP_STAT : Nat := 0x40b00004
/-- TRC_SNAP_TIME_LO: 14_cores_registers.md, R401, heading "TRC_SNAP_TIME_LO, TRC_SNAP_TIME_HI". -/
def Reg.TRC_SNAP_TIME_LO : Nat := 0x40b00008
/-- TRC_SNAP_TIME_HI: 14_cores_registers.md, R401, heading "TRC_SNAP_TIME_LO, TRC_SNAP_TIME_HI". -/
def Reg.TRC_SNAP_TIME_HI : Nat := 0x40b0000c
/-- PWR_REQ_LO: 15_power_thermal.md, R419, heading "PWR_REQ_LO, PWR_REQ_HI". -/
def Reg.PWR_REQ_LO : Nat := 0x40000200
/-- PWR_REQ_HI: 15_power_thermal.md, R419, heading "PWR_REQ_LO, PWR_REQ_HI". -/
def Reg.PWR_REQ_HI : Nat := 0x40000204
/-- PWR_STAT_LO: 15_power_thermal.md, R419, heading "PWR_STAT_LO, PWR_STAT_HI". -/
def Reg.PWR_STAT_LO : Nat := 0x40000208
/-- PWR_STAT_HI: 15_power_thermal.md, R419, heading "PWR_STAT_LO, PWR_STAT_HI". -/
def Reg.PWR_STAT_HI : Nat := 0x4000020c
/-- PWR_EVT: 15_power_thermal.md, R419, heading "PWR_EVT". -/
def Reg.PWR_EVT : Nat := 0x40000210
/-- PWR_STBY: 15_power_thermal.md, R419, heading "PWR_STBY". -/
def Reg.PWR_STBY : Nat := 0x40000214
/-- THM_CTRL: 15_power_thermal.md, R419, heading "THM_CTRL". -/
def Reg.THM_CTRL : Nat := 0x40700000
/-- THM_STATUS: 15_power_thermal.md, R419, heading "THM_STATUS". -/
def Reg.THM_STATUS : Nat := 0x40700004
/-- THM_EVT: 15_power_thermal.md, R419, heading "THM_EVT". -/
def Reg.THM_EVT : Nat := 0x40700008
/-- THM_TCFG: 15_power_thermal.md, R419, heading "THM_TCFG". -/
def Reg.THM_TCFG : Nat := 0x4070000c
/-- THM_TRIP: 15_power_thermal.md, R419, heading "THM_TRIP". -/
def Reg.THM_TRIP : Nat := 0x40700010
/-- THM_PCAP: 15_power_thermal.md, R419, heading "THM_PCAP". -/
def Reg.THM_PCAP : Nat := 0x40700014
/-- THM_COMP_CFG: 15_power_thermal.md, R419, heading "THM_COMP_CFG". -/
def Reg.THM_COMP_CFG : Nat := 0x40700018
/-- THM_LIM: 15_power_thermal.md, R419, heading "THM_LIMi, i = 0 to 31". -/
def Reg.THM_LIM (i : Nat) : Nat := 0x40700100 + 4 * i
/-- THM_TEMP: 15_power_thermal.md, R419, heading "THM_TEMPi, i = 0 to 31". -/
def Reg.THM_TEMP (i : Nat) : Nat := 0x40700180 + 4 * i
/-- THM_RAIL: 15_power_thermal.md, R419, heading "THM_RAILj, j = 0 to 7". -/
def Reg.THM_RAIL (j : Nat) : Nat := 0x40700200 + 4 * j
/-- THM_K_LO: 15_power_thermal.md, R419, heading "THM_Ki_LO, THM_Ki_HI, i = 0 to 31". -/
def Reg.THM_K_LO (i : Nat) : Nat := 0x40700240 + 8 * i
/-- THM_K_HI: 15_power_thermal.md, R419, heading "THM_Ki_LO, THM_Ki_HI, i = 0 to 31". -/
def Reg.THM_K_HI (i : Nat) : Nat := 0x40700244 + 8 * i
/-- THM_COMP: 15_power_thermal.md, R419, heading "THM_COMPb, b = 0 to 15". -/
def Reg.THM_COMP (b : Nat) : Nat := 0x40700340 + 4 * b
/-- THM_CNT_LO: 15_power_thermal.md, R419, heading "THM_CNTn_LO, THM_CNTn_HI, n = 0 to 2". -/
def Reg.THM_CNT_LO (n : Nat) : Nat := 0x407003c0 + 8 * n
/-- THM_CNT_HI: 15_power_thermal.md, R419, heading "THM_CNTn_LO, THM_CNTn_HI, n = 0 to 2". -/
def Reg.THM_CNT_HI (n : Nat) : Nat := 0x407003c4 + 8 * n
/-- SEC_STATUS: 16_security_test_calibration.md, R443, heading "SEC_STATUS". -/
def Reg.SEC_STATUS : Nat := 0x40500000
/-- SEC_EVT: 16_security_test_calibration.md, R443, heading "SEC_EVT". -/
def Reg.SEC_EVT : Nat := 0x40500004
/-- SEC_REFUSE_LAST: 16_security_test_calibration.md, R443, heading "SEC_REFUSE_LAST". -/
def Reg.SEC_REFUSE_LAST : Nat := 0x40500008
/-- SEC_GLOBAL: 16_security_test_calibration.md, R443, heading "SEC_GLOBAL". -/
def Reg.SEC_GLOBAL : Nat := 0x4050000c
/-- SEC_KEY_CMD: 16_security_test_calibration.md, R443, heading "SEC_KEY_CMD". -/
def Reg.SEC_KEY_CMD : Nat := 0x40500010
/-- SEC_KEY_STAT: 16_security_test_calibration.md, R443, heading "SEC_KEY_STAT". -/
def Reg.SEC_KEY_STAT : Nat := 0x40500014
/-- SEC_RNG: 16_security_test_calibration.md, R443, heading "SEC_RNG". -/
def Reg.SEC_RNG : Nat := 0x40500018
/-- SEC_RNG_STAT: 16_security_test_calibration.md, R443, heading "SEC_RNG_STAT". -/
def Reg.SEC_RNG_STAT : Nat := 0x4050001c
/-- SEC_SLOTST: 16_security_test_calibration.md, R443, heading "SEC_SLOTSTj, j = 0 to 3". -/
def Reg.SEC_SLOTST (j : Nat) : Nat := 0x40500020 + 4 * j
/-- SEC_KEYSTG: 16_security_test_calibration.md, R443, heading "SEC_KEYSTGw, w = 0 to 17". -/
def Reg.SEC_KEYSTG (w : Nat) : Nat := 0x40500040 + 4 * w
/-- SEC_RANGE_CFG: 16_security_test_calibration.md, R443, heading "SEC_RANGEr_CFG, _START, _LEN, _HI, r = 0 to 63". -/
def Reg.SEC_RANGE_CFG (r : Nat) : Nat := 0x40501000 + 16 * r
/-- SEC_RANGE_START: 16_security_test_calibration.md, R443, heading "SEC_RANGEr_CFG, _START, _LEN, _HI, r = 0 to 63". -/
def Reg.SEC_RANGE_START (r : Nat) : Nat := 0x40501004 + 16 * r
/-- SEC_RANGE_LEN: 16_security_test_calibration.md, R443, heading "SEC_RANGEr_CFG, _START, _LEN, _HI, r = 0 to 63". -/
def Reg.SEC_RANGE_LEN (r : Nat) : Nat := 0x40501008 + 16 * r
/-- SEC_RANGE_HI: 16_security_test_calibration.md, R443, heading "SEC_RANGEr_CFG, _START, _LEN, _HI, r = 0 to 63". -/
def Reg.SEC_RANGE_HI (r : Nat) : Nat := 0x4050100c + 16 * r
/-- SEC_CNT_LO: 16_security_test_calibration.md, R443, heading "SEC_CNTn_LO, SEC_CNTn_HI, n = 0 to 2". -/
def Reg.SEC_CNT_LO (n : Nat) : Nat := 0x405000c0 + 8 * n
/-- SEC_CNT_HI: 16_security_test_calibration.md, R443, heading "SEC_CNTn_LO, SEC_CNTn_HI, n = 0 to 2". -/
def Reg.SEC_CNT_HI (n : Nat) : Nat := 0x405000c4 + 8 * n
/-- BCL_MB_CFG: 16_security_test_calibration.md, R443, heading "BCL_MB_CFG". -/
def Reg.BCL_MB_CFG : Nat := 0x40a00000
/-- BCL_MB_ADDR: 16_security_test_calibration.md, R443, heading "BCL_MB_ADDR, BCL_MB_LEN". -/
def Reg.BCL_MB_ADDR : Nat := 0x40a00004
/-- BCL_MB_LEN: 16_security_test_calibration.md, R443, heading "BCL_MB_ADDR, BCL_MB_LEN". -/
def Reg.BCL_MB_LEN : Nat := 0x40a00008
/-- BCL_MB_CTRL: 16_security_test_calibration.md, R443, heading "BCL_MB_CTRL". -/
def Reg.BCL_MB_CTRL : Nat := 0x40a0000c
/-- BCL_MB_STAT: 16_security_test_calibration.md, R443, heading "BCL_MB_STAT". -/
def Reg.BCL_MB_STAT : Nat := 0x40a00010
/-- BCL_MB_FAIL: 16_security_test_calibration.md, R443, heading "BCL_MB_FAIL". -/
def Reg.BCL_MB_FAIL : Nat := 0x40a00014
/-- BCL_LB_CFG: 16_security_test_calibration.md, R443, heading "BCL_LB_CFG". -/
def Reg.BCL_LB_CFG : Nat := 0x40a00020
/-- BCL_LB_CTRL: 16_security_test_calibration.md, R443, heading "BCL_LB_CTRL". -/
def Reg.BCL_LB_CTRL : Nat := 0x40a00024
/-- BCL_LB_RES_LO: 16_security_test_calibration.md, R443, heading "BCL_LB_RESi_LO, BCL_LB_RESi_HI, i = 0 to 25". -/
def Reg.BCL_LB_RES_LO (i : Nat) : Nat := 0x40a00100 + 8 * i
/-- BCL_LB_RES_HI: 16_security_test_calibration.md, R443, heading "BCL_LB_RESi_LO, BCL_LB_RESi_HI, i = 0 to 25". -/
def Reg.BCL_LB_RES_HI (i : Nat) : Nat := 0x40a00104 + 8 * i
/-- BCL_REF_CTRL: 16_security_test_calibration.md, R443, heading "BCL_REF_CTRL". -/
def Reg.BCL_REF_CTRL : Nat := 0x40a00030
/-- BCL_REF_STAT: 16_security_test_calibration.md, R443, heading "BCL_REF_STAT". -/
def Reg.BCL_REF_STAT : Nat := 0x40a00034
/-- BCL_EVT: 16_security_test_calibration.md, R443, heading "BCL_EVT". -/
def Reg.BCL_EVT : Nat := 0x40a00038
/-- RFE_ADCTRIM: 16_security_test_calibration.md, R443, heading "RFE_ADCTRIMi, i = 0 to 25 (head index 8)". -/
def Reg.RFE_ADCTRIM (a i : Nat) : Nat := 0x41088020 + 0x400000 * a + 4 * i
/-- THM_SNSTRIM: 16_security_test_calibration.md, R443, heading "THM_SNSTRIMi, i = 0 to 23". -/
def Reg.THM_SNSTRIM (i : Nat) : Nat := 0x40700400 + 4 * i
/-- FRZ_CTRL: 17_frieze_management.md, R469, heading "FRZ_CTRL". -/
def Reg.FRZ_CTRL : Nat := 0x40800000
/-- FRZ_STATUS: 17_frieze_management.md, R469, heading "FRZ_STATUS". -/
def Reg.FRZ_STATUS : Nat := 0x40800004
/-- FRZ_EVT: 17_frieze_management.md, R469, heading "FRZ_EVT". -/
def Reg.FRZ_EVT : Nat := 0x40800008
/-- FRZ_POST: 17_frieze_management.md, R469, heading "FRZ_POST". -/
def Reg.FRZ_POST : Nat := 0x4080000c
/-- FRZ_LOST_LO: 17_frieze_management.md, R469, heading "FRZ_LOST_LO, FRZ_LOST_HI". -/
def Reg.FRZ_LOST_LO : Nat := 0x40800010
/-- FRZ_LOST_HI: 17_frieze_management.md, R469, heading "FRZ_LOST_LO, FRZ_LOST_HI". -/
def Reg.FRZ_LOST_HI : Nat := 0x40800014
/-- FRZ_POSTDATA: 17_frieze_management.md, R469, heading "FRZ_POSTDATAw, w = 0 to 58". -/
def Reg.FRZ_POSTDATA (w : Nat) : Nat := 0x40800100 + 4 * w
/-- FRZ_SNAP: 17_frieze_management.md, R469, heading "FRZ_SNAPn, n = 0 to 31". -/
def Reg.FRZ_SNAP (n : Nat) : Nat := 0x40800200 + 4 * n
/-- MGT_NODE: 17_frieze_management.md, R469, heading "MGT_NODE". -/
def Reg.MGT_NODE : Nat := 0x40900000
/-- MGT_EVT: 17_frieze_management.md, R469, heading "MGT_EVT". -/
def Reg.MGT_EVT : Nat := 0x40900004
/-- MGT_US_CFG: 17_frieze_management.md, R469, heading "MGT_US_CFG". -/
def Reg.MGT_US_CFG : Nat := 0x40900008
/-- MGT_TIME_CFG: 17_frieze_management.md, R469, heading "MGT_TIME_CFG". -/
def Reg.MGT_TIME_CFG : Nat := 0x40900010
/-- MGT_TIME_STAT: 17_frieze_management.md, R469, heading "MGT_TIME_STAT". -/
def Reg.MGT_TIME_STAT : Nat := 0x40900014
/-- MGT_BUDGET: 17_frieze_management.md, R469, heading "MGT_BUDGET". -/
def Reg.MGT_BUDGET : Nat := 0x40900020
/-- MGT_HEALTH: 17_frieze_management.md, R469, heading "MGT_HEALTH". -/
def Reg.MGT_HEALTH : Nat := 0x40900030
/-- MGT_MI_CFG: 17_frieze_management.md, R469, heading "MGT_MI_CFG". -/
def Reg.MGT_MI_CFG : Nat := 0x40900040
/-- MGT_MBOX: 17_frieze_management.md, R469, heading "MGT_MBOX". -/
def Reg.MGT_MBOX : Nat := 0x40900044
/-- MGT_US: 17_frieze_management.md, R469, heading "MGT_USu, u = 0 to 35". -/
def Reg.MGT_US (u : Nat) : Nat := 0x40902000 + 8 * u
/-- TRC_CFG: 17_frieze_management.md, R469, heading "TRC_CFG". -/
def Reg.TRC_CFG : Nat := 0x40b00010
/-- TRC_FW: 17_frieze_management.md, R469, heading "TRC_FW". -/
def Reg.TRC_FW : Nat := 0x40b00014
/-- TRC_STAT: 17_frieze_management.md, R469, heading "TRC_STAT". -/
def Reg.TRC_STAT : Nat := 0x40b00018
/-- SYS_PL_EVT: 18_startup_wear.md, R491, heading "SYS_PL_EVT". -/
def Reg.SYS_PL_EVT : Nat := 0x40000220
/-- SYS_PL_STAT: 18_startup_wear.md, R491, heading "SYS_PL_STAT". -/
def Reg.SYS_PL_STAT : Nat := 0x40000224
/-- TSQ_SCAN: 18_startup_wear.md, R491, heading "TSQ_SCAN". -/
def Reg.TSQ_SCAN (a : Nat) : Nat := 0x410102c0 + 0x400000 * a
/-- SYS_PL_PCL: 19_package_electrical.md, R515, heading "SYS_PL_PCL". -/
def Reg.SYS_PL_PCL : Nat := 0x40000228
/-- SYS_CON_TX: 19_package_electrical.md, R515, heading "SYS_CON_TX". -/
def Reg.SYS_CON_TX : Nat := 0x40000300
/-- SYS_CON_STAT: 19_package_electrical.md, R515, heading "SYS_CON_STAT". -/
def Reg.SYS_CON_STAT : Nat := 0x40000304

/-! ## Fields: lowest bit and width -/

def Fld.TSQ_ENV_TEMP : Fld := ⟨0, 16⟩
def Fld.TSQ_ENV_AGE_AGE : Fld := ⟨0, 16⟩
def Fld.TSQ_CAL_EPOCH_EPOCH : Fld := ⟨0, 16⟩
def Fld.TSQ_MQ_LAST_REASON : Fld := ⟨8, 8⟩
def Fld.TSQ_MQ_LAST_SLOT : Fld := ⟨0, 3⟩
def Fld.TSQ_MQ_ID_MQ_ID : Fld := ⟨0, 32⟩
def Fld.TSQ_MQ_ST_VALID : Fld := ⟨31, 1⟩
def Fld.TSQ_MQ_ST_PAR_ERR : Fld := ⟨30, 1⟩
def Fld.TSQ_MQ_ST_LOADING : Fld := ⟨29, 1⟩
def Fld.TSQ_MQ_ST_LEN : Fld := ⟨0, 17⟩
def Fld.TSQ_TASK_LO_LO : Fld := ⟨0, 32⟩
def Fld.TSQ_TASK_HI_HI : Fld := ⟨0, 32⟩
def Fld.TSQ_EXT_LO_LO : Fld := ⟨0, 32⟩
def Fld.TSQ_EXT_HI_HI : Fld := ⟨0, 32⟩
def Fld.TSQ_CTRL_ATTACH : Fld := ⟨31, 1⟩
def Fld.TSQ_CTRL_HOST : Fld := ⟨29, 2⟩
def Fld.TSQ_CTRL_CS_CHECK : Fld := ⟨3, 1⟩
def Fld.TSQ_CTRL_RESUME : Fld := ⟨2, 1⟩
def Fld.TSQ_CTRL_RUN : Fld := ⟨0, 1⟩
def Fld.TSQ_STATUS_BUSY : Fld := ⟨31, 1⟩
def Fld.TSQ_STATUS_HALTED : Fld := ⟨30, 1⟩
def Fld.TSQ_STATUS_DETACHED : Fld := ⟨29, 1⟩
def Fld.TSQ_STATUS_ATTACH_REFUSED : Fld := ⟨28, 1⟩
def Fld.TSQ_STATUS_CS_BUSY : Fld := ⟨27, 1⟩
def Fld.TSQ_STATUS_CS_VALID : Fld := ⟨26, 1⟩
def Fld.TSQ_STATUS_LOCKED : Fld := ⟨25, 1⟩
def Fld.TSQ_STATUS_FAULT_ACTIVE : Fld := ⟨24, 1⟩
def Fld.TSQ_STATUS_PEND : Fld := ⟨20, 4⟩
def Fld.TSQ_STATUS_DEPTH : Fld := ⟨16, 4⟩
def Fld.TSQ_STATUS_CODE : Fld := ⟨8, 8⟩
def Fld.TSQ_STATUS_IRQ : Fld := ⟨2, 1⟩
def Fld.TSQ_STATUS_PHASE : Fld := ⟨0, 2⟩
def Fld.TSQ_FAULT_CAUSE : Fld := ⟨16, 8⟩
def Fld.TSQ_FAULT_ADDR : Fld := ⟨0, 13⟩
def Fld.TSQ_PC_GAP : Fld := ⟨16, 7⟩
def Fld.TSQ_PC_PC : Fld := ⟨0, 13⟩
def Fld.TSQ_ENTRY_ADDR : Fld := ⟨0, 13⟩
def Fld.TSQ_VEC_ADDR : Fld := ⟨0, 13⟩
def Fld.TSQ_END_LIMIT_LIMIT : Fld := ⟨0, 16⟩
def Fld.TSQ_WAIT_LIMIT_LIMIT : Fld := ⟨0, 24⟩
def Fld.TSQ_CS_CRC_CRC : Fld := ⟨0, 32⟩
def Fld.TSQ_TNUM_TAG : Fld := ⟨16, 13⟩
def Fld.TSQ_TNUM_TNUM : Fld := ⟨0, 16⟩
def Fld.LNK_CTRL_RESET : Fld := ⟨1, 1⟩
def Fld.LNK_CTRL_ENABLE : Fld := ⟨0, 1⟩
def Fld.LNK_STATUS_UP_CREDIT : Fld := ⟨16, 8⟩
def Fld.LNK_STATUS_DN_GRANT : Fld := ⟨8, 8⟩
def Fld.LNK_STATUS_TASKS : Fld := ⟨2, 2⟩
def Fld.LNK_STATUS_ABRTS : Fld := ⟨0, 2⟩
def Fld.LNK_ERR_DN_UNCORR : Fld := ⟨2, 1⟩
def Fld.LNK_ERR_DN_CORR : Fld := ⟨1, 1⟩
def Fld.LNK_ERR_PROTO : Fld := ⟨0, 1⟩
def Fld.HSI_PCFG_EN : Fld := ⟨31, 1⟩
def Fld.HSI_PCFG_DIV : Fld := ⟨0, 8⟩
def Fld.HSI_PCMD_OP : Fld := ⟨30, 2⟩
def Fld.HSI_PCMD_HEAD : Fld := ⟨26, 4⟩
def Fld.HSI_PCMD_ADDR : Fld := ⟨16, 10⟩
def Fld.HSI_PCMD_WDATA : Fld := ⟨0, 16⟩
def Fld.HSI_PSTAT_BUSY : Fld := ⟨31, 1⟩
def Fld.HSI_PSTAT_OVERRUN : Fld := ⟨30, 1⟩
def Fld.HSI_PSTAT_RESULT : Fld := ⟨24, 4⟩
def Fld.HSI_PSTAT_ACK : Fld := ⟨16, 8⟩
def Fld.HSI_PSTAT_RDATA : Fld := ⟨0, 16⟩
def Fld.HSI_TLM_A_TTYPE : Fld := ⟨28, 4⟩
def Fld.HSI_TLM_A_SEQ : Fld := ⟨24, 4⟩
def Fld.HSI_TLM_A_FAULT : Fld := ⟨16, 8⟩
def Fld.HSI_TLM_A_VALUE : Fld := ⟨0, 16⟩
def Fld.HSI_TLM_C_TTYPE : Fld := ⟨28, 4⟩
def Fld.HSI_TLM_C_SEQ : Fld := ⟨24, 4⟩
def Fld.HSI_TLM_C_FAULT : Fld := ⟨16, 8⟩
def Fld.HSI_TLM_C_VALUE : Fld := ⟨0, 16⟩
def Fld.HSI_FLT_ASAFE : Fld := ⟨9, 1⟩
def Fld.HSI_FLT_PIN : Fld := ⟨8, 1⟩
def Fld.HSI_FLT_HEAD : Fld := ⟨0, 8⟩
def Fld.HSI_BUS_GAP : Fld := ⟨7, 1⟩
def Fld.HSI_BUS_WQ_HELD : Fld := ⟨6, 1⟩
def Fld.HSI_BUS_PIN3 : Fld := ⟨3, 1⟩
def Fld.HSI_BUS_PIN2 : Fld := ⟨2, 1⟩
def Fld.HSI_BUS_PHASE : Fld := ⟨0, 2⟩
def Fld.RFE_RDR_CFG_ON : Fld := ⟨31, 1⟩
def Fld.RFE_RDR_CFG_AGC : Fld := ⟨30, 1⟩
def Fld.RFE_RDR_CFG_HPF_TA : Fld := ⟨16, 4⟩
def Fld.RFE_RDR_CFG_HPF : Fld := ⟨12, 4⟩
def Fld.RFE_RDR_CFG_CTLE_BOOST : Fld := ⟨8, 4⟩
def Fld.RFE_RDR_CFG_CTLE_POLE : Fld := ⟨0, 3⟩
def Fld.RFE_RDR_GAIN_INIT : Fld := ⟨8, 6⟩
def Fld.RFE_RDR_GAIN_CODE : Fld := ⟨0, 6⟩
def Fld.RFE_RDR_DLY_BITS : Fld := ⟨8, 4⟩
def Fld.RFE_RDR_DLY_PHASE : Fld := ⟨0, 6⟩
def Fld.RFE_TA_CFG_EN : Fld := ⟨31, 1⟩
def Fld.RFE_TA_CFG_THR : Fld := ⟨16, 9⟩
def Fld.RFE_TA_CFG_MIN : Fld := ⟨8, 8⟩
def Fld.RFE_TA_CFG_HOLD_MAX : Fld := ⟨0, 8⟩
def Fld.RFE_TR_CFG_ACQ_LEN : Fld := ⟨24, 8⟩
def Fld.RFE_TR_CFG_RESUME_ACQ : Fld := ⟨16, 8⟩
def Fld.RFE_TR_CFG_KP_ACQ : Fld := ⟨12, 4⟩
def Fld.RFE_TR_CFG_KI_ACQ : Fld := ⟨8, 4⟩
def Fld.RFE_TR_CFG_KP_TRK : Fld := ⟨4, 4⟩
def Fld.RFE_TR_CFG_KI_TRK : Fld := ⟨0, 4⟩
def Fld.RFE_AGC_CFG_REINIT : Fld := ⟨31, 1⟩
def Fld.RFE_AGC_CFG_HOLD_CW : Fld := ⟨30, 1⟩
def Fld.RFE_AGC_CFG_TARGET : Fld := ⟨16, 10⟩
def Fld.RFE_AGC_CFG_KG_ACQ : Fld := ⟨4, 4⟩
def Fld.RFE_AGC_CFG_KG_TRK : Fld := ⟨0, 4⟩
def Fld.RFE_SYNC_CFG_FRZ_MASK : Fld := ⟨24, 7⟩
def Fld.RFE_SYNC_CFG_SM2_THR : Fld := ⟨8, 3⟩
def Fld.RFE_SYNC_CFG_SM1_THR : Fld := ⟨0, 3⟩
def Fld.RFE_FRAME_LAST_CODE : Fld := ⟨16, 3⟩
def Fld.RFE_FRAME_LAST_D1 : Fld := ⟨8, 8⟩
def Fld.RFE_FRAME_LAST_D2 : Fld := ⟨0, 8⟩
def Fld.RFE_EVT_CNT_SAT : Fld := ⟨2, 1⟩
def Fld.RFE_EVT_TA_LONG : Fld := ⟨1, 1⟩
def Fld.RFE_EVT_NO_SYNC : Fld := ⟨0, 1⟩
def Fld.RFE_SPARE_EN : Fld := ⟨31, 1⟩
def Fld.RFE_SPARE_INPUT : Fld := ⟨0, 5⟩
def Fld.RFE_SPARE_STAT_CONFLICT : Fld := ⟨1, 1⟩
def Fld.RFE_SPARE_STAT_SETTLING : Fld := ⟨0, 1⟩
def Fld.RFE_RATE_KBPS : Fld := ⟨0, 23⟩
def Fld.DET_CFG_GLOBAL : Fld := ⟨24, 4⟩
def Fld.DET_CFG_LOCAL : Fld := ⟨20, 3⟩
def Fld.DET_CFG_ALPHA : Fld := ⟨16, 4⟩
def Fld.DET_CFG_SET : Fld := ⟨8, 1⟩
def Fld.DET_EQ_CFG_ADAPT : Fld := ⟨31, 1⟩
def Fld.DET_EQ_CFG_CURSOR : Fld := ⟨16, 5⟩
def Fld.DET_EQ_CFG_MU : Fld := ⟨0, 4⟩
def Fld.DET_TARGET_G2 : Fld := ⟨8, 8⟩
def Fld.DET_TARGET_G1 : Fld := ⟨0, 8⟩
def Fld.DET_DROP_EN : Fld := ⟨31, 1⟩
def Fld.DET_DROP_THR : Fld := ⟨24, 4⟩
def Fld.DET_DROP_THR_B : Fld := ⟨20, 4⟩
def Fld.DET_DROP_MAXERA : Fld := ⟨8, 12⟩
def Fld.DET_DROP_MIN : Fld := ⟨0, 8⟩
def Fld.DET_LAST_LO_WORD : Fld := ⟨0, 32⟩
def Fld.DET_LAST_HI_WORD : Fld := ⟨0, 32⟩
def Fld.DET_EVT_CNT_SAT : Fld := ⟨3, 1⟩
def Fld.DET_EVT_EQ_SAT : Fld := ⟨2, 1⟩
def Fld.DET_EVT_META : Fld := ⟨1, 1⟩
def Fld.DET_EVT_FAILED : Fld := ⟨0, 1⟩
def Fld.DET_NP_LOGVAR : Fld := ⟨16, 8⟩
def Fld.DET_NP_P2 : Fld := ⟨8, 8⟩
def Fld.DET_NP_P1 : Fld := ⟨0, 8⟩
def Fld.DET_EQ_TAP : Fld := ⟨0, 12⟩
def Fld.DET_LADDER_CLASS : Fld := ⟨28, 4⟩
def Fld.DET_LADDER_ITER : Fld := ⟨24, 4⟩
def Fld.DET_LADDER_LOCAL : Fld := ⟨21, 3⟩
def Fld.DET_LADDER_SET : Fld := ⟨20, 1⟩
def Fld.DET_LADDER_ALPHA : Fld := ⟨16, 4⟩
def Fld.DET_LADDER_DROP : Fld := ⟨15, 1⟩
def Fld.DET_LADDER_OFS : Fld := ⟨0, 12⟩
def Fld.DET_SPARE_EN : Fld := ⟨31, 1⟩
def Fld.DET_SPARE_HEAD : Fld := ⟨0, 3⟩
def Fld.DET_SPARE_STAT_LOST : Fld := ⟨1, 1⟩
def Fld.DET_SPARE_STAT_ACTIVE : Fld := ⟨0, 1⟩
def Fld.DET_ROWS_STEP : Fld := ⟨8, 5⟩
def Fld.DET_ROWS_HELD : Fld := ⟨0, 3⟩
def Fld.WRP_CFG_CONV_ABN : Fld := ⟨16, 4⟩
def Fld.WRP_CFG_MON_MISS : Fld := ⟨8, 4⟩
def Fld.WRP_CFG_CS_EN : Fld := ⟨3, 1⟩
def Fld.WRP_CFG_MON_EN : Fld := ⟨2, 1⟩
def Fld.WRP_CFG_ASSIST_EN : Fld := ⟨1, 1⟩
def Fld.WRP_CFG_FAMILY : Fld := ⟨0, 1⟩
def Fld.WRP_EVT_CNT_SAT : Fld := ⟨5, 1⟩
def Fld.WRP_EVT_CFG_REFUSED : Fld := ⟨4, 1⟩
def Fld.WRP_EVT_UNDERRUN : Fld := ⟨3, 1⟩
def Fld.WRP_EVT_MON_MISSING : Fld := ⟨2, 1⟩
def Fld.WRP_EVT_CONTACT : Fld := ⟨1, 1⟩
def Fld.WRP_EVT_ASSIST_MON : Fld := ⟨0, 1⟩
def Fld.WRP_DROP_LAST_LO_Q : Fld := ⟨0, 24⟩
def Fld.WRP_DROP_LAST_HI_CAUSE : Fld := ⟨8, 8⟩
def Fld.WRP_DROP_LAST_HI_HEAD : Fld := ⟨0, 3⟩
def Fld.WRP_MOD_MODE : Fld := ⟨16, 4⟩
def Fld.WRP_MOD_PARAM : Fld := ⟨0, 16⟩
def Fld.WRP_MON_HI : Fld := ⟨16, 16⟩
def Fld.WRP_MON_LO : Fld := ⟨0, 16⟩
def Fld.WRP_CSTHR_THR : Fld := ⟨0, 16⟩
def Fld.WRP_SENT_ASSIST_ON : Fld := ⟨20, 1⟩
def Fld.WRP_SENT_HEATER : Fld := ⟨12, 8⟩
def Fld.WRP_SENT_ASSIST : Fld := ⟨0, 10⟩
def Fld.WRP_PRECOMP_TAP3 : Fld := ⟨24, 8⟩
def Fld.WRP_PRECOMP_TAP2 : Fld := ⟨16, 8⟩
def Fld.WRP_PRECOMP_TAP1 : Fld := ⟨8, 8⟩
def Fld.WRP_PRECOMP_TAP0 : Fld := ⟨0, 8⟩
def Fld.ARM_CTRL_OUTER : Fld := ⟨4, 2⟩
def Fld.ARM_CTRL_CMD : Fld := ⟨0, 3⟩
def Fld.ARM_STATUS_BANK : Fld := ⟨28, 4⟩
def Fld.ARM_STATUS_REGION : Fld := ⟨23, 5⟩
def Fld.ARM_STATUS_MODE : Fld := ⟨20, 3⟩
def Fld.ARM_STATUS_INHIBIT : Fld := ⟨12, 8⟩
def Fld.ARM_STATUS_SPLITS : Fld := ⟨4, 8⟩
def Fld.ARM_STATUS_SAT_ACT : Fld := ⟨3, 1⟩
def Fld.ARM_STATUS_SETTLED : Fld := ⟨2, 1⟩
def Fld.ARM_STATUS_ON_TRACK : Fld := ⟨1, 1⟩
def Fld.ARM_STATUS_RECENTRED : Fld := ⟨0, 1⟩
def Fld.ARM_EVT_CNT_SAT : Fld := ⟨9, 1⟩
def Fld.ARM_EVT_SPL : Fld := ⟨8, 1⟩
def Fld.ARM_EVT_CFG_REFUSED : Fld := ⟨7, 1⟩
def Fld.ARM_EVT_SDL_LATE : Fld := ⟨6, 1⟩
def Fld.ARM_EVT_REC_DROP : Fld := ⟨5, 1⟩
def Fld.ARM_EVT_FF_MISS : Fld := ⟨4, 1⟩
def Fld.ARM_EVT_HEAD_LOST : Fld := ⟨3, 1⟩
def Fld.ARM_EVT_LOST : Fld := ⟨2, 1⟩
def Fld.ARM_EVT_SHOCK : Fld := ⟨1, 1⟩
def Fld.ARM_EVT_SAT_TIMEOUT : Fld := ⟨0, 1⟩
def Fld.ARM_SAT_LIMIT_SEEK : Fld := ⟨16, 16⟩
def Fld.ARM_SAT_LIMIT_TRK : Fld := ⟨0, 16⟩
def Fld.ARM_TRK_WI_THR : Fld := ⟨16, 16⟩
def Fld.ARM_TRK_ONTRK : Fld := ⟨0, 16⟩
def Fld.ARM_SETTLE_SETTLE_N : Fld := ⟨24, 8⟩
def Fld.ARM_SETTLE_SETTLE_IN : Fld := ⟨0, 12⟩
def Fld.ARM_SEEK_MIN_SEEK_MIN : Fld := ⟨0, 20⟩
def Fld.ARM_SHOCK_EN : Fld := ⟨31, 1⟩
def Fld.ARM_SHOCK_HOLD : Fld := ⟨16, 8⟩
def Fld.ARM_SHOCK_THR : Fld := ⟨0, 16⟩
def Fld.ARM_LOSS_ALL_MAX : Fld := ⟨24, 8⟩
def Fld.ARM_LOSS_HEAD_MAX : Fld := ⟨16, 8⟩
def Fld.ARM_LOSS_GATE : Fld := ⟨0, 16⟩
def Fld.ARM_TBAND_TB3 : Fld := ⟨20, 10⟩
def Fld.ARM_TBAND_TB2 : Fld := ⟨10, 10⟩
def Fld.ARM_TBAND_TB1 : Fld := ⟨0, 10⟩
def Fld.ARM_BMAP_BANKS : Fld := ⟨0, 32⟩
def Fld.ARM_SDL_CFG_EN : Fld := ⟨31, 1⟩
def Fld.ARM_SDL_CFG_TIMER : Fld := ⟨16, 12⟩
def Fld.ARM_SDL_CFG_PHASE : Fld := ⟨0, 16⟩
def Fld.ARM_SDL_STAT_WORD : Fld := ⟨8, 24⟩
def Fld.ARM_SDL_STAT_BAD : Fld := ⟨0, 8⟩
def Fld.ARM_LOAD_CMD : Fld := ⟨16, 16⟩
def Fld.ARM_LOAD_TMO : Fld := ⟨0, 16⟩
def Fld.ARM_DIRECT_VALUE : Fld := ⟨0, 16⟩
def Fld.ARM_HEAD_EN : Fld := ⟨31, 1⟩
def Fld.ARM_HEAD_MAGAIN : Fld := ⟨0, 16⟩
def Fld.ARM_PES_FOUND : Fld := ⟨31, 1⟩
def Fld.ARM_PES_E : Fld := ⟨0, 24⟩
def Fld.ARM_WEDGE_WNUM : Fld := ⟨16, 10⟩
def Fld.ARM_WEDGE_PERIOD : Fld := ⟨0, 16⟩
def Fld.ARM_BANK_VALUE : Fld := ⟨0, 32⟩
def Fld.SPL_CTRL_EN : Fld := ⟨31, 1⟩
def Fld.SPL_CTRL_MODE : Fld := ⟨16, 4⟩
def Fld.SPL_CTRL_START_DEM : Fld := ⟨0, 16⟩
def Fld.SPL_CFG_REF : Fld := ⟨30, 2⟩
def Fld.SPL_CFG_KP : Fld := ⟨26, 4⟩
def Fld.SPL_CFG_KI : Fld := ⟨22, 4⟩
def Fld.SPL_CFG_TARGET : Fld := ⟨0, 17⟩
def Fld.SPL_STAT_FLAGS : Fld := ⟨24, 8⟩
def Fld.SPL_STAT_BAD : Fld := ⟨16, 8⟩
def Fld.SPL_STAT_DEMAND : Fld := ⟨0, 16⟩
def Fld.SPL_SPEED_SPEED : Fld := ⟨0, 8⟩
def Fld.TSQ_SPF_CFG_STROKE : Fld := ⟨0, 16⟩
def Fld.TSQ_SPF_LAST_SPLIT : Fld := ⟨31, 1⟩
def Fld.TSQ_SPF_LAST_HOLD : Fld := ⟨16, 8⟩
def Fld.TSQ_SPF_LAST_ACTIVE : Fld := ⟨8, 8⟩
def Fld.TSQ_RDOFS_OFS : Fld := ⟨0, 32⟩
def Fld.SVD_CFG_EN : Fld := ⟨31, 1⟩
def Fld.SVD_CFG_RDR : Fld := ⟨24, 2⟩
def Fld.SVD_CFG_SAM_THR : Fld := ⟨16, 4⟩
def Fld.SVD_CAL_D0 : Fld := ⟨16, 16⟩
def Fld.SVD_CAL_KPES : Fld := ⟨0, 16⟩
def Fld.SVD_RATE_CPW : Fld := ⟨0, 16⟩
def Fld.HIF_CFG_CFG_READY : Fld := ⟨31, 1⟩
def Fld.HIF_LINK_CFG_MODE : Fld := ⟨16, 1⟩
def Fld.HIF_LINK_CFG_SPEED_B : Fld := ⟨11, 3⟩
def Fld.HIF_LINK_CFG_SPEED_A : Fld := ⟨8, 3⟩
def Fld.HIF_LINK_CFG_WIDTH : Fld := ⟨4, 4⟩
def Fld.HIF_LINK_CFG_LTSSM_B : Fld := ⟨1, 1⟩
def Fld.HIF_LINK_CFG_LTSSM_A : Fld := ⟨0, 1⟩
def Fld.HIF_LINK_STAT_DL_UP : Fld := ⟨31, 1⟩
def Fld.HIF_LINK_STAT_PERST : Fld := ⟨30, 1⟩
def Fld.HIF_LINK_STAT_SPEED : Fld := ⟨16, 3⟩
def Fld.HIF_LINK_STAT_WIDTH : Fld := ⟨12, 4⟩
def Fld.HIF_LINK_STAT_LTSSM : Fld := ⟨0, 4⟩
def Fld.HIF_ID0_DID : Fld := ⟨16, 16⟩
def Fld.HIF_ID0_VID : Fld := ⟨0, 16⟩
def Fld.HIF_ID1_SSID : Fld := ⟨16, 16⟩
def Fld.HIF_ID1_SSVID : Fld := ⟨0, 16⟩
def Fld.HIF_ID2_VFDID : Fld := ⟨16, 16⟩
def Fld.HIF_ID2_REV : Fld := ⟨0, 8⟩
def Fld.HIF_SRIOV_TOTALVF1 : Fld := ⟨8, 6⟩
def Fld.HIF_SRIOV_TOTALVF0 : Fld := ⟨0, 6⟩
def Fld.HIF_POLL_IDLE : Fld := ⟨16, 8⟩
def Fld.HIF_POLL_INTERVAL : Fld := ⟨0, 16⟩
def Fld.HIF_EVT_AER_UNCORR : Fld := ⟨7, 1⟩
def Fld.HIF_EVT_VF_CFG : Fld := ⟨6, 1⟩
def Fld.HIF_EVT_CFG_REFUSED : Fld := ⟨5, 1⟩
def Fld.HIF_EVT_DB_INVALID : Fld := ⟨4, 1⟩
def Fld.HIF_EVT_FLR : Fld := ⟨3, 1⟩
def Fld.HIF_EVT_PERST : Fld := ⟨2, 1⟩
def Fld.HIF_EVT_LINK_B : Fld := ⟨1, 1⟩
def Fld.HIF_EVT_LINK_A : Fld := ⟨0, 1⟩
def Fld.HIF_FN_RES_INTMAX : Fld := ⟨16, 11⟩
def Fld.HIF_FN_RES_QMAX : Fld := ⟨0, 11⟩
def Fld.HIF_FN_TAG_TAG_MAX : Fld := ⟨16, 14⟩
def Fld.HIF_FN_TAG_TAG_MIN : Fld := ⟨0, 14⟩
def Fld.CMD_CTRL_FETCH_HOLD : Fld := ⟨0, 1⟩
def Fld.CMD_OP_OP : Fld := ⟨29, 3⟩
def Fld.CMD_OP_EXPECT : Fld := ⟨26, 3⟩
def Fld.CMD_OP_TAG : Fld := ⟨0, 13⟩
def Fld.CMD_OP_RES_BUSY : Fld := ⟨31, 1⟩
def Fld.CMD_OP_RES_REFUSED : Fld := ⟨30, 1⟩
def Fld.CMD_OP_RES_STATE : Fld := ⟨27, 3⟩
def Fld.CMD_OP_RES_TAG : Fld := ⟨0, 13⟩
def Fld.CMD_EVQ_VALID : Fld := ⟨31, 1⟩
def Fld.CMD_EVQ_TYPE : Fld := ⟨28, 3⟩
def Fld.CMD_EVQ_TAG : Fld := ⟨0, 13⟩
def Fld.CMD_SQE_BASE_HI : Fld := ⟨22, 10⟩
def Fld.CMD_SQE_BASE : Fld := ⟨19, 3⟩
def Fld.CMD_CNT_HIGH : Fld := ⟨16, 14⟩
def Fld.CMD_CNT_LOW : Fld := ⟨0, 14⟩
def Fld.CMD_EVT_STAT_ORPHAN : Fld := ⟨1, 1⟩
def Fld.CMD_EVT_DQ_REFUSED : Fld := ⟨0, 1⟩
def Fld.CMD_DQ_TAIL_TAIL : Fld := ⟨0, 6⟩
def Fld.CMD_DQ_PTR_ERR_SLOT : Fld := ⟨24, 5⟩
def Fld.CMD_DQ_PTR_SENT : Fld := ⟨16, 6⟩
def Fld.CMD_DQ_PTR_HEAD : Fld := ⟨8, 6⟩
def Fld.BUF_CTRL_ZERO : Fld := ⟨3, 1⟩
def Fld.BUF_CTRL_INIT : Fld := ⟨2, 1⟩
def Fld.BUF_CTRL_ST_RERUN : Fld := ⟨1, 1⟩
def Fld.BUF_STATUS_OPEN : Fld := ⟨31, 1⟩
def Fld.BUF_STATUS_ST_BUSY : Fld := ⟨30, 1⟩
def Fld.BUF_STATUS_WC_FAIL : Fld := ⟨29, 1⟩
def Fld.BUF_STATUS_PC_FAIL : Fld := ⟨28, 1⟩
def Fld.BUF_STATUS_TRAINED : Fld := ⟨27, 1⟩
def Fld.BUF_STATUS_TRAIN_FAIL : Fld := ⟨26, 1⟩
def Fld.BUF_STATUS_FILLED : Fld := ⟨25, 1⟩
def Fld.BUF_STATUS_BUSY : Fld := ⟨24, 1⟩
def Fld.BUF_DCFG_SIZE : Fld := ⟨28, 2⟩
def Fld.BUF_DCFG_RANKS : Fld := ⟨27, 1⟩
def Fld.BUF_DCFG_RATE : Fld := ⟨22, 2⟩
def Fld.BUF_DCFG_LECC : Fld := ⟨21, 1⟩
def Fld.BUF_USABLE_PAGES : Fld := ⟨0, 23⟩
def Fld.BUF_SCRUB_EN : Fld := ⟨31, 1⟩
def Fld.BUF_SCRUB_INTERVAL : Fld := ⟨0, 14⟩
def Fld.BUF_SCRUB_POS_PASSES : Fld := ⟨24, 8⟩
def Fld.BUF_SCRUB_POS_PAGE : Fld := ⟨0, 23⟩
def Fld.BUF_EVT_CFG_REFUSED : Fld := ⟨7, 1⟩
def Fld.BUF_EVT_CNT_SAT : Fld := ⟨6, 1⟩
def Fld.BUF_EVT_RET_ACCESS : Fld := ⟨5, 1⟩
def Fld.BUF_EVT_HARD : Fld := ⟨4, 1⟩
def Fld.BUF_EVT_UNCORR : Fld := ⟨3, 1⟩
def Fld.BUF_EVT_PC_CORR : Fld := ⟨2, 1⟩
def Fld.BUF_EVT_WC_CORR : Fld := ⟨1, 1⟩
def Fld.BUF_EVT_DONE : Fld := ⟨0, 1⟩
def Fld.BUF_ERR_ADDR_LO_ADDR_LO : Fld := ⟨0, 32⟩
def Fld.BUF_ERR_ADDR_HI_KIND : Fld := ⟨24, 8⟩
def Fld.BUF_ERR_ADDR_HI_SOURCE : Fld := ⟨8, 8⟩
def Fld.BUF_ERR_ADDR_HI_ADDR_HI : Fld := ⟨0, 3⟩
def Fld.BUF_BANK_RET_RANK1 : Fld := ⟨16, 16⟩
def Fld.BUF_BANK_RET_RANK0 : Fld := ⟨0, 16⟩
def Fld.BUF_INJ_ARM : Fld := ⟨31, 1⟩
def Fld.BUF_INJ_DOUBLE : Fld := ⟨30, 1⟩
def Fld.BUF_INJ_BIT2 : Fld := ⟨8, 8⟩
def Fld.BUF_INJ_BIT1 : Fld := ⟨0, 8⟩
def Fld.BUF_INJ_ADDR_WORD : Fld := ⟨0, 30⟩
def Fld.BUF_RET_VALID : Fld := ⟨31, 1⟩
def Fld.BUF_RET_PAGE : Fld := ⟨0, 23⟩
def Fld.STC_CTRL_ALLOC_CORE : Fld := ⟨3, 1⟩
def Fld.STC_CTRL_ALLOC_HUB : Fld := ⟨2, 1⟩
def Fld.STC_CTRL_ALLOC_HIF : Fld := ⟨1, 1⟩
def Fld.STC_CTRL_EN : Fld := ⟨0, 1⟩
def Fld.STC_STATUS_BUSY : Fld := ⟨31, 1⟩
def Fld.STC_STATUS_INV_DONE : Fld := ⟨30, 1⟩
def Fld.STC_STATUS_OP_REFUSED : Fld := ⟨3, 1⟩
def Fld.STC_STATUS_EN_REFUSED : Fld := ⟨2, 1⟩
def Fld.STC_STATUS_ARR_UNCORR : Fld := ⟨1, 1⟩
def Fld.STC_STATUS_OP_DONE : Fld := ⟨0, 1⟩
def Fld.STC_OP_OP : Fld := ⟨29, 3⟩
def Fld.STC_OP_WAY : Fld := ⟨0, 4⟩
def Fld.STC_OP_BASE_LINE : Fld := ⟨0, 28⟩
def Fld.STC_OP_LEN_LINE : Fld := ⟨0, 28⟩
def Fld.STC_FENCE_WAYS : Fld := ⟨0, 16⟩
def Fld.STC_VICTIM_LINES : Fld := ⟨16, 7⟩
def Fld.STC_VICTIM_WBUF : Fld := ⟨0, 7⟩
def Fld.STC_EVT_CNT_SAT : Fld := ⟨0, 1⟩
def Fld.KEEP_CMD_OP : Fld := ⟨28, 4⟩
def Fld.KEEP_CMD_REGION : Fld := ⟨0, 4⟩
def Fld.KEEP_ADDR_OFS : Fld := ⟨0, 27⟩
def Fld.KEEP_ARG_COUNT : Fld := ⟨16, 16⟩
def Fld.KEEP_STATUS_READY0 : Fld := ⟨31, 1⟩
def Fld.KEEP_STATUS_READY1 : Fld := ⟨30, 1⟩
def Fld.KEEP_STATUS_BROWNOUT : Fld := ⟨29, 1⟩
def Fld.KEEP_STATUS_OP1 : Fld := ⟨12, 4⟩
def Fld.KEEP_STATUS_RESULT1 : Fld := ⟨8, 4⟩
def Fld.KEEP_STATUS_OP0 : Fld := ⟨4, 4⟩
def Fld.KEEP_STATUS_RESULT0 : Fld := ⟨0, 4⟩
def Fld.KEEP_EVT_WEAR_WARN : Fld := ⟨11, 1⟩
def Fld.KEEP_EVT_CNT_SAT : Fld := ⟨10, 1⟩
def Fld.KEEP_EVT_SPARE_LOW : Fld := ⟨9, 1⟩
def Fld.KEEP_EVT_PW_LOCKOUT : Fld := ⟨8, 1⟩
def Fld.KEEP_EVT_STREAM_ERR : Fld := ⟨7, 1⟩
def Fld.KEEP_EVT_STREAM_DONE : Fld := ⟨6, 1⟩
def Fld.KEEP_EVT_BUSY_READ : Fld := ⟨5, 1⟩
def Fld.KEEP_EVT_BROWNOUT : Fld := ⟨4, 1⟩
def Fld.KEEP_EVT_CMD_REFUSED : Fld := ⟨3, 1⟩
def Fld.KEEP_EVT_PROGRAM_FAIL : Fld := ⟨2, 1⟩
def Fld.KEEP_EVT_ERASE_FAIL : Fld := ⟨1, 1⟩
def Fld.KEEP_EVT_DONE : Fld := ⟨0, 1⟩
def Fld.KEEP_WEAR_CFG_HARD : Fld := ⟨8, 8⟩
def Fld.KEEP_WEAR_CFG_SOFT : Fld := ⟨0, 8⟩
def Fld.KEEP_INFO_LO_PULSES : Fld := ⟨24, 8⟩
def Fld.KEEP_INFO_LO_COUNT : Fld := ⟨0, 24⟩
def Fld.KEEP_INFO_HI_WARN : Fld := ⟨31, 1⟩
def Fld.KEEP_INFO_HI_REMAPPED : Fld := ⟨30, 1⟩
def Fld.KEEP_INFO_HI_PENDING : Fld := ⟨29, 1⟩
def Fld.KEEP_INFO_HI_SPARE : Fld := ⟨0, 6⟩
def Fld.KEEP_PW_LO_PW : Fld := ⟨0, 32⟩
def Fld.KEEP_PW_HI_PW : Fld := ⟨0, 32⟩
def Fld.KEEP_STR_SRC_SRC : Fld := ⟨0, 27⟩
def Fld.KEEP_STR_DST_LO_DST : Fld := ⟨0, 32⟩
def Fld.KEEP_STR_DST_HI_DST : Fld := ⟨0, 8⟩
def Fld.KEEP_STR_LEN_LEN : Fld := ⟨0, 25⟩
def Fld.KEEP_STR_CTRL_START : Fld := ⟨31, 1⟩
def Fld.KEEP_STR_CTRL_STOP : Fld := ⟨30, 1⟩
def Fld.KEEP_STR_STAT_BUSY : Fld := ⟨31, 1⟩
def Fld.KEEP_STR_STAT_ERR : Fld := ⟨28, 3⟩
def Fld.KEEP_STR_STAT_BYTES : Fld := ⟨0, 25⟩
def Fld.KEEP_INTENT_PENDING : Fld := ⟨31, 1⟩
def Fld.KEEP_INTENT_SECTOR : Fld := ⟨0, 15⟩
def Fld.KEEP_REGION_LO_COUNT : Fld := ⟨16, 16⟩
def Fld.KEEP_REGION_LO_START : Fld := ⟨0, 15⟩
def Fld.KEEP_REGION_HI_DEFINED : Fld := ⟨2, 1⟩
def Fld.KEEP_REGION_HI_PWSET : Fld := ⟨1, 1⟩
def Fld.KEEP_REGION_HI_LOCKED : Fld := ⟨0, 1⟩
def Fld.KEEP_SPARE_LEFT1 : Fld := ⟨16, 7⟩
def Fld.KEEP_SPARE_LEFT0 : Fld := ⟨0, 7⟩
def Fld.KEEP_PW_FAIL_COUNT : Fld := ⟨0, 4⟩
def Fld.KEEP_PAGEBUF_DATA : Fld := ⟨0, 32⟩
def Fld.SYS_ID_PART : Fld := ⟨16, 16⟩
def Fld.SYS_ID_REV : Fld := ⟨0, 8⟩
def Fld.SYS_RST_CAUSE_WDT : Fld := ⟨2, 1⟩
def Fld.SYS_RST_CAUSE_PIN : Fld := ⟨1, 1⟩
def Fld.SYS_RST_CAUSE_POR : Fld := ⟨0, 1⟩
def Fld.SYS_CORE_CFG_BERR_FAULT : Fld := ⟨0, 1⟩
def Fld.SYS_CORE_STAT_RUNNING : Fld := ⟨0, 4⟩
def Fld.SYS_CORE_START_CORE : Fld := ⟨30, 2⟩
def Fld.SYS_CORE_START_ADDR : Fld := ⟨2, 20⟩
def Fld.SYS_BERR_LO_ADDR_LO : Fld := ⟨0, 32⟩
def Fld.SYS_BERR_HI_VALID : Fld := ⟨31, 1⟩
def Fld.SYS_BERR_HI_OVER : Fld := ⟨30, 1⟩
def Fld.SYS_BERR_HI_CORE : Fld := ⟨28, 2⟩
def Fld.SYS_BERR_HI_WRITE : Fld := ⟨27, 1⟩
def Fld.SYS_BERR_HI_KIND : Fld := ⟨16, 4⟩
def Fld.SYS_BERR_HI_ADDR_HI : Fld := ⟨0, 8⟩
def Fld.SYS_EVT_START_REFUSED : Fld := ⟨3, 1⟩
def Fld.SYS_EVT_CNT_SAT : Fld := ⟨2, 1⟩
def Fld.SYS_EVT_MEM_UNCORR : Fld := ⟨1, 1⟩
def Fld.SYS_EVT_MEM_CORR : Fld := ⟨0, 1⟩
def Fld.SYS_TIME_LO_TIME : Fld := ⟨0, 32⟩
def Fld.SYS_TIME_HI_TIME : Fld := ⟨0, 32⟩
def Fld.SYS_MTIMECMP_LO_CMP : Fld := ⟨0, 32⟩
def Fld.SYS_MTIMECMP_HI_CMP : Fld := ⟨0, 32⟩
def Fld.SYS_WDT_CTRL_EN : Fld := ⟨31, 1⟩
def Fld.SYS_WDT_CTRL_LOCK : Fld := ⟨30, 1⟩
def Fld.SYS_WDT_CTRL_T1 : Fld := ⟨14, 14⟩
def Fld.SYS_WDT_CTRL_T2 : Fld := ⟨0, 14⟩
def Fld.SYS_WDT_KICK_KEY : Fld := ⟨0, 16⟩
def Fld.SYS_WDT_STAT_WARN : Fld := ⟨31, 1⟩
def Fld.SYS_WDT_STAT_BADKEY : Fld := ⟨30, 1⟩
def Fld.SYS_WDT_STAT_STAGE : Fld := ⟨28, 2⟩
def Fld.SYS_WDT_STAT_REMAIN : Fld := ⟨0, 14⟩
def Fld.HUB_SRC_EN : Fld := ⟨31, 1⟩
def Fld.HUB_SRC_ASSERTED : Fld := ⟨30, 1⟩
def Fld.HUB_SRC_PEND : Fld := ⟨29, 1⟩
def Fld.HUB_SRC_INSVC : Fld := ⟨28, 1⟩
def Fld.HUB_SRC_TARGET : Fld := ⟨4, 2⟩
def Fld.HUB_SRC_PRIO : Fld := ⟨0, 3⟩
def Fld.HUB_PEND_PEND : Fld := ⟨0, 32⟩
def Fld.HUB_THR_THR : Fld := ⟨0, 3⟩
def Fld.HUB_CLAIM_VALID : Fld := ⟨31, 1⟩
def Fld.HUB_CLAIM_ID : Fld := ⟨0, 8⟩
def Fld.HUB_COMPLETE_ID : Fld := ⟨0, 8⟩
def Fld.HUB_SWI_BITS : Fld := ⟨0, 32⟩
def Fld.HUB_SWI_SET_SET : Fld := ⟨0, 32⟩
def Fld.HUB_SWI_CLR_CLR : Fld := ⟨0, 32⟩
def Fld.TRC_SNAP_HOLD : Fld := ⟨31, 1⟩
def Fld.TRC_SNAP_GO : Fld := ⟨0, 1⟩
def Fld.TRC_SNAP_STAT_BUSY : Fld := ⟨31, 1⟩
def Fld.TRC_SNAP_STAT_DONE : Fld := ⟨30, 1⟩
def Fld.TRC_SNAP_STAT_MISSED : Fld := ⟨29, 1⟩
def Fld.TRC_SNAP_TIME_LO_S : Fld := ⟨0, 32⟩
def Fld.TRC_SNAP_TIME_HI_S : Fld := ⟨0, 32⟩
def Fld.PWR_REQ_LO_REQ : Fld := ⟨0, 32⟩
def Fld.PWR_REQ_HI_REQ : Fld := ⟨0, 4⟩
def Fld.PWR_STAT_LO_ON : Fld := ⟨0, 32⟩
def Fld.PWR_STAT_HI_BUSY : Fld := ⟨4, 1⟩
def Fld.PWR_STAT_HI_ON : Fld := ⟨0, 4⟩
def Fld.PWR_EVT_DOMAIN : Fld := ⟨8, 6⟩
def Fld.PWR_EVT_SEQ_REFUSED : Fld := ⟨1, 1⟩
def Fld.PWR_EVT_DONE : Fld := ⟨0, 1⟩
def Fld.PWR_STBY_ENTER : Fld := ⟨31, 1⟩
def Fld.PWR_STBY_THM_ON : Fld := ⟨0, 1⟩
def Fld.THM_CTRL_EN : Fld := ⟨31, 1⟩
def Fld.THM_CTRL_REF : Fld := ⟨16, 5⟩
def Fld.THM_CTRL_FLOOR : Fld := ⟨0, 3⟩
def Fld.THM_STATUS_FAILED : Fld := ⟨27, 5⟩
def Fld.THM_STATUS_LEVEL : Fld := ⟨24, 3⟩
def Fld.THM_STATUS_CAUSE : Fld := ⟨20, 4⟩
def Fld.THM_STATUS_HOT_NODE : Fld := ⟨15, 5⟩
def Fld.THM_STATUS_HOLD : Fld := ⟨14, 1⟩
def Fld.THM_STATUS_HOT : Fld := ⟨0, 12⟩
def Fld.THM_EVT_CNT_SAT : Fld := ⟨6, 1⟩
def Fld.THM_EVT_PWR_STALE : Fld := ⟨5, 1⟩
def Fld.THM_EVT_TRIP : Fld := ⟨4, 1⟩
def Fld.THM_EVT_CHANGE : Fld := ⟨3, 1⟩
def Fld.THM_EVT_SENS_FAIL : Fld := ⟨2, 1⟩
def Fld.THM_EVT_RATE : Fld := ⟨1, 1⟩
def Fld.THM_EVT_LEVEL : Fld := ⟨0, 1⟩
def Fld.THM_TCFG_RATE_LVL : Fld := ⟨24, 3⟩
def Fld.THM_TCFG_DWELL : Fld := ⟨16, 8⟩
def Fld.THM_TCFG_HYST : Fld := ⟨8, 8⟩
def Fld.THM_TCFG_STEP : Fld := ⟨0, 8⟩
def Fld.THM_TRIP_COUNT : Fld := ⟨16, 4⟩
def Fld.THM_TRIP_LIMIT : Fld := ⟨0, 12⟩
def Fld.THM_PCAP_EN : Fld := ⟨31, 1⟩
def Fld.THM_PCAP_CAP : Fld := ⟨0, 16⟩
def Fld.THM_COMP_CFG_EN : Fld := ⟨31, 1⟩
def Fld.THM_COMP_CFG_SENSOR : Fld := ⟨24, 5⟩
def Fld.THM_COMP_CFG_WIDTH : Fld := ⟨16, 8⟩
def Fld.THM_COMP_CFG_BASE : Fld := ⟨0, 12⟩
def Fld.THM_LIM_RATE : Fld := ⟨16, 12⟩
def Fld.THM_LIM_LEVEL : Fld := ⟨0, 12⟩
def Fld.THM_TEMP_FAILED : Fld := ⟨31, 1⟩
def Fld.THM_TEMP_SUB : Fld := ⟨30, 1⟩
def Fld.THM_TEMP_FAST : Fld := ⟨29, 1⟩
def Fld.THM_TEMP_EST : Fld := ⟨16, 12⟩
def Fld.THM_TEMP_VALUE : Fld := ⟨0, 12⟩
def Fld.THM_RAIL_TAU : Fld := ⟨24, 4⟩
def Fld.THM_RAIL_PF : Fld := ⟨0, 16⟩
def Fld.THM_K_LO_K : Fld := ⟨0, 32⟩
def Fld.THM_K_HI_K : Fld := ⟨0, 32⟩
def Fld.THM_COMP_REF : Fld := ⟨8, 8⟩
def Fld.THM_COMP_OSC : Fld := ⟨0, 8⟩
def Fld.SEC_STATUS_READY : Fld := ⟨31, 1⟩
def Fld.SEC_STATUS_KAT_FAIL : Fld := ⟨30, 1⟩
def Fld.SEC_EVT_CNT_SAT : Fld := ⟨5, 1⟩
def Fld.SEC_EVT_KAT_FAIL : Fld := ⟨4, 1⟩
def Fld.SEC_EVT_RNG_FAIL : Fld := ⟨3, 1⟩
def Fld.SEC_EVT_KEY_REFUSED : Fld := ⟨2, 1⟩
def Fld.SEC_EVT_KEY_DONE : Fld := ⟨1, 1⟩
def Fld.SEC_EVT_REFUSED : Fld := ⟨0, 1⟩
def Fld.SEC_REFUSE_LAST_REASON : Fld := ⟨24, 3⟩
def Fld.SEC_REFUSE_LAST_RANGE : Fld := ⟨16, 7⟩
def Fld.SEC_REFUSE_LAST_TAG : Fld := ⟨0, 13⟩
def Fld.SEC_GLOBAL_WLOCK : Fld := ⟨9, 1⟩
def Fld.SEC_GLOBAL_RLOCK : Fld := ⟨8, 1⟩
def Fld.SEC_GLOBAL_SLOT : Fld := ⟨0, 7⟩
def Fld.SEC_KEY_CMD_OP : Fld := ⟨29, 3⟩
def Fld.SEC_KEY_CMD_SLOT : Fld := ⟨0, 7⟩
def Fld.SEC_KEY_STAT_BUSY : Fld := ⟨31, 1⟩
def Fld.SEC_KEY_STAT_RESULT : Fld := ⟨0, 4⟩
def Fld.SEC_RNG_DATA : Fld := ⟨0, 32⟩
def Fld.SEC_RNG_STAT_VALID : Fld := ⟨31, 1⟩
def Fld.SEC_SLOTST_LOADED : Fld := ⟨0, 32⟩
def Fld.SEC_KEYSTG_DATA : Fld := ⟨0, 32⟩
def Fld.SEC_RANGE_CFG_EN : Fld := ⟨31, 1⟩
def Fld.SEC_RANGE_CFG_WLOCK : Fld := ⟨30, 1⟩
def Fld.SEC_RANGE_CFG_RLOCK : Fld := ⟨29, 1⟩
def Fld.SEC_RANGE_CFG_SLOT : Fld := ⟨8, 7⟩
def Fld.SEC_RANGE_CFG_NSID : Fld := ⟨0, 7⟩
def Fld.SEC_RANGE_START_START : Fld := ⟨0, 32⟩
def Fld.SEC_RANGE_LEN_LEN : Fld := ⟨0, 32⟩
def Fld.SEC_RANGE_HI_LEN_HI : Fld := ⟨16, 3⟩
def Fld.SEC_RANGE_HI_START_HI : Fld := ⟨0, 3⟩
def Fld.BCL_MB_CFG_UNIT : Fld := ⟨4, 4⟩
def Fld.BCL_MB_CFG_MEM : Fld := ⟨0, 4⟩
def Fld.BCL_MB_ADDR_BYTES : Fld := ⟨0, 22⟩
def Fld.BCL_MB_LEN_BYTES : Fld := ⟨0, 22⟩
def Fld.BCL_MB_CTRL_GO : Fld := ⟨31, 1⟩
def Fld.BCL_MB_STAT_BUSY : Fld := ⟨31, 1⟩
def Fld.BCL_MB_STAT_RESULT : Fld := ⟨28, 3⟩
def Fld.BCL_MB_STAT_NFAIL : Fld := ⟨0, 16⟩
def Fld.BCL_MB_FAIL_BIT : Fld := ⟨23, 9⟩
def Fld.BCL_MB_FAIL_ADDR : Fld := ⟨0, 22⟩
def Fld.BCL_LB_CFG_SLICES : Fld := ⟨0, 26⟩
def Fld.BCL_LB_CTRL_GO : Fld := ⟨31, 1⟩
def Fld.BCL_LB_CTRL_BUSY : Fld := ⟨30, 1⟩
def Fld.BCL_LB_CTRL_ACT : Fld := ⟨28, 2⟩
def Fld.BCL_LB_CTRL_HEAD : Fld := ⟨24, 3⟩
def Fld.BCL_LB_CTRL_AMP : Fld := ⟨16, 8⟩
def Fld.BCL_LB_CTRL_LEN : Fld := ⟨0, 8⟩
def Fld.BCL_LB_RES_LO_OFFSET : Fld := ⟨16, 16⟩
def Fld.BCL_LB_RES_LO_AMPL : Fld := ⟨0, 16⟩
def Fld.BCL_LB_RES_HI_LOCK : Fld := ⟨31, 1⟩
def Fld.BCL_LB_RES_HI_ERR : Fld := ⟨0, 31⟩
def Fld.BCL_REF_CTRL_GO : Fld := ⟨31, 1⟩
def Fld.BCL_REF_CTRL_TOL_ADC : Fld := ⟨8, 8⟩
def Fld.BCL_REF_CTRL_TOL_BG : Fld := ⟨0, 8⟩
def Fld.BCL_REF_STAT_BUSY : Fld := ⟨31, 1⟩
def Fld.BCL_REF_STAT_ADC_FAIL : Fld := ⟨16, 4⟩
def Fld.BCL_REF_STAT_BG_FAIL : Fld := ⟨15, 1⟩
def Fld.BCL_REF_STAT_BG_DIFF : Fld := ⟨0, 12⟩
def Fld.BCL_EVT_REFUSED : Fld := ⟨3, 1⟩
def Fld.BCL_EVT_REF_FAIL : Fld := ⟨2, 1⟩
def Fld.BCL_EVT_LB_DONE : Fld := ⟨1, 1⟩
def Fld.BCL_EVT_MB_DONE : Fld := ⟨0, 1⟩
def Fld.RFE_ADCTRIM_OFS_APPLIED : Fld := ⟨24, 8⟩
def Fld.RFE_ADCTRIM_GAIN_APPLIED : Fld := ⟨16, 8⟩
def Fld.RFE_ADCTRIM_OFS_TARGET : Fld := ⟨8, 8⟩
def Fld.RFE_ADCTRIM_GAIN_TARGET : Fld := ⟨0, 8⟩
def Fld.THM_SNSTRIM_APPLIED : Fld := ⟨8, 8⟩
def Fld.THM_SNSTRIM_TARGET : Fld := ⟨0, 8⟩
def Fld.FRZ_CTRL_CLEAR : Fld := ⟨3, 1⟩
def Fld.FRZ_CTRL_MODE : Fld := ⟨2, 1⟩
def Fld.FRZ_CTRL_FREEZE_MI : Fld := ⟨1, 1⟩
def Fld.FRZ_CTRL_FREEZE_FW : Fld := ⟨0, 1⟩
def Fld.FRZ_STATUS_FROZEN : Fld := ⟨31, 1⟩
def Fld.FRZ_STATUS_FULL : Fld := ⟨30, 1⟩
def Fld.FRZ_STATUS_POSTQ : Fld := ⟨20, 3⟩
def Fld.FRZ_STATUS_WPTR : Fld := ⟨0, 20⟩
def Fld.FRZ_EVT_CNT_SAT : Fld := ⟨4, 1⟩
def Fld.FRZ_EVT_POST_REFUSED : Fld := ⟨3, 1⟩
def Fld.FRZ_EVT_REP_SAT : Fld := ⟨2, 1⟩
def Fld.FRZ_EVT_LOST : Fld := ⟨1, 1⟩
def Fld.FRZ_EVT_FULL : Fld := ⟨0, 1⟩
def Fld.FRZ_POST_LENW : Fld := ⟨16, 6⟩
def Fld.FRZ_POST_TYPE : Fld := ⟨0, 16⟩
def Fld.FRZ_POSTDATA_DATA : Fld := ⟨0, 32⟩
def Fld.FRZ_SNAP_EN : Fld := ⟨31, 1⟩
def Fld.FRZ_SNAP_OFS : Fld := ⟨0, 26⟩
def Fld.MGT_NODE_ID : Fld := ⟨0, 12⟩
def Fld.MGT_EVT_BUDGET : Fld := ⟨4, 1⟩
def Fld.MGT_EVT_TIME : Fld := ⟨3, 1⟩
def Fld.MGT_EVT_DISAGREE : Fld := ⟨2, 1⟩
def Fld.MGT_EVT_EFF : Fld := ⟨1, 1⟩
def Fld.MGT_EVT_REQ : Fld := ⟨0, 1⟩
def Fld.MGT_US_CFG_ARM : Fld := ⟨31, 1⟩
def Fld.MGT_US_CFG_LIMIT : Fld := ⟨0, 16⟩
def Fld.MGT_TIME_CFG_SRC : Fld := ⟨30, 2⟩
def Fld.MGT_TIME_CFG_PTM_INT : Fld := ⟨16, 8⟩
def Fld.MGT_TIME_CFG_SLEW : Fld := ⟨8, 8⟩
def Fld.MGT_TIME_CFG_STEP : Fld := ⟨0, 8⟩
def Fld.MGT_TIME_STAT_LOCKED : Fld := ⟨31, 1⟩
def Fld.MGT_TIME_STAT_BAD : Fld := ⟨24, 7⟩
def Fld.MGT_TIME_STAT_OFS : Fld := ⟨0, 24⟩
def Fld.MGT_BUDGET_SEQ : Fld := ⟨24, 8⟩
def Fld.MGT_BUDGET_SEEK : Fld := ⟨8, 4⟩
def Fld.MGT_BUDGET_ASSIST : Fld := ⟨0, 8⟩
def Fld.MGT_HEALTH_PDLU : Fld := ⟨24, 8⟩
def Fld.MGT_HEALTH_SPARE : Fld := ⟨16, 8⟩
def Fld.MGT_HEALTH_CWARN : Fld := ⟨8, 8⟩
def Fld.MGT_HEALTH_NSS : Fld := ⟨0, 8⟩
def Fld.MGT_MI_CFG_EN : Fld := ⟨31, 1⟩
def Fld.MGT_MI_CFG_BUS : Fld := ⟨30, 1⟩
def Fld.MGT_MI_CFG_ADDR : Fld := ⟨23, 7⟩
def Fld.MGT_MI_CFG_TMO : Fld := ⟨0, 16⟩
def Fld.MGT_MBOX_DONE : Fld := ⟨31, 1⟩
def Fld.MGT_MBOX_RSP_LEN : Fld := ⟨16, 12⟩
def Fld.MGT_MBOX_REQ_LEN : Fld := ⟨0, 12⟩
def Fld.MGT_US_DIS : Fld := ⟨31, 1⟩
def Fld.MGT_US_REQ : Fld := ⟨4, 4⟩
def Fld.MGT_US_EFF : Fld := ⟨0, 4⟩
def Fld.TRC_CFG_EN : Fld := ⟨31, 1⟩
def Fld.TRC_CFG_SYNC : Fld := ⟨16, 8⟩
def Fld.TRC_CFG_FRZ : Fld := ⟨7, 1⟩
def Fld.TRC_CFG_FW : Fld := ⟨6, 1⟩
def Fld.TRC_CFG_TAG : Fld := ⟨0, 5⟩
def Fld.TRC_FW_VALUE : Fld := ⟨0, 32⟩
def Fld.TRC_STAT_DROP : Fld := ⟨31, 1⟩
def Fld.TRC_STAT_LEVEL : Fld := ⟨0, 9⟩
def Fld.SYS_PL_EVT_PCL_ERR : Fld := ⟨1, 1⟩
def Fld.SYS_PL_EVT_BROWNOUT : Fld := ⟨0, 1⟩
def Fld.SYS_PL_STAT_BROWNOUT : Fld := ⟨1, 1⟩
def Fld.SYS_PL_STAT_PCL_UP : Fld := ⟨0, 1⟩
def Fld.TSQ_SCAN_EN : Fld := ⟨31, 1⟩
def Fld.SYS_PL_PCL_HOLDUP_LOW : Fld := ⟨4, 1⟩
def Fld.SYS_PL_PCL_WAKE : Fld := ⟨3, 1⟩
def Fld.SYS_PL_PCL_PERST_B : Fld := ⟨2, 1⟩
def Fld.SYS_PL_PCL_PERST_A : Fld := ⟨1, 1⟩
def Fld.SYS_PL_PCL_BROWNOUT : Fld := ⟨0, 1⟩
def Fld.SYS_CON_TX_DATA : Fld := ⟨0, 8⟩
def Fld.SYS_CON_STAT_FULL : Fld := ⟨31, 1⟩
def Fld.SYS_CON_STAT_DROP : Fld := ⟨30, 1⟩
def Fld.SYS_CON_STAT_LEVEL : Fld := ⟨0, 7⟩

/-! ## What a bus access may do to each register (R11, Table SCO-3) and its value after power-on reset (R14) -/

/-- Registers of SYS (part 0). -/
def regsSYS0 : List RegDesc := [
  ⟨0x0, 1, 0, 1, 0, 0x0, 0x0, 0x0, 0x0, 0x96320000, 0x0, 0⟩,
  ⟨0x4, 1, 0, 1, 0, 0x0, 0x7, 0x0, 0x0, 0x1, 0x0, 0⟩,
  ⟨0x8, 1, 0, 1, 0, 0x1, 0x0, 0x0, 0x0, 0x1, 0x0, 0⟩,
  ⟨0xc, 1, 0, 1, 0, 0x0, 0x0, 0x0, 0x0, 0x1, 0x0, 0⟩,
  ⟨0x10, 1, 0, 1, 0, 0x0, 0x0, 0xc03ffffc, 0x0, 0x0, 0x0, 0⟩,
  ⟨0x20, 1, 0, 1, 0, 0x0, 0x0, 0x0, 0x0, 0x0, 0x0, 0⟩,
  ⟨0x24, 1, 0, 1, 0, 0x0, 0x80000000, 0x0, 0x0, 0x0, 0x0, 0⟩,
  ⟨0x28, 1, 0, 1, 0, 0x0, 0xf, 0x0, 0x0, 0x0, 0x0, 0⟩,
  ⟨0x30, 1, 0, 1, 0, 0x0, 0x0, 0x0, 0x0, 0x0, 0x0, 0⟩,
  ⟨0x34, 1, 0, 1, 0, 0x0, 0x0, 0x0, 0x0, 0x0, 0x0, 0⟩,
  ⟨0x40, 4, 8, 1, 0, 0xffffffff, 0x0, 0x0, 0x0, 0xffffffff, 0x0, 0⟩,
  ⟨0x44, 4, 8, 1, 0, 0xffffffff, 0x0, 0x0, 0x0, 0xffffffff, 0x0, 0⟩]

/-- Registers of SYS (part 1). -/
def regsSYS1 : List RegDesc := [
  ⟨0x80, 2, 8, 1, 0, 0x0, 0x0, 0x0, 0x0, 0x0, 0x0, 1⟩,
  ⟨0x84, 2, 8, 1, 0, 0x0, 0x80000000, 0x0, 0x0, 0x0, 0x0, 2⟩,
  ⟨0x100, 1, 0, 1, 0, 0xcfffffff, 0x0, 0x0, 0x0, 0x1f403e8, 0x0, 0⟩,
  ⟨0x104, 1, 0, 1, 0, 0x0, 0x0, 0xffff, 0x0, 0x0, 0x0, 0⟩,
  ⟨0x108, 1, 0, 1, 0, 0x0, 0xc0000000, 0x0, 0x0, 0x0, 0x0, 0⟩,
  ⟨0x1000, 256, 4, 1, 0, 0x80000037, 0x0, 0x0, 0x0, 0x0, 0x0, 0⟩,
  ⟨0x1400, 8, 4, 1, 0, 0x0, 0x0, 0x0, 0x0, 0x0, 0x0, 0⟩,
  ⟨0x1480, 4, 16, 1, 0, 0x7, 0x0, 0x0, 0x0, 0x0, 0x0, 0⟩,
  ⟨0x1484, 4, 16, 1, 0, 0x0, 0x0, 0x0, 0x800000ff, 0x0, 0x0, 0⟩,
  ⟨0x1488, 4, 16, 1, 0, 0x0, 0x0, 0xff, 0x0, 0x0, 0x0, 0⟩,
  ⟨0x14c0, 1, 0, 1, 0, 0x0, 0x0, 0x0, 0x0, 0x0, 0x0, 0⟩,
  ⟨0x14c4, 1, 0, 1, 0, 0x0, 0x0, 0xffffffff, 0x0, 0x0, 0x0, 0⟩]

/-- Registers of SYS (part 2). -/
def regsSYS2 : List RegDesc := [
  ⟨0x14c8, 1, 0, 1, 0, 0x0, 0x0, 0xffffffff, 0x0, 0x0, 0x0, 0⟩,
  ⟨0x200, 1, 0, 1, 0, 0xffffffff, 0x0, 0x0, 0x0, 0xffffffff, 0x0, 0⟩,
  ⟨0x204, 1, 0, 1, 0, 0xf, 0x0, 0x0, 0x0, 0xf, 0x0, 0⟩,
  ⟨0x208, 1, 0, 1, 0, 0x0, 0x0, 0x0, 0x0, 0xffffffff, 0x0, 0⟩,
  ⟨0x20c, 1, 0, 1, 0, 0x0, 0x0, 0x0, 0x0, 0xf, 0x0, 0⟩,
  ⟨0x210, 1, 0, 1, 0, 0x0, 0x3, 0x0, 0x0, 0x0, 0x0, 0⟩,
  ⟨0x214, 1, 0, 1, 0, 0x1, 0x0, 0x80000000, 0x0, 0x1, 0x0, 0⟩,
  ⟨0x220, 1, 0, 1, 0, 0x0, 0x3, 0x0, 0x0, 0x0, 0x0, 0⟩,
  ⟨0x224, 1, 0, 1, 0, 0x0, 0x0, 0x0, 0x0, 0x0, 0x0, 0⟩,
  ⟨0x228, 1, 0, 1, 0, 0x0, 0x0, 0x0, 0x0, 0x16, 0x0, 0⟩,
  ⟨0x300, 1, 0, 1, 0, 0x0, 0x0, 0xff, 0x0, 0x0, 0x0, 0⟩,
  ⟨0x304, 1, 0, 1, 0, 0x0, 0x40000000, 0x0, 0x0, 0x0, 0x0, 0⟩]

/-- Registers of SYS. -/
def regsSYS : List RegDesc := regsSYS0 ++ regsSYS1 ++ regsSYS2

/-- Registers of HIF. -/
def regsHIF : List RegDesc := [
  ⟨0x0, 1, 0, 1, 0, 0x80000000, 0x0, 0x0, 0x0, 0x0, 0x0, 0⟩,
  ⟨0x4, 1, 0, 1, 0, 0x13ff3, 0x0, 0x0, 0x0, 0x2d80, 0x0, 0⟩,
  ⟨0x8, 2, 4, 1, 0, 0x0, 0x0, 0x0, 0x0, 0x40000000, 0x0, 0⟩,
  ⟨0x10, 1, 0, 1, 0, 0xffffffff, 0x0, 0x0, 0x0, 0x0, 0x0, 0⟩,
  ⟨0x14, 1, 0, 1, 0, 0xffffffff, 0x0, 0x0, 0x0, 0x0, 0x0, 0⟩,
  ⟨0x18, 1, 0, 1, 0, 0xffff00ff, 0x0, 0x0, 0x0, 0x0, 0x0, 0⟩,
  ⟨0x20, 1, 0, 1, 0, 0x3f3f, 0x0, 0x0, 0x0, 0x0, 0x0, 0⟩,
  ⟨0x24, 1, 0, 1, 0, 0xffffff, 0x0, 0x0, 0x0, 0x400014, 0x0, 0⟩,
  ⟨0x30, 1, 0, 1, 0, 0x0, 0xff, 0x0, 0x0, 0x0, 0x0, 0⟩,
  ⟨0x100, 64, 8, 1, 0, 0x7ff07ff, 0x0, 0x0, 0x0, 0x10000, 0x0, 0⟩,
  ⟨0x104, 64, 8, 1, 0, 0x3fff3fff, 0x0, 0x0, 0x0, 0x20000000, 0x0, 0⟩]

/-- Registers of CMD. -/
def regsCMD : List RegDesc := [
  ⟨0xf0000, 1, 0, 1, 0, 0x1, 0x0, 0x0, 0x0, 0x0, 0x0, 0⟩,
  ⟨0xf0004, 1, 0, 1, 0, 0x0, 0x0, 0xfc001fff, 0x0, 0x0, 0x0, 0⟩,
  ⟨0xf0008, 1, 0, 1, 0, 0x0, 0x0, 0x0, 0x0, 0x0, 0x0, 0⟩,
  ⟨0xf000c, 1, 0, 1, 0, 0x0, 0x0, 0x0, 0xf0001fff, 0x0, 0x0, 0⟩,
  ⟨0xf0010, 1, 0, 1, 0, 0x380000, 0x0, 0x0, 0x0, 0x20000000, 0x0, 0⟩,
  ⟨0xf0014, 3, 4, 1, 0, 0x0, 0x0, 0x0, 0x0, 0x0, 0x0, 0⟩,
  ⟨0xf0020, 1, 0, 1, 0, 0x0, 0x3, 0x0, 0x0, 0x0, 0x0, 0⟩,
  ⟨0xf0040, 4, 8, 1, 0, 0x3f, 0x0, 0x0, 0x0, 0x0, 0x0, 0⟩,
  ⟨0xf0044, 4, 8, 1, 0, 0x0, 0x0, 0x0, 0x0, 0x0, 0x0, 0⟩]

/-- Registers of BUF (part 0). -/
def regsBUF0 : List RegDesc := [
  ⟨0x0, 1, 0, 1, 0, 0x0, 0x0, 0xe, 0x0, 0x0, 0x0, 0⟩,
  ⟨0x4, 1, 0, 1, 0, 0x0, 0x0, 0x0, 0x0, 0x40000000, 0x0, 0⟩,
  ⟨0x8, 1, 0, 1, 0, 0x38e00000, 0x0, 0x0, 0x0, 0x200000, 0x0, 0⟩,
  ⟨0xc, 1, 0, 1, 0, 0x0, 0x0, 0x0, 0x0, 0x0, 0x0, 0⟩,
  ⟨0x10, 1, 0, 1, 0, 0x80003fff, 0x0, 0x0, 0x0, 0x3e8, 0x0, 0⟩,
  ⟨0x14, 1, 0, 1, 0, 0x0, 0x0, 0x0, 0x0, 0x0, 0x0, 0⟩,
  ⟨0x18, 1, 0, 1, 0, 0x0, 0xff, 0x0, 0x0, 0x0, 0x0, 0⟩,
  ⟨0x20, 1, 0, 1, 0, 0x0, 0x0, 0x0, 0x0, 0x0, 0x0, 0⟩,
  ⟨0x24, 1, 0, 1, 0, 0x0, 0x0, 0x0, 0x0, 0x0, 0x0, 0⟩,
  ⟨0x30, 2, 4, 1, 0, 0xffffffff, 0x0, 0x0, 0x0, 0x0, 0x0, 0⟩,
  ⟨0x40, 1, 0, 1, 0, 0xc000ffff, 0x0, 0x0, 0x0, 0x0, 0x0, 0⟩,
  ⟨0x44, 1, 0, 1, 0, 0x3fffffff, 0x0, 0x0, 0x0, 0x0, 0x0, 0⟩]

/-- Registers of BUF (part 1). -/
def regsBUF1 : List RegDesc := [
  ⟨0x80, 5, 8, 1, 0, 0x0, 0x0, 0x0, 0x0, 0x0, 0x0, 1⟩,
  ⟨0x84, 5, 8, 1, 0, 0x0, 0x80000000, 0x0, 0x0, 0x0, 0x0, 2⟩,
  ⟨0x10000, 2048, 4, 1, 0, 0x807fffff, 0x0, 0x0, 0x0, 0x0, 0x0, 0⟩]

/-- Registers of BUF. -/
def regsBUF : List RegDesc := regsBUF0 ++ regsBUF1

/-- Registers of STC. -/
def regsSTC : List RegDesc := [
  ⟨0x0, 1, 0, 1, 0, 0xf, 0x0, 0x0, 0x0, 0xe, 0x0, 0⟩,
  ⟨0x4, 1, 0, 1, 0, 0x0, 0xf, 0x0, 0x0, 0x0, 0x0, 0⟩,
  ⟨0x8, 1, 0, 1, 0, 0x0, 0x0, 0xe000000f, 0x0, 0x0, 0x0, 0⟩,
  ⟨0xc, 1, 0, 1, 0, 0xfffffff, 0x0, 0x0, 0x0, 0x0, 0x0, 0⟩,
  ⟨0x10, 1, 0, 1, 0, 0xfffffff, 0x0, 0x0, 0x0, 0x0, 0x0, 0⟩,
  ⟨0x14, 1, 0, 1, 0, 0xffff, 0x0, 0x0, 0x0, 0x0, 0x0, 0⟩,
  ⟨0x18, 1, 0, 1, 0, 0x0, 0x0, 0x0, 0x0, 0x0, 0x0, 0⟩,
  ⟨0x1c, 1, 0, 1, 0, 0x0, 0x1, 0x0, 0x0, 0x0, 0x0, 0⟩,
  ⟨0x40, 7, 8, 1, 0, 0x0, 0x0, 0x0, 0x0, 0x0, 0x0, 1⟩,
  ⟨0x44, 7, 8, 1, 0, 0x0, 0x80000000, 0x0, 0x0, 0x0, 0x0, 2⟩]

/-- Registers of SEC (part 0). -/
def regsSEC0 : List RegDesc := [
  ⟨0x0, 1, 0, 1, 0, 0x0, 0x0, 0x0, 0x0, 0x0, 0x0, 0⟩,
  ⟨0x4, 1, 0, 1, 0, 0x0, 0x3f, 0x0, 0x0, 0x0, 0x0, 0⟩,
  ⟨0x8, 1, 0, 1, 0, 0x0, 0x0, 0x0, 0x0, 0x0, 0x0, 0⟩,
  ⟨0xc, 1, 0, 1, 0, 0x37f, 0x0, 0x0, 0x0, 0x300, 0x0, 0⟩,
  ⟨0x10, 1, 0, 1, 0, 0x0, 0x0, 0xe000007f, 0x0, 0x0, 0x0, 0⟩,
  ⟨0x14, 1, 0, 1, 0, 0x0, 0x0, 0x0, 0x0, 0x0, 0x0, 0⟩,
  ⟨0x18, 1, 0, 1, 0, 0x0, 0x0, 0x0, 0xffffffff, 0x0, 0x0, 0⟩,
  ⟨0x1c, 1, 0, 1, 0, 0x0, 0x0, 0x0, 0x0, 0x0, 0x0, 0⟩,
  ⟨0x20, 4, 4, 1, 0, 0x0, 0x0, 0x0, 0x0, 0x0, 0x0, 0⟩,
  ⟨0x40, 18, 4, 1, 0, 0xffffffff, 0x0, 0x0, 0x0, 0x0, 0x0, 0⟩,
  ⟨0x1000, 64, 16, 1, 0, 0xe0007f7f, 0x0, 0x0, 0x0, 0x60000000, 0x0, 0⟩,
  ⟨0x1004, 64, 16, 1, 0, 0xffffffff, 0x0, 0x0, 0x0, 0x0, 0x0, 0⟩]

/-- Registers of SEC (part 1). -/
def regsSEC1 : List RegDesc := [
  ⟨0x1008, 64, 16, 1, 0, 0xffffffff, 0x0, 0x0, 0x0, 0x0, 0x0, 0⟩,
  ⟨0x100c, 64, 16, 1, 0, 0x70007, 0x0, 0x0, 0x0, 0x0, 0x0, 0⟩,
  ⟨0xc0, 3, 8, 1, 0, 0x0, 0x0, 0x0, 0x0, 0x0, 0x0, 1⟩,
  ⟨0xc4, 3, 8, 1, 0, 0x0, 0x80000000, 0x0, 0x0, 0x0, 0x0, 2⟩]

/-- Registers of SEC. -/
def regsSEC : List RegDesc := regsSEC0 ++ regsSEC1

/-- Registers of KEEP (part 0). -/
def regsKEEP0 : List RegDesc := [
  ⟨0x0, 1, 0, 1, 0, 0x0, 0x0, 0xf000000f, 0x0, 0x0, 0x0, 0⟩,
  ⟨0x4, 1, 0, 1, 0, 0x7ffffff, 0x0, 0x0, 0x0, 0x0, 0x0, 0⟩,
  ⟨0x8, 1, 0, 1, 0, 0xffff0000, 0x0, 0x0, 0x0, 0x0, 0x0, 0⟩,
  ⟨0xc, 1, 0, 1, 0, 0x0, 0x0, 0x0, 0x0, 0x0, 0x0, 0⟩,
  ⟨0x10, 1, 0, 1, 0, 0x0, 0xfff, 0x0, 0x0, 0x0, 0x0, 0⟩,
  ⟨0x14, 1, 0, 1, 0, 0xffff, 0x0, 0x0, 0x0, 0x1406, 0x0, 0⟩,
  ⟨0x18, 1, 0, 1, 0, 0x0, 0x0, 0x0, 0x0, 0x0, 0x0, 0⟩,
  ⟨0x1c, 1, 0, 1, 0, 0x0, 0x0, 0x0, 0x0, 0x0, 0x0, 0⟩,
  ⟨0x20, 1, 0, 1, 0, 0x0, 0x0, 0xffffffff, 0x0, 0x0, 0x0, 0⟩,
  ⟨0x24, 1, 0, 1, 0, 0x0, 0x0, 0xffffffff, 0x0, 0x0, 0x0, 0⟩,
  ⟨0x30, 1, 0, 1, 0, 0x7ffffff, 0x0, 0x0, 0x0, 0x0, 0x0, 0⟩,
  ⟨0x34, 1, 0, 1, 0, 0xffffffff, 0x0, 0x0, 0x0, 0x0, 0x0, 0⟩]

/-- Registers of KEEP (part 1). -/
def regsKEEP1 : List RegDesc := [
  ⟨0x38, 1, 0, 1, 0, 0xff, 0x0, 0x0, 0x0, 0x0, 0x0, 0⟩,
  ⟨0x3c, 1, 0, 1, 0, 0x1ffffff, 0x0, 0x0, 0x0, 0x0, 0x0, 0⟩,
  ⟨0x40, 1, 0, 1, 0, 0x0, 0x0, 0xc0000000, 0x0, 0x0, 0x0, 0⟩,
  ⟨0x44, 1, 0, 1, 0, 0x0, 0x0, 0x0, 0x0, 0x0, 0x0, 0⟩,
  ⟨0x50, 2, 4, 1, 0, 0x0, 0x0, 0x0, 0x0, 0x0, 0x0, 0⟩,
  ⟨0x80, 16, 8, 1, 0, 0x0, 0x0, 0x0, 0x0, 0x0, 0x0, 0⟩,
  ⟨0x84, 16, 8, 1, 0, 0x0, 0x0, 0x0, 0x0, 0x0, 0x0, 0⟩,
  ⟨0x100, 1, 0, 1, 0, 0x0, 0x0, 0x0, 0x0, 0x400040, 0x0, 0⟩,
  ⟨0x104, 1, 0, 1, 0, 0x0, 0x0, 0x0, 0x0, 0x0, 0x0, 0⟩,
  ⟨0x180, 3, 8, 1, 0, 0x0, 0x0, 0x0, 0x0, 0x0, 0x0, 1⟩,
  ⟨0x184, 3, 8, 1, 0, 0x0, 0x80000000, 0x0, 0x0, 0x0, 0x0, 2⟩,
  ⟨0x200, 64, 4, 1, 0, 0xffffffff, 0x0, 0x0, 0x0, 0xffffffff, 0x0, 0⟩]

/-- Registers of KEEP. -/
def regsKEEP : List RegDesc := regsKEEP0 ++ regsKEEP1

/-- Registers of THM (part 0). -/
def regsTHM0 : List RegDesc := [
  ⟨0x0, 1, 0, 1, 0, 0x801f0007, 0x0, 0x0, 0x0, 0x80000000, 0x0, 0⟩,
  ⟨0x4, 1, 0, 1, 0, 0x0, 0x0, 0x0, 0x0, 0x0, 0x0, 0⟩,
  ⟨0x8, 1, 0, 1, 0, 0x0, 0x7f, 0x0, 0x0, 0x0, 0x0, 0⟩,
  ⟨0xc, 1, 0, 1, 0, 0x7ffffff, 0x0, 0x0, 0x0, 0x4640408, 0x0, 0⟩,
  ⟨0x10, 1, 0, 1, 0, 0xf0fff, 0x0, 0x0, 0x0, 0x401f4, 0x0, 0⟩,
  ⟨0x14, 1, 0, 1, 0, 0x8000ffff, 0x0, 0x0, 0x0, 0x80000a8c, 0x0, 0⟩,
  ⟨0x18, 1, 0, 1, 0, 0x9fff0fff, 0x0, 0x0, 0x0, 0x280f60, 0x0, 0⟩,
  ⟨0x100, 32, 4, 1, 0, 0xfff0fff, 0x0, 0x0, 0x0, 0x801a4, 0x0, 0⟩,
  ⟨0x180, 32, 4, 1, 0, 0x0, 0x80000000, 0x0, 0x0, 0x0, 0x0, 0⟩,
  ⟨0x200, 8, 4, 1, 0, 0xf000000, 0x0, 0x0, 0x0, 0x6000000, 0x0, 0⟩,
  ⟨0x240, 32, 8, 1, 0, 0xffffffff, 0x0, 0x0, 0x0, 0x0, 0x0, 0⟩,
  ⟨0x244, 32, 8, 1, 0, 0xffffffff, 0x0, 0x0, 0x0, 0x0, 0x0, 0⟩]

/-- Registers of THM (part 1). -/
def regsTHM1 : List RegDesc := [
  ⟨0x340, 16, 4, 1, 0, 0xffff, 0x0, 0x0, 0x0, 0x0, 0x0, 0⟩,
  ⟨0x3c0, 3, 8, 1, 0, 0x0, 0x0, 0x0, 0x0, 0x0, 0x0, 1⟩,
  ⟨0x3c4, 3, 8, 1, 0, 0x0, 0x80000000, 0x0, 0x0, 0x0, 0x0, 2⟩,
  ⟨0x400, 24, 4, 1, 0, 0xff, 0x0, 0x0, 0x0, 0x0, 0x0, 0⟩]

/-- Registers of THM. -/
def regsTHM : List RegDesc := regsTHM0 ++ regsTHM1

/-- Registers of FRZ. -/
def regsFRZ : List RegDesc := [
  ⟨0x0, 1, 0, 1, 0, 0x5, 0x0, 0x8, 0x0, 0x4, 0x4, 0⟩,
  ⟨0x4, 1, 0, 1, 0, 0x0, 0x0, 0x0, 0x0, 0x0, 0x0, 0⟩,
  ⟨0x8, 1, 0, 1, 0, 0x0, 0x1f, 0x0, 0x0, 0x0, 0x0, 0⟩,
  ⟨0xc, 1, 0, 1, 0, 0x0, 0x0, 0x3fffff, 0x0, 0x0, 0x0, 0⟩,
  ⟨0x10, 1, 0, 1, 0, 0x0, 0x0, 0x0, 0x0, 0x0, 0x0, 1⟩,
  ⟨0x14, 1, 0, 1, 0, 0x0, 0x80000000, 0x0, 0x0, 0x0, 0x0, 2⟩,
  ⟨0x100, 59, 4, 1, 0, 0xffffffff, 0x0, 0x0, 0x0, 0x0, 0x0, 0⟩,
  ⟨0x200, 32, 4, 1, 0, 0x83ffffff, 0x0, 0x0, 0x0, 0x0, 0x83ffffff, 0⟩]

/-- Registers of MGT. -/
def regsMGT : List RegDesc := [
  ⟨0x0, 1, 0, 1, 0, 0xfff, 0x0, 0x0, 0x0, 0xfff, 0xfff, 0⟩,
  ⟨0x4, 1, 0, 1, 0, 0x0, 0x1f, 0x0, 0x0, 0x0, 0x0, 0⟩,
  ⟨0x8, 1, 0, 1, 0, 0x8000ffff, 0x0, 0x0, 0x0, 0x3e8, 0xffff, 0⟩,
  ⟨0x10, 1, 0, 1, 0, 0xc0ffffff, 0x0, 0x0, 0x0, 0x64500a, 0xc0ffffff, 0⟩,
  ⟨0x14, 1, 0, 1, 0, 0x0, 0x0, 0x0, 0x0, 0x0, 0x0, 0⟩,
  ⟨0x20, 1, 0, 1, 0, 0x0, 0x0, 0x0, 0x0, 0xfff, 0x0, 0⟩,
  ⟨0x30, 1, 0, 1, 0, 0xffffffff, 0x0, 0x0, 0x0, 0x640000, 0xffffffff, 0⟩,
  ⟨0x40, 1, 0, 1, 0, 0xff80ffff, 0x0, 0x0, 0x0, 0x8e8001f4, 0xff80ffff, 0⟩,
  ⟨0x44, 1, 0, 1, 0, 0x0, 0x0, 0x8fff0000, 0x0, 0x0, 0x0, 0⟩,
  ⟨0x2000, 36, 8, 1, 0, 0x0, 0x0, 0x0, 0x0, 0x10, 0x0, 0⟩]

/-- Registers of BCL (part 0). -/
def regsBCL0 : List RegDesc := [
  ⟨0x0, 1, 0, 1, 0, 0xff, 0x0, 0x0, 0x0, 0x0, 0x0, 0⟩,
  ⟨0x4, 1, 0, 1, 0, 0x3fffff, 0x0, 0x0, 0x0, 0x0, 0x0, 0⟩,
  ⟨0x8, 1, 0, 1, 0, 0x3fffff, 0x0, 0x0, 0x0, 0x0, 0x0, 0⟩,
  ⟨0xc, 1, 0, 1, 0, 0x0, 0x0, 0x80000000, 0x0, 0x0, 0x0, 0⟩,
  ⟨0x10, 1, 0, 1, 0, 0x0, 0x0, 0x0, 0x0, 0x0, 0x0, 0⟩,
  ⟨0x14, 1, 0, 1, 0, 0x0, 0x0, 0x0, 0x0, 0x0, 0x0, 0⟩,
  ⟨0x20, 1, 0, 1, 0, 0x3ffffff, 0x0, 0x0, 0x0, 0x0, 0x0, 0⟩,
  ⟨0x24, 1, 0, 1, 0, 0x37ff00ff, 0x0, 0x80000000, 0x0, 0x180010, 0x0, 0⟩,
  ⟨0x100, 26, 8, 1, 0, 0x0, 0x0, 0x0, 0x0, 0x0, 0x0, 0⟩,
  ⟨0x104, 26, 8, 1, 0, 0x0, 0x0, 0x0, 0x0, 0x0, 0x0, 0⟩,
  ⟨0x30, 1, 0, 1, 0, 0xffff, 0x0, 0x80000000, 0x0, 0xa32, 0x0, 0⟩,
  ⟨0x34, 1, 0, 1, 0, 0x0, 0x0, 0x0, 0x0, 0x0, 0x0, 0⟩]

/-- Registers of BCL (part 1). -/
def regsBCL1 : List RegDesc := [
  ⟨0x38, 1, 0, 1, 0, 0x0, 0xf, 0x0, 0x0, 0x0, 0x0, 0⟩]

/-- Registers of BCL. -/
def regsBCL : List RegDesc := regsBCL0 ++ regsBCL1

/-- Registers of TRC. -/
def regsTRC : List RegDesc := [
  ⟨0x0, 1, 0, 1, 0, 0x80000000, 0x0, 0x1, 0x0, 0x0, 0x0, 0⟩,
  ⟨0x4, 1, 0, 1, 0, 0x0, 0x60000000, 0x0, 0x0, 0x0, 0x0, 0⟩,
  ⟨0x8, 1, 0, 1, 0, 0x0, 0x0, 0x0, 0x0, 0x0, 0x0, 0⟩,
  ⟨0xc, 1, 0, 1, 0, 0x0, 0x0, 0x0, 0x0, 0x0, 0x0, 0⟩,
  ⟨0x10, 1, 0, 1, 0, 0x80ff00df, 0x0, 0x0, 0x0, 0x640000, 0x0, 0⟩,
  ⟨0x14, 1, 0, 1, 0, 0x0, 0x0, 0xffffffff, 0x0, 0x0, 0x0, 0⟩,
  ⟨0x18, 1, 0, 1, 0, 0x0, 0x80000000, 0x0, 0x0, 0x0, 0x0, 0⟩]

/-- Registers of TSQ (part 0). -/
def regsTSQ0 : List RegDesc := [
  ⟨0x200, 1, 0, 1, 0, 0xffff, 0x0, 0x0, 0x0, 0x0, 0x0, 0⟩,
  ⟨0x204, 1, 0, 1, 0, 0x0, 0x0, 0x0, 0x0, 0xffff, 0x0, 0⟩,
  ⟨0x208, 1, 0, 1, 0, 0xffff, 0x0, 0x0, 0x0, 0x0, 0x0, 0⟩,
  ⟨0x20c, 1, 0, 1, 0, 0x0, 0x0, 0x0, 0x0, 0x0, 0x0, 0⟩,
  ⟨0x220, 8, 8, 1, 0, 0x0, 0x0, 0x0, 0x0, 0x0, 0x0, 0⟩,
  ⟨0x224, 8, 8, 1, 0, 0x0, 0x40000000, 0x0, 0x0, 0x0, 0x0, 0⟩,
  ⟨0x0, 8, 8, 1, 0, 0x0, 0x0, 0x0, 0x0, 0x0, 0x0, 0⟩,
  ⟨0x4, 8, 8, 1, 0, 0x0, 0x0, 0x0, 0x0, 0x0, 0x0, 0⟩,
  ⟨0x40, 24, 8, 1, 0, 0x0, 0x0, 0x0, 0x0, 0x0, 0x0, 0⟩,
  ⟨0x44, 24, 8, 1, 0, 0x0, 0x0, 0x0, 0x0, 0x0, 0x0, 0⟩,
  ⟨0x100, 1, 0, 1, 0, 0xe0000001, 0x0, 0xc, 0x0, 0x0, 0x0, 0⟩,
  ⟨0x104, 1, 0, 1, 0, 0x0, 0x10000004, 0x0, 0x0, 0x0, 0x0, 0⟩]

/-- Registers of TSQ (part 1). -/
def regsTSQ1 : List RegDesc := [
  ⟨0x108, 1, 0, 1, 0, 0x0, 0x0, 0x0, 0x0, 0x0, 0x0, 0⟩,
  ⟨0x10c, 1, 0, 1, 0, 0x0, 0x0, 0x0, 0x0, 0x0, 0x0, 0⟩,
  ⟨0x110, 8, 4, 1, 0, 0x1fff, 0x0, 0x0, 0x0, 0x0, 0x0, 0⟩,
  ⟨0x130, 4, 4, 1, 0, 0x1fff, 0x0, 0x0, 0x0, 0x0, 0x0, 0⟩,
  ⟨0x140, 1, 0, 1, 0, 0xffff, 0x0, 0x0, 0x0, 0x100, 0x0, 0⟩,
  ⟨0x144, 1, 0, 1, 0, 0xffffff, 0x0, 0x0, 0x0, 0xc350, 0x0, 0⟩,
  ⟨0x148, 1, 0, 1, 0, 0x0, 0x0, 0x0, 0x0, 0x0, 0x0, 0⟩,
  ⟨0x14c, 1, 0, 1, 0, 0x0, 0x0, 0x0, 0x0, 0x0, 0x0, 0⟩,
  ⟨0x280, 1, 0, 1, 0, 0xffff, 0x0, 0x0, 0x0, 0x2800, 0x0, 0⟩,
  ⟨0x284, 1, 0, 1, 0, 0x0, 0x0, 0x0, 0x0, 0x0, 0x0, 0⟩,
  ⟨0x2a0, 8, 4, 1, 0, 0xffffffff, 0x0, 0x0, 0x0, 0x0, 0x0, 0⟩,
  ⟨0x2c0, 1, 0, 1, 0, 0x80000000, 0x0, 0x0, 0x0, 0x0, 0x0, 0⟩]

/-- Registers of TSQ. -/
def regsTSQ : List RegDesc := regsTSQ0 ++ regsTSQ1

/-- Registers of LNK. -/
def regsLNK : List RegDesc := [
  ⟨0x0, 1, 0, 1, 0, 0x1, 0x0, 0x2, 0x0, 0x0, 0x0, 0⟩,
  ⟨0x4, 1, 0, 1, 0, 0x0, 0x0, 0x0, 0x0, 0x100000, 0x0, 0⟩,
  ⟨0x8, 1, 0, 1, 0, 0x0, 0x7, 0x0, 0x0, 0x0, 0x0, 0⟩,
  ⟨0x10, 1, 0, 1, 0, 0x0, 0x0, 0x0, 0x0, 0x0, 0x0, 1⟩,
  ⟨0x14, 1, 0, 1, 0, 0x0, 0x80000000, 0x0, 0x0, 0x0, 0x0, 2⟩]

/-- Registers of WRP (part 0). -/
def regsWRP0 : List RegDesc := [
  ⟨0x800, 1, 0, 1, 0, 0x800000ff, 0x0, 0x0, 0x0, 0x32, 0x0, 0⟩,
  ⟨0x804, 1, 0, 1, 0, 0xffffffff, 0x0, 0x0, 0x0, 0x0, 0x0, 0⟩,
  ⟨0x808, 1, 0, 1, 0, 0x0, 0x40000000, 0x0, 0x0, 0x0, 0x0, 0⟩,
  ⟨0x840, 8, 8, 1, 0, 0x0, 0x0, 0x0, 0x0, 0x0, 0x0, 0⟩,
  ⟨0x844, 8, 8, 1, 0, 0x0, 0x0, 0x0, 0x0, 0x0, 0x0, 0⟩,
  ⟨0x880, 1, 0, 1, 0, 0x0, 0x3ff, 0x0, 0x0, 0x0, 0x0, 0⟩,
  ⟨0x888, 1, 0, 1, 0, 0x0, 0x0, 0x0, 0x0, 0x0, 0x0, 1⟩,
  ⟨0x88c, 1, 0, 1, 0, 0x0, 0x80000000, 0x0, 0x0, 0x0, 0x0, 2⟩,
  ⟨0x890, 1, 0, 1, 0, 0x0, 0x0, 0x0, 0x0, 0xc, 0x0, 0⟩,
  ⟨0x0, 1, 0, 1, 0, 0xf0f0f, 0x0, 0x0, 0x0, 0x30000, 0x0, 0⟩,
  ⟨0x4, 1, 0, 1, 0, 0x0, 0x3f, 0x0, 0x0, 0x0, 0x0, 0⟩,
  ⟨0x8, 1, 0, 1, 0, 0x0, 0x0, 0x0, 0x0, 0x0, 0x0, 0⟩]

/-- Registers of WRP (part 1). -/
def regsWRP1 : List RegDesc := [
  ⟨0xc, 1, 0, 1, 0, 0x0, 0x0, 0x0, 0x0, 0x0, 0x0, 0⟩,
  ⟨0x40, 8, 4, 1, 0, 0xfffff, 0x0, 0x0, 0x0, 0x0, 0x0, 0⟩,
  ⟨0x60, 8, 4, 1, 0, 0xffffffff, 0x0, 0x0, 0x0, 0xffff0000, 0x0, 0⟩,
  ⟨0x80, 8, 4, 1, 0, 0xffff, 0x0, 0x0, 0x0, 0x7fff, 0x0, 0⟩,
  ⟨0xa0, 8, 4, 1, 0, 0x0, 0x0, 0x0, 0x0, 0x0, 0x0, 0⟩,
  ⟨0xc0, 8, 4, 1, 0, 0x0, 0x0, 0x0, 0x0, 0x0, 0x0, 0⟩,
  ⟨0x100, 11, 8, 1, 0, 0x0, 0x0, 0x0, 0x0, 0x0, 0x0, 1⟩,
  ⟨0x104, 11, 8, 1, 0, 0x0, 0x80000000, 0x0, 0x0, 0x0, 0x0, 2⟩]

/-- Registers of WRP. -/
def regsWRP : List RegDesc := regsWRP0 ++ regsWRP1

/-- Registers of ARM (part 0). -/
def regsARM0 : List RegDesc := [
  ⟨0x0, 1, 0, 1, 0, 0x30, 0x0, 0x7, 0x0, 0x0, 0x0, 0⟩,
  ⟨0x4, 1, 0, 1, 0, 0x0, 0x0, 0x0, 0x0, 0xf800000, 0x0, 0⟩,
  ⟨0x8, 1, 0, 1, 0, 0x0, 0x3ff, 0x0, 0x0, 0x0, 0x0, 0⟩,
  ⟨0xc, 1, 0, 1, 0, 0xffffffff, 0x0, 0x0, 0x0, 0x400004, 0x0, 0⟩,
  ⟨0x10, 1, 0, 1, 0, 0xffffffff, 0x0, 0x0, 0x0, 0x266019a, 0x0, 0⟩,
  ⟨0x14, 1, 0, 1, 0, 0xff000fff, 0x0, 0x0, 0x0, 0x8000200, 0x0, 0⟩,
  ⟨0x18, 1, 0, 1, 0, 0xfffff, 0x0, 0x0, 0x0, 0x1000, 0x0, 0⟩,
  ⟨0x1c, 1, 0, 1, 0, 0x80ffffff, 0x0, 0x0, 0x0, 0x80100400, 0x0, 0⟩,
  ⟨0x20, 1, 0, 1, 0, 0xffffffff, 0x0, 0x0, 0x0, 0x8200004, 0x0, 0⟩,
  ⟨0x24, 1, 0, 1, 0, 0x3fffffff, 0x0, 0x0, 0x0, 0xdc28050, 0x0, 0⟩,
  ⟨0x30, 3, 4, 1, 0, 0xffffffff, 0x0, 0x0, 0x0, 0x0, 0x0, 0⟩,
  ⟨0x40, 1, 0, 1, 0, 0x8fffffff, 0x0, 0x0, 0x0, 0xa0060, 0x0, 0⟩]

/-- Registers of ARM (part 1). -/
def regsARM1 : List RegDesc := [
  ⟨0x44, 1, 0, 1, 0, 0x0, 0x0, 0x0, 0x0, 0x0, 0x0, 0⟩,
  ⟨0x48, 1, 0, 1, 0, 0xffffffff, 0x0, 0x0, 0x0, 0x2000, 0x0, 0⟩,
  ⟨0x4c, 9, 4, 1, 0, 0xffff, 0x0, 0x0, 0x0, 0x0, 0x0, 0⟩,
  ⟨0x80, 8, 4, 1, 0, 0x8000ffff, 0x0, 0x0, 0x0, 0xc00, 0x0, 0⟩,
  ⟨0xa0, 8, 4, 1, 0, 0x0, 0x0, 0x0, 0x0, 0x0, 0x0, 0⟩,
  ⟨0xc0, 1, 0, 1, 0, 0x0, 0x0, 0x0, 0x0, 0x0, 0x0, 0⟩,
  ⟨0x100, 5, 8, 1, 0, 0x0, 0x0, 0x0, 0x0, 0x0, 0x0, 1⟩,
  ⟨0x104, 5, 8, 1, 0, 0x0, 0x80000000, 0x0, 0x0, 0x0, 0x0, 2⟩,
  ⟨0x400, 16, 128, 32, 4, 0xffffffff, 0x0, 0x0, 0x0, 0x0, 0x0, 0⟩]

/-- Registers of ARM. -/
def regsARM : List RegDesc := regsARM0 ++ regsARM1

/-- Registers of SPL. -/
def regsSPL : List RegDesc := [
  ⟨0xc00, 1, 0, 1, 0, 0x800fffff, 0x0, 0x0, 0x0, 0x0, 0x0, 0⟩,
  ⟨0xc04, 1, 0, 1, 0, 0xffc1ffff, 0x0, 0x0, 0x0, 0x2201215a, 0x0, 0⟩,
  ⟨0xc08, 1, 0, 1, 0, 0x0, 0x0, 0x0, 0x0, 0x0, 0x0, 0⟩,
  ⟨0xc0c, 1, 0, 1, 0, 0x0, 0x0, 0x0, 0x0, 0x0, 0x0, 0⟩]

/-- Registers of CHN (part 0). -/
def regsCHN0 : List RegDesc := [
  ⟨0x0, 3, 4, 1, 0, 0xc00fff07, 0x0, 0x0, 0x0, 0x40082603, 0x0, 0⟩,
  ⟨0x10, 3, 4, 1, 0, 0x3f3f, 0x0, 0x0, 0x0, 0x2828, 0x0, 0⟩,
  ⟨0x20, 3, 4, 1, 0, 0xf3f, 0x0, 0x0, 0x0, 0x0, 0x0, 0⟩,
  ⟨0x30, 1, 0, 1, 0, 0x81ffffff, 0x0, 0x0, 0x0, 0x80600440, 0x0, 0⟩,
  ⟨0x40, 1, 0, 1, 0, 0xffffffff, 0x0, 0x0, 0x0, 0x6030375a, 0x0, 0⟩,
  ⟨0x44, 1, 0, 1, 0, 0xc3ff00ff, 0x0, 0x0, 0x0, 0xc0c00048, 0x0, 0⟩,
  ⟨0x100, 1, 0, 1, 0, 0x7f000707, 0x0, 0x0, 0x0, 0x303, 0x0, 0⟩,
  ⟨0x104, 1, 0, 1, 0, 0x0, 0x0, 0x0, 0x0, 0x0, 0x0, 0⟩,
  ⟨0x140, 7, 8, 1, 0, 0x0, 0x0, 0x0, 0x0, 0x0, 0x0, 1⟩,
  ⟨0x144, 7, 8, 1, 0, 0x0, 0x80000000, 0x0, 0x0, 0x0, 0x0, 2⟩,
  ⟨0x180, 1, 0, 1, 0, 0x0, 0x7, 0x0, 0x0, 0x0, 0x0, 0⟩,
  ⟨0x108, 1, 0, 1, 0, 0xf7f0100, 0x0, 0x0, 0x0, 0x4160000, 0x0, 0⟩]

/-- Registers of CHN (part 1). -/
def regsCHN1 : List RegDesc := [
  ⟨0x10c, 1, 0, 1, 0, 0x801f000f, 0x0, 0x0, 0x0, 0x800f0004, 0x0, 0⟩,
  ⟨0x110, 1, 0, 1, 0, 0xffff, 0x0, 0x0, 0x0, 0x820, 0x0, 0⟩,
  ⟨0x114, 1, 0, 1, 0, 0x8fffffff, 0x0, 0x0, 0x0, 0x88b80020, 0x0, 0⟩,
  ⟨0x118, 1, 0, 1, 0, 0x0, 0x0, 0x0, 0x0, 0x0, 0x0, 0⟩,
  ⟨0x11c, 1, 0, 1, 0, 0x0, 0x0, 0x0, 0x0, 0x0, 0x0, 0⟩,
  ⟨0x188, 6, 8, 1, 0, 0x0, 0x0, 0x0, 0x0, 0x0, 0x0, 1⟩,
  ⟨0x18c, 6, 8, 1, 0, 0x0, 0x80000000, 0x0, 0x0, 0x0, 0x0, 2⟩,
  ⟨0x1c0, 1, 0, 1, 0, 0x0, 0xf, 0x0, 0x0, 0x0, 0x0, 0⟩,
  ⟨0x200, 2, 32, 8, 4, 0xffffff, 0x0, 0x0, 0x0, 0x0, 0x0, 0⟩,
  ⟨0x400, 3, 128, 32, 4, 0xfff, 0x0, 0x0, 0x0, 0x0, 0x0, 0⟩,
  ⟨0x700, 1, 0, 1, 0, 0x830f0000, 0x0, 0x0, 0x0, 0x20000, 0x0, 0⟩,
  ⟨0x704, 1, 0, 1, 0, 0xffffffff, 0x0, 0x0, 0x0, 0x400, 0x0, 0⟩]

/-- Registers of CHN. -/
def regsCHN : List RegDesc := regsCHN0 ++ regsCHN1

/-- Registers of CHN8. -/
def regsCHN8 : List RegDesc := [
  ⟨0x0, 2, 4, 1, 0, 0x8000001f, 0x0, 0x0, 0x0, 0x0, 0x0, 0⟩,
  ⟨0x8, 1, 0, 1, 0, 0x0, 0x2, 0x0, 0x0, 0x0, 0x0, 0⟩,
  ⟨0x10, 1, 0, 1, 0, 0x7fffff, 0x0, 0x0, 0x0, 0x4c4b40, 0x0, 0⟩,
  ⟨0x604, 31, 4, 1, 0, 0xffff8fff, 0x0, 0x0, 0x0, 0x0, 0x0, 0⟩,
  ⟨0x680, 1, 0, 1, 0, 0x80000007, 0x0, 0x0, 0x0, 0x0, 0x0, 0⟩,
  ⟨0x684, 1, 0, 1, 0, 0x0, 0x2, 0x0, 0x0, 0x0, 0x0, 0⟩,
  ⟨0x688, 1, 0, 1, 0, 0x0, 0x0, 0x0, 0x0, 0x0, 0x0, 0⟩,
  ⟨0x700, 1, 0, 1, 0, 0xffff, 0x0, 0x0, 0x0, 0x2d36, 0x0, 0⟩,
  ⟨0x20, 26, 4, 1, 0, 0xffff, 0x0, 0x0, 0x0, 0x0, 0x0, 0⟩]

end Sys2Proof.Machine
end

