-- ==== Sys2Proof/Machine/Sparse.lean ====
section
/-! DEFINITION. Sparse tables: a list of (key, value) pairs in one canonical form (keys strictly rising, no entry equal to what
an unlisted key reads as), with the one read and the one write that every memory, register file and table of State goes
through. -/

namespace Sys2Proof.Machine

/-- A sparse table: the entries that differ from the table's default. -/
abbrev SMap (α : Type) := List (Nat × α)

/-- The value at key `k`; `d k` where no entry is listed. -/
def SMap.get {α : Type} (d : Nat → α) : SMap α → Nat → α
  | [], k => d k
  | p :: m, k => if k = p.1 then p.2 else SMap.get d m k

/-- The table with `v` at key `k`: a value equal to the default removes the entry. -/
def SMap.set {α : Type} [DecidableEq α] (d : Nat → α) : SMap α → Nat → α → SMap α
  | [], k, v => if v = d k then [] else [(k, v)]
  | p :: m, k, v =>
    if v = d k then
      if k = p.1 then SMap.set d m k v else p :: SMap.set d m k v
    else if k < p.1 then (k, v) :: p :: m
    else if k = p.1 then (k, v) :: m
    else p :: SMap.set d m k v

/-- The canonical form: keys strictly rising, no entry equal to the default. -/
abbrev SMap.wf {α : Type} (d : Nat → α) (m : SMap α) : Prop :=
  m.Pairwise (fun p q => p.1 < q.1) ∧ ∀ p ∈ m, p.2 ≠ d p.1

/-- What an unlisted byte of a memory reads as. -/
def zeroByte : Nat → Byte := fun _ => 0

/-- The `n` bytes at `k, k+1, …` -/
def SMap.bytes (d : Nat → Byte) (m : SMap Byte) (k : Nat) : Nat → List Byte
  | 0 => []
  | n + 1 => SMap.get d m k :: SMap.bytes d m (k + 1) n

/-- Store the bytes `bs` at `k, k+1, …` -/
def SMap.store (d : Nat → Byte) (m : SMap Byte) (k : Nat) : List Byte → SMap Byte
  | [] => m
  | b :: bs => SMap.store d (SMap.set d m k b) (k + 1) bs

end Sys2Proof.Machine
end

