-- ==== Sys2Proof/Machine/RegFile.lean ====
section
/-! DEFINITION. The register file: which descriptor an address has, its value after power-on reset (R14), the power domain its
access needs (R391), and the places of a field in a word. -/

namespace Sys2Proof.Machine

/-- The number a field holds in a word. -/
def Fld.get (f : Fld) (w : Word) : Nat := (w.toNat >>> f.lo) % 2 ^ f.w

/-- The bits of a word that a field takes up. -/
def Fld.mask (f : Fld) : Word := BitVec.ofNat 32 ((2 ^ f.w - 1) <<< f.lo)

/-- The word with `v` (modulo the field's width) in a field. -/
def Fld.put (f : Fld) (w : Word) (v : Nat) : Word :=
  (w &&& ~~~ f.mask) ||| (BitVec.ofNat 32 (v <<< f.lo) &&& f.mask)

/-- The two's-complement number of the low `w` bits of `v`. -/
def signed (w v : Nat) : Int :=
  if v % 2 ^ w < 2 ^ (w - 1) then (v % 2 ^ w : Nat) else (v % 2 ^ w : Nat) - (2 ^ w : Nat)

/-- The low `w` bits of an integer. -/
def bitsOf (w : Nat) (v : Int) : Nat := (v % (2 ^ w : Nat)).toNat

/-- An integer held within `lo` to `hi`. -/
def clampInt (lo hi v : Int) : Int := if v < lo then lo else if hi < v then hi else v

/-- A count field in which 0 acts as 1. -/
def atLeast1 (n : Nat) : Nat := if n = 0 then 1 else n

/-- Whether offset `o` of a window is one of the registers a descriptor stands for. -/
def RegDesc.covers (d : RegDesc) (o : Nat) : Bool :=
  let r := o - d.off
  let i := r / d.s1
  let m := r % d.s1
  decide (d.off ≤ o) && decide (i < d.n1) && decide (m / d.s2 < d.n2) && decide (m % d.s2 = 0)

/-- The descriptor of the register at offset `o`. -/
def findDesc : List RegDesc → Nat → Option RegDesc
  | [], _ => none
  | d :: ds, o => if d.covers o then some d else findDesc ds o

/-- The registers of block window `i` of Table ARC-9. -/
def blockRegs (i : Nat) : List RegDesc :=
  match i with
  | 0 => regsSYS
  | 1 => regsHIF
  | 2 => regsCMD
  | 3 => regsBUF
  | 4 => regsSTC
  | 5 => regsSEC
  | 6 => regsKEEP
  | 7 => regsTHM
  | 8 => regsFRZ
  | 9 => regsMGT
  | 10 => regsBCL
  | 11 => regsTRC
  | _ => []

/-- The descriptor of the register at a physical address (Tables ARC-9 and ARC-10). -/
def regDesc (a : Nat) : Option RegDesc :=
  if a < 0x40000000 then none
  else if a < 0x40C00000 then findDesc (blockRegs ((a - 0x40000000) / 0x100000)) (a % 0x100000)
  else if a < 0x41000000 then none
  else if a < 0x42400000 then
    let n := (a - 0x41000000) / 0x400000
    let o := (a - 0x41000000) % 0x400000
    if 0x10000 ≤ o ∧ o < 0x20000 then findDesc regsTSQ (o - 0x10000)
    else if n = 4 then none
    else if o < 0x10000 then findDesc regsLNK o
    else if 0x80000 ≤ o ∧ o < 0x88000 then findDesc regsCHN (o % 0x1000)
    else if 0x88000 ≤ o ∧ o < 0x89000 then findDesc regsCHN8 (o % 0x1000)
    else if 0x100000 ≤ o ∧ o < 0x180000 then findDesc regsWRP (o - 0x100000)
    else if 0x180000 ≤ o then findDesc (if n = 0 then regsSPL ++ regsARM else regsARM) (o - 0x180000)
    else none
  else none

/-- The value a register takes at power-on reset (R14): the Reset column, with the two registers of an array whose members
differ (DET_EQk_15 is 0x200, CMD_CNT0.LOW is 0x2000). -/
def resetWord (a : Nat) : Word :=
  if a = Reg.CMD_CNT 0 then 0x2000
  else match regDesc a with
    | none => 0
    | some d =>
      if d.off = 0x400 ∧ d.s1 = 128 ∧ d.n1 = 3 ∧ a % 128 = 60 then 0x200 else BitVec.ofNat 32 d.rst

/-- The power domain of block window `i` (Table ARC-9, numbers of Table PWR-1). -/
def blockDomain (i : Nat) : Nat :=
  match i with
  | 0 => 34
  | 1 => 17
  | 2 => 34
  | 3 => 20
  | 4 => 21
  | 5 => 28
  | 6 => 29
  | 7 => 31
  | 8 => 30
  | 9 => 30
  | 10 => 33
  | _ => 32

/-- The power domain an access to an address of the register windows needs (Tables ARC-9 and ARC-10, R182, R205, R263). -/
def domainOf (a : Nat) : Nat :=
  if a < 0x40C00000 then blockDomain ((a - 0x40000000) / 0x100000)
  else
    let n := (a - 0x41000000) / 0x400000
    let o := (a - 0x41000000) % 0x400000
    if n = 4 then 35
    else if 0x80000 ≤ o ∧ o < 0x100000 then
      if 0x100 ≤ o % 0x1000 ∧ o % 0x1000 < 0x700 then 4 * n + 1 else 4 * n
    else if 0x180000 ≤ o then 4 * n + 3
    else 4 * n + 2

end Sys2Proof.Machine
end

