-- ==== Sys2Proof/Machine/State.lean ====
section
/-! DEFINITION. The state of the part as plain data: everything the manual gives it, and the queue of the commands that wait.
Every register the manual maps lives in `Plat.regs` under its physical address; the structures here hold what no register
shows. -/

namespace Sys2Proof.Machine

/-! ## The part's own record keeping: registers, Frieze, trace, time -/

/-- An event waiting in a posting queue of the Frieze (R26, R444, R445, R446). -/
structure FrzEvent where
  time    : BitVec 64
  src     : Nat
  typ     : Nat
  fw      : Bool
  payload : List Byte
  deriving DecidableEq, Repr

/-- The Frieze beside its registers: its posting queues (in order of arrival, at most four per source), the log, the offset of
the last record, and the losses since the last LOST record (R26, R447, R448, R449). -/
structure Frz where
  queue    : List FrzEvent
  log      : SMap Byte
  lastAt   : Option Nat
  lostN    : Nat
  lostTime : BitVec 64
  deriving DecidableEq, Repr

/-- A message of the trace stream (Table FRZ-4): its KIND and the bytes that follow the header. -/
structure TrcMsg where
  kind  : Nat
  bytes : List Byte
  deriving DecidableEq, Repr

/-- The trace port beside its registers: the 256-entry FIFO, the time of the previous message, the messages dropped since the
last DROP, whether a SYNC is due before the next message, and what TRC_D last carried (R455). -/
structure Trc where
  fifo    : List TrcMsg
  prev    : BitVec 64
  dropped : Nat
  syncDue : Bool
  out     : Option TrcMsg
  deriving DecidableEq, Repr

/-- What every block shares: the register file, the counters' holding registers and LO-read captures (R395, R397), the data of
the last bus read, the time base (R396), the Frieze, the trace port, the loss latches behind the effective Unit States (R459),
whether the part is in standby, whether the staging words can be read (R426), when each effective state last changed
(Table HIF-7), and the counter that each use of a free value reads and advances (the model's own field). -/
structure Plat where
  regs    : SMap Word
  hold    : SMap Word
  cap     : SMap (Option Word)
  resp    : Word
  time    : BitVec 64
  frz     : Frz
  trc     : Trc
  lostUnit : SMap Nat
  standby : Bool
  stgShown : Bool
  effTime : SMap Nat
  free    : Nat
  deriving DecidableEq, Repr

/-! ## Control cores, interrupt hub, watchdog, boot -/

/-- A control core as its start leaves it (Table COR-2, R382) and its machine timer interrupt (R387). -/
structure CoreState where
  pc   : BitVec 40
  mmode : Bool
  a0   : BitVec 64
  a1   : BitVec 64
  a2   : BitVec 64
  mtip : Bool
  deriving DecidableEq, Repr

/-- Where start-up stands (R381, R438, R470, R478): in a chip reset (`por`: power-on reset), in scan after TEST_MODE, the boot ROM
waiting for the Keep (with the bank and sector of each erase it has redone), an image streamed and ready to run, recovery, or
firmware running. -/
inductive Boot where
  | inReset (por : Bool)
  | scan
  | waiting (redone : List (Nat × Nat))
  | ready (slot load len entry version : Nat)
  | recovery
  | handedOff
  deriving DecidableEq, Repr

/-- The SYS block beside its registers: the cores, the boot ROM, control SRAM, the core that claimed each source in service,
the watchdog's T1 and T2 in force and the nanoseconds of its stage gone by, the console queue and what left on CON_TX, whether the Plinth's brown-out detector is asserted,
and the STATUS of the last valid Power Control Link frame since power-on reset (R361, R510). -/
structure Sys where
  cores   : SMap CoreState
  boot    : Boot
  sram    : SMap Byte
  claimant : SMap Nat
  wdtT1   : Nat
  wdtT2   : Nat
  wdtNs   : Nat
  console : List Byte
  conOut  : List Byte
  detector : Bool
  status  : Option Nat
  deriving DecidableEq, Repr

/-! ## Power and thermal -/

/-- The thermal supervision and Plinth power state beside their registers: each rail's power in mW, the per-sensor reading
history (newest first), last valid reading, mismatch count, each node's demand and trip count, the rate demand in force, the
power demand, the mean accumulator of the millisecond, the compensation band, the oscillator trim, each actuator's reference
code in force and waiting, whether the part has tripped, the node that tripped it, and the frames sent on PCL_TX. -/
structure Thm where
  railP    : SMap Nat
  hist     : SMap (List Int)
  valid    : SMap Int
  mism     : SMap Nat
  demand   : SMap Nat
  tripCnt  : SMap Nat
  rateOn   : Bool
  pDemand  : Nat
  capSum   : Nat
  capN     : Nat
  band     : Option Nat
  oscTrim  : Int
  refTrim  : SMap Int
  refWait  : SMap (Option Int)
  tripped  : Option Nat
  pclTx    : List (List Byte)
  deriving DecidableEq, Repr

/-! ## Management -/

/-- A management command's answer: the status and the data (R456, R457). -/
inductive MiStatus where
  | success
  | invalidOpcode
  | invalidParameter
  | internalError
  deriving DecidableEq, Repr

/-- An answer to the management requester. -/
structure MiResp where
  status : MiStatus
  data   : List Byte
  deriving DecidableEq, Repr

/-- The MGT block beside its registers: the mailbox areas (MGT window 0x1000 to 0x1FFF), whether a command is held, the
commands held by MCTP flow control, the last answer, the SMBus frequency and MCTP unit of Configuration Set, the correction
still outstanding REM, the FLEET_SYNC mark in hand and the one before it (R456, R457, R464, R465). -/
structure Mgt where
  mbox     : SMap Byte
  held     : Bool
  waiting  : List (List Byte)
  answer   : MiResp
  answers  : Nat
  smbFreq  : Nat
  mctpUnit : Nat
  rem      : Int
  mark     : Option Nat
  prevMark : Option Nat
  deriving DecidableEq, Repr

/-! ## Buffer memory and stage cache -/

/-- A 128-byte line held in the array: its tag A[34:21], whether it is dirty, its bytes (R335). -/
structure Line where
  tag   : Nat
  dirty : Bool
  data  : List Byte
  deriving DecidableEq, Repr

/-- A line of the victim cache: its line address A[34:7], whether its write-back is still unissued, its bytes (R343). -/
structure Victim where
  line  : Nat
  dirty : Bool
  data  : List Byte
  deriving DecidableEq, Repr

/-- An entry of the write-back buffer (R343). -/
structure WriteBack where
  line   : Nat
  issued : Bool
  data   : List Byte
  deriving DecidableEq, Repr

/-- A maintenance operation in progress: its OP and WAY, the range it covers, whether EN was 0 at issue, and the array keys and
line addresses that were dirty in its scope at issue (R340, R341). -/
structure StcOp where
  op      : Nat
  way     : Nat
  base    : Nat
  len     : Nat
  enOff   : Bool
  dirty   : List Nat
  deriving DecidableEq, Repr

/-- The buffer and the stage cache beside their registers: the data of every usable address; per 32-byte stored word, 1 a
correctable error, 2 an error only the page code can correct, 3 a word stored as uncorrectable; per page, whether its parity
words are uncorrectable; the last 64 corrected words; the refresh derating; the array (key 16 × set + way), its recency order
per set, the victim cache and write-back buffer (oldest first), the operation in progress, and the ways on which CLEAN_INV_WAY
has completed since they were fenced. -/
structure Buf where
  dram     : SMap Byte
  werr     : SMap Nat
  perr     : SMap Nat
  hard     : List Nat
  derate   : Nat
  lines    : SMap (Option Line)
  order    : SMap (List Nat)
  victims  : List Victim
  wbuf     : List WriteBack
  op       : Option StcOp
  wayClean : Nat
  deriving DecidableEq, Repr


/-! ## Crypto, self-test -/

/-- A host transfer of user data in progress: its tag, whether it moves toward the host, and the key slot each sector resolved to
when it started (R423, R424). -/
structure Xfer where
  tag   : Nat
  out   : Bool
  slots : List Nat
  deriving DecidableEq, Repr

/-- The crypto block beside its registers: the 512-bit key of each slot, the command that waits (OP and slot), the transfers in
progress, and whether a health test of the random source has failed (R423, R426, R427, R429). -/
structure Sec where
  keys    : SMap Nat
  wait    : Option (Nat × Nat)
  xfers   : List Xfer
  rngFail : Bool
  deriving DecidableEq, Repr

/-- A memory self-test in progress: memory, unit, range, and whether brown-out has stopped the march (R431 to R434). -/
structure MbTest where
  mem     : Nat
  unit    : Nat
  addr    : Nat
  len     : Nat
  stopped : Bool
  deriving DecidableEq, Repr

/-- The BCL block beside its registers: the memory test in progress, and the loop-back test's actuator, head, amplitude code,
length and slices as they stood at GO. -/
structure Bcl where
  mb : Option MbTest
  lb : Option (Nat × Nat × Nat × Nat × Nat)
  deriving DecidableEq, Repr

/-! ## Host Interface -/

/-- A completion entry (16 bytes, R273). -/
structure Cpl where
  dw0    : Nat
  dw1    : Nat
  sqhd   : Nat
  sqid   : Nat
  cid    : Nat
  status : Nat
  phase  : Bool
  deriving DecidableEq, Repr

/-- What the Host Interface keeps of a queue's shadow doorbell (R274): whether it polls it, the unchanged reads so far, the last
value read, and the EventIdx last written. -/
structure Shadow where
  polled   : Bool
  same     : Nat
  last     : Nat
  eventIdx : Nat
  deriving DecidableEq, Repr

/-- A submission queue: entries, its completion queue, tail, the next entry to fetch, the tag of the Delete command that stopped
it, its shadow doorbell (R272 to R275). -/
structure SubQ where
  size : Nat
  cq   : Nat
  tail : Nat
  head : Nat
  stop : Option Nat
  shadow : Shadow
  deriving DecidableEq, Repr

/-- A completion queue: entries, whether it interrupts and on which vector, tail and head, the phase of the next entry, the
entries posted and not released, and completions that wait for room. -/
structure CplQ where
  size   : Nat
  ien    : Bool
  vec    : Nat
  tail   : Nat
  head   : Nat
  phase  : Bool
  posted : List Cpl
  waiting : List Cpl
  shadow : Shadow
  deriving DecidableEq, Repr

/-- A controller (R269, R276 to R278, R306, R308): CC.EN, CSTS.RDY, whether a reset waits for its tags, whether a shutdown runs,
CSTS.SHST, its feature values (key 256 × CDW11 selector + FID), the tags of its outstanding Asynchronous Event Requests, the
events that wait for one (Dword 0), and whether Doorbell Buffer Config is in force. -/
structure Ctrl where
  en       : Bool
  rdy      : Bool
  resetting : Bool
  shn      : Bool
  shst     : Nat
  features : SMap Nat
  aers     : List Nat
  events   : List Nat
  dbbuf    : Bool
  deriving DecidableEq, Repr

/-- A namespace (R276, R279): zoned or conventional, its size in LBAs, the zone index at which it begins in the directory, the
capacity of a zone, its MAR and MOR share, and the controllers it is attached to. -/
structure Ns where
  zoned    : Bool
  size     : Nat
  zcap     : Nat
  share    : Nat
  attached : Nat
  deriving DecidableEq, Repr

/-- The states of the Zoned Namespace command set (R280). -/
inductive ZState where
  | empty
  | implicitlyOpened
  | explicitlyOpened
  | closed
  | readOnly
  | full
  | offline
  deriving DecidableEq, Repr

/-- A zone (R57 to R59, R65, R280): state, write pointer offset, capacity, ZGEN, the resets since its last sweep, whether a sweep
is owed, the attributes Zone Finished by Controller and Reset Zone Recommended, and the time of its last write. -/
structure Zone where
  st     : ZState
  wp     : Nat
  cap    : Nat
  zgen   : Nat
  resets : Nat
  owed   : Bool
  zfc    : Bool
  rzr    : Bool
  used   : Nat
  deriving DecidableEq, Repr

/-- An Error Information entry (R310, R311): SQID, CID, status, first LBA, NSID, and the number of LBAs lost. -/
structure ErrEntry where
  sqid   : Nat
  cid    : Nat
  status : Nat
  lba    : Nat
  nsid   : Nat
  lost   : Nat
  deriving DecidableEq, Repr

/-- An entry of log page 0xC1 (R286). -/
structure AuditEntry where
  nsid    : Nat
  mode    : Nat
  zslba   : Nat
  time    : Nat
  rows    : Nat
  noHeads : Nat
  rebuilt : Nat
  deriving DecidableEq, Repr

/-- A recorded deferred error (R311, R312): when it was recorded, when the write was posted, the namespace, the first LBA and the
LBAs whose first command reports it, and whether a command, and a Flush, have reported it. -/
structure Deferred where
  time     : Nat
  posted   : Nat
  nsid     : Nat
  lba      : Nat
  len      : Nat
  reported : Bool
  flushed  : Bool
  deriving DecidableEq, Repr

/-- Firmware images (R277, R309): the part downloaded, the two slots, the slots that hold an image, the slot running, the slot
that the next reset starts, and an activation without reset that waits: its tag and slot. -/
structure FwImages where
  image   : SMap Byte
  slots   : SMap (SMap Byte)
  present : Nat
  active  : Nat
  next    : Nat
  pending : Option (Nat × Nat)
  deriving DecidableEq, Repr

/-- The Host Interface beside its registers: the controllers; submission and completion queues (key 2048 × n + queue); whose
turn it is to fetch (controller, queue, fetches left); the submission entry of each tag; the last data moved to the host; held
and sent interrupts (key 2048 × n + vector); the link configuration in force and the ports in training; NumVFs and VF Enable;
the last configuration answer; namespaces; zones (key 2^15 × NSID + zone); logs; deferred errors; firmware images; the
Device Self-test in progress and the results (newest first); the offset that Set Features Timestamp set; the tags not FREE in
the order in which they were fetched. -/
structure Hif where
  ctrls    : SMap Ctrl
  sqs      : SMap (Option SubQ)
  cqs      : SMap (Option CplQ)
  turn     : Nat × Nat × Nat
  sqe      : SMap (List Byte)
  toHost   : Option (Nat × List Byte)
  irqHeld  : SMap Nat
  irqSent  : SMap Nat
  linkCfg  : SMap Nat
  training : SMap Bool
  numVfs   : SMap Nat
  vfEn     : SMap Bool
  cfgAns   : Option (Option Nat)
  nss      : SMap (Option Ns)
  zones    : SMap (Option Zone)
  errLog   : List ErrEntry
  errCount : Nat
  auditLog : List AuditEntry
  changedZones : List (Nat × Nat)
  changedNs : List Nat
  deferred : List Deferred
  fw       : FwImages
  selfTest : Nat
  testLog  : List Nat
  tsOffset : Int
  fetched  : List Nat
  deriving DecidableEq, Repr

/-! ## Command Table -/

/-- A descriptor posted and not yet freed (R295 to R297): its slot, its bind words (tag in 12:0, LAST in 13), whether its TASK has
been sent, whether it closes unsent (R303), the TNUM of its TASK, and whether a discarded upstream packet marked LINK_ERROR
for it (R100). -/
structure Posted where
  slot    : Nat
  binds   : List Nat
  sent    : Bool
  abort   : Bool
  tnum    : Nat
  linkErr : Bool
  deriving DecidableEq, Repr

/-- The CMD block beside its registers, the Command Table and the dispatch slots: the events queued, each dispatch queue's posted
descriptors (oldest first), whether brown-out holds fetch and dispatch, and per tag how many of its tasks closed with a code other
than ABORTED (R292, R295, R302, R315). -/
structure Cmd where
  evq  : List (Nat × Nat)
  dq   : SMap (List Posted)
  hold : Bool
  others : SMap Nat
  deriving DecidableEq, Repr

/-! ## Actuator Link (R91 to R100) -/

/-- A packet on the downstream direction: a TASK with its words and extension words, a DATA with its SIDX and bytes (`bad` when
the Buffer Hub marked it uncorrectable, R327), an ABRT. -/
inductive DnPkt where
  | task (tag tnum : Nat) (words exts : List Nat)
  | data (tag tnum sidx : Nat) (bytes : List Byte) (bad : Bool)
  | abrt (tag tnum : Nat)
  deriving DecidableEq, Repr

/-- A packet on the upstream direction: XRDY, DATA (user bytes, two metadata words, sector status), STAT (its words). -/
inductive UpPkt where
  | xrdy (tag tnum count : Nat)
  | data (tag tnum sidx : Nat) (bytes : List Byte) (m0 m1 st : Nat)
  | stat (tag tnum : Nat) (words : List Nat)
  deriving DecidableEq, Repr

/-- A task at the dispatcher's end, sent and not yet closed: its TAG and TNUM, its slot in the dispatch queue, its kind, the
downstream DATA it may take, what XRDY has granted, what has been sent (R93, R96). -/
structure HubTask where
  tag     : Nat
  tnum    : Nat
  slot    : Nat
  kind    : Nat
  total   : Nat
  granted : Nat
  sent    : Nat
  deriving DecidableEq, Repr

/-- A task that waits in the link's task queue. -/
structure Queued where
  tag   : Nat
  tnum  : Nat
  words : List Nat
  exts  : List Nat
  deriving DecidableEq, Repr

/-- An Actuator Link beside its registers: the task credits held, the next TNUM, the open tasks (oldest first), both directions
(oldest packet first), the waiting tasks, the STATs owed after the STAT of the task in the registers (R98). -/
structure Link where
  credit : Nat
  next   : Nat
  hub    : List HubTask
  down   : List DnPkt
  up     : List UpPkt
  queue  : List Queued
  owed   : List UpPkt
  deriving DecidableEq, Repr

/-! ## Track Sequencer (R101 to R130) -/

/-- What TLN armed: nothing, the start of a window (its position) and an offset, a wedge and an offset, or an offset from the
place of the timeline at which it was armed (R121). -/
inductive Cmp where
  | off
  | window (q : Nat) (tofs : Int)
  | wedge (w : Nat) (tofs : Int)
  | now (tofs : Int)
  deriving DecidableEq, Repr

/-- A sector in the track buffer: the row, the index in the task, user bytes, and for a read the metadata words and status. -/
structure Sector where
  lrow : Nat
  sidx : Nat
  data : List Byte
  m0   : Nat
  m1   : Nat
  st   : Nat
  deriving DecidableEq, Repr

/-- Where a granted window stands: granted, its opening passed R106, not written there, or stale there (R106). -/
inductive WinState where
  | granted
  | proceeding
  | notWritten
  | stale
  deriving DecidableEq, Repr

/-- A granted window not yet closed: position, logical row, state, the heads that had to be armed, those whose frame has begun
and those that completed it, those whose gate dropped, the first CAUSE, the entry's CAUSE and HEADS where not written, whether it
has ended (its group 2 bits are set). -/
structure Win where
  q     : Nat
  lrow  : Nat
  st    : WinState
  heads : Nat
  begun : Nat
  whole : Nat
  dropped : Nat
  cause : Nat
  nwHeads : Nat
  nwCause : Nat
  ended : Bool
  deriving DecidableEq, Repr

/-- A set-point record (Table ARM-4). -/
structure SpRec where
  active : Nat
  hold   : Nat
  write  : Bool
  recentre : Bool
  rseq   : Nat
  target : Int
  off    : SMap Int
  sskew  : SMap Nat
  deriving DecidableEq, Repr

/-- The position unit beside the task registers: the window, next candidate position and logical row, GRPROW, data sectors
of rows closed as written, received, and sent upstream, slack, successive abandons, the row map (newest first), group 1, ROW_RESULT, the run and the rows left in
it, the last window granted in the task (position, row), the last row closed as written, centring: the last record's centre,
SPLIT and the row it was set at, its target heads, the split heads of groups 10 and 11 and of
the last grant, the record computed at the grant, whether SRV 1 has queued one in the task (R105 to R107, R237 to R239). -/
structure Pos where
  win     : Option Win
  q       : Nat
  lrow    : Nat
  grp     : Nat
  done    : Nat
  recv    : Nat
  sent    : Nat
  slack   : Nat
  abn     : Nat
  map     : List Nat
  g1      : Nat
  rowRes  : Bool
  run     : Nat
  left    : Nat
  last    : Option (Nat × Nat)
  lastWritten : Option Nat
  lastC   : Option Int
  split   : Option (Nat × Nat)
  splits  : Nat
  gsplits : Nat
  sp      : Option SpRec
  fed     : Bool
  deriving DecidableEq, Repr

/-- A Track Sequencer beside its registers: work registers, loop counters, flags; the call stack (newest first; `true` marks an
entry pushed for a request); whether microcode runs, and holds a word already acted on; the next extension word; the compare and
TL_HIT; the code set or locked with its REASON; point of no return, ABRT_LATE, whether the task is
a scan (R481), FORCED, REBUILT; the values sampled at the last
check point; maquette store (65,536 × slot + offset) and what of an image has arrived; control store (8 × word + group); nanoseconds since TSQ_ENV was written; the position unit; the track buffer, the parity store
(newest row first) and PAR_READY; RSEQ counted, and waited for, and RECENTRED. -/
structure Tsq where
  w       : SMap Nat
  l       : SMap Nat
  z       : Bool
  n       : Bool
  c       : Bool
  v       : Bool
  stack   : List (Nat × Bool)
  running : Bool
  held    : Bool
  ext     : Nat
  cmp     : Cmp
  tlHit   : Bool
  code    : Option Nat
  reason  : Nat
  ponr    : Bool
  late    : Bool
  scan    : Bool
  forced  : Bool
  rebuilt : Bool
  sTemp   : Nat
  sAge    : Nat
  sEpoch  : Nat
  store   : SMap Byte
  loaded  : Nat
  cs      : SMap Nat
  envNs   : Option Nat
  pos     : Pos
  tbuf    : SMap (Option Sector)
  parity  : List (Nat × List Byte)
  parReady : Bool
  rseq    : Nat
  rseqFor : Nat
  recentred : Bool
  deriving DecidableEq, Repr

/-! ## Gate unit, head-stack interface, write path (R108, R109, R134 to R162, R207 to R231) -/

/-- A frame as the write path forms it: metadata bytes, CRC-32 and LDPC parity beside the user bytes, and how much of it the
lane has carried (R207). -/
structure WFrame where
  user   : List Byte
  info   : List Byte
  crc    : Nat
  parity : Nat
  deriving DecidableEq, Repr

/-- A head's write path and telemetry: monitor faults held (1 ASSIST_MON, 2 CONTACT, 4 MON_MISSING) and the windows without a good
monitor frame, whether one came in this window; the codes of the last WRP 1 (assist, heater), the CODES frame that waits (`true` when WRP 1
queued it) and whether WRP 1's has been sent in full; the last side frame, the MOD frame due; the last frame formed; the last
telemetry FAULT reported (R211, R217, R222 to R224, R152). -/
structure WHead where
  mon    : Nat
  miss   : Nat
  seen   : Bool
  codes  : Option (Nat × Nat)
  due    : Option (Nat × Bool)
  sent   : Bool
  side   : Nat
  modDue : Option Nat
  frame  : Option WFrame
  fault  : Nat
  deriving DecidableEq, Repr

/-- A slot of a row in the read channel: 0 uncaptured, 1 captured and decoding, 2 with a result; its status word (R195), user
bytes, metadata words, the erasure pointers of its capture (start, length), whether the capture has been framed, and whether its
result is final (R204). -/
structure RSlot where
  st   : Nat
  word : Nat
  data : List Byte
  m0   : Nat
  m1   : Nat
  eras : List (Nat × Nat)
  framed : Bool
  final : Bool
  deriving DecidableEq, Repr

/-- A row in the row store: logical row, position, current ladder step, whether a revolution step is pending, the step's register as CHN 4 read it, whether ROW CLOSE has judged
it written, its slots, the rebuild in progress (R197 to R201). -/
structure RRow where
  lrow  : Nat
  q     : Nat
  step  : Nat
  pend  : Bool
  cfg   : Nat
  closed : Bool
  slots : SMap RSlot
  rebuild : Option Nat
  deriving DecidableEq, Repr

/-- The gate unit, head-stack interface, write path and read channel of an actuator beside their registers: the phase last set,
servo window, turnaround gap, the GATE operations held during it (operation, WGM, RGM), the phase the servo window was entered from, the timeline's wedge;
heads armed and up for write and read; whether the controller pulls ASAFE; the transaction on SDA; the heads' write paths; the
read channel's row store (oldest first), the heads that acquire, each input's asperity, its erased-for-the-sector mark and its spare's settling, the heads CHN 1 armed;
whether a loop-back test holds the phase at IDLE (R435). -/
structure Gate where
  phase   : Nat
  servo   : Bool
  gap     : Bool
  held    : List (Nat × Nat × Nat)
  fromW   : Bool
  wedge   : Nat
  wgArm   : Nat
  wg      : Nat
  rgArm   : Nat
  rg      : Nat
  asafe   : Bool
  xact    : Bool
  heads   : SMap WHead
  rows    : List RRow
  acq     : Nat
  ta      : Nat
  taHeld  : Nat
  settling : Nat
  chn     : Nat
  still   : Bool
  deriving DecidableEq, Repr

/-! ## Armature and spindle (R232 to R263) -/

/-- A feed-forward record: the wedge and the heads' values (R238). -/
structure FfRec where
  wedge : Nat
  vals  : SMap Int
  deriving DecidableEq, Repr

/-- A head's demodulated field of the wedge (R233, R234). -/
structure Demod where
  found : Bool
  y     : Int
  deriving DecidableEq, Repr

/-- An Armature beside its registers: reference p, velocity v, acceleration a, the TARGET in force and the one that waits for an
outer step; integrator and filter states (key 2i, 2i + 1: z1, z2 of VCM biquad i; 16 + 2h, 17 + 2h: head h's), the commands last
formed; the error mean of the previous wedge; the record in use (`none` until the first since OFF) and those that have crossed
(`none` an end record), feed-forward records, whether a record has been taken and no end record since, whether the inhibit bits
follow their evaluation (R249); the RSEQ it returns; the wedge's demodulator records, each head's previous position, TEMP of the
records; wedges since OFF; the temperature band; saturation counts; shock hold (wedges to go, this one included) and the driver's
SHOCK; wedges missed per head, wedges with no active field found; wedges found in LOAD per head, wedges in LOAD; wedges on track in
SETTLE; the command for the next wedge; timeline lock; SDL sequence and last frame. -/
structure Arm where
  p       : Int
  v       : Int
  a       : Int
  tgt     : Int
  target  : Option Int
  xi      : Int
  z       : SMap Int
  uv      : Int
  um      : SMap Int
  em      : Option Int
  use     : Option SpRec
  inbox   : List (Option SpRec)
  ffs     : List FfRec
  fed     : Bool
  fresh   : Bool
  rseq    : Nat
  demods  : SMap Demod
  lastY   : SMap (Option Int)
  temp    : Int
  wedges  : Nat
  band    : Nat
  satV    : Nat
  satM    : SMap Nat
  shock   : Nat
  shocked : Bool
  missed  : SMap Nat
  noField : Nat
  seen    : SMap Nat
  inLoad  : Nat
  settled : Nat
  cmd     : Option Nat
  locked  : Bool
  sdlSeq  : Nat
  sdl     : Nat
  deriving DecidableEq, Repr

/-- The spindle controller (R260): the integrator, the frame count, the last frame. -/
structure Spl where
  integ : Int
  seq   : Nat
  frame : Nat
  deriving DecidableEq, Repr

/-- What belongs to one actuator beside its Track Sequencer. -/
structure Act where
  link : Link
  gate : Gate
  arm  : Arm
  deriving DecidableEq, Repr

/-! ## Keep flash (R353 to R373) -/

/-- The info row of a sector (R359). -/
structure KInfo where
  count  : Nat
  pulses : Nat
  warn   : Bool
  deriving DecidableEq, Repr

/-- A protection region: first sector, sectors, password, unlock latch (R367). -/
structure KRegion where
  start : Nat
  count : Nat
  pw    : Option Nat
  latch : Bool
  deriving DecidableEq, Repr

/-- The pending intent record of a bank: sector, OLD_COUNT, OLD_WARN (R363 to R365). -/
structure KPend where
  sector : Nat
  count  : Nat
  warn   : Bool
  deriving DecidableEq, Repr

/-- A Keep command under way: OP, address, region, what it captured at issue (KEEP_ARG.COUNT, the password, the pulse limits, the
program latch), the spare a REMAP goes to, its page (0 erasing, 1 to 16 copying), pulses so far, COUNT and WARN of the sector being
erased, and its result once decided. -/
structure KCmd where
  op     : Nat
  addr   : Nat
  region : Nat
  arg    : Nat
  pw     : Nat
  soft   : Nat
  hard   : Nat
  latch  : List Byte
  spare  : Nat
  page   : Nat
  pulses : Nat
  count  : Nat
  warn   : Bool
  result : Option Nat
  deriving DecidableEq, Repr

/-- The Keep die and its controller: the cells (offset K; 2^27 + 2^18 × bank + 4,096 × spare for a spare sector), the info rows
(sector; 32,768 + 64 × bank + spare), the remap table (spare + 1, 0 none), spares used and intent SEQ of each bank, the pending
records, the commands under way, OP and RESULT of the last of each bank, whether each bank has been scanned, the regions, the wrong
UNLOCKs, the last INFO (LO, HI), whether brown-out is asserted, and the stream under way (SRC, DST, LEN, and the bytes it ends after once STOP is written). -/
structure Keep where
  cells   : SMap Byte
  info    : SMap KInfo
  remap   : SMap Nat
  used    : SMap Nat
  seq     : SMap Nat
  pend    : SMap (Option KPend)
  cmd     : SMap (Option KCmd)
  lastOp  : SMap Nat
  lastRes : SMap Nat
  scanned : SMap Bool
  regions : SMap KRegion
  pwFail  : Nat
  infoLo  : Nat
  infoHi  : Nat
  brown   : Bool
  stream  : Option (Nat × Nat × Nat × Option Nat)
  deriving DecidableEq, Repr

/-! ## The whole machine -/

/-- The spindle of the part and everything else the commands act on. -/
structure Dev where
  plat : Plat
  sys  : Sys
  thm  : Thm
  mgt  : Mgt
  buf  : Buf
  sec  : Sec
  bcl  : Bcl
  hif  : Hif
  cmd  : Cmd
  keep : Keep
  spl  : Spl
  act0 : Act
  act1 : Act
  act2 : Act
  act3 : Act
  tsq0 : Tsq
  tsq1 : Tsq
  tsq2 : Tsq
  tsq3 : Tsq
  tsq4 : Tsq
  deriving DecidableEq, Repr

/-- The machine: the commands that wait, first in first out, and the part. -/
structure State where
  pending : List Instr
  dev     : Dev
  deriving DecidableEq, Repr

/-- What stops a run as a fault: nothing does. The manual gives every command an effect in every state, a bus error among them, so
no meaning and no step raises a fault, and the type has no constructor. -/
inductive Fault where
  deriving DecidableEq, Repr

/-- What the model refuses. -/
inductive Refusal where
  /-- A command whose meaning is not written, by the mnemonic of its row: raised by `exec` alone, and safe. No arm raises it now. -/
  | notModelled (mnemonic : String)
  deriving DecidableEq, Repr

/-! ## Reset -/

/-- A link without packets or tasks, its credits as after a link reset (Table TSQ-3). -/
def freshLink : Link := ⟨2, 0, [], [], [], [], []⟩

/-- The position unit before a task enters. -/
def posReset : Pos := ⟨none, 0, 0, 0, 0, 0, 0, 0, 0, [], 0, false, 0, 0, none, none, none, none, 0, 0, none, false⟩

/-- A Track Sequencer after reset: stores empty, no task, TSQ_ENV not written. -/
def tsqReset : Tsq :=
  { w := [], l := [], z := false, n := false, c := false, v := false, stack := [], running := false, held := false, ext := 0,
    cmp := .off, tlHit := false, code := none, reason := 0, ponr := false, late := false, scan := false, forced := false,
    rebuilt := false, sTemp := 0, sAge := 0, sEpoch := 0, store := [], loaded := 0, cs := [], envNs := none, pos := posReset,
    tbuf := [], parity := [], parReady := false, rseq := 0, rseqFor := 0, recentred := false }

/-- A gate unit, write path and read channel after reset: IDLE, no gate armed or up, the row store empty. -/
def gateReset : Gate :=
  { phase := 0, servo := false, gap := false, held := [], fromW := false, wedge := 0, wgArm := 0, wg := 0, rgArm := 0, rg := 0,
    asafe := false, xact := false, heads := [], rows := [], acq := 0, ta := 0, taHeld := 0, settling := 0, chn := 0,
    still := false }

/-- An Armature after a reset of the actuator or the switch-on of its domain (R243). -/
def armReset : Arm :=
  { p := 0, v := 0, a := 0, tgt := 0, target := none, xi := 0, z := [], uv := 0, um := [], em := none, use := none, inbox := [],
    ffs := [], fed := false, fresh := false, rseq := 0, demods := [], lastY := [], temp := 0, wedges := 0, band := 0, satV := 0,
    satM := [], shock := 0, shocked := false, missed := [], noField := 0, seen := [], inLoad := 0, settled := 0, cmd := none,
    locked := false, sdlSeq := 0, sdl := 0 }

/-- What belongs to one actuator, after reset. -/
def actReset : Act := ⟨freshLink, gateReset, armReset⟩

/-- What every block shares, after power-on reset. -/
def platReset : Plat :=
  { regs := [], hold := [], cap := [], resp := 0, time := 0, frz := ⟨[], [], none, 0, 0⟩, trc := ⟨[], 0, 0, false, none⟩,
    lostUnit := [], standby := false, stgShown := false, effTime := [], free := 0 }

/-- The SYS block after a chip reset, held in it. -/
def sysReset (por : Bool) : Sys :=
  { cores := [], boot := .inReset por, sram := [], claimant := [], wdtT1 := 0, wdtT2 := 0, wdtNs := 0, console := [], conOut := [],
    detector := false, status := none }

/-- Thermal supervision after reset. -/
def thmReset : Thm :=
  { railP := [], hist := [], valid := [], mism := [], demand := [], tripCnt := [], rateOn := false, pDemand := 0, capSum := 0,
    capN := 0, band := none, oscTrim := 0, refTrim := [], refWait := [], tripped := none, pclTx := [] }

/-- The MGT block after reset: SMBus at 100 kHz, transmission unit 64 bytes (R455, R456). -/
def mgtReset : Mgt :=
  { mbox := [], held := false, waiting := [], answer := ⟨.success, []⟩, answers := 0, smbFreq := 1, mctpUnit := 64, rem := 0,
    mark := none, prevMark := none }

/-- The buffer and the stage cache after reset: nothing held. -/
def bufReset : Buf :=
  { dram := [], werr := [], perr := [], hard := [], derate := 0, lines := [], order := [], victims := [], wbuf := [], op := none,
    wayClean := 0 }

/-- The crypto block after reset: every slot empty. -/
def secReset : Sec := ⟨[], none, [], false⟩

/-- The BCL block after reset: no test under way. -/
def bclReset : Bcl := ⟨none, none⟩

/-- The Host Interface of a new part: no namespace, image slot 1 holding the image that runs. -/
def hifReset : Hif :=
  { ctrls := [], sqs := [], cqs := [], turn := (0, 0, 0), sqe := [], toHost := none, irqHeld := [], irqSent := [], linkCfg := [],
    training := [], numVfs := [], vfEn := [], cfgAns := none, nss := [], zones := [], errLog := [], errCount := 0, auditLog := [],
    changedZones := [], changedNs := [], deferred := [], fw := ⟨[], [], 2, 1, 1, none⟩, selfTest := 0, testLog := [],
    tsOffset := 0, fetched := [] }

/-- The CMD block after reset. -/
def cmdReset : Cmd := ⟨[], [], false, []⟩

/-- The Keep of a new part: erased, no region defined, nothing under way, not yet scanned. -/
def keepNew : Keep :=
  { cells := [], info := [], remap := [], used := [], seq := [], pend := [], cmd := [], lastOp := [], lastRes := [], scanned := [],
    regions := [], pwFail := 0, infoLo := 0, infoHi := 0, brown := false, stream := none }

/-- The spindle controller after reset. -/
def splReset : Spl := ⟨0, 0, 0⟩

/-- A new part held in power-on reset: every register at its Reset value (R14), nothing else held. -/
def Dev.reset : Dev :=
  { plat := platReset, sys := sysReset true, thm := thmReset, mgt := mgtReset, buf := bufReset, sec := secReset, bcl := bclReset,
    hif := hifReset, cmd := cmdReset, keep := keepNew, spl := splReset, act0 := actReset, act1 := actReset, act2 := actReset,
    act3 := actReset, tsq0 := tsqReset, tsq1 := tsqReset, tsq2 := tsqReset, tsq3 := tsqReset, tsq4 := tsqReset }

/-- The machine right after power-on reset, with no command waiting. -/
def State.reset : State := ⟨[], Dev.reset⟩

end Sys2Proof.Machine
end

