-- ==== Sys2Proof/Machine/Plat.lean ====
section
/-! DEFINITION. The operations on what every block shares: reading and writing a register field, counters, bus errors, posting
a Frieze event, queueing a trace message, and deriving the effective Unit States. -/

namespace Sys2Proof.Machine

/-! ## Registers -/

/-- The word of a register. -/
def Plat.rd (p : Plat) (a : Nat) : Word := SMap.get resetWord p.regs a

/-- Write the word of a register. -/
def Plat.wr (p : Plat) (a : Nat) (w : Word) : Plat := { p with regs := SMap.set resetWord p.regs a w }

/-- The number in a field of a register. -/
def Plat.fld (p : Plat) (a : Nat) (f : Fld) : Nat := Fld.get f (p.rd a)

/-- Whether a one-bit field of a register is 1. -/
def Plat.bit (p : Plat) (a : Nat) (f : Fld) : Bool := p.fld a f != 0

/-- The two's-complement number in a field of a register. -/
def Plat.sfld (p : Plat) (a : Nat) (f : Fld) : Int := signed f.w (p.fld a f)

/-- Put a number into a field of a register. -/
def Plat.setFld (p : Plat) (a : Nat) (f : Fld) (v : Nat) : Plat := p.wr a (Fld.put f (p.rd a) v)

/-- Set a one-bit field of a register (an event flag sets and stays set until cleared, R12). -/
def Plat.setFlag (p : Plat) (a : Nat) (f : Fld) : Plat := p.setFld a f 1

/-- Put a Boolean into a one-bit field of a register. -/
def Plat.putBit (p : Plat) (a : Nat) (f : Fld) (b : Bool) : Plat := p.setFld a f (if b then 1 else 0)

/-- Set a one-bit field if the condition holds. -/
def Plat.setFlagIf (p : Plat) (c : Bool) (a : Nat) (f : Fld) : Plat := if c then p.setFlag a f else p

/-- The write of a firmware word to a register: RW bits take the written value, W1C bits written 1 clear, all other bits stay
(Table SCO-3, R13). -/
def writeMasks (d : RegDesc) (old v : Word) : Word :=
  let rw := BitVec.ofNat 32 d.rw
  let w1c := BitVec.ofNat 32 d.w1c
  ((old &&& ~~~ rw) ||| (v &&& rw)) &&& ~~~ (v &&& w1c)

/-- The bits of a written word that act on WO fields. -/
def woBits (d : RegDesc) (v : Word) : Word := v &&& BitVec.ofNat 32 d.wo

/-- A firmware write of a register: the effect of Table SCO-3 on its stored fields, nothing where no register is. -/
def Plat.fwWrite (p : Plat) (a : Nat) (v : Word) : Plat :=
  match regDesc a with
  | none => p
  | some d => p.wr a (writeMasks d (p.rd a) v)

/-! ## Power domains -/

/-- Whether power domain `d` is on: bit d of PWR_STAT (R402). -/
def Plat.on (p : Plat) (d : Nat) : Bool :=
  if d < 32 then (p.rd Reg.PWR_STAT_LO).getLsbD d else (p.rd Reg.PWR_STAT_HI).getLsbD (d - 32)

/-- Switch the PWR_STAT bit of domain `d`. -/
def Plat.setOn (p : Plat) (d : Nat) (b : Bool) : Plat :=
  if d < 32 then p.putBit Reg.PWR_STAT_LO ⟨d, 1⟩ b else p.putBit Reg.PWR_STAT_HI ⟨d - 32, 1⟩ b

/-! ## Counters (R394) -/

/-- The count a LO and HI pair holds. -/
def Plat.count (p : Plat) (lo : Nat) : Nat := (p.rd lo).toNat + 2 ^ 32 * ((p.rd (lo + 4)).toNat % 2 ^ 16)

/-- The SAT bit of a counter's HI word. -/
def satFld : Fld := ⟨31, 1⟩

/-- The count bits of a counter's HI word. -/
def cntHiFld : Fld := ⟨0, 16⟩

/-- Count `k` events on the counter at `lo`: it stops at 0xFFFF_FFFF_FFFF, where SAT and the block's CNT_SAT flag set. -/
def Plat.bump (p : Plat) (lo k : Nat) (evt : Nat) (sat : Fld) : Plat :=
  let c := p.count lo
  if k = 0 ∨ p.bit (lo + 4) satFld then p
  else if c + k < 2 ^ 48 - 1 then
    (p.wr lo (BitVec.ofNat 32 (c + k))).setFld (lo + 4) cntHiFld ((c + k) / 2 ^ 32)
  else
    (((p.wr lo (BitVec.ofNat 32 (2 ^ 32 - 1))).setFld (lo + 4) cntHiFld (2 ^ 16 - 1)).setFlag (lo + 4) satFld).setFlag evt sat

/-! ## Free values -/

/-- The next free value and the state that has used it. -/
def Plat.freeVal (p : Plat) : Nat := Config.freeBits p.free

/-- One free value has been used. -/
def Plat.useFree (p : Plat) : Plat := { p with free := p.free + 1 }

/-! ## Bus errors (R392) -/

/-- A bus error of an access by core `core`: SYS_BERR records the first, OVER a further one, SYS_CNT1 counts it. -/
def Plat.busErr (p : Plat) (a core : Nat) (write : Bool) (kind : Nat) : Plat :=
  let p := p.bump (Reg.SYS_CNT_LO 1) 1 Reg.SYS_EVT Fld.SYS_EVT_CNT_SAT
  if p.bit Reg.SYS_BERR_HI Fld.SYS_BERR_HI_VALID then p.setFlag Reg.SYS_BERR_HI Fld.SYS_BERR_HI_OVER
  else
    (p.wr Reg.SYS_BERR_LO (BitVec.ofNat 32 a)).wr Reg.SYS_BERR_HI
      (BitVec.ofNat 32 (2 ^ 31 + core % 4 * 2 ^ 28 + (if write then 2 ^ 27 else 0) + kind % 16 * 2 ^ 16 + a / 2 ^ 32 % 256))

/-! ## Posting to the Frieze (R26, R448) -/

/-- Bytes of a 16-bit value, and of a 32-bit value, little-endian. -/
def le2 (v : Nat) : List Byte := leBytes 2 v

/-- Bytes of a 32-bit value, little-endian. -/
def le4 (v : Nat) : List Byte := leBytes 4 v

/-- Bytes of a 64-bit value, little-endian. -/
def le8 (v : Nat) : List Byte := leBytes 8 v

/-- How many events of a source wait in its posting queue. -/
def Frz.waiting (f : Frz) (src : Nat) : Nat := (f.queue.filter (fun e => e.src == src)).length

/-- An event is lost: FRZ_LOST counts it and FRZ_EVT.LOST sets (R448). -/
def Plat.frzLose (p : Plat) (t : BitVec 64) : Plat :=
  let p := (p.bump Reg.FRZ_LOST_LO 1 Reg.FRZ_EVT Fld.FRZ_EVT_CNT_SAT).setFlag Reg.FRZ_EVT Fld.FRZ_EVT_LOST
  { p with frz := { p.frz with
      lostN := p.frz.lostN + 1
      lostTime := if p.frz.lostN = 0 then t else p.frz.lostTime } }

/-- Post an event: it enters its source's four-entry queue, or is lost when that queue is full (R26). -/
def Plat.postEvent (p : Plat) (src typ : Nat) (fw : Bool) (payload : List Byte) : Plat :=
  if p.frz.waiting src < 4 then
    let p := { p with frz := { p.frz with queue := p.frz.queue ++ [FrzEvent.mk p.time src typ fw payload] } }
    if src = 256 then p.setFld Reg.FRZ_STATUS Fld.FRZ_STATUS_POSTQ (p.frz.waiting 256) else p
  else p.frzLose p.time

/-- A hardware event of Table FRZ-2. -/
def Plat.post (p : Plat) (src typ : Nat) (payload : List Byte) : Plat := p.postEvent src typ false payload

/-! ## Trace messages (R455) -/

/-- Put one message into the trace FIFO, or drop it when the FIFO is full. -/
def Plat.trcPut (p : Plat) (kind : Nat) (bytes : List Byte) (t : BitVec 64) : Plat :=
  if p.trc.fifo.length < 256 then
    let p := { p with trc := { p.trc with fifo := p.trc.fifo ++ [TrcMsg.mk kind bytes], prev := t } }
    p.setFld Reg.TRC_STAT Fld.TRC_STAT_LEVEL p.trc.fifo.length
  else
    let p := p.setFlag Reg.TRC_STAT Fld.TRC_STAT_DROP
    { p with trc := { p.trc with dropped := min 0xFFFF (p.trc.dropped + 1) } }

/-- Queue a SYNC, which carries the time base. -/
def Plat.trcSync (p : Plat) : Plat :=
  let p := p.trcPut 1 (le8 p.time.toNat) p.time
  { p with trc := { p.trc with syncDue := false } }

/-- Queue a message that ends with DELTA, after a SYNC when one is due or DELTA would exceed 65,535; nothing while the port is
disabled. -/
def Plat.trcMsg (p : Plat) (kind : Nat) (body : List Byte) : Plat :=
  if p.bit Reg.TRC_CFG Fld.TRC_CFG_EN then
    let far : Bool := decide (65535 < (p.time - p.trc.prev).toNat)
    let p := if p.trc.syncDue || far then p.trcSync else p
    p.trcPut kind (body ++ le2 (p.time - p.trc.prev).toNat) p.time
  else p

/-- A TAG message: unit and TRC tag of an issued microword (R116), when its TRC_CFG bit enables it. -/
def Plat.trcTag (p : Plat) (unit tag : Nat) : Plat :=
  if (p.fld Reg.TRC_CFG Fld.TRC_CFG_TAG).testBit unit then
    p.trcMsg 2 [BitVec.ofNat 8 unit, BitVec.ofNat 8 tag] else p

/-- An FW message: core and value. -/
def Plat.trcFw (p : Plat) (core : Nat) (v : Word) : Plat :=
  if p.bit Reg.TRC_CFG Fld.TRC_CFG_FW then
    p.trcMsg 3 (BitVec.ofNat 8 core :: le4 v.toNat) else p

/-- A FRZ message: TYPE and SRC of a record or REPEAT change written. -/
def Plat.trcFrz (p : Plat) (typ src : Nat) : Plat :=
  if p.bit Reg.TRC_CFG Fld.TRC_CFG_FRZ then p.trcMsg 4 (le2 typ ++ le2 src) else p

/-! ## Unit states (R458, R459) -/

/-- The actuator that Track Sequencer `t` serves: `t` itself below 4; the spare serves HOST while attached (R128). -/
def Plat.servedBy (p : Plat) (a : Nat) : Nat :=
  if p.bit (Reg.TSQ_CTRL 4) Fld.TSQ_CTRL_ATTACH ∧ p.fld (Reg.TSQ_CTRL 4) Fld.TSQ_CTRL_HOST = a then 4 else a

/-- The effective state of actuator `a` (R459). -/
def Plat.effAct (p : Plat) (a : Nat) : Nat :=
  if SMap.get (fun _ => 0) p.lostUnit (32 + a) ≠ 0 ∧ p.on (4 * a + 3) then 4
  else if ¬ (p.on (4 * a + 2) ∧ p.on (4 * a + 3)) then 0
  else if p.bit (Reg.TSQ_CTRL (p.servedBy a)) Fld.TSQ_CTRL_RUN then 1
  else 2

/-- The effective state of head `h` of actuator `a` (R459). -/
def Plat.effHead (p : Plat) (a h : Nat) : Nat :=
  if SMap.get (fun _ => 0) p.lostUnit (8 * a + h) ≠ 0 ∧ p.on (4 * a + 3) ∧ p.bit (Reg.ARM_HEAD a h) Fld.ARM_HEAD_EN then 4
  else if p.effAct a = 0 then 0
  else if p.bit (Reg.ARM_HEAD a h) Fld.ARM_HEAD_EN = false then 3
  else p.effAct a

/-- The effective state of unit `u`: head u mod 8 of actuator u / 8, or actuator u − 32. -/
def Plat.effUnit (p : Plat) (u : Nat) : Nat :=
  if u < 32 then p.effHead (u / 8) (u % 8) else p.effAct (u - 32)

/-- Post a UNIT_STATE record of unit `u`: source, kind 0 change or 1 disagreement. -/
def Plat.postUnit (p : Plat) (u src kind : Nat) : Plat :=
  p.post src 0x000C [BitVec.ofNat 8 u, BitVec.ofNat 8 (p.fld (Reg.MGT_US u) Fld.MGT_US_REQ),
    BitVec.ofNat 8 (p.fld (Reg.MGT_US u) Fld.MGT_US_EFF), BitVec.ofNat 8 kind]

/-- DIS clears when the fields of a unit agree (R462). -/
def Plat.agree (p : Plat) (u : Nat) : Plat :=
  if p.fld (Reg.MGT_US u) Fld.MGT_US_REQ = p.fld (Reg.MGT_US u) Fld.MGT_US_EFF then
    p.setFld (Reg.MGT_US u) Fld.MGT_US_DIS 0 else p

/-- Bring one unit's effective field to `v`: a change sets MGT_EVT.EFF and posts a UNIT_STATE record of kind 0. -/
def Plat.setEff (p : Plat) (u v : Nat) : Plat :=
  if p.fld (Reg.MGT_US u) Fld.MGT_US_EFF = v then p
  else
    let q := (((p.setFld (Reg.MGT_US u) Fld.MGT_US_EFF v).setFlag Reg.MGT_EVT Fld.MGT_EVT_EFF).postUnit u 113 0).agree u
    { q with effTime := SMap.set (fun _ => 0) q.effTime u p.time.toNat }

/-- Derive the effective fields of an actuator and its heads anew (R459). -/
def Plat.updateUnits (p : Plat) (a : Nat) : Plat :=
  [8 * a, 8 * a + 1, 8 * a + 2, 8 * a + 3, 8 * a + 4, 8 * a + 5, 8 * a + 6, 8 * a + 7, 32 + a].foldl
    (fun q u => q.setEff u (p.effUnit u)) p

end Sys2Proof.Machine
end

