-- ==== Sys2Proof/Machine/Flags.lean ====
section
/-! DEFINITION. The flags behind each interrupt source (Table ARC-11 and each chapter's Interrupt sources section), and the
level of each source (R383); and what a read of a register returns and does. -/

namespace Sys2Proof.Machine

/-- The flags (register, mask) behind the sources of block `0` to `127` and the Plinth's 208 to 211. -/
def blockIrq (src : Nat) : List (Nat × Nat) :=
  match src with
  | 0 => [(Reg.SYS_WDT_STAT, 0x80000000)]
  | 1 => [(Reg.SYS_BERR_HI, 0x80000000)]
  | 2 => [(Reg.SYS_EVT, 0x2)]
  | 3 => [(Reg.SYS_EVT, 0x5)]
  | 4 => [(Reg.SYS_EVT, 0x8), (Reg.SYS_WDT_STAT, 0x40000000)]
  | 16 => [(Reg.HIF_EVT, 0x1)]
  | 17 => [(Reg.HIF_EVT, 0x2)]
  | 18 => [(Reg.HIF_EVT, 0x4)]
  | 19 => [(Reg.HIF_EVT, 0x8)]
  | 20 => [(Reg.HIF_EVT, 0x10)]
  | 21 => [(Reg.HIF_EVT, 0x20)]
  | 22 => [(Reg.HIF_EVT, 0x40)]
  | 23 => [(Reg.HIF_EVT, 0x80)]
  | 48 => [(Reg.CMD_EVQ, 0x80000000)]
  | 49 => [(Reg.CMD_EVT, 0x3)]
  | 64 => [(Reg.BUF_EVT, 0x8)]
  | 65 => [(Reg.BUF_EVT, 0x10)]
  | 66 => [(Reg.BUF_EVT, 0x20)]
  | 67 => [(Reg.BUF_EVT, 0x1)]
  | 68 => [(Reg.BUF_EVT, 0xC0)]
  | 72 => [(Reg.STC_STATUS, 0x1)]
  | 73 => [(Reg.STC_STATUS, 0xC)]
  | 74 => [(Reg.STC_STATUS, 0x2)]
  | 75 => [(Reg.STC_EVT, 0x1)]
  | 80 => [(Reg.SEC_EVT, 0x1)]
  | 81 => [(Reg.SEC_EVT, 0x2)]
  | 82 => [(Reg.SEC_EVT, 0x18)]
  | 83 => [(Reg.SEC_EVT, 0x24)]
  | 88 => [(Reg.KEEP_EVT, 0x1)]
  | 89 => [(Reg.KEEP_EVT, 0xA00)]
  | 90 => [(Reg.KEEP_EVT, 0x6)]
  | 91 => [(Reg.KEEP_EVT, 0x10)]
  | 92 => [(Reg.KEEP_EVT, 0x40)]
  | 93 => [(Reg.KEEP_EVT, 0xA8)]
  | 94 => [(Reg.KEEP_EVT, 0x500)]
  | 96 => [(Reg.THM_EVT, 0x1)]
  | 97 => [(Reg.THM_EVT, 0x2)]
  | 98 => [(Reg.THM_EVT, 0x4)]
  | 99 => [(Reg.THM_EVT, 0x8)]
  | 100 => [(Reg.THM_EVT, 0x10)]
  | 101 => [(Reg.THM_EVT, 0x60)]
  | 104 => [(Reg.FRZ_EVT, 0x1)]
  | 105 => [(Reg.FRZ_EVT, 0x2)]
  | 106 => [(Reg.FRZ_EVT, 0x4)]
  | 107 => [(Reg.FRZ_EVT, 0x18)]
  | 112 => [(Reg.MGT_EVT, 0x1)]
  | 113 => [(Reg.MGT_EVT, 0x2)]
  | 114 => [(Reg.MGT_EVT, 0x4)]
  | 115 => [(Reg.MGT_EVT, 0x8)]
  | 116 => [(Reg.MGT_EVT, 0x10)]
  | 117 => [(Reg.MGT_MBOX, 0xFFF)]
  | 120 => [(Reg.BCL_EVT, 0x1)]
  | 121 => [(Reg.BCL_EVT, 0x2)]
  | 122 => [(Reg.BCL_EVT, 0x4)]
  | 123 => [(Reg.BCL_EVT, 0x8)]
  | 124 => [(Reg.TRC_SNAP_STAT, 0x40000000)]
  | 125 => [(Reg.TRC_STAT, 0x80000000)]
  | 208 => [(Reg.PWR_EVT, 0x1)]
  | 209 => [(Reg.PWR_EVT, 0x2)]
  | 210 => [(Reg.SYS_PL_EVT, 0x1)]
  | 211 => [(Reg.SYS_PL_EVT, 0x2)]
  | _ => []

/-- The level behind source 139 + 16n, which no register shows: 1 from the end of a preamp transaction until HSI_PCMD next starts
one. DESIGN CHOICE (log entry 30): R162 raises the source when a transaction ends and names nothing that clears it. -/
def xactEnded (n : Nat) : Nat := Reg.HSI_PSTAT n + 2

/-- The flags behind source `128 + 16n + k` of actuator `n` (R130, R162, R183, R206, R230, R262). -/
def actIrq (n k : Nat) : List (Nat × Nat) :=
  match k with
  | 0 => [(Reg.TSQ_STATUS n, 0x40000000)]
  | 1 => [(Reg.TSQ_STATUS n, 0x4)]
  | 2 => [(Reg.LNK_ERR n, 0x7)]
  | 3 => [(Reg.TSQ_STATUS n, 0x04000000)]
  | 4 => (Reg.RFE_SPARE_STAT n, 0x2) :: (List.range 8).map (fun h => (Reg.RFE_EVT n h, 0x7))
  | 5 => (List.range 8).map (fun h => (Reg.DET_EVT n h, 0xF))
  | 6 => [(Reg.DET_SPARE_STAT n, 0x2)]
  | 8 => [(Reg.WRP_EVT n, 0x3F)]
  | 10 => [(Reg.HSI_FLT n, 0x3FF)]
  | 11 => [(xactEnded n, 0x1)]
  | 12 => [(Reg.ARM_EVT n, 0x1)]
  | 13 => [(Reg.ARM_EVT n, 0xC)]
  | 14 => [(Reg.ARM_EVT n, 0x2)]
  | 15 => [(Reg.ARM_EVT n, 0x3F0)]
  | _ => []

/-- The flags behind the spare Track Sequencer's source `192 + k` (Table TSQ-19). -/
def spareIrq (k : Nat) : List (Nat × Nat) :=
  match k with
  | 0 => [(Reg.TSQ_STATUS 4, 0x40000000)]
  | 1 => [(Reg.TSQ_STATUS 4, 0x4)]
  | 3 => [(Reg.TSQ_STATUS 4, 0x04000000)]
  | _ => []

/-- The flags behind interrupt source `src`. -/
def irqFlags (src : Nat) : List (Nat × Nat) :=
  if src < 128 then blockIrq src
  else if src < 192 then actIrq ((src - 128) / 16) ((src - 128) % 16)
  else if src < 208 then spareIrq (src - 192)
  else blockIrq src

/-- Whether source `src` is asserted: a flag behind it is 1, or its HUB_SWI bit (R383, R386). -/
def Plat.asserted (p : Plat) (src : Nat) : Bool :=
  if 224 ≤ src then (p.rd Reg.HUB_SWI).getLsbD (src - 224)
  else if src = 194 then
    p.bit (Reg.TSQ_CTRL 4) Fld.TSQ_CTRL_ATTACH && p.rd (Reg.LNK_ERR (p.fld (Reg.TSQ_CTRL 4) Fld.TSQ_CTRL_HOST)) != 0
  else (irqFlags src).any (fun f => p.rd f.1 &&& BitVec.ofNat 32 f.2 != 0)

/-- Whether source `i` is pending: asserted and not in service (R383). -/
def Plat.pendingSrc (p : Plat) (i : Nat) : Bool := p.asserted i && !p.bit (Reg.HUB_SRC i) Fld.HUB_SRC_INSVC

/-- What HUB_SRCi reads: its stored fields with the level and the pending bit. -/
def Plat.hubSrc (p : Plat) (i : Nat) : Word :=
  Fld.put Fld.HUB_SRC_PEND (Fld.put Fld.HUB_SRC_ASSERTED (p.rd (Reg.HUB_SRC i)) (if p.asserted i then 1 else 0))
    (if p.pendingSrc i then 1 else 0)

/-- What HUB_PENDj reads: bit b is whether source 32j + b is pending. -/
def Plat.hubPend (p : Plat) (j : Nat) : Word :=
  BitVec.ofNat 32 ((List.range 32).foldl (fun acc b => if p.pendingSrc (32 * j + b) then acc + 2 ^ b else acc) 0)

/-! ## Reading a register as a core does (R388, R391, R395, R397) -/

/-- What a read of a register address returns: 0xFFFF_FFFF where no register is or its domain is off; the time base; the
holding register of a counter while HOLD is 1; the captured HI half after a LO read; WO fields read 0. -/
def Plat.peek (p : Plat) (a : Nat) : Word :=
  match regDesc a with
  | none => 0xFFFFFFFF
  | some d =>
    if p.on (domainOf a) then
      if 0x40001000 ≤ a ∧ a < 0x40001400 then p.hubSrc ((a - 0x40001000) / 4)
      else if 0x40001400 ≤ a ∧ a < 0x40001420 then p.hubPend ((a - 0x40001400) / 4)
      else if a = Reg.SYS_TIME_LO then BitVec.ofNat 32 p.time.toNat
      else if a = Reg.SYS_TIME_HI then
        (SMap.get (fun _ => none) p.cap a).getD (BitVec.ofNat 32 (p.time.toNat / 2 ^ 32))
      else if Reg.SEC_KEYSTG 0 ≤ a ∧ a ≤ Reg.SEC_KEYSTG 17 ∧ p.stgShown = false then 0
      else if d.cnt = 0 then p.rd a &&& ~~~ BitVec.ofNat 32 d.wo
      else
        let live := if p.bit Reg.TRC_SNAP Fld.TRC_SNAP_HOLD then SMap.get (fun _ => 0) p.hold a else p.rd a
        if d.cnt = 2 then (SMap.get (fun _ => none) p.cap a).getD live else live
    else 0xFFFFFFFF

/-- Keep a captured HI half for the next read of the HI register at `a`. -/
def Plat.setCap (p : Plat) (a : Nat) (w : Word) : Plat := { p with cap := SMap.set (fun _ => none) p.cap a (some w) }

/-- What a read of a LO half does beside returning its word: it captures the HI half (R395). -/
def Plat.capture (p : Plat) (a : Nat) : Plat :=
  match regDesc a with
  | none => p
  | some d =>
    if p.on (domainOf a) then
      if a = Reg.SYS_TIME_LO then
        p.setCap (a + 4) (BitVec.ofNat 32 (p.time.toNat / 2 ^ 32))
      else if d.cnt = 1 then
        p.setCap (a + 4)
          (if p.bit Reg.TRC_SNAP Fld.TRC_SNAP_HOLD then SMap.get (fun _ => 0) p.hold (a + 4) else p.rd (a + 4))
      else p
    else p

end Sys2Proof.Machine
end

