-- ==== Sys2Proof/Machine/BufferOps.lean ====
section
/-! DEFINITION. Buffer DRAM behind its codes, retirement, initialisation, the scrubber, and the stage cache (R318 to R348). -/

namespace Sys2Proof.Machine

/-! ## Geometry (R320, R321, R335) -/

/-- Usable pages for BUF_DCFG.SIZE (Table BUF-2). -/
def usablePages (size : Nat) : Nat :=
  match size with
  | 0 => 1933312
  | 1 => 3866624
  | 2 => 5799936
  | _ => 7733248

/-- Whether Table BUF-1 lists the pair. -/
def dcfgListed (size ranks : Nat) : Bool :=
  match size with
  | 0 => ranks == 0
  | 1 => true
  | 2 => ranks == 1
  | _ => ranks == 1

/-- Channel-local capacity of one rank in bytes, for the configurations with two ranks. -/
def rankBytes (size : Nat) : Nat :=
  match size with
  | 1 => 4 * 2 ^ 30
  | 2 => 6 * 2 ^ 30
  | _ => 8 * 2 ^ 30

/-- Channel, rank and bank of DRAM byte address `d` (R320). -/
def dramBank (size ranks d : Nat) : Nat × Nat × Nat :=
  let c := d / 512 * 256 + d % 256
  let r := if ranks = 1 ∧ rankBytes size ≤ c then 1 else 0
  (d / 256 % 2, r, (if r = 1 then c - rankBytes size else c) / 2 ^ 11 % 16)

/-- DRAM byte address at which the frame of usable page `pg` begins. -/
def frameBase (pg : Nat) : Nat := 262144 * (pg / 59) + 4420 * (pg % 59)

/-- The DRAM addresses that stand for the frame's 256-byte pieces. -/
def framePieces (pg : Nat) : List Nat :=
  (frameBase pg + 4419) :: (List.range 18).map (fun i => frameBase pg + min (256 * i) 4419)

/-- Whether BUF_BANK_RETr retires a bank that page `pg` touches (R333). -/
def Plat.bankRetired (p : Plat) (pg : Nat) : Bool :=
  let size := p.fld Reg.BUF_DCFG Fld.BUF_DCFG_SIZE
  let ranks := p.fld Reg.BUF_DCFG Fld.BUF_DCFG_RANKS
  (framePieces pg).any (fun d =>
    let b := dramBank size ranks d
    (p.rd (Reg.BUF_BANK_RET b.1)).getLsbD (16 * b.2.1 + b.2.2))

/-- Whether a BUF_RETn entry retires page `pg` (R333). -/
def Plat.entryRetired (p : Plat) (pg : Nat) : Bool :=
  p.regs.any (fun e => decide (Reg.BUF_RET 0 ≤ e.1) && decide (e.1 ≤ Reg.BUF_RET 2047)
    && Fld.get Fld.BUF_RET_VALID e.2 == 1 && Fld.get Fld.BUF_RET_PAGE e.2 == pg)

/-- Whether page `pg` is retired. -/
def Plat.retired (p : Plat) (pg : Nat) : Bool := p.entryRetired pg || p.bankRetired pg

/-- The set of a line address (R335). -/
def lineSet (l : Nat) : Nat := (l % 16384) ^^^ (l / 16384)

/-- The tag of a line address. -/
def lineTag (l : Nat) : Nat := l / 16384

/-- The line address a set and tag stand for. -/
def lineOf (set tag : Nat) : Nat := tag * 16384 + (set ^^^ tag)

/-! ## Reporting (R327) -/

/-- BUF_ERR_ADDR.SOURCE of a requester. -/
def Requester.code (r : Requester) : Nat :=
  match r with
  | .core _ => 0
  | .hif => 1
  | .hub => 2

/-- Record an event that set UNCORR or RET_ACCESS, and post its BUF_UNCORR record. -/
def Plat.bufReport (p : Plat) (a kind source : Nat) : Plat :=
  let lo := a / 32 * 32 % 2 ^ 32
  let hi := kind * 2 ^ 24 + source * 2 ^ 8 + a / 2 ^ 32 % 8
  let p := (p.wr Reg.BUF_ERR_ADDR_LO (BitVec.ofNat 32 lo)).wr Reg.BUF_ERR_ADDR_HI (BitVec.ofNat 32 hi)
  if kind ≤ 2 then
    ((p.setFlag Reg.BUF_EVT Fld.BUF_EVT_UNCORR).bump (Reg.BUF_CNT_LO 2) 1 Reg.BUF_EVT Fld.BUF_EVT_CNT_SAT).post 64 0x0005
      (le4 lo ++ le4 hi)
  else (p.setFlag Reg.BUF_EVT Fld.BUF_EVT_RET_ACCESS).post 66 0x0005 (le4 lo ++ le4 hi)

/-- The kind of refusal a request to usable address `a` meets on entry, if any: retired, beyond capacity, or not open (R327,
R334). -/
def Plat.bufRefusal (p : Plat) (a : Nat) (write : Bool) : Option Nat :=
  let k := if write then 1 else 0
  if p.bit Reg.BUF_STATUS Fld.BUF_STATUS_OPEN = false ∨ p.fld Reg.BUF_USABLE Fld.BUF_USABLE_PAGES ≤ a / 4096 then some (5 + k)
  else if p.retired (a / 4096) then some (3 + k)
  else none

/-! ## DRAM words under the codes (R322 to R325, R332) -/

/-- Error mark of a stored word. -/
def Buf.mark (b : Buf) (w : Nat) : Nat := SMap.get (fun _ => 0) b.werr w

/-- Put the error mark of a stored word. -/
def Buf.setMark (b : Buf) (w m : Nat) : Buf := { b with werr := SMap.set (fun _ => 0) b.werr w m }

/-- The 128 data words of a page. -/
def pageWords (pg : Nat) : List Nat := (List.range 128).map (fun i => 128 * pg + i)

/-- Errors the environment has left in DRAM before a read: (word, whether two bits are wrong). -/
def Buf.flip (b : Buf) (fs : List (Nat × Bool)) : Buf :=
  fs.foldl (fun q f => q.setMark f.1 (max (q.mark f.1) (if f.2 then 2 else 1))) b

/-- A word has been corrected: a word already among the last 64 is a hard correction (R332). -/
def corrected (p : Plat) (b : Buf) (w : Nat) : Plat × Buf :=
  let p :=
    if b.hard.contains w then
      ((p.setFlag Reg.BUF_EVT Fld.BUF_EVT_HARD).bump (Reg.BUF_CNT_LO 4) 1 Reg.BUF_EVT Fld.BUF_EVT_CNT_SAT).post 65 0x0006
        (le4 (w / 128))
    else p
  (p, { b with hard := (w :: b.hard).take 64 })

/-- The word code corrects every single-bit error among the words. -/
def correctSingles (p : Plat) (b : Buf) : List Nat → Plat × Buf
  | [] => (p, b)
  | w :: ws =>
    if b.mark w = 1 then
      let r := corrected ((p.setFlag Reg.BUF_EVT Fld.BUF_EVT_WC_CORR).bump (Reg.BUF_CNT_LO 0) 1
        Reg.BUF_EVT Fld.BUF_EVT_CNT_SAT) b w
      correctSingles r.1 r.2 ws
    else correctSingles p b ws

/-- Clear the error marks of the words. -/
def Buf.clearMarks (b : Buf) (ws : List Nat) : Buf := ws.foldl (fun q w => q.setMark w 0) b

/-- Whether the page code can restore page `pg`: its parity words are good, at most two words are erased and none is stored as
uncorrectable. -/
def Buf.pageCodeOk (b : Buf) (pg : Nat) : Bool :=
  SMap.get (fun _ => 0) b.perr pg == 0 && decide (((pageWords pg).filter (fun w => b.mark w == 2)).length ≤ 2)
    && !(pageWords pg).any (fun w => b.mark w == 3)

/-- Escalate to the page code: the erased words are corrected and the frame is written back in full. -/
def escalate (p : Plat) (b : Buf) (pg : Nat) : Plat × Buf :=
  let p := (p.setFlag Reg.BUF_EVT Fld.BUF_EVT_PC_CORR).bump (Reg.BUF_CNT_LO 1) 1 Reg.BUF_EVT Fld.BUF_EVT_CNT_SAT
  let r := ((pageWords pg).filter (fun w => b.mark w == 2)).foldl (fun (s : Plat × Buf) w => corrected s.1 s.2 w) (p, b)
  (r.1, r.2.clearMarks (pageWords pg))

/-- Read and check the words `ws` of page `pg`: whether the data is good after both codes. -/
def checkWords (p : Plat) (b : Buf) (pg : Nat) (ws : List Nat) : Plat × Buf × Bool :=
  let r := correctSingles p b ws
  if ws.any (fun w => decide (2 ≤ b.mark w)) then
    if r.2.pageCodeOk pg then
      let q := escalate r.1 r.2 pg
      (q.1, q.2, true)
    else (r.1, r.2, false)
  else (r.1, r.2, true)

/-- The stored words that the bytes `a` to `a + n - 1` lie in. -/
def wordsOf (a n : Nat) : List Nat := (List.range ((a + n + 31) / 32 - a / 32)).map (fun i => a / 32 + i)

/-- A DRAM read of `n` bytes at `a` within one page, for source `src`: none when uncorrectable (R325, R327). -/
def dramRead (p : Plat) (b : Buf) (src a n : Nat) : Plat × Buf × Option (List Byte) :=
  let r := checkWords p b (a / 4096) (wordsOf a n)
  if r.2.2 then (r.1, r.2.1, some (SMap.bytes zeroByte r.2.1.dram a n))
  else (r.1.bufReport a 1 src, r.2.1, none)

/-- BUF_INJ corrupts the next DRAM write of the word it names, then disarms. -/
def inject (p : Plat) (b : Buf) (ws : List Nat) : Plat × Buf :=
  let w := p.fld Reg.BUF_INJ_ADDR Fld.BUF_INJ_ADDR_WORD
  if p.bit Reg.BUF_INJ Fld.BUF_INJ_ARM ∧ w ∈ ws then
    let twice := p.fld Reg.BUF_INJ Fld.BUF_INJ_BIT1 = p.fld Reg.BUF_INJ Fld.BUF_INJ_BIT2
    (p.setFld Reg.BUF_INJ Fld.BUF_INJ_ARM 0,
     b.setMark w (if p.bit Reg.BUF_INJ Fld.BUF_INJ_DOUBLE then (if twice then 0 else 2) else 1))
  else (p, b)

/-- A whole-page DRAM write: the frame in full with fresh codes (R324). -/
def dramWritePage (p : Plat) (b : Buf) (pg : Nat) (data : List Byte) : Plat × Buf :=
  inject p ({ b.clearMarks (pageWords pg) with
    dram := SMap.store zeroByte b.dram (4096 * pg) data, perr := SMap.set (fun _ => 0) b.perr pg 0 }) (pageWords pg)

/-- A partial DRAM write within one page: the old words are read and checked; when they stay uncorrectable the parity words are
written as uncorrectable (R324). -/
def dramWritePart (p : Plat) (b : Buf) (src a : Nat) (data : List Byte) : Plat × Buf :=
  let ws := wordsOf a data.length
  let pg := a / 4096
  let r := checkWords p b pg ws
  let b := { r.2.1.clearMarks ws with dram := SMap.store zeroByte r.2.1.dram a data }
  if r.2.2 then inject r.1 b ws
  else inject (r.1.bufReport a 2 src) { b with perr := SMap.set (fun _ => 0) b.perr pg 1 } ws

/-! ## The array -/

/-- The line of a set and way. -/
def Buf.line (b : Buf) (set way : Nat) : Option Line := SMap.get (fun _ => none) b.lines (16 * set + way)

/-- Put the line of a set and way. -/
def Buf.setLine (b : Buf) (set way : Nat) (l : Option Line) : Buf :=
  { b with lines := SMap.set (fun _ => none) b.lines (16 * set + way) l }

/-- Whether way `w` takes no new line: fenced, or its bank is off (R346, R347). -/
def Plat.wayFenced (p : Plat) (w : Nat) : Bool := (p.rd Reg.STC_FENCE).getLsbD w || !p.on (21 + w / 4)

/-- The way that holds line address `l`, if any; a bank that is off holds nothing. -/
def Buf.find (p : Plat) (b : Buf) (l : Nat) : Option Nat :=
  (List.range 16).find? (fun w =>
    p.on (21 + w / 4) && match b.line (lineSet l) w with
      | none => false
      | some x => x.tag == lineTag l)

/-- Ways of a set from most to least recently used. -/
def Buf.recency (b : Buf) (set : Nat) : List Nat := SMap.get (fun _ => List.range 16) b.order set

/-- A way becomes the most recently used of its set. -/
def Buf.touch (b : Buf) (set way : Nat) : Buf :=
  { b with order := SMap.set (fun _ => List.range 16) b.order set (way :: (b.recency set).filter (fun w => w != way)) }

/-- Count one event on STC counter `n`. -/
def Plat.stcCount (p : Plat) (n : Nat) : Plat := p.bump (Reg.STC_CNT_LO n) 1 Reg.STC_EVT Fld.STC_EVT_CNT_SAT

/-- STC_VICTIM shows the victim cache and the write-back buffer. -/
def showVictim (p : Plat) (b : Buf) : Plat :=
  (p.setFld Reg.STC_VICTIM Fld.STC_VICTIM_LINES b.victims.length).setFld Reg.STC_VICTIM Fld.STC_VICTIM_WBUF b.wbuf.length

/-! ## Write-backs (R343 to R345) -/

/-- The buffer controller accepts the oldest write-back not yet issued; the victim copy becomes clean. -/
def issueFirst : List WriteBack → Option (Nat × List WriteBack)
  | [] => none
  | w :: ws =>
    if w.issued then (issueFirst ws).map (fun r => (r.1, w :: r.2))
    else some (w.line, { w with issued := true } :: ws)

/-- A write-back is issued: STC_CNT4 counts it. -/
def wbIssue (p : Plat) (b : Buf) : Plat × Buf :=
  match issueFirst b.wbuf with
  | none => (p, b)
  | some r =>
    (p.stcCount 4, { b with
      wbuf := r.2
      victims := b.victims.map (fun v => if v.line = r.1 then { v with dirty := false } else v) })

/-- Take the oldest issued entry out of the write-back buffer. -/
def takeIssued : List WriteBack → Option (WriteBack × List WriteBack)
  | [] => none
  | w :: ws => if w.issued then some (w, ws) else (takeIssued ws).map (fun r => (r.1, w :: r.2))

/-- DRAM acknowledges the oldest issued write-back: a partial write; the entry is freed. -/
def wbComplete (p : Plat) (b : Buf) : Plat × Buf :=
  match takeIssued b.wbuf with
  | none => (p, b)
  | some r =>
    let q := dramWritePart p { b with wbuf := r.2 } 4 (128 * r.1.line) r.1.data
    (showVictim q.1 q.2, q.2)

/-- Room for one more write-back: with all 64 entries held the request stalls until one has been written. -/
def wbRoom (p : Plat) (b : Buf) : Plat × Buf :=
  if b.wbuf.length < 64 then (p, b)
  else
    let r := if b.wbuf.any (fun w => w.issued) then (p, b) else wbIssue p b
    wbComplete r.1 r.2

/-- Write back the write-back entries of one line at once: issue them and write them to DRAM in order. -/
def drainLine (p : Plat) (b : Buf) (l : Nat) : Plat × Buf :=
  (b.wbuf.filter (fun w => w.line == l)).foldl (fun (s : Plat × Buf) w =>
      dramWritePart (if w.issued then s.1 else s.1.stcCount 4) s.2 4 (128 * l) w.data)
    (p, { b with
      wbuf := b.wbuf.filter (fun w => w.line != l)
      victims := b.victims.map (fun v => if v.line = l then { v with dirty := false } else v) })

/-! ## Eviction and allocation (R335, R343) -/

/-- Put a line into the victim cache; its oldest line leaves when all 64 are held. -/
def pushVictim (vs : List Victim) (v : Victim) : List Victim :=
  (if vs.length < 64 then vs else vs.drop 1) ++ [v]

/-- Evict the line of a set and way: it enters the victim cache; a dirty line's write-back is queued, or dropped when its page
is retired (R334). -/
def evict (p : Plat) (b : Buf) (set way : Nat) : Plat × Buf :=
  match b.line set way with
  | none => (p, b)
  | some x =>
    let l := lineOf set x.tag
    let b := b.setLine set way none
    if x.dirty ∧ p.retired (l / 32) = false then
      let r := wbRoom p b
      (r.1, { r.2 with victims := pushVictim r.2.victims ⟨l, true, x.data⟩, wbuf := r.2.wbuf ++ [⟨l, false, x.data⟩] })
    else if x.dirty then (p, b)
    else (p, { b with victims := pushVictim b.victims ⟨l, false, x.data⟩ })

/-- The way a new line of a set takes: an invalid unfenced way, else the least recently used unfenced way. -/
def Buf.chooseWay (p : Plat) (b : Buf) (set : Nat) : Option Nat :=
  match (List.range 16).find? (fun w => !p.wayFenced w && (b.line set w).isNone) with
  | some w => some w
  | none => (b.recency set).reverse.find? (fun w => !p.wayFenced w)

/-- Allocate a line; nothing when every way is fenced. -/
def allocate (p : Plat) (b : Buf) (l : Nat) (dirty : Bool) (data : List Byte) : Plat × Buf :=
  match b.chooseWay p (lineSet l) with
  | none => (p, b)
  | some w =>
    let r := evict p b (lineSet l) w
    let b := (r.2.setLine (lineSet l) w (some ⟨lineTag l, dirty, data⟩)).touch (lineSet l) w
    (showVictim r.1 b, b)

/-- Cancel the unissued write-backs of a line: STC_CNT5 counts each. -/
def cancelWb (p : Plat) (b : Buf) (l : Nat) : Plat × Buf :=
  let n := (b.wbuf.filter (fun w => w.line == l && !w.issued)).length
  (p.bump (Reg.STC_CNT_LO 5) n Reg.STC_EVT Fld.STC_EVT_CNT_SAT,
   { b with wbuf := b.wbuf.filter (fun w => !(w.line == l && !w.issued)) })

/-- Whether a class of requester allocates (STC_CTRL.ALLOC). -/
def Plat.allocates (p : Plat) (r : Requester) : Bool :=
  match r with
  | .core _ => p.bit Reg.STC_CTRL Fld.STC_CTRL_ALLOC_CORE
  | .hif => p.bit Reg.STC_CTRL Fld.STC_CTRL_ALLOC_HIF
  | .hub => p.bit Reg.STC_CTRL Fld.STC_CTRL_ALLOC_HUB

/-! ## Requests (R336, R338, R339, R344, R348) -/

/-- Serve a line that missed the array: from the victim cache (recalled), the write-back buffer (forwarded) or DRAM (allocated
when `alloc`); none when uncorrectable. -/
def missLine (p : Plat) (b : Buf) (src l : Nat) (alloc : Bool) : Plat × Buf × Option (List Byte) :=
  match b.victims.find? (fun v => v.line == l) with
  | some v =>
    let c := cancelWb (p.stcCount 2) { b with victims := b.victims.filter (fun x => x.line != l) } l
    let r := allocate c.1 c.2 l v.dirty v.data
    (r.1, r.2, some v.data)
  | none =>
    match b.wbuf.reverse.find? (fun w => w.line == l) with
    | some w =>
      let c := cancelWb (p.stcCount 3) b l
      let r := allocate c.1 c.2 l (!w.issued) w.data
      (r.1, r.2, some w.data)
    | none =>
      let r := dramRead (p.stcCount 1) b src (128 * l) 128
      match r.2.2 with
      | none => r
      | some d =>
        if alloc then
          let q := allocate r.1 r.2.1 l false d
          (q.1, q.2, some d)
        else r

/-- The uncorrectable word of a dirty line is written back with a pattern that later reads also report; the line goes (R348). -/
def arrayLoss (p : Plat) (b : Buf) (l way w : Nat) (x : Line) : Plat × Buf :=
  let r := dramWritePart p (b.setLine (lineSet l) way none) 4 (128 * l) x.data
  let p := (r.1.setFlag Reg.STC_STATUS Fld.STC_STATUS_ARR_UNCORR).post 74 0x0007
    (le2 (lineSet l) ++ [BitVec.ofNat 8 way, 0])
  (p, r.2.setMark (4 * l + w) 3)

/-- Read one line through the enabled cache. -/
def readLine (p : Plat) (b : Buf) (src l : Nat) (alloc : Bool) (chk : ArrayCheck) : Plat × Buf × Option (List Byte) :=
  match b.find p l with
  | none => missLine p b src l alloc
  | some way =>
    match b.line (lineSet l) way with
    | none => missLine p b src l alloc
    | some x =>
      let b' := b.touch (lineSet l) way
      match chk with
      | .good => (p.stcCount 0, b', some x.data)
      | .corrected => ((p.stcCount 0).stcCount 6, b', some x.data)
      | .uncorrectable w =>
        if x.dirty then
          let r := arrayLoss p b l way w x
          (r.1.bufReport (128 * l + 32 * w) 1 src, r.2, none)
        else
          let r := dramRead p (b'.setLine (lineSet l) way none) src (128 * l) 128
          match r.2.2 with
          | none => r
          | some d => (r.1, r.2.1.setLine (lineSet l) way (some ⟨x.tag, false, d⟩), some d)

/-- Read `n` lines from line `l`, in order; none as soon as one is uncorrectable. -/
def readLines (src : Nat) (alloc : Bool) (chk : ArrayCheck) :
    Nat → Plat → Buf → Nat → List Byte → Plat × Buf × Option (List Byte)
  | 0, p, b, _, acc => (p, b, some acc)
  | n + 1, p, b, l, acc =>
    let r := readLine p b src l alloc chk
    match r.2.2 with
    | none => r
    | some d => readLines src alloc chk n r.1 r.2.1 (l + 1) (acc ++ d)

/-- Allocate the 32 lines of a page clean. -/
def allocPage (p : Plat) (b : Buf) (pg : Nat) (data : List Byte) : Plat × Buf :=
  (List.range 32).foldl (fun (s : Plat × Buf) i => allocate s.1 s.2 (32 * pg + i) false ((data.drop (128 * i)).take 128)) (p, b)

/-- Whether line `l` is held nowhere in the cache. -/
def Buf.absent (p : Plat) (b : Buf) (l : Nat) : Bool :=
  (b.find p l).isNone && !b.victims.any (fun v => v.line == l) && !b.wbuf.any (fun w => w.line == l)

/-- A bypass read: from DRAM, but a line held in the write-back buffer is served from its entry (R339). -/
def bypassRead (p : Plat) (b : Buf) (src a n : Nat) : Plat × Buf × Option (List Byte) :=
  let r := dramRead p b src a n
  match r.2.2 with
  | none => r
  | some d =>
    (r.1, r.2.1, some ((List.range n).map (fun i =>
      match b.wbuf.reverse.find? (fun w => w.line == (a + i) / 128) with
      | none => d.getD i 0
      | some w => w.data.getD ((a + i) % 128) 0)))

/-- A read of `n` bytes at usable address `a`, within one page (R327, R336). -/
def bufRead (p : Plat) (b : Buf) (r : Requester) (a n : Nat) (chk : ArrayCheck) : Plat × Buf × Option (List Byte) :=
  match p.bufRefusal a false with
  | some k => (p.bufReport a k r.code, b, none)
  | none =>
    if p.bit Reg.STC_CTRL Fld.STC_CTRL_EN then
      if n = 4096 ∧ a % 4096 = 0 ∧ (List.range 32).all (fun i => b.absent p (a / 128 + i)) then
        let q := dramRead (p.bump (Reg.STC_CNT_LO 1) 32 Reg.STC_EVT Fld.STC_EVT_CNT_SAT) b r.code a 4096
        match q.2.2 with
        | none => q
        | some d =>
          if p.allocates r then
            let s := allocPage q.1 q.2.1 (a / 4096) d
            (s.1, s.2, some d)
          else q
      else
        let q := readLines r.code (p.allocates r) chk ((a + n + 127) / 128 - a / 128) p b (a / 128) []
        (q.1, q.2.1, q.2.2.map (fun d => (d.drop (a % 128)).take n))
    else bypassRead p b r.code a n

/-- Write bytes into one line through the enabled cache: write-allocate, the line becomes dirty. -/
def writeLine (p : Plat) (b : Buf) (src l off : Nat) (data : List Byte) : Plat × Buf :=
  let r := if data.length = 128 ∧ (b.find p l).isNone ∧ b.absent p l then allocate (p.stcCount 1) b l true data
    else
      let q := readLine p b src l true .good
      (q.1, q.2.1)
  match r.2.find p l with
  | none => dramWritePart r.1 r.2 src (128 * l + off) data
  | some way =>
    match r.2.line (lineSet l) way with
    | none => r
    | some x =>
      (r.1, (r.2.setLine (lineSet l) way
        (some { x with dirty := true, data := x.data.take off ++ data ++ x.data.drop (off + data.length) })))

/-- A partial write, line by line. -/
def writeLines (src : Nat) : Nat → Plat → Buf → Nat → List Byte → Plat × Buf
  | 0, p, b, _, _ => (p, b)
  | n + 1, p, b, a, data =>
    let k := 128 - a % 128
    let r := writeLine p b src (a / 128) (a % 128) (data.take k)
    if data.length ≤ k then r else writeLines src n r.1 r.2 (a + k) (data.drop k)

/-- Supersede every cached copy of a page: unissued write-backs cancelled, issued ones written first (R336). -/
def supersede (p : Plat) (b : Buf) (pg : Nat) : Plat × Buf :=
  (List.range 32).foldl (fun (s : Plat × Buf) i =>
    let l := 32 * pg + i
    let c := cancelWb s.1 s.2 l
    let d := drainLine c.1 c.2 l
    let b := { d.2 with victims := d.2.victims.filter (fun v => v.line != l) }
    match b.find d.1 l with
    | none => (d.1, b)
    | some w => (d.1, b.setLine (lineSet l) w none)) (p, b)

/-- A write of `data` at usable address `a`, within one page (R327, R336, R339): whether it was accepted. -/
def bufWrite (p : Plat) (b : Buf) (r : Requester) (a : Nat) (data : List Byte) : Plat × Buf × Bool :=
  match p.bufRefusal a true with
  | some k => (p.bufReport a k r.code, b, false)
  | none =>
    if p.bit Reg.STC_CTRL Fld.STC_CTRL_EN then
      if data.length = 4096 ∧ a % 4096 = 0 then
        let s := supersede p b (a / 4096)
        let w := dramWritePage s.1 s.2 (a / 4096) data
        let q := if p.allocates r then allocPage w.1 w.2 (a / 4096) data else w
        (showVictim q.1 q.2, q.2, true)
      else
        let q := writeLines r.code 33 p b a data
        (q.1, q.2, true)
    else
      let d := (List.range ((a + data.length + 127) / 128 - a / 128)).foldl
        (fun (s : Plat × Buf) i => drainLine s.1 s.2 (a / 128 + i)) (p, b)
      let q := if data.length = 4096 ∧ a % 4096 = 0 then dramWritePage d.1 d.2 (a / 4096) data
        else dramWritePart d.1 d.2 r.code a data
      (showVictim q.1 q.2, q.2, true)

/-- A core's request to the Buffer DRAM range at system address `sa`: a read puts its bytes on the bus, a refusal or
uncorrectable data is a bus error of kind 7, and so is a refused write (R327, R392). -/
def coreBufRead (p : Plat) (b : Buf) (c : Fin 4) (a n : Nat) (chk : ArrayCheck) : Plat × Buf :=
  let r := bufRead p b (.core c) a n chk
  match r.2.2 with
  | none => ({ r.1.busErr (0x1000000000 + a) c false 7 with resp := 0xFFFFFFFF }, r.2.1)
  | some d => ({ r.1 with resp := BitVec.ofNat 32 (leNat d) }, r.2.1)

/-- A core's write to the Buffer DRAM range. -/
def coreBufWrite (p : Plat) (b : Buf) (c : Fin 4) (a : Nat) (data : List Byte) : Plat × Buf :=
  let r := bufWrite p b (.core c) a data
  if r.2.2 then (r.1, r.2.1) else (r.1.busErr (0x1000000000 + a) c true 7, r.2.1)

/-! ## Maintenance (R340, R341) -/

/-- Whether array key `k` (16 × set + way) with line `x` lies in the scope of an operation. -/
def StcOp.scope (o : StcOp) (k : Nat) (x : Line) : Bool :=
  let l := lineOf (k / 16) x.tag
  match o.op with
  | 1 => true
  | 2 => true
  | 3 => true
  | 4 => decide (o.base ≤ l) && decide (l < o.base + o.len)
  | 5 => decide (o.base ≤ l) && decide (l < o.base + o.len)
  | _ => k % 16 == o.way

/-- Whether a line address held outside the array lies in the scope. -/
def StcOp.scopeLine (o : StcOp) (l : Nat) : Bool :=
  match o.op with
  | 1 => true
  | 2 => true
  | 3 => true
  | 4 => decide (o.base ≤ l) && decide (l < o.base + o.len)
  | 5 => decide (o.base ≤ l) && decide (l < o.base + o.len)
  | _ => false

/-- A write of STC_OP: the operation is fixed with its scope, or refused. -/
def stcOpWrite (p : Plat) (b : Buf) (op way : Nat) : Plat × Buf :=
  if op = 0 ∨ op = 7 then (p, b)
  else if p.bit Reg.STC_STATUS Fld.STC_STATUS_BUSY ∨ (op = 2 ∧ p.bit Reg.STC_CTRL Fld.STC_CTRL_EN) then
    (p.setFlag Reg.STC_STATUS Fld.STC_STATUS_OP_REFUSED, b)
  else
    let o : StcOp := ⟨op, way, p.fld Reg.STC_OP_BASE Fld.STC_OP_BASE_LINE, p.fld Reg.STC_OP_LEN Fld.STC_OP_LEN_LINE,
      !p.bit Reg.STC_CTRL Fld.STC_CTRL_EN, []⟩
    let dirty := (b.lines.filter (fun e => match e.2 with | none => false | some x => x.dirty && o.scope e.1 x)).map (fun e => e.1)
    (p.setFlag Reg.STC_STATUS Fld.STC_STATUS_BUSY, { b with op := some { o with dirty := dirty } })

/-- Write back one array line if it is still dirty. -/
def cleanKey (p : Plat) (b : Buf) (k : Nat) : Plat × Buf :=
  match SMap.get (fun _ => none) b.lines k with
  | none => (p, b)
  | some x =>
    if x.dirty then
      let l := lineOf (k / 16) x.tag
      let d := drainLine p b l
      let b := d.2.setLine (k / 16) (k % 16) (some { x with dirty := false })
      if d.1.retired (l / 32) then (d.1, b) else dramWritePart (d.1.stcCount 4) b 4 (128 * l) x.data
    else (p, b)

/-- Write back everything the operation's scope held dirty at issue, and the write-backs that waited. -/
def opClean (p : Plat) (b : Buf) (o : StcOp) : Plat × Buf :=
  let r := o.dirty.foldl (fun (s : Plat × Buf) k => cleanKey s.1 s.2 k) (p, b)
  ((r.2.wbuf.filter (fun w => o.scopeLine w.line || w.issued)).map (fun w => w.line)).foldl
    (fun (s : Plat × Buf) l => drainLine s.1 s.2 l) r

/-- Discard what INVALIDATE_ALL discards: every line, and the unissued write-backs of the victim cache. -/
def opDiscard (p : Plat) (b : Buf) : Plat × Buf :=
  let r := b.victims.foldl (fun (s : Plat × Buf) v => if v.dirty then cancelWb s.1 s.2 v.line else s) (p, b)
  (r.1, { r.2 with lines := [], victims := [], order := [] })

/-- Invalidate the clean lines of the scope: a line dirtied since issue stays, as the walk has passed its set. -/
def opInvalidate (b : Buf) (o : StcOp) : Buf :=
  { b with
    lines := b.lines.filter (fun e => match e.2 with | none => false | some x => x.dirty || !o.scope e.1 x)
    victims := b.victims.filter (fun v => v.dirty || !o.scopeLine v.line) }

/-- The operation in progress completes: OP_DONE, and INV_DONE for an invalidation of all issued while EN was 0 (R337, R341). -/
def stcOpComplete (p : Plat) (b : Buf) : Plat × Buf :=
  match b.op with
  | none => (p, b)
  | some o =>
    let r :=
      if o.op = 2 then opDiscard p b
      else
        let c := opClean p b o
        if o.op = 3 ∨ o.op = 5 ∨ o.op = 6 then (c.1, opInvalidate c.2 o) else c
    let p := (r.1.setFld Reg.STC_STATUS Fld.STC_STATUS_BUSY 0).setFlag Reg.STC_STATUS Fld.STC_STATUS_OP_DONE
    let p := p.setFlagIf (o.enOff && (o.op == 2 || o.op == 3)) Reg.STC_STATUS Fld.STC_STATUS_INV_DONE
    let b := { r.2 with op := none,
                        wayClean := if o.op = 6 then r.2.wayClean ||| 2 ^ o.way else r.2.wayClean }
    (showVictim p b, b)

/-- A write of STC_CTRL: the ALLOC bits, and EN under R337 and R338. -/
def stcCtrl (p : Plat) (v : Word) : Plat :=
  let was := p.bit Reg.STC_CTRL Fld.STC_CTRL_EN
  let q := p.fwWrite Reg.STC_CTRL v
  if q.bit Reg.STC_CTRL Fld.STC_CTRL_EN then
    if was then q
    else if p.bit Reg.STC_STATUS Fld.STC_STATUS_INV_DONE ∧ p.bit Reg.STC_STATUS Fld.STC_STATUS_BUSY = false then q
    else (q.setFld Reg.STC_CTRL Fld.STC_CTRL_EN 0).setFlag Reg.STC_STATUS Fld.STC_STATUS_EN_REFUSED
  else if was then q.setFld Reg.STC_STATUS Fld.STC_STATUS_INV_DONE 0
  else q

/-- A write of STC_FENCE: refused when it would fence all 16 ways (R346). -/
def stcFence (p : Plat) (b : Buf) (ways : Nat) : Plat × Buf :=
  if ways % 2 ^ 16 = 0xFFFF then (p.setFlag Reg.STC_STATUS Fld.STC_STATUS_OP_REFUSED, b)
  else (p.setFld Reg.STC_FENCE Fld.STC_FENCE_WAYS ways, { b with wayClean := b.wayClean &&& (ways % 2 ^ 16) })

/-! ## Initialisation (R329) -/

/-- Whether the checker self-test has passed. -/
def Plat.stPassed (p : Plat) : Bool :=
  !p.bit Reg.BUF_STATUS Fld.BUF_STATUS_ST_BUSY && !p.bit Reg.BUF_STATUS Fld.BUF_STATUS_WC_FAIL
    && !p.bit Reg.BUF_STATUS Fld.BUF_STATUS_PC_FAIL

/-- A step of initialisation has ended: DONE, and OPEN when all three have succeeded. -/
def Plat.initDone (p : Plat) : Plat :=
  let p := p.setFlag Reg.BUF_EVT Fld.BUF_EVT_DONE
  p.setFlagIf (p.stPassed && p.bit Reg.BUF_STATUS Fld.BUF_STATUS_TRAINED && p.bit Reg.BUF_STATUS Fld.BUF_STATUS_FILLED)
    Reg.BUF_STATUS Fld.BUF_STATUS_OPEN

/-- A write of BUF_CTRL that sets ST_RERUN, INIT or ZERO (R329). -/
def Plat.bufCtrl (p : Plat) (st init zero : Bool) : Plat :=
  let refuse := p.setFlag Reg.BUF_EVT Fld.BUF_EVT_CFG_REFUSED
  let opened := p.bit Reg.BUF_STATUS Fld.BUF_STATUS_OPEN
  let busy := p.bit Reg.BUF_STATUS Fld.BUF_STATUS_BUSY
  let stBusy := p.bit Reg.BUF_STATUS Fld.BUF_STATUS_ST_BUSY
  match st, init, zero with
  | false, false, false => p
  | true, false, false =>
    if opened || busy || stBusy then refuse else p.setFlag Reg.BUF_STATUS Fld.BUF_STATUS_ST_BUSY
  | false, true, false =>
    if opened || busy || !p.stPassed then refuse
    else (((p.setFld Reg.BUF_STATUS Fld.BUF_STATUS_TRAINED 0).setFld Reg.BUF_STATUS Fld.BUF_STATUS_TRAIN_FAIL 0).setFld
      Reg.BUF_STATUS Fld.BUF_STATUS_FILLED 0).setFlag Reg.BUF_STATUS Fld.BUF_STATUS_BUSY
  | false, false, true =>
    if opened || busy || !p.bit Reg.BUF_STATUS Fld.BUF_STATUS_TRAINED then refuse
    else p.setFlag Reg.BUF_STATUS Fld.BUF_STATUS_BUSY
  | _, _, _ => refuse

/-- The checker self-test ends. -/
def Plat.stEnd (p : Plat) (wcFail pcFail : Bool) : Plat :=
  if p.bit Reg.BUF_STATUS Fld.BUF_STATUS_ST_BUSY then
    (((p.setFld Reg.BUF_STATUS Fld.BUF_STATUS_ST_BUSY 0).putBit Reg.BUF_STATUS Fld.BUF_STATUS_WC_FAIL wcFail).putBit
      Reg.BUF_STATUS Fld.BUF_STATUS_PC_FAIL pcFail).initDone
  else p

/-- Training ends: the devices fitted report `size` and `ranks`, and every step converged or not (R318, R329). -/
def Plat.trainEnd (p : Plat) (size ranks : Nat) (converged : Bool) : Plat :=
  if p.bit Reg.BUF_STATUS Fld.BUF_STATUS_BUSY ∧ p.bit Reg.BUF_STATUS Fld.BUF_STATUS_TRAINED = false then
    let s := p.fld Reg.BUF_DCFG Fld.BUF_DCFG_SIZE
    let r := p.fld Reg.BUF_DCFG Fld.BUF_DCFG_RANKS
    let p := p.setFld Reg.BUF_STATUS Fld.BUF_STATUS_BUSY 0
    if dcfgListed s r ∧ s = size ∧ r = ranks ∧ converged then
      ((p.setFlag Reg.BUF_STATUS Fld.BUF_STATUS_TRAINED).setFld Reg.BUF_USABLE Fld.BUF_USABLE_PAGES (usablePages s)).setFlag
        Reg.BUF_EVT Fld.BUF_EVT_DONE
    else (p.setFlag Reg.BUF_STATUS Fld.BUF_STATUS_TRAIN_FAIL).setFlag Reg.BUF_EVT Fld.BUF_EVT_DONE
  else p

/-- The fill ends: every frame holds zeros and fresh codes. -/
def fillEnd (p : Plat) (b : Buf) : Plat × Buf :=
  if p.bit Reg.BUF_STATUS Fld.BUF_STATUS_BUSY ∧ p.bit Reg.BUF_STATUS Fld.BUF_STATUS_TRAINED then
    (((p.setFld Reg.BUF_STATUS Fld.BUF_STATUS_BUSY 0).setFlag Reg.BUF_STATUS Fld.BUF_STATUS_FILLED).initDone,
     { b with dram := [], werr := [], perr := [] })
  else (p, b)

/-- A write of BUF_DCFG: ignored while OPEN. -/
def Plat.dcfgWrite (p : Plat) (v : Word) : Plat :=
  if p.bit Reg.BUF_STATUS Fld.BUF_STATUS_OPEN then p.setFlag Reg.BUF_EVT Fld.BUF_EVT_CFG_REFUSED
  else p.fwWrite Reg.BUF_DCFG v

/-! ## Scrubber (R330, R331) -/

/-- Advance the scrubber to the next page. -/
def Plat.scrubNext (p : Plat) : Plat :=
  let pg := p.fld Reg.BUF_SCRUB_POS Fld.BUF_SCRUB_POS_PAGE + 1
  if pg < p.fld Reg.BUF_USABLE Fld.BUF_USABLE_PAGES then p.setFld Reg.BUF_SCRUB_POS Fld.BUF_SCRUB_POS_PAGE pg
  else (p.setFld Reg.BUF_SCRUB_POS Fld.BUF_SCRUB_POS_PAGE 0).setFld Reg.BUF_SCRUB_POS Fld.BUF_SCRUB_POS_PASSES
    (p.fld Reg.BUF_SCRUB_POS Fld.BUF_SCRUB_POS_PASSES + 1)

/-- One interval of the scrubber: the page is read whole, corrected and written back; a retired page is passed over; an
uncorrectable page is left and reported. -/
def scrubPage (p : Plat) (b : Buf) : Plat × Buf :=
  if p.bit Reg.BUF_SCRUB Fld.BUF_SCRUB_EN ∧ p.bit Reg.BUF_STATUS Fld.BUF_STATUS_OPEN then
    let pg := p.fld Reg.BUF_SCRUB_POS Fld.BUF_SCRUB_POS_PAGE
    if p.retired pg then (p.scrubNext, b)
    else
      let r := checkWords (p.bump (Reg.BUF_CNT_LO 3) 1 Reg.BUF_EVT Fld.BUF_EVT_CNT_SAT) b pg (pageWords pg)
      if r.2.2 then
        (r.1.scrubNext, { r.2.1.clearMarks (pageWords pg) with perr := SMap.set (fun _ => 0) r.2.1.perr pg 0 })
      else ((r.1.bufReport (4096 * pg) 1 3).scrubNext, r.2.1)
  else (p, b)

end Sys2Proof.Machine
end

