-- ==== Sys2Proof/Machine/Aes.lean ====
section
/-! DEFINITION. AES-256, its XTS mode for one data unit (R421, IEEE 1619) and AES Key Wrap (R426, NIST SP 800-38F KW). A block is
a list of 16 bytes, a key a list of 32 bytes. -/

namespace Sys2Proof.Machine

/-! ## The field and the S-box -/

/-- Multiplication by x in the AES field. -/
def gfDouble (a : Nat) : Nat := if a < 128 then 2 * a else (2 * a) ^^^ 0x11B

/-- `n` steps of the product of `a` and `b` in the AES field, added to `acc`. -/
def gfMulAux : Nat → Nat → Nat → Nat → Nat
  | 0, _, _, acc => acc
  | n + 1, a, b, acc => gfMulAux n (gfDouble a) (b / 2) (if b % 2 = 1 then acc ^^^ a else acc)

/-- Product in the AES field. -/
def gfMul (a b : Nat) : Nat := gfMulAux 8 a b 0

/-- The inverse in the AES field (0 for 0): the 254th power. -/
def gfInv (a : Nat) : Nat :=
  let a2 := gfMul a a
  let a3 := gfMul a2 a
  let a12 := (gfMul (gfMul a3 a3) (gfMul a3 a3))
  let a15 := gfMul a12 a3
  let a30 := gfMul a15 a15
  let a60 := gfMul a30 a30
  let a120 := gfMul a60 a60
  let a240 := gfMul a120 a120
  gfMul (gfMul a240 a12) a2

/-- Rotate a byte left. -/
def rotl8 (a k : Nat) : Nat := (a * 2 ^ k) % 256 + a * 2 ^ k / 256

/-- The S-box. -/
def sbox (a : Nat) : Nat :=
  let b := gfInv a
  b ^^^ rotl8 b 1 ^^^ rotl8 b 2 ^^^ rotl8 b 3 ^^^ rotl8 b 4 ^^^ 0x63

/-- The inverse S-box. -/
def sboxInv (a : Nat) : Nat := gfInv (rotl8 a 1 ^^^ rotl8 a 3 ^^^ rotl8 a 6 ^^^ 0x05)

/-! ## Blocks as lists of byte values -/

/-- Bytewise exclusive or. -/
def xorList (a b : List Nat) : List Nat := List.zipWith (fun x y => x ^^^ y) a b

/-- ShiftRows, by source index. -/
def shiftRowsIx : List Nat := [0, 5, 10, 15, 4, 9, 14, 3, 8, 13, 2, 7, 12, 1, 6, 11]

/-- InvShiftRows, by source index. -/
def invShiftRowsIx : List Nat := [0, 13, 10, 7, 4, 1, 14, 11, 8, 5, 2, 15, 12, 9, 6, 3]

/-- One column multiplied by the circulant of `m0 m1 m2 m3`. -/
def mixColumn (m0 m1 m2 m3 a b c d : Nat) : List Nat :=
  [gfMul m0 a ^^^ gfMul m1 b ^^^ gfMul m2 c ^^^ gfMul m3 d,
   gfMul m3 a ^^^ gfMul m0 b ^^^ gfMul m1 c ^^^ gfMul m2 d,
   gfMul m2 a ^^^ gfMul m3 b ^^^ gfMul m0 c ^^^ gfMul m1 d,
   gfMul m1 a ^^^ gfMul m2 b ^^^ gfMul m3 c ^^^ gfMul m0 d]

/-- MixColumns with the circulant of `m0 m1 m2 m3` on every column. -/
def mixColumns (m0 m1 m2 m3 : Nat) : List Nat → List Nat
  | a :: b :: c :: d :: rest => mixColumn m0 m1 m2 m3 a b c d ++ mixColumns m0 m1 m2 m3 rest
  | _ => []

/-! ## Key schedule: 15 round keys of 16 bytes -/

/-- `n` further words of the schedule, from the words so far (newest first), the word index and the round constant. -/
def expandAux : Nat → Nat → Nat → List (List Nat) → List (List Nat)
  | 0, _, _, ws => ws
  | n + 1, i, rc, ws =>
    let t := ws.headD []
    let u :=
      if i % 8 = 0 then xorList ((t.drop 1 ++ t.take 1).map sbox) [rc, 0, 0, 0]
      else if i % 8 = 4 then t.map sbox
      else t
    expandAux n (i + 1) (if i % 8 = 0 then gfDouble rc else rc) (xorList (ws.getD 7 []) u :: ws)

/-- Words of four bytes. -/
def chunks4 : List Nat → List (List Nat)
  | a :: b :: c :: d :: rest => [a, b, c, d] :: chunks4 rest
  | _ => []

/-- Four words make a round key. -/
def roundKeys : List (List Nat) → List (List Nat)
  | a :: b :: c :: d :: rest => (a ++ b ++ c ++ d) :: roundKeys rest
  | _ => []

/-- The 15 round keys of a 32-byte key. -/
def aesKeys (key : List Nat) : List (List Nat) := roundKeys (expandAux 52 8 1 (chunks4 key).reverse).reverse

/-- Encryption rounds with the round keys that remain; the last has no MixColumns. -/
def aesRounds : List (List Nat) → List Nat → List Nat
  | [], s => s
  | [k], s => xorList (shiftRowsIx.map (fun i => sbox (s.getD i 0))) k
  | k :: ks, s => aesRounds ks (xorList (mixColumns 2 3 1 1 (shiftRowsIx.map (fun i => sbox (s.getD i 0)))) k)

/-- Encrypt one block under a key schedule. -/
def aesEnc (keys : List (List Nat)) (s : List Nat) : List Nat :=
  match keys with
  | [] => s
  | k :: ks => aesRounds ks (xorList s k)

/-- Decryption rounds with the round keys that remain, in reverse order. -/
def aesInvRounds : List (List Nat) → List Nat → List Nat
  | [], s => s
  | [k], s => xorList (invShiftRowsIx.map (fun i => sboxInv (s.getD i 0))) k
  | k :: ks, s => aesInvRounds ks (mixColumns 14 11 13 9 (xorList (invShiftRowsIx.map (fun i => sboxInv (s.getD i 0))) k))

/-- Decrypt one block under a key schedule. -/
def aesDec (keys : List (List Nat)) (s : List Nat) : List Nat :=
  match keys.reverse with
  | [] => s
  | k :: ks => aesInvRounds ks (xorList s k)

/-! ## XTS -/

/-- Multiplication of the tweak (16 little-endian bytes) by α. -/
def xtsNext (t : List Nat) : List Nat :=
  let v := t.foldr (fun b acc => b + 256 * acc) 0
  let w := 2 * v
  let w := if 2 ^ 128 ≤ w then (w - 2 ^ 128) ^^^ 0x87 else w
  (List.range 16).map (fun i => w / 2 ^ (8 * i) % 256)

/-- The blocks of a data unit, each enciphered (or deciphered) under the running tweak. -/
def xtsBlocks (f : List Nat → List Nat) : Nat → List Nat → List Nat → List Nat
  | 0, _, _ => []
  | n + 1, t, d => xorList (f (xorList (d.take 16) t)) t ++ xtsBlocks f n (xtsNext t) (d.drop 16)

/-- The bytes of a number, little-endian, as numbers. -/
def leNats (n v : Nat) : List Nat := (List.range n).map (fun i => v / 2 ^ (8 * i) % 256)

/-- Byte values of bytes, and back. -/
def toNats (bs : List Byte) : List Nat := bs.map BitVec.toNat

/-- Bytes of byte values. -/
def ofNats (ns : List Nat) : List Byte := ns.map (BitVec.ofNat 8)

/-- Encrypt one 4,096-byte data unit under a 512-bit slot key: Key1 is bits 255:0, Key2 bits 511:256, `unit` the data unit
number (R421). -/
def xtsEncrypt (key unit : Nat) (data : List Byte) : List Byte :=
  let k1 := aesKeys (leNats 32 key)
  let t := aesEnc (aesKeys (leNats 32 (key / 2 ^ 256))) (leNats 16 unit)
  ofNats (xtsBlocks (aesEnc k1) (data.length / 16) t (toNats data))

/-- Decrypt one data unit. -/
def xtsDecrypt (key unit : Nat) (data : List Byte) : List Byte :=
  let k1 := aesKeys (leNats 32 key)
  let t := aesEnc (aesKeys (leNats 32 (key / 2 ^ 256))) (leNats 16 unit)
  ofNats (xtsBlocks (aesDec k1) (data.length / 16) t (toNats data))

/-! ## Key Wrap -/

/-- Eight big-endian bytes of a number. -/
def be8 (v : Nat) : List Nat := (leNats 8 v).reverse

/-- One pass of the wrapping function over the semiblocks, from step `t`; answers the new A and the semiblocks. -/
def kwPass (ks : List (List Nat)) : List (List Nat) → Nat → List Nat → List Nat × List (List Nat)
  | [], _, a => (a, [])
  | r :: rs, t, a =>
    let b := aesEnc ks (a ++ r)
    let q := kwPass ks rs (t + 1) (xorList (b.take 8) (be8 t))
    (q.1, b.drop 8 :: q.2)

/-- `n` passes. -/
def kwPasses (ks : List (List Nat)) : Nat → Nat → List Nat → List (List Nat) → List Nat × List (List Nat)
  | 0, _, a, rs => (a, rs)
  | n + 1, t, a, rs =>
    let q := kwPass ks rs t a
    kwPasses ks n (t + rs.length) q.1 q.2

/-- Semiblocks of eight bytes. -/
def chunks8 : Nat → List Nat → List (List Nat)
  | 0, _ => []
  | n + 1, d => d.take 8 :: chunks8 n (d.drop 8)

/-- The initial value of Key Wrap. -/
def kwIv : List Nat := List.replicate 8 0xA6

/-- Wrap `data` under the 32-byte key-encryption key. -/
def kwWrap (kek data : List Nat) : List Nat :=
  let q := kwPasses (aesKeys kek) 6 1 kwIv (chunks8 (data.length / 8) data)
  q.1 ++ q.2.flatten

/-- One pass of the unwrapping function over the semiblocks given last first, from step `t` downward. -/
def kwUnpass (ks : List (List Nat)) : List (List Nat) → Nat → List Nat → List Nat × List (List Nat)
  | [], _, a => (a, [])
  | r :: rs, t, a =>
    let b := aesDec ks (xorList a (be8 t) ++ r)
    let q := kwUnpass ks rs (t - 1) (b.take 8)
    (q.1, b.drop 8 :: q.2)

/-- `n` unwrapping passes over the semiblocks, last first. -/
def kwUnpasses (ks : List (List Nat)) : Nat → Nat → List Nat → List (List Nat) → List Nat × List (List Nat)
  | 0, _, a, rs => (a, rs)
  | n + 1, t, a, rs =>
    let q := kwUnpass ks rs t a
    kwUnpasses ks n (t - rs.length) q.1 q.2

/-- Unwrap: none when the integrity check fails. -/
def kwUnwrap (kek data : List Nat) : Option (List Nat) :=
  let n := data.length / 8 - 1
  let q := kwUnpasses (aesKeys kek) 6 (6 * n) (data.take 8) (chunks8 n (data.drop 8)).reverse
  if q.1 = kwIv then some q.2.reverse.flatten else none

end Sys2Proof.Machine
end

