-- ==== Sys2Proof/Machine/SecOps.lean ====
section
/-! DEFINITION. The crypto block: which range and slot a sector belongs to, what a transfer resolves and why it is refused, zero
sectors, the key commands, the random source and the known-answer tests (R420 to R430). -/

namespace Sys2Proof.Machine

/-! ## Ranges and slots (R422) -/

/-- First LBA of range `r`. -/
def Plat.rangeStart (p : Plat) (r : Nat) : Nat :=
  (p.rd (Reg.SEC_RANGE_START r)).toNat + 2 ^ 32 * p.fld (Reg.SEC_RANGE_HI r) Fld.SEC_RANGE_HI_START_HI

/-- LBAs of range `r`. -/
def Plat.rangeLen (p : Plat) (r : Nat) : Nat :=
  (p.rd (Reg.SEC_RANGE_LEN r)).toNat + 2 ^ 32 * p.fld (Reg.SEC_RANGE_HI r) Fld.SEC_RANGE_HI_LEN_HI

/-- Whether enabled range `r` covers an LBA of a namespace. -/
def Plat.rangeCovers (p : Plat) (r nsid lba : Nat) : Bool :=
  p.bit (Reg.SEC_RANGE_CFG r) Fld.SEC_RANGE_CFG_EN && p.fld (Reg.SEC_RANGE_CFG r) Fld.SEC_RANGE_CFG_NSID == nsid
    && decide (p.rangeStart r ≤ lba) && decide (lba < p.rangeStart r + p.rangeLen r)

/-- The range a sector belongs to: the lowest-numbered enabled one that covers it, 64 for SEC_GLOBAL. -/
def Plat.rangeOf (p : Plat) (nsid lba : Nat) : Nat :=
  ((List.range 64).find? (fun r => p.rangeCovers r nsid lba)).getD 64

/-- The key slot of a range, and its lock toward the host (`out`) or into the buffer. -/
def Plat.rangeSlot (p : Plat) (r : Nat) (out : Bool) : Nat × Bool :=
  if r < 64 then
    (p.fld (Reg.SEC_RANGE_CFG r) Fld.SEC_RANGE_CFG_SLOT,
     p.bit (Reg.SEC_RANGE_CFG r) (if out then Fld.SEC_RANGE_CFG_RLOCK else Fld.SEC_RANGE_CFG_WLOCK))
  else
    (p.fld Reg.SEC_GLOBAL Fld.SEC_GLOBAL_SLOT,
     p.bit Reg.SEC_GLOBAL (if out then Fld.SEC_GLOBAL_RLOCK else Fld.SEC_GLOBAL_WLOCK))

/-- Whether key slot `k` is LOADED. -/
def Plat.slotLoaded (p : Plat) (k : Nat) : Bool := (p.rd (Reg.SEC_SLOTST (k / 32))).getLsbD (k % 32)

/-- Mark key slot `k` LOADED or EMPTY. -/
def Plat.setLoaded (p : Plat) (k : Nat) (b : Bool) : Plat := p.putBit (Reg.SEC_SLOTST (k / 32)) ⟨k % 32, 1⟩ b

/-- What the engine finds for one sector: its slot, or why the transfer is refused (REASON and RANGE, R423). -/
def Plat.resolveSector (p : Plat) (nsid lba : Nat) (out : Bool) : Nat ⊕ (Nat × Nat) :=
  let r := p.rangeOf nsid lba
  let s := p.rangeSlot r out
  if s.2 then .inr (if out then 1 else 2, r)
  else if p.slotLoaded s.1 = false then .inr (3, r)
  else if p.bit Reg.SEC_STATUS Fld.SEC_STATUS_KAT_FAIL then .inr (4, r)
  else .inl s.1

/-- The slots of `n` sectors from `lba`, or the first reason for refusal. -/
def Plat.resolve (p : Plat) (nsid lba : Nat) (out : Bool) : Nat → List Nat ⊕ (Nat × Nat)
  | 0 => .inl []
  | n + 1 =>
    match p.resolveSector nsid lba out with
    | .inr e => .inr e
    | .inl k =>
      match p.resolve nsid (lba + 1) out n with
      | .inr e => .inr e
      | .inl ks => .inl (k :: ks)

/-- The registers' record of a refused transfer (R423). -/
def Plat.secRefused (p : Plat) (tag reason range : Nat) : Plat :=
  ((p.wr Reg.SEC_REFUSE_LAST (BitVec.ofNat 32 (reason % 8 * 2 ^ 24 + range % 128 * 2 ^ 16 + tag % 2 ^ 13))).setFlag
    Reg.SEC_EVT Fld.SEC_EVT_REFUSED).bump (Reg.SEC_CNT_LO 2) 1 Reg.SEC_EVT Fld.SEC_EVT_CNT_SAT

/-! ## Sectors through the engines (R420, R421, R425) -/

/-- Whether a sector is a zero sector. -/
def isZero (d : List Byte) : Bool := d.all (fun b => b == 0)

/-- The data unit number of a sector (R421). -/
def dataUnit (nsid lba : Nat) : Nat := nsid * 2 ^ 48 + lba

/-- The key of a slot. -/
def Sec.key (s : Sec) (k : Nat) : Nat := SMap.get (fun _ => 0) s.keys k

/-- Encrypt the sectors of a host write in order: the ciphertext of the sectors before the first whose ciphertext is all zero,
and the slot index at which the engine stopped, if it did (R425). -/
def Sec.encryptAll (s : Sec) (nsid : Nat) : List Nat → Nat → List Byte → List Byte × Bool
  | [], _, _ => ([], true)
  | k :: ks, lba, d =>
    let c := xtsEncrypt (s.key k) (dataUnit nsid lba) (d.take 4096)
    if isZero c then ([], false)
    else
      let r := s.encryptAll nsid ks (lba + 1) (d.drop 4096)
      (c ++ r.1, r.2)

/-- Decrypt the sectors of a read in order; a zero sector passes as it is. -/
def Sec.decryptAll (s : Sec) (nsid : Nat) : List Nat → Nat → List Byte → List Byte
  | [], _, _ => []
  | k :: ks, lba, d =>
    let c := d.take 4096
    (if isZero c then c else xtsDecrypt (s.key k) (dataUnit nsid lba) c) ++ s.decryptAll nsid ks (lba + 1) (d.drop 4096)

/-- The sectors of a run of bytes that are not zero sectors. -/
def cipherCount : Nat → List Byte → Nat
  | 0, _ => 0
  | n + 1, d => (if isZero (d.take 4096) then 0 else 1) + cipherCount n (d.drop 4096)

/-- Count sectors encrypted (0) or decrypted (1). -/
def Plat.secCount (p : Plat) (n k : Nat) : Plat := p.bump (Reg.SEC_CNT_LO n) k Reg.SEC_EVT Fld.SEC_EVT_CNT_SAT

/-- Whether a transfer in progress resolved a sector to slot `k` (R427). -/
def Sec.inUse (s : Sec) (k : Nat) : Bool := s.xfers.any (fun x => x.slots.contains k)

/-- The transfer of a tag has ended. -/
def Sec.endXfer (s : Sec) (tag : Nat) : Sec := { s with xfers := s.xfers.filter (fun x => x.tag != tag) }

/-! ## Key commands (R426, R427) -/

/-- The bytes of the first `n` staging words. -/
def Plat.stgBytes (p : Plat) (n : Nat) : List Nat :=
  (List.range n).flatMap (fun w => leNats 4 (p.rd (Reg.SEC_KEYSTG w)).toNat)

/-- The number of little-endian byte values. -/
def numOf (bs : List Nat) : Nat := bs.foldr (fun b acc => b + 256 * acc) 0

/-- Put words into the staging registers, zeros beyond them; the words of a WRAP can be read. -/
def Plat.putStg (p : Plat) (bytes : List Nat) (shown : Bool) : Plat :=
  { (List.range 18).foldl (fun q w => q.wr (Reg.SEC_KEYSTG w) (BitVec.ofNat 32 (numOf ((bytes.drop (4 * w)).take 4)))) p
    with stgShown := shown }

/-- The device root key as bytes. -/
def rootKey : List Nat := leNats 32 Config.deviceRootKey

/-- Load a slot unless its two keys are equal. -/
def loadKey (p : Plat) (s : Sec) (k key : Nat) : Plat × Sec × Nat :=
  if key % 2 ^ 256 = key / 2 ^ 256 % 2 ^ 256 then (p, s, 1)
  else (p.setLoaded k true, { s with keys := SMap.set (fun _ => 0) s.keys k key }, 0)

/-- What key command `op` does to slot `k`, and its RESULT (Tables SEC-1 and SEC-2). -/
def keyEffect (p : Plat) (s : Sec) (op k : Nat) : Plat × Sec × Nat :=
  match op with
  | 1 =>
    let r := loadKey p s k (numOf (p.stgBytes 16))
    (r.1.putStg [] false, r.2)
  | 2 =>
    if s.rngFail then (p.putStg [] false, s, 3)
    else
      ((p.useFree.setLoaded k true).putStg [] false,
       { s with keys := SMap.set (fun _ => 0) s.keys k (p.freeVal % 2 ^ 512) }, 0)
  | 3 =>
    if p.slotLoaded k then (p.putStg (kwWrap rootKey (leNats 64 (s.key k))) true, s, 0)
    else (p.putStg [] false, s, 4)
  | 4 =>
    match kwUnwrap rootKey (p.stgBytes 18) with
    | none => (p.putStg [] false, s, 2)
    | some key =>
      let r := loadKey p s k (numOf key)
      (r.1.putStg [] false, r.2)
  | 5 => ((p.setLoaded k false).putStg [] false, { s with keys := SMap.set (fun _ => 0) s.keys k 0 }, 0)
  | _ => (p.putStg [] false, s, 15)

/-- A key command runs and ends: RESULT, KEY_DONE. -/
def keyRun (p : Plat) (s : Sec) (op k : Nat) : Plat × Sec :=
  let r := keyEffect p s op k
  (((r.1.setFld Reg.SEC_KEY_STAT Fld.SEC_KEY_STAT_BUSY 0).setFld Reg.SEC_KEY_STAT Fld.SEC_KEY_STAT_RESULT r.2.2).setFlag
     Reg.SEC_EVT Fld.SEC_EVT_KEY_DONE, { r.2.1 with wait := none })

/-- A write of SEC_KEY_CMD: ignored while BUSY; waits while a transfer uses the slot (R427). -/
def keyWrite (p : Plat) (s : Sec) (op k : Nat) : Plat × Sec :=
  if p.bit Reg.SEC_KEY_STAT Fld.SEC_KEY_STAT_BUSY then (p.setFlag Reg.SEC_EVT Fld.SEC_EVT_KEY_REFUSED, s)
  else if s.inUse k then
    ({ p.setFlag Reg.SEC_KEY_STAT Fld.SEC_KEY_STAT_BUSY with stgShown := false }, { s with wait := some (op, k) })
  else keyRun p s op k

/-- The waiting key command runs once every transfer that uses its slot has ended. -/
def keyCommandRun (p : Plat) (s : Sec) : Plat × Sec :=
  match s.wait with
  | none => (p, s)
  | some w => if s.inUse w.2 then (p, s) else keyRun p s w.1 w.2

/-! ## Random source and known-answer tests (R429, R430) -/

/-- A read of SEC_RNG: a fresh word while the source is healthy, consumed; 0 with VALID 0 otherwise. -/
def rngRead (p : Plat) (s : Sec) : Plat :=
  if s.rngFail ∨ p.on 28 = false then { p with resp := 0 }
  else { p.useFree with resp := BitVec.ofNat 32 p.freeVal }

/-- A health test of the random source fails. -/
def rngHealthFail (p : Plat) (s : Sec) : Plat × Sec :=
  ((p.setFlag Reg.SEC_EVT Fld.SEC_EVT_RNG_FAIL).setFld Reg.SEC_RNG_STAT Fld.SEC_RNG_STAT_VALID 0, { s with rngFail := true })

/-- The known-answer tests end: READY, and KAT_FAIL when an engine failed. The random source shows VALID from then on. -/
def katEnd (p : Plat) (s : Sec) (failed : Bool) : Plat :=
  let p := p.setFlag Reg.SEC_STATUS Fld.SEC_STATUS_READY
  let p := p.putBit Reg.SEC_RNG_STAT Fld.SEC_RNG_STAT_VALID (!s.rngFail)
  if failed then (p.setFlag Reg.SEC_STATUS Fld.SEC_STATUS_KAT_FAIL).setFlag Reg.SEC_EVT Fld.SEC_EVT_KAT_FAIL else p

end Sys2Proof.Machine
end

