-- ==== Sys2Proof/Machine/CmdOps.lean ====
section
/-! DEFINITION. The Command Table: the fields of an entry, the counts, events, completion entries and interrupts, the operations of
Table CMD-2, host transfers, and the posting of descriptors (R22, R23, R289 to R297). -/

namespace Sys2Proof.Machine

/-- What the front end of the data plane works on together: registers, Host Interface, CMD block, buffer, crypto. -/
structure Fe where
  p : Plat
  h : Hif
  c : Cmd
  b : Buf
  s : Sec
  deriving DecidableEq, Repr

/-! ## Fields of an entry (Table CMD-1) -/

/-- The address of word `w` of tag `t`'s entry. -/
def entryWord (t w : Nat) : Nat := 0x40200000 + 64 * (t % 8192) + 4 * w

/-- A field of an entry: its word and its place in it. -/
structure CtFld where
  word : Nat
  f    : Fld
  deriving DecidableEq, Repr

def Ct.state : CtFld := ⟨0, ⟨0, 3⟩⟩
def Ct.din : CtFld := ⟨0, ⟨3, 1⟩⟩
def Ct.posted : CtFld := ⟨0, ⟨4, 1⟩⟩
def Ct.lastSeen : CtFld := ⟨0, ⟨5, 1⟩⟩
def Ct.abrt : CtFld := ⟨0, ⟨6, 1⟩⟩
def Ct.auto : CtFld := ⟨0, ⟨7, 1⟩⟩
def Ct.xout : CtFld := ⟨0, ⟨8, 1⟩⟩
def Ct.tref : CtFld := ⟨0, ⟨9, 6⟩⟩
def Ct.xfer : CtFld := ⟨0, ⟨15, 1⟩⟩
def Ct.cntl : CtFld := ⟨0, ⟨16, 6⟩⟩
def Ct.sqid : CtFld := ⟨1, ⟨0, 11⟩⟩
def Ct.slot : CtFld := ⟨1, ⟨16, 12⟩⟩
def Ct.fetchLo : CtFld := ⟨2, ⟨0, 32⟩⟩
def Ct.fetchHi : CtFld := ⟨3, ⟨0, 32⟩⟩
def Ct.postLo : CtFld := ⟨4, ⟨0, 32⟩⟩
def Ct.postHi : CtFld := ⟨5, ⟨0, 32⟩⟩
def Ct.dw0 : CtFld := ⟨6, ⟨0, 32⟩⟩
def Ct.dw1 : CtFld := ⟨7, ⟨0, 32⟩⟩
def Ct.status : CtFld := ⟨8, ⟨0, 15⟩⟩
def Ct.firstCode : CtFld := ⟨9, ⟨0, 8⟩⟩
def Ct.lastCode : CtFld := ⟨9, ⟨8, 8⟩⟩
def Ct.ended : CtFld := ⟨9, ⟨16, 6⟩⟩
def Ct.rebuilt : CtFld := ⟨9, ⟨22, 1⟩⟩
def Ct.abrtLate : CtFld := ⟨9, ⟨23, 1⟩⟩
def Ct.recovered : CtFld := ⟨9, ⟨24, 1⟩⟩
def Ct.bufPage : CtFld := ⟨10, ⟨0, 23⟩⟩
def Ct.xlen : CtFld := ⟨11, ⟨0, 22⟩⟩

/-- A field of tag `t`'s entry. -/
def Plat.ct (p : Plat) (t : Nat) (f : CtFld) : Nat := p.fld (entryWord t f.word) f.f

/-- Put a field of tag `t`'s entry. -/
def Plat.setCt (p : Plat) (t : Nat) (f : CtFld) (v : Nat) : Plat := p.setFld (entryWord t f.word) f.f v

/-- The state of tag `t`: 0 FREE, 1 FETCHED, 2 ADMITTED, 3 DISPATCHED, 4 DESTAGING, 5 DONE. -/
def Plat.tagState (p : Plat) (t : Nat) : Nat := p.ct t Ct.state

/-- The tags: 8,192 (R23). -/
def tagCount : Nat := 8192

/-- Add to the count of the tags in state `s` (CMD_CNT). -/
def Plat.addCount (p : Plat) (s : Nat) (up : Bool) : Plat :=
  let f := if s % 2 = 0 then Fld.CMD_CNT_LOW else Fld.CMD_CNT_HIGH
  let n := p.fld (Reg.CMD_CNT (s / 2)) f
  p.setFld (Reg.CMD_CNT (s / 2)) f (if up then n + 1 else n - 1)

/-- Move tag `t` to state `s`, the counts following. -/
def Plat.moveTag (p : Plat) (t s : Nat) : Plat :=
  if p.tagState t = s then p
  else ((p.addCount (p.tagState t) false).addCount s true).setCt t Ct.state s

/-- The tags whose entry's first word is listed, i.e. those not in their reset state. -/
def Plat.tagsInUse (p : Plat) : List Nat :=
  (p.regs.filter (fun e => decide (0x40200000 ≤ e.1) && decide (e.1 < 0x40280000) && e.1 % 64 == 0
    && Fld.get Ct.state.f e.2 != 0)).map (fun e => (e.1 - 0x40200000) / 64)

/-- The tags that controller `n` holds in any state other than FREE. -/
def Plat.tagsOf (p : Plat) (n : Nat) : List Nat := p.tagsInUse.filter (fun t => p.ct t Ct.cntl == n)

/-- T_FETCH of a tag. -/
def Plat.tFetch (p : Plat) (t : Nat) : Nat := p.ct t Ct.fetchLo + 2 ^ 32 * p.ct t Ct.fetchHi

/-- T_POST of a tag. -/
def Plat.tPost (p : Plat) (t : Nat) : Nat := p.ct t Ct.postLo + 2 ^ 32 * p.ct t Ct.postHi

/-! ## The submission entry of a tag -/

/-- Bytes `o` to `o + n - 1` of the submission entry, as a number. -/
def Hif.sqeNat (h : Hif) (t o n : Nat) : Nat := leNat (((SMap.get (fun _ => []) h.sqe t).drop o).take n)

/-- Opcode, CID, NSID, PSDT and Dword `k` of the submission entry. -/
def Hif.opcode (h : Hif) (t : Nat) : Nat := h.sqeNat t 0 1
/-- The Command Identifier. -/
def Hif.cid (h : Hif) (t : Nat) : Nat := h.sqeNat t 2 2
/-- The PSDT field. -/
def Hif.psdt (h : Hif) (t : Nat) : Nat := h.sqeNat t 1 1 / 64
/-- The namespace identifier. -/
def Hif.nsid (h : Hif) (t : Nat) : Nat := h.sqeNat t 4 4
/-- Command Dword `k`. -/
def Hif.dw (h : Hif) (t k : Nat) : Nat := h.sqeNat t (4 * k) 4
/-- SLBA, and the LBAs of a Read, Write, Verify or Write Zeroes. -/
def Hif.slba (h : Hif) (t : Nat) : Nat := h.sqeNat t 40 8
/-- NLB + 1. -/
def Hif.nlb (h : Hif) (t : Nat) : Nat := h.dw t 12 % 2 ^ 16 + 1

/-! ## Events (R292) -/

/-- CMD_EVQ shows the oldest queued event. -/
def showEvq (p : Plat) (q : List (Nat × Nat)) : Plat :=
  match q with
  | [] => p.wr Reg.CMD_EVQ 0
  | e :: _ => p.wr Reg.CMD_EVQ (BitVec.ofNat 32 (2 ^ 31 + e.1 % 8 * 2 ^ 28 + e.2 % 2 ^ 13))

/-- Queue an event for firmware: 1 NEW, 2 DATA_IN, 3 DONE, 4 XFER_ERR; at most one of each type is pending for a tag. -/
def Fe.event (e : Fe) (typ t : Nat) : Fe :=
  if e.c.evq.contains (typ, t) then e
  else
    let q := e.c.evq ++ [(typ, t)]
    { e with p := showEvq e.p q, c := { e.c with evq := q } }

/-- A read of CMD_EVQ removes the event it returns. -/
def evqRead (p : Plat) (c : Cmd) : Plat × Cmd :=
  if p.on 34 then
    let q := c.evq.drop 1
    ({ showEvq p q with resp := p.rd Reg.CMD_EVQ }, { c with evq := q })
  else (p, c)

/-! ## Completion entries and interrupts (R273, R278, R293) -/

/-- A controller that is not enabled, with the reset values of its features (R278): WCE 1, every other value 0. -/
def ctrlReset : Ctrl := ⟨false, false, false, false, 0, [(6, 1)], [], [], false⟩

/-- Controller `n`. -/
def Hif.ctrl (h : Hif) (n : Nat) : Ctrl := SMap.get (fun _ => ctrlReset) h.ctrls n

/-- Put controller `n`. -/
def Hif.setCtrl (h : Hif) (n : Nat) (c : Ctrl) : Hif := { h with ctrls := SMap.set (fun _ => ctrlReset) h.ctrls n c }

/-- A feature value of controller `n`. -/
def Hif.feature (h : Hif) (n k : Nat) : Nat := SMap.get (fun _ => 0) (h.ctrl n).features k

/-- Submission queue `q` of controller `n`; there is none from 2,048 on. -/
def Hif.sq (h : Hif) (n q : Nat) : Option SubQ := if q < 2048 then SMap.get (fun _ => none) h.sqs (2048 * n + q) else none

/-- Put submission queue `q` of controller `n`. -/
def Hif.setSq (h : Hif) (n q : Nat) (v : Option SubQ) : Hif :=
  if q < 2048 then { h with sqs := SMap.set (fun _ => none) h.sqs (2048 * n + q) v } else h

/-- Completion queue `q` of controller `n`; there is none from 2,048 on. -/
def Hif.cq (h : Hif) (n q : Nat) : Option CplQ := if q < 2048 then SMap.get (fun _ => none) h.cqs (2048 * n + q) else none

/-- Put completion queue `q` of controller `n`. -/
def Hif.setCq (h : Hif) (n q : Nat) (v : Option CplQ) : Hif :=
  if q < 2048 then { h with cqs := SMap.set (fun _ => none) h.cqs (2048 * n + q) v } else h

/-- The interrupt message of a vector is sent. -/
def Hif.sendIrq (h : Hif) (n v : Nat) : Hif :=
  let k := 2048 * n + v
  { h with irqHeld := SMap.set (fun _ => 0) h.irqHeld k 0,
           irqSent := SMap.set (fun _ => 0) h.irqSent k (SMap.get (fun _ => 0) h.irqSent k + 1) }

/-- A completion queue wants its interrupt: sent at once, or held by Interrupt Coalescing (feature 0x08: THR in 7:0, TIME in
15:8) until THR + 1 entries have accumulated; the admin queue's vector 0 and a vector whose Coalescing Disable (feature 0x09)
is 1 are never held. -/
def Hif.interrupt (h : Hif) (n v : Nat) : Hif :=
  let cfg := h.feature n 8
  let k := 2048 * n + v
  if v = 0 ∨ cfg / 256 % 256 = 0 ∨ h.feature n (9 + 256 * v) / 2 ^ 16 % 2 = 1 then h.sendIrq n v
  else
    let held := SMap.get (fun _ => 0) h.irqHeld k + 1
    if cfg % 256 + 1 ≤ held then h.sendIrq n v else { h with irqHeld := SMap.set (fun _ => 0) h.irqHeld k held }

/-- The aggregation time of a vector runs out: a held interrupt is sent. -/
def Hif.coalesceTimeout (h : Hif) (n v : Nat) : Hif :=
  if 2048 ≤ v ∨ SMap.get (fun _ => 0) h.irqHeld (2048 * n + v) = 0 then h else h.sendIrq n v

/-- Put an entry into a completion queue that has room, with the phase of its place. -/
def CplQ.push (q : CplQ) (e : Cpl) : CplQ :=
  { q with
    posted := q.posted ++ [{ e with phase := q.phase }]
    tail := if q.tail + 1 = q.size then 0 else q.tail + 1
    phase := if q.tail + 1 = q.size then !q.phase else q.phase }

/-- Move waiting completions into the room there is. -/
def CplQ.drain (q : CplQ) : Nat → CplQ
  | 0 => q
  | n + 1 =>
    match q.waiting with
    | [] => q
    | e :: es => if q.posted.length + 1 < q.size then CplQ.drain ({ q with waiting := es }.push e) n else q

/-- Post a completion entry to completion queue `q` of controller `n`: it waits while the queue is full. -/
def Hif.postTo (h : Hif) (n q : Nat) (e : Cpl) : Hif :=
  match h.cq n q with
  | none => h
  | some cq =>
    let r := { cq with waiting := cq.waiting ++ [e] }
    let r := r.drain r.waiting.length
    let h := h.setCq n q (some r)
    if cq.ien ∧ cq.posted.length < r.posted.length then h.interrupt n cq.vec else h

/-- Post the completion of tag `t` from CPL_DW0, CPL_DW1 and STATUS, and set POSTED and T_POST. -/
def Fe.postCpl (e : Fe) (t : Nat) : Fe :=
  let n := e.p.ct t Ct.cntl
  let q := e.p.ct t Ct.sqid
  let p := ((e.p.setCt t Ct.posted 1).setCt t Ct.postLo e.p.time.toNat).setCt t Ct.postHi (e.p.time.toNat / 2 ^ 32)
  match e.h.sq n q with
  | none => { e with p := p }
  | some sq =>
    let entry : Cpl := ⟨e.p.ct t Ct.dw0, e.p.ct t Ct.dw1, sq.head, q, e.h.cid t, e.p.ct t Ct.status, false⟩
    { e with p := p, h := e.h.postTo n sq.cq entry }

/-! ## Freeing a tag -/

/-- A Delete I/O Submission Queue completes once no tag of the queue is in FETCHED, ADMITTED or DISPATCHED (R275). -/
def Plat.queueBusy (p : Plat) (n q : Nat) : Bool :=
  (p.tagsOf n).any (fun t => p.ct t Ct.sqid == q && decide (p.tagState t ≤ 3))

/-- Free tag `t`. -/
def Fe.freeTag (e : Fe) (t : Nat) : Fe :=
  { e with
    p := e.p.moveTag t 0
    h := { e.h with sqe := SMap.set (fun _ => []) e.h.sqe t [], fetched := e.h.fetched.erase t }
    c := { e.c with others := SMap.set (fun _ => 0) e.c.others t 0 } }

/-- Finish a deletion that waited for the last tag of its queue. -/
def Fe.finishDelete (e : Fe) (n q : Nat) : Fe :=
  match e.h.sq n q with
  | none => e
  | some sq =>
    match sq.stop with
    | none => e
    | some t => if e.p.queueBusy n q then e else ({ e with h := e.h.setSq n q none }.postCpl t).freeTag t

/-- CSTS.RDY reads 0 once no tag of a controller in reset is in FETCHED, ADMITTED or DISPATCHED (R306). -/
def Fe.finishReset (e : Fe) (n : Nat) : Fe :=
  if (e.h.ctrl n).resetting ∧ (e.p.tagsOf n).all (fun t => decide (4 ≤ e.p.tagState t)) then
    { e with h := e.h.setCtrl n { e.h.ctrl n with resetting := false, rdy := false } }
  else e

/-- Free a tag and see to what waited for it. -/
def Fe.release (e : Fe) (t : Nat) : Fe :=
  let n := e.p.ct t Ct.cntl
  let q := e.p.ct t Ct.sqid
  ((e.freeTag t).finishDelete n q).finishReset n

/-- Post the completion and free the tag. -/
def Fe.postFree (e : Fe) (t : Nat) : Fe := (e.postCpl t).release t

/-- A tag enters DONE: freed without posting when POSTED, posted and freed when AUTO and no failure, otherwise DONE is queued
(R293). -/
def Fe.enterDone (e : Fe) (t : Nat) : Fe :=
  let e := { e with p := e.p.moveTag t 5 }
  if e.p.ct t Ct.posted = 1 then e.release t
  else if e.p.ct t Ct.auto = 1 ∧ e.p.ct t Ct.firstCode = 0 then e.postFree t
  else e.event 3 t

/-! ## Host transfers -/

/-- Whether the command of tag `t` is an I/O command. -/
def Plat.isIo (p : Plat) (t : Nat) : Bool := p.ct t Ct.sqid != 0

/-- The first LBA a tag's data is encrypted under: the assigned one for a Zone Append (R421). -/
def Fe.firstLba (e : Fe) (t : Nat) : Nat :=
  if e.h.opcode t = 0x7D then e.p.ct t Ct.dw0 + 2 ^ 32 * e.p.ct t Ct.dw1 else e.h.slba t

/-- Write bytes page by page into the buffer from page `pg`. -/
def bufPut (p : Plat) (b : Buf) (r : Requester) : Nat → Nat → List Byte → Plat × Buf × Bool
  | 0, _, _ => (p, b, true)
  | n + 1, pg, d =>
    if d = [] then (p, b, true)
    else
      let q := bufWrite p b r (4096 * pg) (d.take 4096)
      if q.2.2 then bufPut q.1 q.2.1 r n (pg + 1) (d.drop 4096) else q

/-- Read `n` bytes page by page from page `pg`; none as soon as one page cannot be read. -/
def bufTake (p : Plat) (b : Buf) (r : Requester) : Nat → Nat → Nat → List Byte → Plat × Buf × Option (List Byte)
  | 0, _, _, acc => (p, b, some acc)
  | k + 1, pg, n, acc =>
    if n = 0 then (p, b, some acc)
    else
      let q := bufRead p b r (4096 * pg) (min n 4096) .good
      match q.2.2 with
      | none => q
      | some d => bufTake q.1 q.2.1 r k (pg + 1) (n - 4096) (acc ++ d)

/-- A transfer of tag `t` ends with an error: XFER clears and XFER_ERR is queued (R292). -/
def Fe.xferErr (e : Fe) (t : Nat) : Fe :=
  { e with p := e.p.setCt t Ct.xfer 0, s := e.s.endXfer t }.event 4 t

/-- A transfer meets a PCIe error: as above, with the status that firmware gives the command, Data Transfer Error (R310). -/
def Fe.pcieErr (e : Fe) (t : Nat) : Fe := { e with p := e.p.setCt t Ct.status 0x04 }.xferErr t

/-- The crypto engine refuses the transfer of tag `t` (R423). -/
def Fe.cryptoRefuse (e : Fe) (t reason range : Nat) : Fe := { e with p := e.p.secRefused t reason range }.xferErr t

/-- The opcodes whose data XFER_IN moves: Write 0x01, Write Zeroes 0x08, Zone Append 0x7D. -/
def Fe.writesData (e : Fe) (t : Nat) : Bool :=
  e.p.isIo t && (e.h.opcode t == 0x01 || e.h.opcode t == 0x08 || e.h.opcode t == 0x7D)

/-- XFER_IN begins: the engine resolves every sector, or refuses the whole transfer; a Write Zeroes needs no engine. -/
def Fe.startIn (e : Fe) (t : Nat) : Fe :=
  let e := { e with p := e.p.setCt t Ct.xfer 1 }
  if e.h.opcode t = 0x08 then e
  else
    match e.p.resolve (e.h.nsid t) (e.firstLba t) false (e.h.nlb t) with
    | .inr r => e.cryptoRefuse t r.1 r.2
    | .inl ks => { e with s := { e.s with xfers := e.s.xfers ++ [⟨t, false, ks⟩] } }

/-- The data is in the buffer: DIN and DATA_IN. -/
def Fe.dataIn (e : Fe) (t : Nat) : Fe :=
  { e with p := (e.p.setCt t Ct.xfer 0).setCt t Ct.din 1, s := e.s.endXfer t }.event 2 t

/-- The slots a transfer resolved to. -/
def Sec.slotsOf (s : Sec) (t : Nat) (out : Bool) : List Nat :=
  match s.xfers.find? (fun x => x.tag == t && x.out == out) with
  | none => []
  | some x => x.slots

/-- The data move of an XFER_IN ends: `data` is what the host's memory gave, and `err` whether the move met a PCIe error. -/
def Fe.endIn (e : Fe) (t : Nat) (data : List Byte) (err : Bool) : Fe :=
  if e.p.ct t Ct.xfer = 1 ∧ e.p.ct t Ct.din = 0 ∧ e.writesData t ∧ e.p.tagState t ∈ [1, 2] then
    let n := e.h.nlb t
    let pg := e.p.ct t Ct.bufPage
    if err then e.pcieErr t
    else if e.h.opcode t = 0x08 then
      let w := bufPut e.p e.b .hif n pg (List.replicate (4096 * n) 0)
      if w.2.2 then { e with p := w.1, b := w.2.1 }.dataIn t else { e with p := w.1, b := w.2.1 }.xferErr t
    else
      let ks := e.s.slotsOf t false
      let c := e.s.encryptAll (e.h.nsid t) ks (e.firstLba t) data
      let w := bufPut (e.p.secCount 0 (c.1.length / 4096)) e.b .hif n pg c.1
      let e := { e with p := w.1, b := w.2.1 }
      if c.2 = false then
        e.cryptoRefuse t 5 (e.p.rangeOf (e.h.nsid t) (e.firstLba t + c.1.length / 4096))
      else if w.2.2 then e.dataIn t
      else e.xferErr t
  else e

/-- The data of a POST with XOUT begins to move: a Read passes the engines. -/
def Fe.startOut (e : Fe) (t : Nat) : Fe :=
  let e := { e with p := e.p.setCt t Ct.xfer 1 }
  if e.p.isIo t ∧ e.h.opcode t = 0x02 then
    match e.p.resolve (e.h.nsid t) (e.h.slba t) true (e.p.ct t Ct.xlen / 4096) with
    | .inr r => e.cryptoRefuse t r.1 r.2
    | .inl ks => { e with s := { e.s with xfers := e.s.xfers ++ [⟨t, true, ks⟩] } }
  else { e with s := { e.s with xfers := e.s.xfers ++ [⟨t, true, []⟩] } }

/-- The data move of a POST ends: the host holds the data, the completion is posted and the tag freed; with a PCIe error, or
data the buffer cannot give (R327), XFER_ERR is queued and the tag stays. -/
def Fe.endOut (e : Fe) (t : Nat) (err : Bool) : Fe :=
  if e.p.ct t Ct.xfer = 1 ∧ e.s.xfers.any (fun x => x.tag == t && x.out) then
    if err then e.pcieErr t
    else
      let len := e.p.ct t Ct.xlen
      let r := bufTake e.p e.b .hif (len / 4096 + 1) (e.p.ct t Ct.bufPage) len []
      match r.2.2 with
      | none => { e with p := r.1, b := r.2.1 }.xferErr t
      | some d =>
        let ks := e.s.slotsOf t true
        let plain := if e.p.isIo t ∧ e.h.opcode t = 0x02 then e.s.decryptAll (e.h.nsid t) ks (e.h.slba t) d else d
        let p := if e.p.isIo t ∧ e.h.opcode t = 0x02 then r.1.secCount 1 (cipherCount ks.length d) else r.1
        ({ e with p := p.setCt t Ct.xfer 0, b := r.2.1, s := e.s.endXfer t,
                  h := { e.h with toHost := some (t, plain) } }).postFree t
  else e

/-! ## Operations (Table CMD-2, R291) -/

/-- CMD_OP_RES after an operation. -/
def Plat.opRes (p : Plat) (t : Nat) (refused : Bool) : Plat :=
  p.wr Reg.CMD_OP_RES (BitVec.ofNat 32 ((if refused then 2 ^ 30 else 0) + p.tagState t % 8 * 2 ^ 27 + t % 2 ^ 13))

/-- An operation with its condition: applied, or refused with the tag unchanged. -/
def Fe.op (e : Fe) (t expect : Nat) (from' : List Nat) (cond : Bool) (f : Fe → Fe) : Fe :=
  if e.p.tagState t = expect ∧ expect ∈ from' ∧ cond then
    let r := f e
    { r with p := r.p.opRes t false }
  else { e with p := e.p.opRes t true }

/-- Whether a POST moves data on the tag (every operation is refused then). -/
def Fe.movingOut (e : Fe) (t : Nat) : Bool := e.p.ct t Ct.xfer == 1 && e.s.xfers.any (fun x => x.tag == t && x.out)

/-- XFER_IN. -/
def Fe.opXferIn (e : Fe) (t expect : Nat) : Fe :=
  e.op t expect [1, 2] (e.p.ct t Ct.xfer == 0 && e.p.ct t Ct.din == 0 && e.writesData t) (fun e => e.startIn t)

/-- ACK. -/
def Fe.opAck (e : Fe) (t expect : Nat) : Fe :=
  e.op t expect [1, 2, 3] (e.p.ct t Ct.xfer == 0 && e.p.ct t Ct.din == 1) (fun e =>
    let n := e.p.ct t Ct.cntl
    let q := e.p.ct t Ct.sqid
    let e := e.postCpl t
    ({ e with p := e.p.moveTag t 4 }.finishDelete n q).finishReset n)

/-- POST. -/
def Fe.opPost (e : Fe) (t expect : Nat) : Fe :=
  e.op t expect [1, 2, 5] (e.p.ct t Ct.xfer == 0 && e.p.ct t Ct.tref == 0 && e.p.ct t Ct.posted == 0) (fun e =>
    if e.p.ct t Ct.xout = 1 ∧ e.p.ct t Ct.xlen ≠ 0 then e.startOut t else e.postFree t)

/-- RELEASE. -/
def Fe.opRelease (e : Fe) (t expect : Nat) : Fe :=
  e.op t expect [1, 2, 5] (e.p.ct t Ct.xfer == 0 && e.p.ct t Ct.tref == 0 && e.p.ct t Ct.posted == 0) (fun e => e.release t)

/-! ## Posting descriptors (R294, R295) -/

/-- The address of byte `o` of slot `i` of dispatch queue `n`. -/
def descAddr (n i o : Nat) : Nat := 0x40280000 + 0x4000 * n + 512 * i + o

/-- Word `w` of slot `i` of queue `n`. -/
def Plat.desc (p : Plat) (n i w : Nat) : Nat := (p.rd (descAddr n i (4 * w))).toNat

/-- The binds of a descriptor: NBIND of the 16-bit entries from byte 272. -/
def Plat.descBinds (p : Plat) (n i : Nat) : List Nat :=
  (List.range (p.desc n i 67 % 2 ^ 16)).map (fun k => p.desc n i (68 + k / 2) / 2 ^ (16 * (k % 2)) % 2 ^ 16)

/-- The posted descriptors of queue `n`. -/
def Cmd.posts (c : Cmd) (n : Nat) : List Posted := SMap.get (fun _ => []) c.dq n

/-- Put the posted descriptors of queue `n`. -/
def Cmd.setPosts (c : Cmd) (n : Nat) (l : List Posted) : Cmd := { c with dq := SMap.set (fun _ => []) c.dq n l }

/-- Whether the descriptor in slot `i` of queue `n` passes the checks of R295: the carrier is the tag word 0 names. -/
def descOk (p : Plat) (c : Cmd) (n i carrier : Nat) : Bool :=
  let nb := p.desc n i 67 % 2 ^ 16
  let binds := p.descBinds n i
  decide (1 ≤ nb) && decide (nb ≤ 32) && (binds.headD 0) % 2 ^ 13 == carrier
    && binds.all (fun b => [2, 3, 4].contains (p.tagState (b % 2 ^ 13))
        && decide (p.ct (b % 2 ^ 13) Ct.tref + (binds.filter (fun x => x % 2 ^ 13 == b % 2 ^ 13)).length ≤ 63))
    && !(c.posts n).any (fun x => x.slot == i)

/-- Bind a descriptor's tags: TREF rises by 1, LASTSEEN sets where LAST is marked. -/
def bindTags (p : Plat) (binds : List Nat) : Plat :=
  binds.foldl (fun q b =>
    let t := b % 2 ^ 13
    let q := q.setCt t Ct.tref (q.ct t Ct.tref + 1)
    if b / 2 ^ 13 % 2 = 1 then q.setCt t Ct.lastSeen 1 else q) p

/-- Post the descriptors from tail `at0` (slot and wrap, modulo 64) on, at most `k`, until the tail is `goal` or one fails. -/
def postDescs (n goal : Nat) : Nat → Plat → Cmd → Nat → Plat × Cmd
  | 0, p, c, at0 => (p.setFld (Reg.CMD_DQ_TAIL n) Fld.CMD_DQ_TAIL_TAIL at0, c)
  | k + 1, p, c, at0 =>
    if at0 = goal then (p.setFld (Reg.CMD_DQ_TAIL n) Fld.CMD_DQ_TAIL_TAIL at0, c)
    else
      let i := at0 % 32
      if descOk p c n i (p.desc n i 1 / 2 ^ 11 % 2 ^ 13) then
        let binds := p.descBinds n i
        postDescs n goal k (bindTags p binds) (c.setPosts n (c.posts n ++ [⟨i, binds, false, false, 0, false⟩])) ((at0 + 1) % 64)
      else
        (((p.setFld (Reg.CMD_DQ_TAIL n) Fld.CMD_DQ_TAIL_TAIL at0).setFlag Reg.CMD_EVT Fld.CMD_EVT_DQ_REFUSED).setFld
            (Reg.CMD_DQ_PTR n) Fld.CMD_DQ_PTR_ERR_SLOT i, c)

/-- A write of CMD_DQn_TAIL (R295). -/
def dqTailWrite (p : Plat) (c : Cmd) (n tail : Nat) : Plat × Cmd :=
  postDescs n (tail % 64) 63 p c (p.fld (Reg.CMD_DQ_TAIL n) Fld.CMD_DQ_TAIL_TAIL)

/-! ## Firmware writes to an entry (R290) -/

/-- The bits of word `w` of an entry that firmware writes (Table CMD-1). -/
def entryFwMask (w : Nat) : Nat :=
  match w with
  | 0 => 0x180
  | 6 => 0xFFFFFFFF
  | 7 => 0xFFFFFFFF
  | 8 => 0x7FFF
  | 10 => 0x7FFFFF
  | 11 => 0x3FFFFF
  | 12 => 0xFFFFFFFF
  | 13 => 0xFFFFFFFF
  | 14 => 0xFFFFFFFF
  | 15 => 0xFFFFFFFF
  | _ => 0

/-- A firmware write of word `w` of tag `t`'s entry: only firmware's own fields change. -/
def Plat.entryWrite (p : Plat) (t w : Nat) (v : Word) : Plat :=
  let m := BitVec.ofNat 32 (entryFwMask w)
  p.wr (entryWord t w) ((p.rd (entryWord t w) &&& ~~~ m) ||| (v &&& m))

end Sys2Proof.Machine
end

