-- ==== Sys2Proof/Machine/HifOps.lean ====
section
/-! DEFINITION. The Host Interface: doorbells and shadow doorbells, command fetch, configuration requests, links and resets, and
the writes of its registers (R264 to R275, R287, R306, R308). -/

namespace Sys2Proof.Machine

/-! ## Asynchronous events (R275, R277, R280) -/

/-- An Asynchronous Event of controller `n`: it completes the oldest outstanding request, or waits for one. -/
def Fe.asyncEvent (e : Fe) (n dw0 : Nat) : Fe :=
  let c := e.h.ctrl n
  match c.aers with
  | [] => { e with h := e.h.setCtrl n { c with events := c.events ++ [dw0] } }
  | t :: ts => ({ e with p := e.p.setCt t Ct.dw0 dw0, h := e.h.setCtrl n { c with aers := ts } }).postFree t

/-- An Asynchronous Event of every enabled controller whose Asynchronous Event Configuration (feature 0x0B) has bit `bit`. -/
def Fe.noticeAll (e : Fe) (bit dw0 : Nat) : Fe :=
  (List.range 64).foldl (fun e n =>
    if (e.h.ctrl n).en ∧ (e.h.feature n 0x0B).testBit bit then e.asyncEvent n dw0 else e) e

/-- An invalid doorbell value: DB_INVALID, and firmware's Invalid Doorbell Write Value (R275). -/
def Fe.dbInvalid (e : Fe) (n : Nat) : Fe :=
  { e with p := e.p.setFlag Reg.HIF_EVT Fld.HIF_EVT_DB_INVALID }.asyncEvent n 0x010100

/-! ## Doorbells (R275) -/

/-- The distance from `a` forward to `b` in a ring of `n`. -/
def ringDist (n a b : Nat) : Nat := if a ≤ b then b - a else b + n - a

/-- A tail value of a submission queue is valid when it lies in the queue and does not move the tail backwards past an entry not
yet fetched. -/
def SubQ.tailOk (q : SubQ) (v : Nat) : Bool :=
  decide (v < q.size) && decide (ringDist q.size q.head q.tail ≤ ringDist q.size q.head v)

/-- A head value of a completion queue is valid when it lies in the queue and releases only posted entries. -/
def CplQ.headOk (q : CplQ) (v : Nat) : Bool :=
  decide (v < q.size) && decide (ringDist q.size q.head v ≤ q.posted.length)

/-- Release entries up to head `v`: waiting completions take the room. -/
def CplQ.advance (q : CplQ) (v : Nat) : CplQ :=
  let r := { q with head := v, posted := q.posted.drop (ringDist q.size q.head v) }
  r.drain r.waiting.length

/-- A queue's shadow doorbell after an MMIO doorbell write: polled again while Doorbell Buffer Config is in force (R274). -/
def Shadow.wake (s : Shadow) (on : Bool) : Shadow := if on then { s with polled := true, same := 0 } else s

/-- A submission tail doorbell written by the host. -/
def Fe.sqTail (e : Fe) (n q v : Nat) : Fe :=
  match e.h.sq n q with
  | none => e.dbInvalid n
  | some s =>
    if s.tailOk v then
      { e with h := e.h.setSq n q (some { s with tail := v, shadow := s.shadow.wake (e.h.ctrl n).dbbuf }) }
    else e.dbInvalid n

/-- A completion head doorbell written by the host. -/
def Fe.cqHead (e : Fe) (n q v : Nat) : Fe :=
  match e.h.cq n q with
  | none => e.dbInvalid n
  | some s =>
    if s.headOk v then
      let r := s.advance v
      let h := e.h.setCq n q (some { r with shadow := r.shadow.wake (e.h.ctrl n).dbbuf })
      { e with h := if r.ien ∧ r.waiting.length < s.waiting.length then h.interrupt n r.vec else h }
    else e.dbInvalid n

/-- One poll of a shadow doorbell that read `v`: EventIdx := v − 1 modulo 65,536 while the queue stays polled; after IDLE
unchanged reads EventIdx := v and polling stops (R274). -/
def Shadow.poll (s : Shadow) (idle v : Nat) : Shadow :=
  let same := if v = s.last then s.same + 1 else 0
  if idle ≤ same then ⟨false, same, v, v⟩ else ⟨true, same, v, (v + 65535) % 65536⟩

/-- The Host Interface reads the shadow doorbell of a queue (`cq`: a completion queue). -/
def Fe.shadowPoll (e : Fe) (n q : Nat) (cq : Bool) (v : Nat) : Fe :=
  let idle := atLeast1 (e.p.fld Reg.HIF_POLL Fld.HIF_POLL_IDLE)
  if (e.h.ctrl n).dbbuf then
    if cq then
      match e.h.cq n q with
      | none => e
      | some s =>
        if s.shadow.polled then
          let sh := s.shadow.poll idle v
          let e' := { e with h := e.h.setCq n q (some { s with shadow := sh }) }
          if v = s.shadow.last ∨ v = s.head then e'
          else if s.headOk v then
            let r := { s.advance v with shadow := sh }
            let h := e.h.setCq n q (some r)
            { e with h := if r.ien ∧ r.waiting.length < s.waiting.length then h.interrupt n r.vec else h }
          else e'.dbInvalid n
        else e
    else
      match e.h.sq n q with
      | none => e
      | some s =>
        if s.shadow.polled then
          let sh := s.shadow.poll idle v
          let e' := { e with h := e.h.setSq n q (some { s with shadow := sh }) }
          if v = s.shadow.last ∨ v = s.tail then e'
          else if s.tailOk v then { e with h := e.h.setSq n q (some { s with tail := v, shadow := sh }) }
          else e'.dbInvalid n
        else e
  else e

/-! ## Fetch (R272, R290) -/

/-- Whether a submission queue has an entry to fetch. -/
def Hif.hasEntry (h : Hif) (n q : Nat) : Bool :=
  match h.sq n q with
  | none => false
  | some s => s.head != s.tail && s.stop.isNone

/-- Whether controller `n` has an entry to fetch in any of its queues. -/
def Hif.anyEntry (h : Hif) (n : Nat) : Bool :=
  (h.ctrl n).en && !(h.ctrl n).resetting
    && h.sqs.any (fun x => x.1 / 2048 == n && h.hasEntry n (x.1 % 2048))

/-- The tags controller `n` may hold. -/
def Plat.tagMax (p : Plat) (n : Nat) : Nat := atLeast1 (p.fld (Reg.HIF_FN_TAG n) Fld.HIF_FN_TAG_TAG_MAX)

/-- The tags in FREE. -/
def Plat.freeTags (p : Plat) : Nat := p.fld (Reg.CMD_CNT 0) Fld.CMD_CNT_LOW

/-- The reserve that every other enabled controller still has to be kept. -/
def reserveOf (p : Plat) (h : Hif) (n : Nat) : Nat :=
  (List.range 64).foldl (fun s m =>
    if m ≠ n ∧ (h.ctrl m).en then s + (p.fld (Reg.HIF_FN_TAG m) Fld.HIF_FN_TAG_TAG_MIN - (p.tagsOf m).length) else s) 0

/-- Whether the Host Interface may fetch a command for controller `n` (R272). -/
def mayFetch (p : Plat) (h : Hif) (n : Nat) : Bool :=
  decide ((p.tagsOf n).length < p.tagMax n) && decide (reserveOf p h n + 1 ≤ p.freeTags)

/-- Whether controller `n` is served when its turn comes. -/
def servable (p : Plat) (h : Hif) (n : Nat) : Bool := h.anyEntry n && mayFetch p h n

/-- The Arbitration Burst of controller `n` (feature 0x01, bits 2:0): 2 to that power, 7 for no limit. -/
def Hif.burst (h : Hif) (n : Nat) : Nat :=
  let b := h.feature n 1 % 8
  if b = 7 then 4096 else 2 ^ b

/-- The controller and queue of the next fetch: the turn in hand while its burst lasts, else the next servable controller in
round-robin order, with the queue its own arbitration selects (`sel`); and the fetches then left in the turn. -/
def nextFetch (p : Plat) (h : Hif) (sel : Nat) : Option (Nat × Nat × Nat) :=
  let n := h.turn.1
  let q := h.turn.2.1
  let left := h.turn.2.2
  if 0 < left ∧ (h.ctrl n).en ∧ (h.ctrl n).resetting = false ∧ h.hasEntry n q ∧ mayFetch p h n then some (n, q, left - 1)
  else
    match (List.range 64).find? (fun i => servable p h ((n + 1 + i) % 64)) with
    | none => none
    | some i =>
      let m := (n + 1 + i) % 64
      if h.hasEntry m sel then some (m, sel, h.burst m - 1) else none

/-- The address in control SRAM of the copy of tag `t`'s submission entry, as an offset (R290). -/
def Plat.sqeCopy (p : Plat) (t : Nat) : Nat := p.fld Reg.CMD_SQE Fld.CMD_SQE_BASE * 0x80000 + 64 * t

/-- The entry of a tag as it enters FETCHED: every field 0 but those the Host Interface writes. -/
def Plat.fetchEntry (p : Plat) (t n q slot : Nat) : Plat :=
  let p := p.moveTag t 1
  let p := (List.range 16).foldl (fun r w => r.wr (entryWord t w) 0) p
  (((((p.setCt t Ct.state 1).setCt t Ct.cntl n).setCt t Ct.sqid q).setCt t Ct.slot slot).setCt t Ct.fetchLo
    p.time.toNat).setCt t Ct.fetchHi (p.time.toNat / 2 ^ 32)

/-- The Host Interface fetches the next submission entry, whose bytes in host memory are `entry`, into FREE tag `t`. -/
def Fe.fetch (e : Fe) (y : Sys) (t sel : Nat) (entry : List Byte) : Fe × Sys :=
  if t < tagCount ∧ e.p.tagState t = 0 ∧ e.p.bit Reg.CMD_CTRL Fld.CMD_CTRL_FETCH_HOLD = false ∧ e.c.hold = false then
    match nextFetch e.p e.h sel with
    | none => (e, y)
    | some r =>
      match e.h.sq r.1 r.2.1 with
      | none => (e, y)
      | some s =>
        let bytes := (entry ++ List.replicate 64 0).take 64
        let h := (e.h.setSq r.1 r.2.1 (some { s with head := if s.head + 1 = s.size then 0 else s.head + 1 }))
        let h := { h with turn := r, sqe := SMap.set (fun _ => []) h.sqe t bytes, fetched := h.fetched ++ [t] }
        (({ e with p := e.p.fetchEntry t r.1 r.2.1 s.head, h := h }).event 1 t,
         { y with sram := SMap.store zeroByte y.sram (e.p.sqeCopy t) bytes })
  else (e, y)

/-! ## Controllers, resets and shutdown (R306, R308, R476) -/

/-- The queues of controller `n` deleted. -/
def Hif.dropQueues (h : Hif) (n : Nat) : Hif :=
  { h with sqs := h.sqs.filter (fun x => x.1 / 2048 != n), cqs := h.cqs.filter (fun x => x.1 / 2048 != n),
           irqHeld := h.irqHeld.filter (fun x => x.1 / 2048 != n) }

/-- Post the Frieze record of a tag ended as Aborted-by-Reset: firmware's record with its CNTL, SQID and CID. -/
def Fe.abortedRecord (e : Fe) (t : Nat) : Fe :=
  let payload := le2 (e.p.ct t Ct.cntl) ++ le2 (e.p.ct t Ct.sqid) ++ le2 (e.h.cid t) ++ [0, 0]
  { e with p := e.p.postEvent 256 0x8000 true payload }

/-- What a controller reset does to one tag (R306): a FETCHED tag, or an ADMITTED one with TREF 0, is released; another ADMITTED
or DISPATCHED one is marked for ABORT, a tag in DESTAGING goes on. -/
def Fe.resetTag (e : Fe) (t : Nat) : Fe :=
  let s := e.p.tagState t
  if s = 1 ∨ (s = 2 ∧ e.p.ct t Ct.tref = 0) ∨ s = 5 then
    let e := e.abortedRecord t
    { e with p := e.p.setCt t Ct.xfer 0, s := e.s.endXfer t }.freeTag t
  else e

/-- A controller reset of controller `n`: fetching stops, its queues go, its tags end as R306 gives; CSTS.RDY reads 0 once none is
left in FETCHED, ADMITTED or DISPATCHED. -/
def Fe.ctrlReset (e : Fe) (n : Nat) : Fe :=
  let h := e.h.dropQueues n
  let c := { Sys2Proof.Machine.ctrlReset with resetting := true, rdy := (e.h.ctrl n).rdy }
  let e := { e with h := h.setCtrl n c }
  ((e.p.tagsOf n).foldl Fe.resetTag e).finishReset n

/-- Whether controller `n` is a function of the port: in MODE 0 port A carries all; in MODE 1 port B carries PF1 and its VFs
(Table HIF-1, R269). -/
def portOf (p : Plat) (h : Hif) (n : Nat) : Nat :=
  let v0 := p.fld Reg.HIF_SRIOV Fld.HIF_SRIOV_TOTALVF0
  if SMap.get (fun _ => 0) h.linkCfg 0 = 0 then 0
  else if n = 0 then 0 else if n = 1 then 1 else if n ≤ 1 + v0 then 0 else 1

/-- Reset every controller of a port. -/
def Fe.portReset (e : Fe) (port : Nat) : Fe :=
  (List.range 64).foldl (fun e n => if portOf e.p e.h n = port then e.ctrlReset n else e) e

/-- The host sets CC.EN: the admin queues are taken with their sizes; firmware sets CSTS.RDY. -/
def Fe.enable (e : Fe) (n asqs acqs : Nat) : Fe :=
  let c := e.h.ctrl n
  if n < 64 ∧ c.en = false ∧ c.resetting = false ∧ 2 ≤ asqs ∧ asqs ≤ 4096 ∧ 2 ≤ acqs ∧ acqs ≤ 4096 then
    let h := e.h.setCtrl n { c with en := true, rdy := true }
    let h := h.setSq n 0 (some ⟨asqs, 0, 0, 0, none, ⟨false, 0, 0, 0⟩⟩)
    { e with h := h.setCq n 0 (some ⟨acqs, true, 0, 0, 0, true, [], [], ⟨false, 0, 0, 0⟩⟩) }
  else e

/-- Whether a tag is in DESTAGING. -/
def Plat.destaging (p : Plat) : Bool := p.tagsInUse.any (fun t => p.tagState t == 4)

/-- A write of CC.SHN: SHST reads 01b while the shutdown runs, and 10b once no tag is in DESTAGING and the persistent state has
been written (`recorded`, R308, R480). -/
def Fe.shutdown (e : Fe) (n : Nat) (recorded : Bool) : Fe :=
  let c := e.h.ctrl n
  { e with h := e.h.setCtrl n { c with shn := true, shst := if recorded && !e.p.destaging then 2 else 1 } }

/-! ## Configuration and links (R264 to R268, R287) -/

/-- HIF_EVT.LINK_A or LINK_B. -/
def linkFlag (port : Nat) : Fld := if port = 0 then Fld.HIF_EVT_LINK_A else Fld.HIF_EVT_LINK_B

/-- A configuration request of function `n`: Retry Status (none) while CFG_READY is 0, otherwise the item's value as the manual
gives it; an item whose value it does not give is a free value. -/
def configAnswer (p : Plat) (n : Nat) (item : ConfigItem) : Option Nat :=
  if p.bit Reg.HIF_CFG Fld.HIF_CFG_CFG_READY then
    match item with
    | .vendorDevice => some (if n < 2 then (p.rd Reg.HIF_ID0).toNat else 0xFFFFFFFF)
    | .revisionClass => some (0x01080200 + p.fld Reg.HIF_ID2 Fld.HIF_ID2_REV)
    | .subsystem => some (p.rd Reg.HIF_ID1).toNat
    | .vfDeviceId => some (p.fld Reg.HIF_ID2 Fld.HIF_ID2_VFDID)
    | .totalVfs => some (p.fld Reg.HIF_SRIOV (if n = 1 then Fld.HIF_SRIOV_TOTALVF1 else Fld.HIF_SRIOV_TOTALVF0))
    | .msixTableSize => some (atLeast1 (p.fld (Reg.HIF_FN_RES n) Fld.HIF_FN_RES_INTMAX) - 1)
    | .slotClockConfig => some 0
    | .clockPowerManagement => some 0
    | .other => some p.freeVal
  else none

/-- A configuration request is answered. -/
def configRequest (p : Plat) (h : Hif) (n : Nat) (item : ConfigItem) : Plat × Hif :=
  (if item = .other then p.useFree else p, { h with cfgAns := some (configAnswer p n item) })

/-- Whether a port may train: its LTSSM enable (LTSSM_B is ignored in MODE 0), PERST# deasserted, PHY (16) and controller (17)
domains on. -/
def mayTrain (p : Plat) (port : Nat) : Bool :=
  p.bit Reg.HIF_LINK_CFG (if port = 0 then Fld.HIF_LINK_CFG_LTSSM_A else Fld.HIF_LINK_CFG_LTSSM_B)
    && (port == 0 || p.bit Reg.HIF_LINK_CFG Fld.HIF_LINK_CFG_MODE)
    && !p.bit (Reg.HIF_LINK_STAT port) Fld.HIF_LINK_STAT_PERST && p.on 16 && p.on 17

/-- Link training of a port begins: the configuration written takes effect and the LTSSM shows Polling. -/
def trainStart (p : Plat) (h : Hif) (port : Nat) : Plat × Hif :=
  if port < 2 ∧ mayTrain p port ∧ p.bit (Reg.HIF_LINK_STAT port) Fld.HIF_LINK_STAT_DL_UP = false then
    (p.setFld (Reg.HIF_LINK_STAT port) Fld.HIF_LINK_STAT_LTSSM 1,
     { h with training := SMap.set (fun _ => false) h.training port true
              linkCfg := SMap.set (fun _ => 0)
                (SMap.set (fun _ => 0) h.linkCfg (1 + port) (p.rd Reg.HIF_LINK_CFG).toNat)
                0 (p.fld Reg.HIF_LINK_CFG Fld.HIF_LINK_CFG_MODE) })
  else (p, h)

/-- The highest rate of a port: 0 acts as 1, 6 and 7 act as 5. -/
def speedCap (p : Plat) (port : Nat) : Nat :=
  min 5 (atLeast1 (p.fld Reg.HIF_LINK_CFG (if port = 0 then Fld.HIF_LINK_CFG_SPEED_A else Fld.HIF_LINK_CFG_SPEED_B)))

/-- The widest width of a port: the next lower of 1, 2, 4 and 8; 4 at most in MODE 1. -/
def widthCap (p : Plat) : Nat :=
  let w := p.fld Reg.HIF_LINK_CFG Fld.HIF_LINK_CFG_WIDTH
  let w := if 8 ≤ w then 8 else if 4 ≤ w then 4 else if 2 ≤ w then 2 else 1
  if p.bit Reg.HIF_LINK_CFG Fld.HIF_LINK_CFG_MODE then min w 4 else w

/-- A port's link comes up, or changes rate or width: `speed` and `width` are what the partner allows. -/
def linkUp (p : Plat) (h : Hif) (port speed width : Nat) : Plat × Hif :=
  if port < 2 ∧ (SMap.get (fun _ => false) h.training port ∨ p.bit (Reg.HIF_LINK_STAT port) Fld.HIF_LINK_STAT_DL_UP) then
    let a := Reg.HIF_LINK_STAT port
    let w := min width (widthCap p)
    let w := if 8 ≤ w then 8 else if 4 ≤ w then 4 else if 2 ≤ w then 2 else 1
    (((((p.setFlag a Fld.HIF_LINK_STAT_DL_UP).setFld a Fld.HIF_LINK_STAT_SPEED (min (atLeast1 speed) (speedCap p port))).setFld
        a Fld.HIF_LINK_STAT_WIDTH w).setFld a Fld.HIF_LINK_STAT_LTSSM 3).setFlag Reg.HIF_EVT (linkFlag port),
     { h with training := SMap.set (fun _ => false) h.training port false })
  else (p, h)

/-- HIF_LINK_STAT of a port whose link is down. -/
def linkDownStat (p : Plat) (port ltssm : Nat) : Plat :=
  let a := Reg.HIF_LINK_STAT port
  (((p.setFld a Fld.HIF_LINK_STAT_DL_UP 0).setFld a Fld.HIF_LINK_STAT_SPEED 0).setFld a Fld.HIF_LINK_STAT_WIDTH 0).setFld
    a Fld.HIF_LINK_STAT_LTSSM ltssm

/-- A port's data link goes down, or it receives a hot reset: its controllers are reset, HIF_EVT records the port. -/
def Fe.linkDown (e : Fe) (port : Nat) (hot : Bool) : Fe :=
  if port < 2 then
    let p := (linkDownStat e.p port (if hot then 7 else 0)).setFlag Reg.HIF_EVT (linkFlag port)
    ({ e with p := p, h := { e.h with training := SMap.set (fun _ => false) e.h.training port false } }).portReset port
  else e

/-- PERST# of a port changes (R267): HIF_EVT.PERST; while asserted the port is in fundamental reset. -/
def Fe.perst (e : Fe) (port : Nat) (asserted : Bool) : Fe :=
  if e.p.bit (Reg.HIF_LINK_STAT port) Fld.HIF_LINK_STAT_PERST = asserted then e
  else
    let p := (e.p.putBit (Reg.HIF_LINK_STAT port) Fld.HIF_LINK_STAT_PERST asserted).setFlag Reg.HIF_EVT Fld.HIF_EVT_PERST
    if asserted then
      ({ e with p := linkDownStat p port 0,
                h := { e.h with training := SMap.set (fun _ => false) e.h.training port false } }).portReset port
    else { e with p := p }

/-- The host writes NumVFs or VF Enable of a PF. -/
def vfConfig (p : Plat) (h : Hif) (pf num : Nat) (en : Bool) : Plat × Hif :=
  (p.setFlag Reg.HIF_EVT Fld.HIF_EVT_VF_CFG,
   { h with numVfs := SMap.set (fun _ => 0) h.numVfs (pf % 2) num, vfEn := SMap.set (fun _ => false) h.vfEn (pf % 2) en })

/-! ## Register writes (R264, R268, R271, R272) -/

/-- A HIF register write that is ignored. -/
def Plat.cfgRefused (p : Plat) : Plat := p.setFlag Reg.HIF_EVT Fld.HIF_EVT_CFG_REFUSED

/-- The sum of a field over the 64 controllers, with controller `n` at `v`. -/
def Plat.sumWith (p : Plat) (reg : Nat → Nat) (f : Fld) (g : Nat → Nat) (n v : Nat) : Nat :=
  (List.range 64).foldl (fun s m => s + g (if m = n then v else p.fld (reg m) f)) 0

/-- A write of HIF_FNn_RES: only while CC.EN is 0, within QMAX 0 to 1,024 and INTMAX 1 to 1,025, and within both sums. -/
def fnResWrite (p : Plat) (h : Hif) (n : Nat) (v : Word) : Plat :=
  let q := Fld.get Fld.HIF_FN_RES_QMAX v
  let i := Fld.get Fld.HIF_FN_RES_INTMAX v
  if (h.ctrl n).en = false ∧ q ≤ 1024 ∧ i ≤ 1025
      ∧ p.sumWith Reg.HIF_FN_RES Fld.HIF_FN_RES_QMAX id n q ≤ 2048
      ∧ p.sumWith Reg.HIF_FN_RES Fld.HIF_FN_RES_INTMAX atLeast1 n i ≤ 2112 then
    p.fwWrite (Reg.HIF_FN_RES n) v
  else p.cfgRefused

/-- A write of HIF_FNn_TAG: the sum of TAG_MIN stays within 8,192. -/
def fnTagWrite (p : Plat) (n : Nat) (v : Word) : Plat :=
  if p.sumWith Reg.HIF_FN_TAG Fld.HIF_FN_TAG_TAG_MIN id n (Fld.get Fld.HIF_FN_TAG_TAG_MIN v) ≤ 8192 then
    p.fwWrite (Reg.HIF_FN_TAG n) v
  else p.cfgRefused

/-- A write of HIF_LINK_CFG: ignored when it changes MODE while LTSSM_A or LTSSM_B is 1. -/
def linkCfgWrite (p : Plat) (v : Word) : Plat :=
  if Fld.get Fld.HIF_LINK_CFG_MODE v ≠ p.fld Reg.HIF_LINK_CFG Fld.HIF_LINK_CFG_MODE
      ∧ (p.bit Reg.HIF_LINK_CFG Fld.HIF_LINK_CFG_LTSSM_A ∨ p.bit Reg.HIF_LINK_CFG Fld.HIF_LINK_CFG_LTSSM_B) then
    p.cfgRefused
  else p.fwWrite Reg.HIF_LINK_CFG v

/-- A write of HIF_SRIOV: only while CFG_READY is 0 and the sum is at most 62. -/
def sriovWrite (p : Plat) (v : Word) : Plat :=
  if p.bit Reg.HIF_CFG Fld.HIF_CFG_CFG_READY = false
      ∧ Fld.get Fld.HIF_SRIOV_TOTALVF0 v + Fld.get Fld.HIF_SRIOV_TOTALVF1 v ≤ 62 then
    p.fwWrite Reg.HIF_SRIOV v
  else p.cfgRefused

end Sys2Proof.Machine
end

