-- ==== Sys2Proof/Machine/Crc.lean ====
section
/-! DEFINITION. The check words of the manual: CRC-32 and CRC-16/CCITT of R8, and the CRC-8 of R145. -/

namespace Sys2Proof.Machine

/-- One bit of a reflected CRC-32 register. -/
def crc32Bit (c : Nat) : Nat := if c % 2 = 1 then (c / 2) ^^^ 0xEDB88320 else c / 2

/-- `n` bits of the reflected CRC-32 register. -/
def crc32Bits : Nat → Nat → Nat
  | 0, c => c
  | n + 1, c => crc32Bits n (crc32Bit c)

/-- The CRC-32 register after the bytes, from `c`. -/
def crc32From : List Byte → Nat → Nat
  | [], c => c
  | b :: bs, c => crc32From bs (crc32Bits 8 (c ^^^ b.toNat))

/-- CRC-32 of R8: polynomial 0x04C1_1DB7, reflected, initial value and final XOR all ones. -/
def crc32 (bs : List Byte) : Nat := crc32From bs 0xFFFFFFFF ^^^ 0xFFFFFFFF

/-- `n` bits of the unreflected CRC-16 register. -/
def crc16Bits : Nat → Nat → Nat
  | 0, c => c
  | n + 1, c => crc16Bits n ((if c / 0x8000 % 2 = 1 then (2 * c) ^^^ 0x1021 else 2 * c) % 0x10000)

/-- The CRC-16 register after the bytes, from `c`. -/
def crc16From : List Byte → Nat → Nat
  | [], c => c
  | b :: bs, c => crc16From bs (crc16Bits 8 (c ^^^ (b.toNat * 256)))

/-- CRC-16/CCITT of R8: polynomial 0x1021, initial value 0xFFFF, no reflection, no final XOR. -/
def crc16 (bs : List Byte) : Nat := crc16From bs 0xFFFF

/-- `n` bits of the CRC-8 register. -/
def crc8Bits : Nat → Nat → Nat
  | 0, c => c
  | n + 1, c => crc8Bits n ((if c / 0x80 % 2 = 1 then (2 * c) ^^^ 0x07 else 2 * c) % 0x100)

/-- The CRC-8 register after the bytes, from `c`. -/
def crc8From : List Byte → Nat → Nat
  | [], c => c
  | b :: bs, c => crc8From bs (crc8Bits 8 (c ^^^ b.toNat))

/-- CRC-8 of R145: polynomial 0x07, initial value 0, no reflection, no final XOR. -/
def crc8 (bs : List Byte) : Nat := crc8From bs 0

end Sys2Proof.Machine
end

