-- ==== Sys2Proof/Machine/FriezeOps.lean ====
section
/-! DEFINITION. The Frieze and the trace port: choosing the next queued event, record bytes, repeat counting, LOST and SNAPSHOT
records, stop-when-full, freezing, clearing, firmware posts, and messages leaving the trace FIFO (R26, R444 to R455). -/

namespace Sys2Proof.Machine

/-! ## Records -/

/-- The bytes of the log: 512 KiB. -/
def frzLogSize : Nat := 0x80000

/-- Whether recording is stopped by a freeze (R450). -/
def Plat.frozen (p : Plat) : Bool :=
  p.bit Reg.FRZ_CTRL Fld.FRZ_CTRL_FREEZE_FW || p.bit Reg.FRZ_CTRL Fld.FRZ_CTRL_FREEZE_MI

/-- The bytes of a record (Table FRZ-1). -/
def recordBytes (flags typ src node rep : Nat) (time : BitVec 64) (payload : List Byte) : List Byte :=
  let body := [BitVec.ofNat 8 ((payload.length + 20) / 4), BitVec.ofNat 8 flags] ++ le2 typ ++ le2 src ++ le2 node
    ++ le8 time.toNat ++ payload ++ le2 rep
  body ++ le2 (crc16 body)

/-- Whether event `e` is written before event `f`: the earlier timestamp, then the lower source (R26). -/
def FrzEvent.before (e f : FrzEvent) : Bool :=
  decide (e.time.toNat < f.time.toNat) || (e.time == f.time && decide (e.src < f.src))

/-- The queued event the Frieze writes next. -/
def nextEvent : List FrzEvent → Option FrzEvent
  | [] => none
  | e :: es =>
    match nextEvent es with
    | none => some e
    | some f => if f.before e then some f else some e

/-- FRZ_STATUS.WPTR. -/
def Plat.wptr (p : Plat) : Nat := p.fld Reg.FRZ_STATUS Fld.FRZ_STATUS_WPTR

/-- Append a whole record to the log and advance WPTR (R449). -/
def Plat.appendRec (p : Plat) (typ src : Nat) (bytes : List Byte) : Plat :=
  let at0 := p.wptr
  let p := { p with frz := { p.frz with log := SMap.store zeroByte p.frz.log at0 bytes, lastAt := some at0 } }
  (p.setFld Reg.FRZ_STATUS Fld.FRZ_STATUS_WPTR (at0 + bytes.length)).trcFrz typ src

/-- The payload of a SNAPSHOT record and the captures its reads make: the trigger word, then each enabled entry's register in
ascending order (R451). -/
def Plat.snapWords (p : Plat) : List Nat → List Byte → Plat × List Byte
  | [], acc => (p, acc)
  | n :: ns, acc =>
    if p.bit (Reg.FRZ_SNAP n) Fld.FRZ_SNAP_EN then
      let a := 0x40000000 + p.fld (Reg.FRZ_SNAP n) Fld.FRZ_SNAP_OFS / 4 * 4
      Plat.snapWords (p.capture a) ns (acc ++ le4 (p.peek a).toNat)
    else Plat.snapWords p ns acc

/-- Whether an event's record is identical to the last one in the log (R447): TYPE, SRC, NODE, LENW and PAYLOAD equal and SNAP
0 in both. -/
def Plat.isRepeat (p : Plat) (e : FrzEvent) : Bool :=
  match p.frz.lastAt with
  | none => false
  | some o =>
    let lenw := (SMap.get zeroByte p.frz.log o).toNat
    let new := recordBytes 0 e.typ e.src (p.fld Reg.MGT_NODE Fld.MGT_NODE_ID) 0 e.time e.payload
    !p.bit Reg.FRZ_CTRL Fld.FRZ_CTRL_MODE && !(SMap.get zeroByte p.frz.log (o + 1)).getLsbD 1
      && lenw * 4 == new.length
      && SMap.bytes zeroByte p.frz.log (o + 2) 6 == (new.drop 2).take 6
      && SMap.bytes zeroByte p.frz.log (o + 16) (4 * lenw - 20) == e.payload

/-- Count an identical event in the last record's trailer (R447). -/
def Plat.countRepeat (p : Plat) (o : Nat) : Plat :=
  let n := 4 * (SMap.get zeroByte p.frz.log o).toNat
  let rep := leNat (SMap.bytes zeroByte p.frz.log (o + n - 4) 2)
  if rep = 0xFFFF then p
  else
    let flags := (SMap.get zeroByte p.frz.log (o + 1)).toNat
    let body := [SMap.get zeroByte p.frz.log o, BitVec.ofNat 8 (if rep + 1 = 0xFFFF then flags ||| 1 else flags)]
      ++ SMap.bytes zeroByte p.frz.log (o + 2) (n - 6) ++ le2 (rep + 1)
    let p := { p with frz := { p.frz with log := SMap.store zeroByte p.frz.log o (body ++ le2 (crc16 body)) } }
    let p := p.setFlagIf (rep + 1 == 0xFFFF) Reg.FRZ_EVT Fld.FRZ_EVT_REP_SAT
    p.trcFrz (leNat (SMap.bytes zeroByte p.frz.log (o + 2) 2)) (leNat (SMap.bytes zeroByte p.frz.log (o + 4) 2))

/-- The FLAGS of a record: SNAP in snapshot mode, FW for a firmware post. -/
def recFlags (snap fw : Bool) : Nat := (if snap then 2 else 0) + (if fw then 4 else 0)

/-- The LOST record that precedes the first record after losses (R448). -/
def Plat.lostRecord (p : Plat) : List Byte :=
  recordBytes (recFlags (p.bit Reg.FRZ_CTRL Fld.FRZ_CTRL_MODE) false) 0x000D 105 (p.fld Reg.MGT_NODE Fld.MGT_NODE_ID) 0 p.time
    (le4 p.frz.lostN ++ le4 0 ++ le8 p.frz.lostTime.toNat)

/-- Write a record, with a LOST record before it when losses are outstanding and the log has room for both; stop when it does
not fit (R448, R449). -/
def Plat.writeRec (p : Plat) (typ src : Nat) (time : BitVec 64) (bytes : List Byte) : Plat :=
  if frzLogSize < p.wptr + bytes.length then
    ((p.setFlag Reg.FRZ_STATUS Fld.FRZ_STATUS_FULL).setFlag Reg.FRZ_EVT Fld.FRZ_EVT_FULL).frzLose time
  else if 0 < p.frz.lostN ∧ p.wptr + 36 + bytes.length ≤ frzLogSize then
    let q := p.appendRec 0x000D 105 p.lostRecord
    { q with frz := { q.frz with lostN := 0 } }.appendRec typ src bytes
  else p.appendRec typ src bytes

/-- Write one event taken from the queues (R447 to R451). -/
def Plat.writeEvent (p : Plat) (e : FrzEvent) : Plat :=
  if p.bit Reg.FRZ_STATUS Fld.FRZ_STATUS_FULL then p.frzLose e.time
  else if p.isRepeat e then p.countRepeat (p.frz.lastAt.getD 0)
  else
    let node := p.fld Reg.MGT_NODE Fld.MGT_NODE_ID
    if p.bit Reg.FRZ_CTRL Fld.FRZ_CTRL_MODE then
      let r := p.snapWords (List.range 32) (le4 (e.typ + 2 ^ 16 * e.src))
      r.1.writeRec 0x000F e.src e.time (recordBytes (recFlags true e.fw) 0x000F e.src node 0 e.time r.2)
    else p.writeRec e.typ e.src e.time (recordBytes (recFlags false e.fw) e.typ e.src node 0 e.time e.payload)

/-- Take the next queued event and write it; nothing while the log is frozen or no event waits (R26, R450). -/
def Plat.recordWrite (p : Plat) : Plat :=
  if p.frozen then p
  else match nextEvent p.frz.queue with
    | none => p
    | some e =>
      let q := { p with frz := { p.frz with queue := p.frz.queue.erase e } }
      (q.setFld Reg.FRZ_STATUS Fld.FRZ_STATUS_POSTQ (q.frz.waiting 256)).writeEvent e

/-! ## Firmware's side -/

/-- The bytes of FRZ_POSTDATA words 0 to `n - 1`. -/
def Plat.postData (p : Plat) (n : Nat) : List Byte :=
  (List.range n).flatMap (fun w => le4 (p.rd (Reg.FRZ_POSTDATA w)).toNat)

/-- A write of FRZ_POST: the payload words are captured and the record enters the queue of source 256, or the post is refused
(R446). -/
def Plat.fwPost (p : Plat) (typ lenw : Nat) : Plat :=
  if lenw < 5 ∨ 64 < lenw ∨ typ < 0x8000 then p.setFlag Reg.FRZ_EVT Fld.FRZ_EVT_POST_REFUSED
  else p.postEvent 256 typ true (p.postData (lenw - 5))

/-- FRZ_STATUS.FROZEN follows the two freeze bits (R450). -/
def Plat.showFrozen (p : Plat) : Plat := p.putBit Reg.FRZ_STATUS Fld.FRZ_STATUS_FROZEN p.frozen

/-- Empty the log (R450). -/
def Plat.clearLog (p : Plat) : Plat :=
  let p := (p.setFld Reg.FRZ_STATUS Fld.FRZ_STATUS_WPTR 0).setFld Reg.FRZ_STATUS Fld.FRZ_STATUS_FULL 0
  { p with frz := { p.frz with log := [], lastAt := none } }

/-- A write of FRZ_CTRL: CLEAR is decided on FROZEN before the write, then MODE and FREEZE_FW take their new values (R450). -/
def Plat.frzCtrl (p : Plat) (clear mode freeze : Bool) : Plat :=
  let p :=
    if clear then
      if p.bit Reg.FRZ_STATUS Fld.FRZ_STATUS_FROZEN then p.clearLog else p.setFlag Reg.FRZ_EVT Fld.FRZ_EVT_POST_REFUSED
    else p
  ((p.putBit Reg.FRZ_CTRL Fld.FRZ_CTRL_MODE mode).putBit Reg.FRZ_CTRL Fld.FRZ_CTRL_FREEZE_FW freeze).showFrozen

/-- Management's freeze bit (R450, Table FRZ-5). -/
def Plat.freezeMi (p : Plat) (freeze : Bool) : Plat := (p.putBit Reg.FRZ_CTRL Fld.FRZ_CTRL_FREEZE_MI freeze).showFrozen

/-! ## Trace port -/

/-- After a message left: a DROP message for the messages dropped, then a SYNC (R455). -/
def Plat.trcAfterOut (p : Plat) : Plat :=
  if p.trc.dropped = 0 then p
  else
    let p := p.trcPut 5 (le2 p.trc.dropped) p.time
    let p := { p with trc := { p.trc with dropped := 0, syncDue := true } }
    if p.trc.fifo.length < 256 then p.trcSync else p

/-- A message leaves the FIFO onto TRC_D; IDLE is sent when none waits; nothing while the port is disabled (R454, R455). -/
def Plat.trcOut (p : Plat) : Plat :=
  if p.bit Reg.TRC_CFG Fld.TRC_CFG_EN then
    match p.trc.fifo with
    | [] => { p with trc := { p.trc with out := some ⟨0, []⟩ } }
    | m :: ms =>
      let q := { p with trc := { p.trc with fifo := ms, out := some m } }
      (q.setFld Reg.TRC_STAT Fld.TRC_STAT_LEVEL ms.length).trcAfterOut
  else p

end Sys2Proof.Machine
end

