-- ==== Sys2Proof/Machine/MgtOps.lean ====
section
/-! DEFINITION. Management: the commands served by hardware and through the mailbox, requested Unit States, fleet time and the
fleet budget (R456 to R467). -/

namespace Sys2Proof.Machine

/-! ## Answers -/

/-- Answer the requester; nothing while MGT_MI_CFG.EN is 0. -/
def Mgt.say (g : Mgt) (st : MiStatus) (data : List Byte) : Mgt :=
  { g with answer := ⟨st, data⟩, answers := g.answers + 1 }

/-- Whether the management port serves (MGT_MI_CFG.EN). -/
def Plat.miOn (p : Plat) : Bool := p.bit Reg.MGT_MI_CFG Fld.MGT_MI_CFG_EN

/-- A command served by hardware: its effect and answer, or nothing while the port does not serve. -/
def miServe (p : Plat) (g : Mgt) (r : Plat × Mgt) : Plat × Mgt := if p.miOn then r else (p, g)

/-- The composite temperature byte of NVM Subsystem Health Status: whole degrees Celsius, 0x7F for 127 and above, two's
complement down to −60; 0x80 while thermal/reference is off in standby (Table FRZ-5). PRESUMED: the NVMe-MI encoding. -/
def Plat.ctemp (p : Plat) : Byte :=
  if p.standby ∧ ¬ p.bit Reg.PWR_STBY Fld.PWR_STBY_THM_ON then 0x80
  else BitVec.ofNat 8 (bitsOf 8 (clampInt (-60) 127 ((p.sfld Reg.THM_STATUS Fld.THM_STATUS_HOT) / 4)))

/-- NVM Subsystem Health Status Poll: NSS, critical warnings, CTEMP and percentage used. -/
def healthPoll (p : Plat) (g : Mgt) : Plat × Mgt :=
  miServe p g (p, g.say .success
    [BitVec.ofNat 8 (p.fld Reg.MGT_HEALTH Fld.MGT_HEALTH_NSS), BitVec.ofNat 8 (p.fld Reg.MGT_HEALTH Fld.MGT_HEALTH_CWARN),
     p.ctemp, BitVec.ofNat 8 (p.fld Reg.MGT_HEALTH Fld.MGT_HEALTH_PDLU)])

/-- Read NVMe-MI Data Structure: `len` bytes of firmware's copy at offset `off` of the mailbox area (0x1000 to 0x1FFF). -/
def readDataStructure (p : Plat) (g : Mgt) (off len : Nat) : Plat × Mgt :=
  miServe p g (p, g.say .success (SMap.bytes zeroByte g.mbox (0x1000 + off % 0x1000) (min len (0x1000 - off % 0x1000))))

/-- Configuration Get: the SMBus frequency and the MCTP transmission unit. -/
def configGet (p : Plat) (g : Mgt) : Plat × Mgt := miServe p g (p, g.say .success (le2 g.smbFreq ++ le2 g.mctpUnit))

/-- Configuration Set of the SMBus frequency (1: 100 kHz, 2: 400 kHz, 3: 1 MHz) or the MCTP transmission unit (64 bytes);
another value is Invalid Parameter (R456). -/
def configSet (p : Plat) (g : Mgt) (unit : Bool) (v : Nat) : Plat × Mgt :=
  miServe p g
    (if unit then
      if v = 64 then (p, { g with mctpUnit := v }.say .success []) else (p, g.say .invalidParameter [])
    else if v = 1 ∨ v = 2 ∨ v = 3 then (p, { g with smbFreq := v }.say .success []) else (p, g.say .invalidParameter []))

/-- Vendor 0xC0: every Unit State Register. -/
def unitStateGet (p : Plat) (g : Mgt) : Plat × Mgt :=
  miServe p g (p, g.say .success ((List.range 36).flatMap (fun u => le4 (p.rd (Reg.MGT_US u)).toNat)))

/-- Whether Table FRZ-6 permits code `c` as a request for unit `u`. -/
def unitCodeOk (u c : Nat) : Bool :=
  match c with
  | 0 => decide (32 ≤ u)
  | 1 => true
  | 2 => true
  | 3 => decide (u < 32)
  | _ => false

/-- Vendor 0xC1: the requested field of one unit, or Invalid Parameter (R460). -/
def unitStateSet (p : Plat) (g : Mgt) (u c : Nat) : Plat × Mgt :=
  miServe p g
    (if unitCodeOk u c ∧ u < 36 then
      let p := ((p.setFld (Reg.MGT_US u) Fld.MGT_US_REQ c).setFlag Reg.MGT_EVT Fld.MGT_EVT_REQ)
      ((p.postUnit u 112 0).agree u, g.say .success [])
    else (p, g.say .invalidParameter []))

/-- Vendor 0xC2: `len` bytes of the Frieze log from `off`; bytes at or above WPTR are 0 (R449). -/
def friezeRead (p : Plat) (g : Mgt) (off len : Nat) : Plat × Mgt :=
  miServe p g (p, g.say .success
    ((List.range (min len frzLogSize)).map
      (fun i => if off + i < p.wptr then SMap.get zeroByte p.frz.log (off + i) else 0)))

/-- Vendor 0xC3: sets or clears FREEZE_MI (R450). -/
def friezeFreeze (p : Plat) (g : Mgt) (f : Bool) : Plat × Mgt := miServe p g (p.freezeMi f, g.say .success [])

/-- Vendor 0xC4: the fleet power budget (R467). -/
def fleetBudget (p : Plat) (g : Mgt) (assist seek : Nat) : Plat × Mgt :=
  miServe p g
    (let q := (p.setFld Reg.MGT_BUDGET Fld.MGT_BUDGET_ASSIST assist).setFld Reg.MGT_BUDGET Fld.MGT_BUDGET_SEEK seek
     ((q.setFld Reg.MGT_BUDGET Fld.MGT_BUDGET_SEQ (p.fld Reg.MGT_BUDGET Fld.MGT_BUDGET_SEQ + 1)).setFlag
        Reg.MGT_EVT Fld.MGT_EVT_BUDGET, g.say .success []))

/-- Vendor 0xC5: the Fleet Node ID (R463). -/
def fleetIdentity (p : Plat) (g : Mgt) (id : Nat) : Plat × Mgt :=
  miServe p g (p.setFld Reg.MGT_NODE Fld.MGT_NODE_ID id, g.say .success [])

/-- A management command that Table FRZ-5 does not list. -/
def miUnsupported (p : Plat) (g : Mgt) : Plat × Mgt := miServe p g (p, g.say .invalidOpcode [])

/-! ## The mailbox (R457) -/

/-- Place a command in the request area and raise source 117. -/
def mboxPlace (p : Plat) (g : Mgt) (req : List Byte) : Plat × Mgt :=
  (p.setFld Reg.MGT_MBOX Fld.MGT_MBOX_REQ_LEN (min req.length 2048),
   { g with mbox := SMap.store zeroByte g.mbox 0x1000 (req.take 2048), held := true })

/-- A command served by firmware arrives: Internal Error in standby or from the boot ROM's recovery, placed when the mailbox
is free, held by MCTP flow control otherwise (R457, R478, Table FRZ-5). -/
def mboxArrive (p : Plat) (g : Mgt) (recovery : Bool) (req : List Byte) : Plat × Mgt :=
  miServe p g
    (if p.standby ∨ recovery then (p, g.say .internalError [])
     else if g.held then (p, { g with waiting := g.waiting ++ [req] })
     else mboxPlace p g req)

/-- Release the mailbox and place the next command that waits. -/
def mboxRelease (p : Plat) (g : Mgt) : Plat × Mgt :=
  match g.waiting with
  | [] => (p.setFld Reg.MGT_MBOX Fld.MGT_MBOX_REQ_LEN 0, { g with held := false })
  | r :: rs => mboxPlace p { g with waiting := rs } r

/-- Firmware's write of MGT_MBOX with DONE: the response area's bytes answer the held command; discarded when none is held. -/
def mboxDone (p : Plat) (g : Mgt) (rspLen : Nat) : Plat × Mgt :=
  if g.held then mboxRelease p (g.say .success (SMap.bytes zeroByte g.mbox 0x1800 (min rspLen 2048))) else (p, g)

/-- No DONE within TMO: Internal Error. -/
def mboxTimeout (p : Plat) (g : Mgt) : Plat × Mgt :=
  if g.held then mboxRelease p (g.say .internalError []) else (p, g)

/-! ## Disagreement (R462) -/

/-- A unit's fields have differed for LIMIT ms while ARM is 1: once for the episode. -/
def unitDisagree (p : Plat) (u : Nat) : Plat :=
  if p.bit Reg.MGT_US_CFG Fld.MGT_US_CFG_ARM ∧ p.bit (Reg.MGT_US u) Fld.MGT_US_DIS = false
      ∧ p.fld (Reg.MGT_US u) Fld.MGT_US_REQ ≠ p.fld (Reg.MGT_US u) Fld.MGT_US_EFF then
    (((p.setFlag (Reg.MGT_US u) Fld.MGT_US_DIS).setFlag Reg.MGT_EVT Fld.MGT_EVT_DISAGREE).postUnit u 114 1)
  else p

/-! ## Fleet time (R464, R465, R466) -/

/-- Count a discarded mark or frame: MGT_TIME_STAT.BAD, saturating. -/
def Plat.timeBad (p : Plat) : Plat :=
  p.setFld Reg.MGT_TIME_STAT Fld.MGT_TIME_STAT_BAD (min 127 (p.fld Reg.MGT_TIME_STAT Fld.MGT_TIME_STAT_BAD + 1))

/-- A pulse on FLEET_SYNC, high for `ns` nanoseconds: a mark when 8 µs to 12 µs, otherwise ignored and counted. -/
def fleetMark (p : Plat) (g : Mgt) (ns : Nat) : Plat × Mgt :=
  if 8000 ≤ ns ∧ ns ≤ 12000 then (p, { g with prevMark := g.mark, mark := some p.time.toNat })
  else (p.timeBad, g)

/-- Apply a word `w` for a local time `l` (R465): a step when O exceeds STEP, else REM := O. -/
def applyTime (p : Plat) (g : Mgt) (w l : Nat) : Plat × Mgt :=
  let o : Int := (w : Int) - l
  let p := (p.setFlag Reg.MGT_TIME_STAT Fld.MGT_TIME_STAT_LOCKED).setFld Reg.MGT_TIME_STAT Fld.MGT_TIME_STAT_OFS
    (bitsOf 24 (clampInt (-(2 ^ 23)) (2 ^ 23 - 1) (o.tdiv 1000)))
  if (p.fld Reg.MGT_TIME_CFG Fld.MGT_TIME_CFG_STEP : Int) * 100000 < o then
    let q := { p with time := p.time + BitVec.ofInt 64 o }
    ((q.setFlag Reg.MGT_EVT Fld.MGT_EVT_TIME).post 115 0x000E (le8 p.time.toNat ++ le8 q.time.toNat), { g with rem := 0 })
  else (p, { g with rem := o })

/-- The frame that follows a mark: applied when SRC is FLEET_SYNC, the previous mark lies 0.999 s to 1.001 s before and the
CRC-8 is good; otherwise discarded, and counted unless its mark was the first (R464). -/
def fleetFrame (p : Plat) (g : Mgt) (chars : List Byte) : Plat × Mgt :=
  if p.fld Reg.MGT_TIME_CFG Fld.MGT_TIME_CFG_SRC = 1 then
    match g.mark, g.prevMark with
    | some l, some m =>
      if l - m ≤ 1001000000 then
        if 999000000 ≤ l - m ∧ chars.length = 9 ∧ crc8 (chars.take 8) = leNat (chars.drop 8) then
          applyTime p g (leNat (chars.take 8)) l
        else (p.timeBad, g)
      else (p, g)
    | _, _ => (p, g)
  else (p, g)

/-- No valid frame or result for 2.5 s: LOCKED and REM clear, MGT_EVT.TIME sets (R465). -/
def timeLoss (p : Plat) (g : Mgt) : Plat × Mgt :=
  if p.bit Reg.MGT_TIME_STAT Fld.MGT_TIME_STAT_LOCKED then
    ((p.setFld Reg.MGT_TIME_STAT Fld.MGT_TIME_STAT_LOCKED 0).setFlag Reg.MGT_EVT Fld.MGT_EVT_TIME, { g with rem := 0 })
  else (p, g)

end Sys2Proof.Machine
end

