-- ==== Sys2Proof/Machine/ZoneOps.lean ====
section
/-! DEFINITION. How a fetched command completes, and the commands on namespaces and zones: checks, zone states, reads, writes,
appends, flushes, deferred errors (R57 to R66, R276 to R284, R298 to R312). Status codes are those of the NVMe standards that
R33 names (log entry 20). -/

namespace Sys2Proof.Machine

/-! ## Completing a command -/

/-- The tag's completion words and status. -/
def Fe.setCpl (e : Fe) (t dw0 dw1 status : Nat) : Fe :=
  { e with p := ((e.p.setCt t Ct.dw0 dw0).setCt t Ct.dw1 dw1).setCt t Ct.status status }

/-- Firmware completes the command of tag `t` with Dword 0 and a status. -/
def Fe.finish (e : Fe) (t dw0 status : Nat) : Fe := (e.setCpl t dw0 0 status).postFree t

/-- Firmware places `data` in the buffer from page `pg` and posts with XOUT; Internal Error where the buffer does not take it. -/
def Fe.dataOut (e : Fe) (t pg dw0 : Nat) (data : List Byte) : Fe :=
  let w := bufPut e.p e.b (.core 0) (data.length / 4096 + 1) pg data
  if w.2.2 then
    let e := { e with p := w.1, b := w.2.1 }.setCpl t dw0 0 0
    let e := { e with p := ((e.p.setCt t Ct.bufPage pg).setCt t Ct.xlen data.length).setCt t Ct.xout 1 }
    if data.length = 0 then e.postFree t else e.startOut t
  else { e with p := w.1, b := w.2.1 }.finish t 0 0x06

/-- Whether tag `t` holds an admin command of opcode `op` that firmware has not begun. -/
def Fe.isAdmin (e : Fe) (t op : Nat) : Bool :=
  e.p.tagState t == 1 && e.p.ct t Ct.sqid == 0 && e.h.opcode t == op && decide (t < tagCount)

/-- Run firmware's handling of an admin command: nothing where the tag does not hold one; PSDT other than 0 is Invalid Field
(R273). -/
def Fe.admin (e : Fe) (t op : Nat) (f : Fe → Fe) : Fe :=
  if e.isAdmin t op then
    if e.h.psdt t ≠ 0 then e.finish t 0 0x02 else f e
  else e

/-! ## Namespaces and zones -/

/-- Namespace `i`. -/
def Hif.ns (h : Hif) (i : Nat) : Option Ns := SMap.get (fun _ => none) h.nss i

/-- Put namespace `i`. -/
def Hif.setNs (h : Hif) (i : Nat) (v : Option Ns) : Hif := { h with nss := SMap.set (fun _ => none) h.nss i v }

/-- Whether namespace `i` is zoned. -/
def Hif.isZoned (h : Hif) (i : Nat) : Bool := match h.ns i with | some n => n.zoned | none => false

/-- Whether namespace `i` is attached to controller `n`. -/
def Hif.isAttached (h : Hif) (i n : Nat) : Bool := match h.ns i with | some x => x.attached.testBit n | none => false

/-- A zone as it is after the namespace's creation. -/
def freshZone (cap : Nat) : Zone := ⟨.empty, 0, cap, 0, 0, false, false, false, 0⟩

/-- Zone `z` of namespace `i`. -/
def Hif.zone (h : Hif) (i z : Nat) : Zone :=
  match SMap.get (fun _ => none) h.zones (2 ^ 15 * i + z) with
  | some x => x
  | none => freshZone (match h.ns i with | some n => n.zcap | none => 0)

/-- Put zone `z` of namespace `i`. -/
def Hif.setZone (h : Hif) (i z : Nat) (x : Zone) : Hif :=
  { h with zones := SMap.set (fun _ => none) h.zones (2 ^ 15 * i + z) (some x) }

/-- LBAs of a zone (R59). -/
def zoneSize : Nat := 2 ^ 20

/-- Zones of a namespace. -/
def Ns.zoneCount (n : Ns) : Nat := n.size / zoneSize

/-- Whether a zone is open. -/
def ZState.isOpen (s : ZState) : Bool := s == .implicitlyOpened || s == .explicitlyOpened

/-- Whether a zone is active. -/
def ZState.isActive (s : ZState) : Bool := s.isOpen || s == .closed

/-- The zones of namespace `i` that have been touched and satisfy `q`. -/
def Hif.zonesWhere (h : Hif) (i : Nat) (q : Zone → Bool) : List Nat :=
  (h.zones.filter (fun x => x.1 / 2 ^ 15 == i && (match x.2 with | some z => q z | none => false))).map (fun x => x.1 % 2 ^ 15)

/-- A move the device makes by itself, or a capacity change: the Changed Zone List and a Zone Descriptor Changed event
(feature 0x0B bit 27, R280). -/
def Fe.zoneChanged (e : Fe) (i z : Nat) : Fe :=
  let l := if e.h.changedZones.contains (i, z) then e.h.changedZones else e.h.changedZones ++ [(i, z)]
  { e with h := { e.h with changedZones := l } }.noticeAll 27 0xBFEF02

/-! ## Common checks of an I/O command -/

/-- The zoned namespace commands' opcodes: Zone Management Send and Receive, Zone Append, Zone Audit. -/
def isZnsOp (op : Nat) : Bool := op == 0x79 || op == 0x7A || op == 0x7D || op == 0x84

/-- Whether a recorded deferred error is to be reported by the command of tag `t` (R312): not yet reported, fetched after the
record, and the range includes an LBA of the zone or of the lost range; Zone Management Send counts by the zone it names unless
Select All, Zone Management Receive does not count. -/
def Fe.reports (e : Fe) (t : Nat) (d : Deferred) : Bool :=
  let op := e.h.opcode t
  let lo := e.h.slba t
  let len := if op = 0x79 ∨ op = 0x84 then 1 else e.h.nlb t
  !d.reported && d.nsid == e.h.nsid t && decide (d.time ≤ e.p.tFetch t)
    && (op == 0x01 || op == 0x02 || op == 0x08 || op == 0x0C || op == 0x7D || op == 0x84
        || (op == 0x79 && !(e.h.dw t 13).testBit 8))
    && decide (lo < d.lba + d.len) && decide (d.lba < lo + len)

/-- Mark the deferred errors that the command of tag `t` reports. -/
def Fe.markReported (e : Fe) (t : Nat) : Fe :=
  { e with h := { e.h with deferred := e.h.deferred.map (fun d => if e.reports t d then { d with reported := true } else d) } }

/-- Write Fault with the More bit (R312). -/
def writeFaultMore : Nat := 0x2280

/-- Complete the command of tag `t` as the report of a deferred error if it is the one, else go on. -/
def Fe.unlessDeferred (e : Fe) (t : Nat) (f : Fe → Fe) : Fe :=
  if e.h.deferred.any (e.reports t) then (e.markReported t).finish t 0 writeFaultMore else f e

/-- Whether tag `t` holds an I/O command of opcode `op` in one of the states `ss`. -/
def Fe.isIoCmd (e : Fe) (t op : Nat) (ss : List Nat) : Bool :=
  ss.contains (e.p.tagState t) && e.p.ct t Ct.sqid != 0 && e.h.opcode t == op && decide (t < tagCount)

/-- Run firmware's handling of an I/O command in FETCHED on its namespace: the checks every I/O command passes. -/
def Fe.io (e : Fe) (t op : Nat) (f : Ns → Fe → Fe) : Fe :=
  if e.isIoCmd t op [1] then
    if e.h.psdt t ≠ 0 then e.finish t 0 0x02
    else
      match e.h.ns (e.h.nsid t) with
      | none => e.finish t 0 0x0B
      | some n =>
        if n.attached.testBit (e.p.ct t Ct.cntl) = false then e.finish t 0 0x0B
        else if isZnsOp op && !n.zoned || (op == 0x08 || op == 0x09) && n.zoned then e.finish t 0 0x01
        else e.unlessDeferred t (f n)
  else e

/-- Run `f` if the LBAs of tag `t` lie in the namespace and within MDTS (R277, Table HIF-6), else complete with the status. -/
def Fe.inRange (e : Fe) (t : Nat) (n : Ns) (xfer : Bool) (f : Fe → Fe) : Fe :=
  if n.size < e.h.slba t + e.h.nlb t then e.finish t 0 0x80
  else if xfer && decide (512 < e.h.nlb t) then e.finish t 0 0x02
  else f e

/-! ## Zone states (R280) -/

/-- The status with which a write to a zone in state `s` fails, if it does. -/
def ZState.writeStatus (s : ZState) : Option Nat :=
  match s with
  | .full => some 0x1B9
  | .readOnly => some 0x1BA
  | .offline => some 0x1BB
  | .empty => none
  | .implicitlyOpened => none
  | .explicitlyOpened => none
  | .closed => none

/-- The implicitly opened zone of namespace `i` written least recently. -/
def Hif.lruOpen (h : Hif) (i : Nat) : Option Nat :=
  (h.zonesWhere i (fun z => z.st == .implicitlyOpened)).foldl (fun best z =>
    match best with
    | none => some z
    | some b => if (h.zone i z).used < (h.zone i b).used then some z else some b) none

/-- Open zone `z` of namespace `i` (state `st`): the namespace after it, or the status with which the open fails. -/
def Hif.openZone (h : Hif) (i z share : Nat) (st : ZState) : Hif ⊕ Nat :=
  let x := h.zone i z
  if x.st.isOpen then .inl (h.setZone i z { x with st := if x.st = .explicitlyOpened then .explicitlyOpened else st })
  else
    let full : Bool := decide (share ≤ (h.zonesWhere i (fun y => y.st.isOpen)).length)
    let victim := h.lruOpen i
    if full ∧ victim = none then .inr 0x1BE
    else if x.st.isActive = false ∧ share ≤ (h.zonesWhere i (fun y => y.st.isActive)).length then .inr 0x1BD
    else
      let h := match full, victim with
        | true, some v => h.setZone i v { h.zone i v with st := .closed }
        | _, _ => h
      .inl (h.setZone i z { x with st := st })

/-- A zone's write pointer after `k` more LBAs: Full once it reaches the capacity. -/
def Zone.advance (x : Zone) (k time : Nat) : Zone :=
  { x with wp := x.wp + k, used := time, st := if x.cap ≤ x.wp + k then .full else x.st }

/-- Reset a zone (R57, R58): ZGEN rises by 1 and returns to 0 after 0xFFE. -/
def Zone.reset (x : Zone) (swept : Bool) : Zone :=
  { x with st := .empty, wp := 0, zgen := if x.zgen = 0xFFE then 0 else x.zgen + 1,
           resets := if swept then 1 else x.resets + 1, owed := false, zfc := false, rzr := false }

/-- Whether a reset would give the zone a ZGEN that it has held since its last sweep (R58). -/
def Zone.needsSweep (x : Zone) : Bool := decide (4095 ≤ x.resets + 1)

/-! ## Writes (R278, R282, R298) -/

/-- Whether the completion of tag `t` waits for DONE: FUA, or the volatile write cache is disabled. -/
def Fe.waitsDone (e : Fe) (t : Nat) : Bool := (e.h.dw t 12).testBit 30 || e.h.feature (e.p.ct t Ct.cntl) 6 % 2 == 0

/-- Admit a write into buffer page `pg` and start XFER_IN. -/
def Fe.admitWrite (e : Fe) (t pg : Nat) : Fe :=
  let e := { e with p := (((e.p.moveTag t 2).setCt t Ct.bufPage pg).setCt t Ct.status 0).setCt t Ct.auto (if e.waitsDone t then 1 else 0) }
  e.startIn t

/-- Place `k` LBAs at offset `o` of zone `z`: the zone opened and advanced, or the status. -/
def Fe.placeInZone (e : Fe) (i : Nat) (n : Ns) (z o k : Nat) (append : Bool) : Fe ⊕ Nat :=
  let x := e.h.zone i z
  match x.st.writeStatus with
  | some s => .inr s
  | none =>
    if x.cap < (if append then x.wp else o) + k then .inr 0x1B8
    else if !append && o != x.wp then .inr 0x1BC
    else
      match e.h.openZone i z n.share .implicitlyOpened with
      | .inr s => .inr s
      | .inl h => .inl { e with h := h.setZone i z ((h.zone i z).advance k e.p.time.toNat) }

/-- The status with which a failed task code completes a command: LINK_ERROR (0x41) and ACT_RESET (0x53) that persist are an
Internal Error, any other failure is `s` (Table CMD-6). -/
def failStatus (code s : Nat) : Nat := if code = 0x41 ∨ code = 0x53 then 0x06 else s

/-- A write that waited for DONE completes; a failure on the media is a Write Fault, and a zone goes to Read Only (R280, R310). -/
def Fe.endWrite (e : Fe) (t : Nat) : Fe :=
  let c := e.p.ct t Ct.firstCode
  if c = 0 then e.postFree t
  else
    let s := failStatus c 0x280
    let i := e.h.nsid t
    let z := e.firstLba t / zoneSize
    let e := if s = 0x280 ∧ e.h.isZoned i then
        { e with h := e.h.setZone i z { e.h.zone i z with st := .readOnly } }.zoneChanged i z else e
    { e with p := e.p.setCt t Ct.status s }.postFree t

/-- Whether a write of tag `t` waits in DONE for firmware. -/
def Fe.doneWaiting (e : Fe) (t op : Nat) : Bool :=
  e.isIoCmd t op [5] && e.p.ct t Ct.posted == 0 && e.p.ct t Ct.tref == 0 && e.p.ct t Ct.xfer == 0

/-- Write: in FETCHED it is checked, placed and admitted with its data in page `pg`; in DONE it completes. -/
def Fe.write (e : Fe) (t pg : Nat) : Fe :=
  if e.doneWaiting t 0x01 then e.endWrite t
  else e.io t 0x01 (fun n e => e.inRange t n true (fun e =>
    if n.zoned then
      match e.placeInZone (e.h.nsid t) n (e.h.slba t / zoneSize) (e.h.slba t % zoneSize) (e.h.nlb t) false with
      | .inr s => e.finish t 0 s
      | .inl e => e.admitWrite t pg
    else e.admitWrite t pg))

/-- Zone Append (R282): SLBA names the zone; the LBA of its write pointer is returned in Dwords 0 and 1. -/
def Fe.append (e : Fe) (t pg : Nat) : Fe :=
  if e.doneWaiting t 0x7D then e.endWrite t
  else e.io t 0x7D (fun n e =>
    if 32 < e.h.nlb t then e.finish t 0 0x02
    else if n.size ≤ e.h.slba t then e.finish t 0 0x80
    else if e.h.slba t % zoneSize ≠ 0 then e.finish t 0 0x02
    else
      let i := e.h.nsid t
      let z := e.h.slba t / zoneSize
      let lba := z * zoneSize + (e.h.zone i z).wp
      match e.placeInZone i n z 0 (e.h.nlb t) true with
      | .inr s => e.finish t 0 s
      | .inl e => { e with p := (e.p.setCt t Ct.dw0 (lba % 2 ^ 32)).setCt t Ct.dw1 (lba / 2 ^ 32) }.admitWrite t pg)

/-- Write Zeroes (R284): as a conventional write, with zero sectors. -/
def Fe.writeZeroes (e : Fe) (t pg : Nat) : Fe :=
  if e.doneWaiting t 0x08 then e.endWrite t
  else e.io t 0x08 (fun n e => e.inRange t n false (fun e => e.admitWrite t pg))

/-! ## Reads (R281, R298 to R300, R310) -/

/-- The tags fetched before tag `t`, oldest first. -/
def Hif.earlier (h : Hif) (t : Nat) : List Nat := h.fetched.takeWhile (fun u => u != t)

/-- Whether tag `u` is a write still held whose range includes an LBA of a namespace. -/
def Fe.coversLba (e : Fe) (u nsid lba : Nat) : Bool :=
  e.writesData u && e.h.nsid u == nsid && decide (e.firstLba u ≤ lba) && decide (lba < e.firstLba u + e.h.nlb u)
    && decide (2 ≤ e.p.tagState u)

/-- The latest earlier-fetched write still held that covers an LBA (R299). -/
def Fe.source (e : Fe) (t lba : Nat) : Option Nat :=
  ((e.h.earlier t).filter (fun u => e.coversLba u (e.h.nsid t) lba)).getLast?

/-- Whether an LBA of a zoned namespace reads as zeros: at or above its zone's write pointer. -/
def Hif.aboveWp (h : Hif) (i lba : Nat) : Bool := decide ((h.zone i (lba / zoneSize)).wp ≤ lba % zoneSize)

/-- Copy one page of the buffer to another. -/
def Fe.copyPage (e : Fe) (from' to' : Nat) : Fe :=
  let r := bufRead e.p e.b (.core 0) (4096 * from') 4096 .good
  match r.2.2 with
  | none => { e with p := r.1, b := r.2.1 }
  | some d =>
    let w := bufWrite r.1 r.2.1 (.core 0) (4096 * to') d
    { e with p := w.1, b := w.2.1 }

/-- Fill one page with a zero sector. -/
def Fe.zeroPage (e : Fe) (pg : Nat) : Fe :=
  let w := bufWrite e.p e.b (.core 0) (4096 * pg) (List.replicate 4096 0)
  { e with p := w.1, b := w.2.1 }

/-- Prepare sector `k` of a read in page `pg + k`: a failed sector or one above the write pointer is a zero sector, one held by
an earlier write is its copy, any other is what the tasks have placed there. -/
def Fe.readSector (e : Fe) (t pg : Nat) (zoned : Bool) (failed : List Nat) (k : Nat) : Fe :=
  let lba := e.h.slba t + k
  match e.source t lba with
  | some u => e.copyPage (e.p.ct u Ct.bufPage + (lba - e.firstLba u)) (pg + k)
  | none =>
    if zoned && e.h.aboveWp (e.h.nsid t) lba || failed.contains k then e.zeroPage (pg + k) else e

/-- Make an Error Information entry (at most 256, newest first). -/
def Hif.logError (h : Hif) (x : ErrEntry) : Hif :=
  { h with errLog := (x :: h.errLog).take 256, errCount := h.errCount + 1 }

/-- The Error Information entry of a read or Verify whose sector `k` failed. -/
def Fe.readError (e : Fe) (t k : Nat) : Fe :=
  { e with h := e.h.logError ⟨e.p.ct t Ct.sqid, e.h.cid t, 0x281, e.h.slba t + k, e.h.nsid t, 0⟩ }

/-- The sectors of tag `t` that the media could not deliver and no buffered write replaces. -/
def Fe.failedNow (e : Fe) (t : Nat) (zoned : Bool) (failed : List Nat) : List Nat :=
  (List.range (e.h.nlb t)).filter (fun k =>
    failed.contains k && (e.source t (e.h.slba t + k)).isNone && !(zoned && e.h.aboveWp (e.h.nsid t) (e.h.slba t + k)))

/-- Whether a read must wait for the data of an earlier write still moving into the buffer. -/
def Fe.mustWait (e : Fe) (t : Nat) : Bool :=
  (List.range (e.h.nlb t)).any (fun k =>
    match e.source t (e.h.slba t + k) with
    | none => false
    | some u => e.p.ct u Ct.din == 0)

/-- The status of a read or Verify of tag `t`. -/
def Fe.readStatus (e : Fe) (t : Nat) (bad : List Nat) : Nat :=
  let c := e.p.ct t Ct.firstCode
  if bad.isEmpty then 0 else failStatus c 0x281

/-- Whether one of the LBAs of tag `t` lies in an Offline zone. -/
def Fe.touchesOffline (e : Fe) (t : Nat) (n : Ns) : Bool :=
  n.zoned && (List.range (e.h.nlb t)).any (fun k =>
    (e.h.zone (e.h.nsid t) ((e.h.slba t + k) / zoneSize)).st == .offline)

/-- Deliver a read whose tasks, if any, have ended. -/
def Fe.deliver (e : Fe) (t pg : Nat) (zoned : Bool) (failed : List Nat) : Fe :=
  if e.mustWait t then e
  else
    let bad := e.failedNow t zoned failed
    let e := match bad with | [] => e | k :: _ => e.readError t k
    let e := (List.range (e.h.nlb t)).foldl (fun e k => e.readSector t pg zoned failed k) e
    let e := e.setCpl t 0 0 (e.readStatus t bad)
    { e with p := ((e.p.setCt t Ct.bufPage pg).setCt t Ct.xlen (4096 * e.h.nlb t)).setCt t Ct.xout 1 }.startOut t

/-- Read: `pg` is the page of its data, `failed` the sectors that firmware's recovery could not deliver. -/
def Fe.read (e : Fe) (t pg : Nat) (failed : List Nat) : Fe :=
  if e.doneWaiting t 0x02 then
    match e.h.ns (e.h.nsid t) with
    | none => e.finish t 0 0x0B
    | some n => e.deliver t pg n.zoned failed
  else e.io t 0x02 (fun n e => e.inRange t n true (fun e =>
    if e.touchesOffline t n then e.finish t 0 0x1BB else e.deliver t pg n.zoned failed))

/-- Verify: as a read, with nothing transferred. -/
def Fe.verify (e : Fe) (t : Nat) (failed : List Nat) : Fe :=
  let go (zoned : Bool) (e : Fe) : Fe :=
    if e.mustWait t then e
    else
      let bad := e.failedNow t zoned failed
      let e := match bad with | [] => e | k :: _ => e.readError t k
      e.finish t 0 (e.readStatus t bad)
  if e.doneWaiting t 0x0C then
    match e.h.ns (e.h.nsid t) with
    | none => e.finish t 0 0x0B
    | some n => go n.zoned e
  else e.io t 0x0C (fun n e => e.inRange t n false (fun e =>
    if e.touchesOffline t n then e.finish t 0 0x1BB else go n.zoned e))

/-- Dataset Management: hints accepted, deallocate has no effect (R284). -/
def Fe.datasetManagement (e : Fe) (t : Nat) : Fe := e.io t 0x09 (fun _ e => e.finish t 0 0)

/-! ## Flush and deferred errors (R305, R311) -/

/-- Whether a Flush of `nsid` covers namespace `i`. -/
def flushCovers (nsid i : Nat) : Bool := nsid == 0xFFFFFFFF || nsid == i

/-- Flush: waits while a covered write is in DESTAGING; Write Fault once for covered writes that failed. -/
def Fe.flush (e : Fe) (t : Nat) : Fe :=
  if e.isIoCmd t 0x00 [1] then
    let nsid := e.h.nsid t
    let at0 := e.p.tFetch t
    if e.h.psdt t ≠ 0 then e.finish t 0 0x02
    else if nsid ≠ 0xFFFFFFFF ∧ e.h.isAttached nsid (e.p.ct t Ct.cntl) = false then
      e.finish t 0 0x0B
    else if e.p.tagsInUse.any (fun u => e.p.tagState u == 4 && e.writesData u && flushCovers nsid (e.h.nsid u)
        && decide (e.p.tPost u ≤ at0)) then e
    else
      let owed (d : Deferred) : Bool := !d.flushed && flushCovers nsid d.nsid && decide (d.posted ≤ at0)
      if e.h.deferred.any owed then
        { e with h := { e.h with
            deferred := e.h.deferred.map (fun d => if owed d then { d with flushed := true } else d) } }.finish t 0 0x280
      else e.finish t 0 0
  else e

/-- The task codes with which a write fails on the media (R310): ROW_SLACK_EXHAUSTED, ROW_ABANDON_LIMIT, PREAMP_FAULT. -/
def mediaFailure (c : Nat) : Bool := c == 0x20 || c == 0x21 || c == 0x42

/-- A posted write has failed on the media: the Error Information entry, the zone to Read Only, or the Asynchronous Event (R311). -/
def Fe.deferError (e : Fe) (t : Nat) : Fe :=
  let i := e.h.nsid t
  let lba := e.firstLba t
  let n := e.h.nlb t
  let h := e.h.logError ⟨e.p.ct t Ct.sqid, e.h.cid t, 0x280, lba, i, n⟩
  if e.h.isZoned i then
    let z := lba / zoneSize
    let x := h.zone i z
    let h := { h with deferred := h.deferred ++ [Deferred.mk e.p.time.toNat (e.p.tPost t) i (z * zoneSize) zoneSize false false] }
    { e with h := h.setZone i z { x with st := .readOnly, wp := min x.wp (lba % zoneSize) } }.zoneChanged i z
  else
    let h := { h with deferred := h.deferred ++ [Deferred.mk e.p.time.toNat (e.p.tPost t) i lba n false false] }
    { e with h := h }.asyncEvent (e.p.ct t Ct.cntl) 0x010300

/-- A tag enters DONE, recording a deferred error if its posted write failed on the media. -/
def Fe.tagDone (e : Fe) (t : Nat) : Fe :=
  let e := if e.p.ct t Ct.posted = 1 ∧ e.writesData t ∧ mediaFailure (e.p.ct t Ct.firstCode) then e.deferError t else e
  e.enterDone t

/-! ## Zone Management (R280, R57, R58, R66) -/

/-- The zones that Zone Management Send of tag `t` acts on: the one that SLBA names, or with Select All those that satisfy `all`. -/
def Fe.zmsZones (e : Fe) (t : Nat) (n : Ns) (all : Zone → Bool) : List Nat :=
  if (e.h.dw t 13).testBit 8 then (List.range n.zoneCount).filter (fun z => all (e.h.zone (e.h.nsid t) z))
  else [e.h.slba t / zoneSize]

/-- Zone Management Send with action `zsa`: each zone in turn, the first status other than 0 completes the command. -/
def Fe.zms (e : Fe) (t zsa : Nat) (all : Zone → Bool) (act : Fe → Nat → Ns → Nat → Fe × Nat) : Fe :=
  e.io t 0x79 (fun n e =>
    if e.h.dw t 13 % 256 ≠ zsa then e
    else if (e.h.dw t 13).testBit 8 = false ∧ n.size ≤ e.h.slba t then e.finish t 0 0x80
    else if (e.h.dw t 13).testBit 8 = false ∧ e.h.slba t % zoneSize ≠ 0 then e.finish t 0 0x02
    else
      let r := (e.zmsZones t n all).foldl (fun (r : Fe × Nat) z => if r.2 = 0 then act r.1 (e.h.nsid t) n z else r) (e, 0)
      r.1.finish t 0 r.2)

/-- Put zone `z` and answer success. -/
def Fe.putZone (e : Fe) (i z : Nat) (x : Zone) : Fe × Nat := ({ e with h := e.h.setZone i z x }, 0)

/-- Close. -/
def Fe.zoneClose (e : Fe) (t : Nat) : Fe :=
  e.zms t 1 (fun x => x.st.isOpen) (fun e i _ z =>
    let x := e.h.zone i z
    if x.st.isActive then e.putZone i z { x with st := if x.wp = 0 ∧ x.st.isOpen then .empty else .closed } else (e, 0x1BF))

/-- Finish. -/
def Fe.zoneFinish (e : Fe) (t : Nat) : Fe :=
  e.zms t 2 (fun x => x.st.isActive) (fun e i n z =>
    let x := e.h.zone i z
    match x.st with
    | .full => (e, 0)
    | .readOnly => (e, 0x1BF)
    | .offline => (e, 0x1BF)
    | .empty =>
      if n.share ≤ (e.h.zonesWhere i (fun y => y.st.isActive)).length then (e, 0x1BD) else e.putZone i z { x with st := .full }
    | .implicitlyOpened => e.putZone i z { x with st := .full }
    | .explicitlyOpened => e.putZone i z { x with st := .full }
    | .closed => e.putZone i z { x with st := .full })

/-- Open. -/
def Fe.zoneOpen (e : Fe) (t : Nat) : Fe :=
  e.zms t 3 (fun x => x.st == .closed) (fun e i n z =>
    match (e.h.zone i z).st with
    | .full => (e, 0x1BF)
    | .readOnly => (e, 0x1BF)
    | .offline => (e, 0x1BF)
    | _ =>
      match e.h.openZone i z n.share .explicitlyOpened with
      | .inr s => (e, s)
      | .inl h => ({ e with h := h }, 0))

/-- The reset of a zone at which its stripe may be re-formed (R65, R66): `cap` is the capacity that its class now gives, 0 when
it has none, which moves it to Offline. A changed capacity is reported. -/
def Fe.resetZone (e : Fe) (i z cap : Nat) (swept : Bool) : Fe × Nat :=
  let x := e.h.zone i z
  if x.st = .offline ∨ x.st = .readOnly then (e, 0x1BF)
  else if cap = 0 then
    ({ e with h := e.h.setZone i z { x with st := .offline } }.zoneChanged i z, 0x1BB)
  else
    let e' := { e with h := e.h.setZone i z { x.reset swept with cap := min cap zoneSize } }
    (if min cap zoneSize = x.cap then e' else e'.zoneChanged i z, 0)

/-- The zones that Zone Management Send of tag `t` acts on with action Reset and that must be swept first (R58): none where the
command does not pass its checks. -/
def Fe.owedSweeps (e : Fe) (t : Nat) : List Nat :=
  match e.h.ns (e.h.nsid t) with
  | none => []
  | some n =>
    if e.isIoCmd t 0x79 [1] ∧ e.h.psdt t = 0 ∧ n.attached.testBit (e.p.ct t Ct.cntl) ∧ n.zoned ∧ ¬ e.h.deferred.any (e.reports t)
        ∧ e.h.dw t 13 % 256 = 4 ∧ ((e.h.dw t 13).testBit 8 ∨ e.h.slba t < n.size ∧ e.h.slba t % zoneSize = 0) then
      (e.zmsZones t n (fun x => x.st.isActive || x.st == .full)).filter (fun z =>
        (e.h.zone (e.h.nsid t) z).needsSweep && (e.h.zone (e.h.nsid t) z).st != .offline && (e.h.zone (e.h.nsid t) z).st != .readOnly)
    else []

/-- Reset Zone: a zone whose new ZGEN was held since its last sweep is swept first (`swept`: firmware's sweep tasks have written
every position in one pass); until then the command waits with the sweep recorded as owed. -/
def Fe.zoneReset (e : Fe) (t : Nat) (caps : Option Nat) (swept : Bool) : Fe :=
  if e.owedSweeps t ≠ [] ∧ swept = false then
    let i := e.h.nsid t
    { e with h := (e.owedSweeps t).foldl (fun h z => h.setZone i z { h.zone i z with owed := true }) e.h }
  else
    e.zms t 4 (fun x => x.st.isActive || x.st == .full) (fun e i _ z =>
      let x := e.h.zone i z
      e.resetZone i z (caps.getD x.cap) x.needsSweep)

/-- Offline: accepted for Read Only zones only. -/
def Fe.zoneOffline (e : Fe) (t : Nat) : Fe :=
  e.zms t 5 (fun x => x.st == .readOnly) (fun e i _ z =>
    let x := e.h.zone i z
    if x.st = .readOnly ∨ x.st = .offline then e.putZone i z { x with st := .offline } else (e, 0x1BF))

/-- The code of a zone state in a zone descriptor. -/
def ZState.code (s : ZState) : Nat :=
  match s with
  | .empty => 1
  | .implicitlyOpened => 2
  | .explicitlyOpened => 3
  | .closed => 4
  | .readOnly => 13
  | .full => 14
  | .offline => 15

/-- A zone descriptor (64 bytes): ZT, ZS, ZA (bit 0 Zone Finished by Controller, bit 2 Reset Zone Recommended), ZCAP, ZSLBA, WP. -/
def zoneDescriptor (z : Nat) (x : Zone) : List Byte :=
  [2, BitVec.ofNat 8 (16 * x.st.code), BitVec.ofNat 8 ((if x.zfc then 1 else 0) + (if x.rzr then 4 else 0)), 0, 0, 0, 0, 0]
    ++ le8 x.cap ++ le8 (z * zoneSize)
    ++ le8 (if x.st.isActive ∨ x.st = .empty then z * zoneSize + x.wp else 2 ^ 64 - 1) ++ List.replicate 32 0

/-- Whether a zone matches the filter of Report Zones: 0 all, then the states in the order 1 Empty … 7 Offline. -/
def reportFilter (f : Nat) (s : ZState) : Bool :=
  match f with
  | 0 => true
  | 1 => s == .empty
  | 2 => s == .implicitlyOpened
  | 3 => s == .explicitlyOpened
  | 4 => s == .closed
  | 5 => s == .full
  | 6 => s == .readOnly
  | 7 => s == .offline
  | _ => false

/-- Report Zones: a 64-byte header with the number of zones, then descriptors from the zone of SLBA; the Extended form is
absent. -/
def Fe.reportZones (e : Fe) (t pg : Nat) : Fe :=
  e.io t 0x7A (fun n e =>
    let d13 := e.h.dw t 13
    let f := d13 / 256 % 256
    let len := min (4 * (e.h.dw t 12 + 1)) (2 ^ 21)
    if d13 % 256 ≠ 0 ∨ 7 < f then e.finish t 0 0x02
    else if n.size ≤ e.h.slba t then e.finish t 0 0x80
    else
      let i := e.h.nsid t
      let z0 := e.h.slba t / zoneSize
      let zs := ((List.range (n.zoneCount - z0)).map (fun k => z0 + k)).filter (fun z => reportFilter f (e.h.zone i z).st)
      let fit := (len - 64) / 64
      let count := if d13.testBit 16 then min zs.length fit else zs.length
      let bytes := le8 count ++ List.replicate 56 0 ++ (zs.take fit).flatMap (fun z => zoneDescriptor z (e.h.zone i z))
      e.dataOut t pg 0 ((bytes ++ List.replicate len 0).take len))

/-- Zone Audit (R283): `rows`, `noHeads` and `rebuilt` are what the audit counted. -/
def Fe.zoneAudit (e : Fe) (t rows noHeads rebuilt : Nat) : Fe :=
  e.io t 0x84 (fun n e =>
    let d12 := e.h.dw t 12
    if n.size ≤ e.h.slba t then e.finish t 0 0x80
    else if 1 < d12 ∨ e.h.dw t 13 ≠ 0 ∨ e.h.dw t 14 ≠ 0 ∨ e.h.dw t 15 ≠ 0 then e.finish t 0 0x02
    else
      let i := e.h.nsid t
      let z := e.h.slba t / zoneSize
      let x := e.h.zone i z
      if x.st = .offline then e.finish t 0 0x1BB
      else
        let empty : Bool := x.st == .empty
        let r := if empty then 0 else min rows (2 ^ 32 - 1)
        let nh := if empty then 0 else min noHeads 0xFFFF
        let rb := if empty then 0 else min rebuilt 0xFFFF
        let a : AuditEntry := ⟨i, d12, z * zoneSize, e.p.time.toNat, r, nh, rb⟩
        ({ e with h := { e.h with auditLog := (a :: e.h.auditLog).take 256 } }.setCpl t r (nh * 2 ^ 16 + rb) 0).postFree t)

/-! ## ADMIT and ABORT (Table CMD-2, R303, R312) -/

/-- ADMIT: the first command that touches a recorded deferred error completes as its report instead. -/
def Fe.opAdmit (e : Fe) (t expect : Nat) : Fe :=
  e.op t expect [1] (!e.movingOut t) (fun e => e.unlessDeferred t (fun e => { e with p := e.p.moveTag t 2 }))

/-- Whether a descriptor's carrier is tag `t`. -/
def Posted.carries (x : Posted) (t : Nat) : Bool := x.binds.headD 0 % 2 ^ 13 == t

/-- Queue and TNUM of every sent task of carrier `t` that has received no ABRT (R99: at most one per task). -/
def Cmd.toAbort (c : Cmd) (t : Nat) : List (Nat × Nat) :=
  (List.range 4).flatMap (fun n =>
    ((c.posts n).filter (fun x => x.carries t && x.sent && !x.abort)).map (fun x => (n, x.tnum)))

/-- Mark every descriptor of carrier `t`: it closes unsent, or its task has received its ABRT. -/
def Cmd.markAbort (c : Cmd) (t : Nat) : Cmd :=
  (List.range 4).foldl (fun c n =>
    c.setPosts n ((c.posts n).map (fun x => if x.carries t then { x with abort := true } else x))) c

/-- ABORT: ABRT is set, the carrier's descriptors are marked; the answer also names the sent tasks that receive an ABRT. -/
def Fe.opAbort (e : Fe) (t expect : Nat) : Fe × List (Nat × Nat) :=
  let r := e.op t expect [2, 3] (!e.movingOut t) (fun e => { e with p := e.p.setCt t Ct.abrt 1, c := e.c.markAbort t })
  (r, if r.p.bit Reg.CMD_OP_RES Fld.CMD_OP_RES_REFUSED then [] else e.c.toAbort t)

end Sys2Proof.Machine
end

