-- ==== Sys2Proof/Machine/AdminOps.lean ====
section
/-! DEFINITION. The admin commands of Table HIF-4 and the commands that no table lists (R273 to R278, R285, R286, R301, R302, R309).
The layouts of Identify structures, log pages and features are those of the NVMe standards that R33 names (log entry 20). -/

namespace Sys2Proof.Machine

/-! ## Queues (R273, R275) -/

/-- Create I/O Completion Queue. -/
def Fe.createCq (e : Fe) (t : Nat) : Fe :=
  e.admin t 0x05 (fun e =>
    let n := e.p.ct t Ct.cntl
    let q := e.h.dw t 10 % 2 ^ 16
    let size := e.h.dw t 10 / 2 ^ 16 + 1
    let d11 := e.h.dw t 11
    if q = 0 ∨ e.p.fld (Reg.HIF_FN_RES n) Fld.HIF_FN_RES_QMAX < q ∨ (e.h.cq n q).isSome then e.finish t 0 0x101
    else if size < 2 ∨ 4096 < size then e.finish t 0 0x102
    else if d11 % 2 = 0 then e.finish t 0 0x02
    else if atLeast1 (e.p.fld (Reg.HIF_FN_RES n) Fld.HIF_FN_RES_INTMAX) ≤ d11 / 2 ^ 16 then e.finish t 0 0x108
    else
      { e with h := e.h.setCq n q (some ⟨size, d11.testBit 1, d11 / 2 ^ 16, 0, 0, true, [], [],
          ⟨(e.h.ctrl n).dbbuf, 0, 0, 0⟩⟩) }.finish t 0 0)

/-- Create I/O Submission Queue. -/
def Fe.createSq (e : Fe) (t : Nat) : Fe :=
  e.admin t 0x01 (fun e =>
    let n := e.p.ct t Ct.cntl
    let q := e.h.dw t 10 % 2 ^ 16
    let size := e.h.dw t 10 / 2 ^ 16 + 1
    let d11 := e.h.dw t 11
    let cq := d11 / 2 ^ 16
    if q = 0 ∨ e.p.fld (Reg.HIF_FN_RES n) Fld.HIF_FN_RES_QMAX < q ∨ (e.h.sq n q).isSome then e.finish t 0 0x101
    else if size < 2 ∨ 4096 < size then e.finish t 0 0x102
    else if cq = 0 ∨ (e.h.cq n cq).isNone then e.finish t 0 0x100
    else if d11 % 2 = 0 then e.finish t 0 0x02
    else
      { e with h := e.h.setSq n q (some ⟨size, cq, 0, 0, none, ⟨(e.h.ctrl n).dbbuf, 0, 0, 0⟩⟩) }.finish t 0 0)

/-- Delete I/O Completion Queue: refused while a submission queue uses it. -/
def Fe.deleteCq (e : Fe) (t : Nat) : Fe :=
  e.admin t 0x04 (fun e =>
    let n := e.p.ct t Ct.cntl
    let q := e.h.dw t 10 % 2 ^ 16
    if q = 0 ∨ (e.h.cq n q).isNone then e.finish t 0 0x101
    else if e.h.sqs.any (fun x => x.1 / 2048 == n && (match x.2 with | some s => s.cq == q | none => false)) then
      e.finish t 0 0x10C
    else { e with h := e.h.setCq n q none }.finish t 0 0)

/-- Delete I/O Submission Queue (R275): fetching stops, unadmitted and admitted tags of the queue complete with Command Aborted
due to SQ Deletion, and the deletion completes once no tag of the queue is in FETCHED, ADMITTED or DISPATCHED. -/
def Fe.deleteSq (e : Fe) (t : Nat) : Fe :=
  e.admin t 0x00 (fun e =>
    let n := e.p.ct t Ct.cntl
    let q := e.h.dw t 10 % 2 ^ 16
    match e.h.sq n q with
    | none => e.finish t 0 0x101
    | some s =>
      if q = 0 then e.finish t 0 0x101
      else
        let e := { e with h := e.h.setSq n q (some { s with stop := some t }) }
        let ts := (e.p.tagsOf n).filter (fun u => e.p.ct u Ct.sqid == q && (e.p.tagState u == 1 || e.p.tagState u == 2)
          && e.p.ct u Ct.tref == 0 && !e.movingOut u)
        let e := ts.foldl (fun e u =>
          { e with p := e.p.setCt u Ct.xfer 0, s := e.s.endXfer u }.finish u 0 0x08) e
        e.finishDelete n q)

/-! ## Abort (R301, R302) -/

/-- The tag of controller `n` that holds the pair (SQID, CID) in a state other than FREE. -/
def Fe.findTag (e : Fe) (n sq cid : Nat) : Option Nat :=
  (e.p.tagsOf n).find? (fun u => e.p.ct u Ct.sqid == sq && e.h.cid u == cid)

/-- The Aborts of controller `n` that wait for their target, other than tag `t`. -/
def Fe.abortsWaiting (e : Fe) (n t : Nat) : Nat :=
  ((e.p.tagsOf n).filter (fun u => u != t && e.p.ct u Ct.sqid == 0 && e.h.opcode u == 0x08 && e.p.tagState u == 2)).length

/-- An Abort goes on: its own tag waits in ADMITTED. -/
def Fe.abortWaits (e : Fe) (t : Nat) : Fe := { e with p := e.p.moveTag t 2 }

/-- The target is caught: its completion is posted before the Abort's. -/
def Fe.caught (e : Fe) (t u : Nat) : Fe := (e.finish u 0 0x07).finish t 0 0

/-- Abort, and what it still waits for: the ABRTs to send. -/
def Fe.abort (e : Fe) (t : Nat) : Fe × List (Nat × Nat) :=
  let n := e.p.ct t Ct.cntl
  let d := e.h.dw t 10
  let waiting : Bool := e.p.tagState t == 2 && e.p.ct t Ct.sqid == 0 && e.h.opcode t == 0x08
  if e.isAdmin t 0x08 ∨ waiting then
    if e.h.psdt t ≠ 0 then (e.finish t 0 0x02, [])
    else if waiting = false ∧ 4 ≤ e.abortsWaiting n t then (e.finish t 0 0x103, [])
    else
      match e.findTag n (d % 2 ^ 16) (d / 2 ^ 16) with
      | none => (e.finish t 1 0, [])
      | some u =>
        let s := e.p.tagState u
        if d % 2 ^ 16 = 0 then (e.finish t 1 0, [])
        else if s = 1 ∨ (s = 2 ∧ e.p.ct u Ct.tref = 0) then
          if e.p.ct u Ct.xfer = 1 then (e.abortWaits t, []) else (e.caught t u, [])
        else if s = 2 ∨ s = 3 then
          if e.p.ct u Ct.abrt = 1 then (e.abortWaits t, [])
          else
            let r := e.opAbort u s
            (r.1.abortWaits t, r.2)
        else if s = 5 ∧ waiting ∧ e.p.ct u Ct.abrt = 1 ∧ e.p.ct u Ct.abrtLate = 0
            ∧ SMap.get (fun _ => 0) e.c.others u = 0 then (e.caught t u, [])
        else (e.finish t 1 0, [])
  else (e, [])

/-! ## Features (R278) -/

/-- The feature identifiers of Table HIF-5. -/
def featureListed (f : Nat) : Bool := [0x01, 0x02, 0x04, 0x06, 0x07, 0x08, 0x09, 0x0B, 0x0E].contains f

/-- The key of a feature value: Temperature Threshold has one per sensor and sense, Interrupt Vector Configuration one per vector. -/
def featureKey (f d11 : Nat) : Nat :=
  if f = 0x04 then f + 256 * (d11 / 2 ^ 16 % 64) else if f = 0x09 then f + 256 * (d11 % 2 ^ 16) else f

/-- The limit of a power state in units of 0.01 W (Table HIF-5). -/
def psLimit (ps : Nat) : Nat := match ps with | 0 => 2700 | 1 => 1800 | 2 => 1100 | _ => 250

/-- Set Features: `data` is the 8-byte Timestamp that the host's memory holds. -/
def Fe.setFeatures (e : Fe) (t : Nat) (data : List Byte) : Fe :=
  e.admin t 0x09 (fun e =>
    let n := e.p.ct t Ct.cntl
    let f := e.h.dw t 10 % 256
    let d11 := e.h.dw t 11
    let c := e.h.ctrl n
    let put (e : Fe) (k v : Nat) : Fe := { e with h := e.h.setCtrl n { c with features := SMap.set (fun _ => 0) c.features k v } }
    if featureListed f = false then e.finish t 0 0x02
    else if f = 0x0E then
      { e with h := { e.h with tsOffset := (leNat (data.take 6) : Int) - (e.p.time.toNat / 1000000 : Nat) } }.finish t 0 0
    else if f = 0x07 then
      if d11 % 2 ^ 16 = 0xFFFF ∨ d11 / 2 ^ 16 = 0xFFFF then e.finish t 0 0x02
      else
        let m := e.p.fld (Reg.HIF_FN_RES n) Fld.HIF_FN_RES_QMAX - 1
        let v := min (d11 % 2 ^ 16) m + 2 ^ 16 * min (d11 / 2 ^ 16) m
        (put e 0x07 v).finish t v 0
    else if f = 0x02 then
      if 3 < d11 % 32 then e.finish t 0 0x02
      else
        let e := put e 0x02 d11
        (if e.p.on 31 then { e with p := e.p.setFld Reg.THM_PCAP Fld.THM_PCAP_CAP (psLimit (d11 % 32)) } else e).finish t 0 0
    else (put e (featureKey f d11) d11).finish t 0 0)

/-- Get Features: the current value, the default, or that the feature is changeable; the Timestamp is returned as data. -/
def Fe.getFeatures (e : Fe) (t pg : Nat) : Fe :=
  e.admin t 0x0A (fun e =>
    let n := e.p.ct t Ct.cntl
    let f := e.h.dw t 10 % 256
    let sel := e.h.dw t 10 / 256 % 8
    if featureListed f = false ∨ 3 < sel then e.finish t 0 0x02
    else if sel = 3 then e.finish t 4 0
    else if f = 0x0E then
      let ms := if sel = 0 then bitsOf 48 (e.h.tsOffset + (e.p.time.toNat / 1000000 : Nat)) else 0
      e.dataOut t pg 0 (leBytes 6 ms ++ [if e.h.tsOffset = 0 then 0 else 2, 0])
    else if sel = 0 then e.finish t (e.h.feature n (featureKey f (e.h.dw t 11))) 0
    else e.finish t (if f = 0x06 then 1 else 0) 0)

/-! ## Asynchronous Event Requests (R277) -/

/-- Asynchronous Event Request: completes with a waiting event, or is held outstanding, up to 16 per controller. -/
def Fe.aer (e : Fe) (t : Nat) : Fe :=
  e.admin t 0x0C (fun e =>
    let n := e.p.ct t Ct.cntl
    let c := e.h.ctrl n
    if c.aers.contains t then e
    else if 16 ≤ c.aers.length then e.finish t 0 0x105
    else
      match c.events with
      | [] => { e with h := e.h.setCtrl n { c with aers := c.aers ++ [t] } }
      | d :: ds => { e with h := e.h.setCtrl n { c with events := ds } }.finish t d 0)

/-! ## Namespaces (R276, R279) -/

/-- A Namespace Attribute Changed event of the controllers in `mask` (feature 0x0B bit 8). -/
def Fe.nsChanged (e : Fe) (i mask : Nat) : Fe :=
  let l := if e.h.changedNs.contains i then e.h.changedNs else e.h.changedNs ++ [i]
  (List.range 64).foldl (fun e n =>
    if mask.testBit n ∧ (e.h.ctrl n).en ∧ (e.h.feature n 0x0B).testBit 8 then e.asyncEvent n 0x040002 else e)
    { e with h := { e.h with changedNs := l } }

/-- LBAs of all namespaces, and active zones shared out to the zoned ones. -/
def Hif.totals (h : Hif) : Nat × Nat :=
  h.nss.foldl (fun s x => match x.2 with | some n => (s.1 + n.size, s.2 + (if n.zoned then n.share else 0)) | none => s) (0, 0)

/-- Delete one namespace and its zones. -/
def Hif.dropNs (h : Hif) (i : Nat) : Hif :=
  { h.setNs i none with zones := h.zones.filter (fun x => x.1 / 2 ^ 15 != i), deferred := h.deferred.filter (fun d => d.nsid != i) }

/-- Namespace Management: create (SEL 0) from the data structure `data` (NSZE, NCAP), with the zone capacity and share of
active zones that firmware gives a zoned one; or delete (SEL 1). -/
def Fe.nsManagement (e : Fe) (t : Nat) (data : List Byte) (zcap share : Nat) : Fe :=
  e.admin t 0x0D (fun e =>
    let sel := e.h.dw t 10 % 16
    let csi := e.h.dw t 11 / 2 ^ 24
    let i := e.h.nsid t
    if sel = 0 then
      let size := leNat (data.take 8)
      let free := ((List.range 64).map (· + 1)).find? (fun k => (e.h.ns k).isNone)
      if (csi ≠ 0 ∧ csi ≠ 2) ∨ size = 0 ∨ (csi = 2 ∧ (size % zoneSize ≠ 0 ∨ share = 0)) then e.finish t 0 0x02
      else if 2 ^ 35 < e.h.totals.1 + size ∨ (csi = 2 ∧ 1024 < e.h.totals.2 + share) then e.finish t 0 0x115
      else
        match free with
        | none => e.finish t 0 0x116
        | some k => { e with h := e.h.setNs k (some ⟨csi = 2, size, min zcap zoneSize, share, 0⟩) }.finish t k 0
    else if sel = 1 then
      if i = 0xFFFFFFFF then
        let h := ((List.range 64).map (· + 1)).foldl Hif.dropNs e.h
        { e with h := h }.finish t 0 0
      else
        match e.h.ns i with
        | none => e.finish t 0 0x0B
        | some n => ({ e with h := e.h.dropNs i }.nsChanged i n.attached).finish t 0 0
    else e.finish t 0 0x02)

/-- The controllers a Controller List names. -/
def ctrlList (data : List Byte) : List Nat :=
  (List.range (min 2047 (leNat (data.take 2)))).map (fun k => leNat ((data.drop (2 + 2 * k)).take 2))

/-- Namespace Attachment: attach (SEL 0) or detach (SEL 1) the controllers of the list `data`. -/
def Fe.nsAttachment (e : Fe) (t : Nat) (data : List Byte) : Fe :=
  e.admin t 0x15 (fun e =>
    let sel := e.h.dw t 10 % 16
    let i := e.h.nsid t
    let cs := ctrlList data
    match e.h.ns i with
    | none => e.finish t 0 0x0B
    | some n =>
      if 1 < sel then e.finish t 0 0x02
      else if cs.isEmpty ∨ cs.any (fun c => decide (64 ≤ c)) then e.finish t 0 0x11C
      else if sel = 0 ∧ cs.any (fun c => n.attached.testBit c) then e.finish t 0 0x118
      else if sel = 1 ∧ cs.any (fun c => !n.attached.testBit c) then e.finish t 0 0x11A
      else
        let m := cs.foldl (fun m c => m ||| 2 ^ c) 0
        ({ e with h := e.h.setNs i (some { n with attached := if sel = 0 then n.attached ||| m else n.attached - m }) }.nsChanged
          i m).finish t 0 0)

/-! ## Firmware images (R277, R309) -/

/-- Firmware Image Download: `data` is placed at the offset of CDW11. -/
def Fe.fwDownload (e : Fe) (t : Nat) (data : List Byte) : Fe :=
  e.admin t 0x11 (fun e =>
    let d := data.take (4 * (e.h.dw t 10 + 1))
    { e with h := { e.h with fw := { e.h.fw with image := SMap.store zeroByte e.h.fw.image (4 * e.h.dw t 11) d } } }.finish t 0 0)

/-- Whether draining has ended: every tag but the Commit and outstanding Asynchronous Event Requests is FREE or DESTAGING. -/
def Fe.drained (e : Fe) (t : Nat) : Bool :=
  e.p.tagsInUse.all (fun u => u == t || e.p.tagState u == 4 || (e.h.ctrl (e.p.ct u Ct.cntl)).aers.contains u)

/-- Put the firmware image state. -/
def Fe.withFw (e : Fe) (f : FwImages) : Fe := { e with h := { e.h with fw := f } }

/-- Activate the slot that an activation without reset waits for. -/
def Fe.activate (e : Fe) (t slot : Nat) : Fe :=
  let e := e.withFw { e.h.fw with active := slot, pending := none }
  { e with p := e.p.setFld Reg.CMD_CTRL Fld.CMD_CTRL_FETCH_HOLD 0 }.finish t 0 0

/-- Firmware Commit: actions 0 and 1 put the downloaded image into a slot, 1 and 2 choose the slot the next reset starts, 3
activates without reset once the tags have drained. -/
def Fe.fwCommit (e : Fe) (t : Nat) : Fe :=
  e.admin t 0x10 (fun e =>
    let ca := e.h.dw t 10 / 8 % 8
    let fs := e.h.dw t 10 % 8
    let slot := if fs = 0 then (if e.h.fw.active = 1 then 2 else 1) else fs
    let f := e.h.fw
    if e.h.fw.pending = some (t, slot) then (if e.drained t then e.activate t slot else e)
    else if 3 < ca then e.finish t 0 0x02
    else if 2 < slot then e.finish t 0 0x106
    else if ca ≤ 1 ∧ f.image = [] ∨ 2 ≤ ca ∧ f.present.testBit slot = false then e.finish t 0 0x107
    else
      let e := if ca ≤ 1 then e.withFw { f with slots := SMap.set (fun _ => []) f.slots slot f.image, present := f.present ||| 2 ^ slot, image := [] }
        else e
      if ca = 0 then e.finish t 0 0
      else if ca ≤ 2 then (e.withFw { e.h.fw with next := slot }).finish t 0 0
      else
        let e := e.withFw { e.h.fw with pending := some (t, slot), next := slot }
        let stopTest : Bool := e.h.selfTest == 2
        let e := { e with p := e.p.setFlag Reg.CMD_CTRL Fld.CMD_CTRL_FETCH_HOLD
                          h := if stopTest then { e.h with selfTest := 0, testLog := (0x21 :: e.h.testLog).take 20 } else e.h }
        if e.drained t then e.activate t slot else e)

/-- Draining has not ended 4 s after FETCH_HOLD: the old image stays and the Commit fails (R309). -/
def Fe.fwTimeout (e : Fe) : Fe :=
  match e.h.fw.pending with
  | none => e
  | some r =>
    let e := e.withFw { e.h.fw with pending := none, next := e.h.fw.active }
    { e with p := e.p.setFld Reg.CMD_CTRL Fld.CMD_CTRL_FETCH_HOLD 0 }.finish r.1 0 0x112

/-- A write of CMD_CTRL. -/
def fetchHoldWrite (p : Plat) (v : Word) : Plat := p.fwWrite Reg.CMD_CTRL v

/-! ## Self-test, virtualization, management in band -/

/-- Device Self-test: a fetched command starts the short (1) or extended (2) test or aborts the one in progress (15); with
`ended`, firmware's composition of the self-tests has ended with that result code. -/
def Fe.selfTest (e : Fe) (t : Nat) (ended : Option Nat) : Fe :=
  match ended with
  | some r =>
    if e.h.selfTest = 0 then e
    else { e with h := { e.h with selfTest := 0, testLog := ((16 * e.h.selfTest + r % 16) :: e.h.testLog).take 20 } }
  | none =>
    e.admin t 0x14 (fun e =>
      let stc := e.h.dw t 10 % 16
      if stc = 1 ∨ stc = 2 then
        if e.h.selfTest = 0 then { e with h := { e.h with selfTest := stc } }.finish t 0 0 else e.finish t 0 0x11D
      else if stc = 15 then
        let h := if e.h.selfTest = 0 then e.h
          else { e.h with selfTest := 0, testLog := ((16 * e.h.selfTest + 1) :: e.h.testLog).take 20 }
        { e with h := h }.finish t 0 0
      else e.finish t 0 0x02)

/-- Virtualization Management: firmware writes HIF_FNn_RES (R271): actions 1 and 8 give a controller queues or vectors, 7 takes a
controller offline, 9 brings it online. -/
def Fe.virtualization (e : Fe) (t : Nat) : Fe :=
  e.admin t 0x1C (fun e =>
    let d := e.h.dw t 10
    let n := d / 2 ^ 16
    let nr := e.h.dw t 11 % 2 ^ 16
    if 64 ≤ n then e.finish t 0 0x11F
    else
      match d % 16 with
      | 7 => (e.ctrlReset n).finish t 0 0
      | 9 => e.finish t 0 0
      | a =>
        if a = 1 ∨ a = 8 then
          let f := if d / 256 % 8 = 0 then Fld.HIF_FN_RES_QMAX else Fld.HIF_FN_RES_INTMAX
          let v := Fld.put f (e.p.rd (Reg.HIF_FN_RES n)) nr
          let p := fnResWrite e.p e.h n v
          if p.rd (Reg.HIF_FN_RES n) = v ∧ nr < 2 ^ f.w then { e with p := p }.finish t nr 0
          else { e with p := p }.finish t 0 0x121
        else e.finish t 0 0x02)

/-- A management command carried in band (R277). -/
def miRun (p : Plat) (g : Mgt) (c : MiCmd) : Plat × Mgt :=
  match c with
  | .readDataStructure off len => readDataStructure p g off len
  | .healthPoll => healthPoll p g
  | .configurationGet => configGet p g
  | .configurationSet unit v => configSet p g unit v
  | .unitStateGet => unitStateGet p g
  | .unitStateSet u code => unitStateSet p g u code
  | .friezeRead off len => friezeRead p g off len
  | .friezeFreeze f => friezeFreeze p g f
  | .fleetBudget a s => fleetBudget p g a s
  | .fleetIdentitySet id => fleetIdentity p g id
  | .passed req => mboxArrive p g false req
  | .unsupported => miUnsupported p g

/-- The code of a management status in Dword 0 of NVMe-MI Send and Receive. -/
def MiStatus.code (s : MiStatus) : Nat :=
  match s with
  | .success => 0
  | .invalidOpcode => 3
  | .invalidParameter => 4
  | .internalError => 2

/-- NVMe-MI Send: the management command is carried out and its status returned. -/
def Fe.miSend (e : Fe) (g : Mgt) (t : Nat) (c : MiCmd) : Fe × Mgt :=
  if e.isAdmin t 0x1D then
    if e.h.psdt t ≠ 0 then (e.finish t 0 0x02, g)
    else
      let r := miRun e.p g c
      ({ e with p := r.1 }.finish t r.2.answer.status.code 0, r.2)
  else (e, g)

/-- NVMe-MI Receive: the last answer's data. -/
def Fe.miReceive (e : Fe) (g : Mgt) (t pg : Nat) : Fe :=
  e.admin t 0x1E (fun e =>
    let d := g.answer.data
    e.dataOut t pg g.answer.status.code (d ++ List.replicate ((4 - d.length % 4) % 4) 0))

/-- Doorbell Buffer Config (R274): every queue of the controller is polled from then on. -/
def Fe.dbbufConfig (e : Fe) (t : Nat) : Fe :=
  e.admin t 0x7C (fun e =>
    let n := e.p.ct t Ct.cntl
    let wake (s : Shadow) : Shadow := ⟨true, 0, s.last, s.eventIdx⟩
    let h := e.h.setCtrl n { e.h.ctrl n with dbbuf := true }
    let h := { h with
      sqs := h.sqs.map (fun x => if x.1 / 2048 = n then (x.1, x.2.map (fun s => { s with shadow := wake s.shadow })) else x)
      cqs := h.cqs.map (fun x => if x.1 / 2048 = n then (x.1, x.2.map (fun s => { s with shadow := wake s.shadow })) else x) }
    { e with h := h }.finish t 0 0)

/-! ## Format, security, sanitize -/

/-- Reset every zone of a namespace. -/
def Fe.resetAll (e : Fe) (i : Nat) (n : Ns) : Fe :=
  (List.range n.zoneCount).foldl (fun e z =>
    let x := e.h.zone i z
    if x.st = .offline then e else { e with h := e.h.setZone i z (x.reset x.needsSweep) }) e

/-- Whether a zone of the namespace must be swept before its reset (R58). -/
def Fe.anySweep (e : Fe) (i : Nat) (n : Ns) : Bool := (List.range n.zoneCount).any (fun z => (e.h.zone i z).needsSweep)

/-- Replace the keys of the slots that satisfy `q` by GEN; the RESULT of the first that fails, else 0. -/
def Fe.genSlots (e : Fe) (q : Nat → Bool) : Fe × Nat :=
  ((List.range 128).filter (fun k => q k && e.p.slotLoaded k)).foldl (fun r k =>
    if r.2 ≠ 0 then r
    else
      let x := keyEffect r.1.p r.1.s 2 k
      ({ r.1 with p := x.1, s := x.2.1 }, x.2.2)) (e, 0)

/-- Whether a key slot serves a range of namespace `i`. -/
def Plat.slotOfNs (p : Plat) (i k : Nat) : Bool :=
  (List.range 64).any (fun r => p.bit (Reg.SEC_RANGE_CFG r) Fld.SEC_RANGE_CFG_EN
    && p.fld (Reg.SEC_RANGE_CFG r) Fld.SEC_RANGE_CFG_NSID == i && p.fld (Reg.SEC_RANGE_CFG r) Fld.SEC_RANGE_CFG_SLOT == k)

/-- Format NVM: Secure Erase Settings 0 and 2; a zoned namespace's zones are reset (`swept`: the sweeps that R58 asks for are
done), a conventional one's sectors are zero sectors again. -/
def Fe.format (e : Fe) (t : Nat) (swept : Bool) : Fe :=
  e.admin t 0x80 (fun e =>
    let i := e.h.nsid t
    let ses := e.h.dw t 10 / 2 ^ 9 % 8
    match e.h.ns i with
    | none => e.finish t 0 0x0B
    | some n =>
      if e.h.dw t 10 % 16 ≠ 0 then e.finish t 0 0x10A
      else if ses ≠ 0 ∧ ses ≠ 2 then e.finish t 0 0x02
      else if n.zoned ∧ e.anySweep i n ∧ swept = false then e
      else
        let r := if ses = 2 then e.genSlots (e.p.slotOfNs i) else (e, 0)
        let e := if n.zoned then r.1.resetAll i n else r.1
        e.finish t 0 (if r.2 = 0 then 0 else 0x06))

/-- Security Send: the protocol's effect on keys and ranges is firmware's, by the commands of the key store. -/
def Fe.securitySend (e : Fe) (t : Nat) (ok : Bool) : Fe := e.admin t 0x81 (fun e => e.finish t 0 (if ok then 0 else 0x02))

/-- Security Receive: the data that firmware supplies, at most MDTS. -/
def Fe.securityReceive (e : Fe) (t pg : Nat) (data : List Byte) : Fe :=
  e.admin t 0x82 (fun e =>
    if 2 ^ 21 < e.h.dw t 11 then e.finish t 0 0x02
    else e.dataOut t pg 0 ((data ++ List.replicate (e.h.dw t 11) 0).take (e.h.dw t 11 / 4 * 4)))

/-- Sanitize: crypto erase only (SANACT 4): GEN on every slot in use, and every zone becomes Empty. -/
def Fe.sanitize (e : Fe) (t : Nat) : Fe :=
  e.admin t 0x84 (fun e =>
    if e.h.dw t 10 % 8 ≠ 4 then e.finish t 0 0x02
    else
      let r := e.genSlots (fun _ => true)
      let h := r.1.h
      let h := { h with zones := h.zones.map (fun x =>
        (x.1, x.2.map (fun z => { z.reset z.needsSweep with st := .empty }))) }
      { r.1 with h := h }.finish t 0 (if r.2 = 0 then 0 else 0x06))

/-! ## Identify (R279, R285) -/

/-- Bytes laid over others from an offset on. -/
def overlay (base : List Byte) (o : Nat) (bs : List Byte) : List Byte := base.take o ++ bs ++ base.drop (o + bs.length)

/-- A structure of `n` bytes: zeros but for the fields given with their offsets. -/
def structOf (n : Nat) (fs : List (Nat × List Byte)) : List Byte :=
  fs.foldl (fun b f => overlay b f.1 f.2) (List.replicate n 0)

/-- Identify Controller: the values of Table HIF-6; `fw` holds what firmware supplies (SN, MN, FR: bytes 4 to 71; IEEE OUI: the
three bytes that follow). -/
def identifyController (p : Plat) (h : Hif) (n : Nat) (fw : List Byte) : List Byte :=
  let fw := (fw ++ List.replicate 71 0).take 71
  structOf 4096 [
    (0, le2 (p.fld Reg.HIF_ID0 Fld.HIF_ID0_VID)), (2, le2 (p.fld Reg.HIF_ID1 Fld.HIF_ID1_SSVID)),
    (4, fw.take 68), (73, fw.drop 68),
    (76, [BitVec.ofNat 8 (6 + SMap.get (fun _ => 0) h.linkCfg 0 % 2)]), (77, [9]), (78, le2 n), (80, le4 0x20000),
    (240, [0]), (256, le2 0x1DE), (258, [3]), (259, [15]), (260, [0x14]), (261, [0x0A]), (262, [255]), (263, [3]),
    (270, le2 50), (316, le2 1), (320, le4 2), (331, [4]), (512, [0x66]), (513, [0x44]),
    (516, le4 64), (520, le2 0x4C), (525, [1]), (526, le2 0), (528, le2 0), (536, le4 0),
    (2048, le2 2700), (2080, le2 1800), (2112, le2 1100), (2144, le2 250 ++ [0, 2])]

/-- Identify Namespace: sizes, one LBA format of 4,096 bytes, no metadata, and the atomicity of R313. -/
def identifyNamespace (n : Ns) : List Byte :=
  structOf 4096 ([(0, le8 n.size), (8, le8 n.size), (16, le8 n.size), (33, [if n.zoned then 1 else 0]), (128, [0, 0, 12, 0])]
    ++ (if n.zoned then [(24, [2]), (34, le2 31), (36, le2 31), (38, le2 0), (40, le2 31), (42, le2 0), (44, le2 31)] else []))

/-- Identify Namespace of the Zoned Namespace command set (R279): Variable Zone Capacity, Read Across Zone Boundaries, MAR and MOR,
ZSZE. -/
def identifyZns (n : Ns) : List Byte :=
  structOf 4096 [(0, le2 1), (2, le2 1), (4, le4 (n.share - 1)), (8, le4 (n.share - 1)), (3072, le8 zoneSize)]

/-- The namespaces with identifiers above `i` that satisfy `q`, in ascending order. -/
def Hif.nsList (h : Hif) (i : Nat) (q : Ns → Bool) : List Nat :=
  ((List.range 64).map (· + 1)).filter (fun k => decide (i < k) && (match h.ns k with | some n => q n | none => false))

/-- A list of identifiers as a 4,096-byte structure. -/
def idList (w : Nat) (l : List Nat) : List Byte := (l.flatMap (leBytes w) ++ List.replicate 4096 0).take 4096

/-- Identify (R285): `fw` is what firmware supplies for Identify Controller. -/
def Fe.identify (e : Fe) (t pg : Nat) (fw : List Byte) : Fe :=
  e.admin t 0x06 (fun e =>
    let n := e.p.ct t Ct.cntl
    let i := e.h.nsid t
    let cns := e.h.dw t 10 % 256
    let csi := e.h.dw t 11 / 2 ^ 24
    let attached (x : Ns) : Bool := x.attached.testBit n
    let own : Ns → Bool := fun x => attached x && (x.zoned == (csi == 2))
    let some' (f : Ns → List Byte) (q : Ns → Bool) : Fe :=
      match e.h.ns i with
      | none => e.finish t 0 0x0B
      | some x => e.dataOut t pg 0 (if q x then f x else List.replicate 4096 0)
    match cns with
    | 0x00 => some' identifyNamespace attached
    | 0x01 => e.dataOut t pg 0 (identifyController e.p e.h n fw)
    | 0x02 => e.dataOut t pg 0 (idList 4 (e.h.nsList i attached))
    | 0x03 => some' (fun x => structOf 4096 [(0, [4, 1, 0, 0, if x.zoned then 2 else 0])]) attached
    | 0x05 => if csi = 2 then some' identifyZns own else if csi = 0 then some' (fun _ => List.replicate 4096 0) own
              else e.finish t 0 0x02
    | 0x06 => if csi = 2 then e.dataOut t pg 0 (structOf 4096 [(0, [5])]) else if csi = 0 then e.dataOut t pg 0 (List.replicate 4096 0)
              else e.finish t 0 0x02
    | 0x07 => e.dataOut t pg 0 (idList 4 (e.h.nsList i own))
    | 0x10 => e.dataOut t pg 0 (idList 4 (e.h.nsList i (fun _ => true)))
    | 0x11 => some' identifyNamespace (fun _ => true)
    | 0x12 => some' (fun x =>
        let cs := (List.range 64).filter (fun c => x.attached.testBit c && decide (e.h.dw t 10 / 2 ^ 16 ≤ c))
        idList 2 (cs.length :: cs)) (fun _ => true)
    | 0x13 =>
        let cs := (List.range (2 + e.p.fld Reg.HIF_SRIOV Fld.HIF_SRIOV_TOTALVF0 + e.p.fld Reg.HIF_SRIOV Fld.HIF_SRIOV_TOTALVF1)).filter
          (fun c => decide (e.h.dw t 10 / 2 ^ 16 ≤ c))
        e.dataOut t pg 0 (idList 2 (cs.length :: cs))
    | 0x1C => e.dataOut t pg 0 (structOf 4096 [(0, le8 5)])
    | _ => e.finish t 0 0x02)

/-! ## Logs (R286) -/

/-- An Error Information entry (64 bytes). -/
def errorEntry (count k : Nat) (x : ErrEntry) : List Byte :=
  structOf 64 [(0, le8 (count - k)), (8, le2 x.sqid), (10, le2 x.cid), (12, le2 (2 * x.status)), (16, le8 x.lba), (24, le4 x.nsid),
    (32, le8 x.lost)]

/-- An entry of log page 0xC1 (32 bytes, Table HIF-7). -/
def auditBytes (a : AuditEntry) : List Byte :=
  le4 a.nsid ++ [BitVec.ofNat 8 a.mode, 0, 0, 0] ++ le8 a.zslba ++ le8 a.time ++ le4 a.rows ++ le2 a.noHeads ++ le2 a.rebuilt

/-- An entry of log page 0xC0 (16 bytes, Table HIF-7). -/
def unitEntry (p : Plat) (u : Nat) : List Byte :=
  [BitVec.ofNat 8 (p.fld (Reg.MGT_US u) Fld.MGT_US_REQ), BitVec.ofNat 8 (p.fld (Reg.MGT_US u) Fld.MGT_US_EFF), 0, 0, 0, 0, 0, 0]
    ++ le8 (SMap.get (fun _ => 0) p.effTime u)

/-- The opcodes of Table HIF-4, admin and I/O, as Commands Supported and Effects reports them (bit 0: supported). -/
def supportedOps (admin : Bool) : List Nat :=
  if admin then [0x00, 0x01, 0x02, 0x04, 0x05, 0x06, 0x08, 0x09, 0x0A, 0x0C, 0x0D, 0x10, 0x11, 0x14, 0x15, 0x1C, 0x1D, 0x1E,
    0x7C, 0x80, 0x81, 0x82, 0x84]
  else [0x00, 0x01, 0x02, 0x08, 0x09, 0x0C, 0x79, 0x7A, 0x7D, 0x84]

/-- A log page, from what the part holds; `fw` is what firmware supplies for SMART / Health (0x02) and Wear Indicators (0xC2). -/
def logPage (p : Plat) (h : Hif) (lid : Nat) (fw : List Byte) : Option (List Byte) :=
  match lid with
  | 0x01 => some ((h.errLog.zipIdx).flatMap (fun x => errorEntry h.errCount x.2 x.1))
  | 0x02 => some ((overlay fw 1 (le2 (bitsOf 16 (p.sfld Reg.THM_STATUS Fld.THM_STATUS_HOT / 4 + 273))) ++ List.replicate 512 0).take 512)
  | 0x03 => some (structOf 512 [(0, [BitVec.ofNat 8 (h.fw.active + 16 * (if h.fw.next = h.fw.active then 0 else h.fw.next))])])
  | 0x04 => some (idList 4 h.changedNs)
  | 0x05 => some ((List.range 256).flatMap (fun o => le4 (if (supportedOps true).contains o then 1 else 0))
              ++ (List.range 256).flatMap (fun o => le4 (if (supportedOps false).contains o then 1 else 0)))
  | 0x06 => some (structOf 564 ((0, [BitVec.ofNat 8 h.selfTest]) ::
              (h.testLog.zipIdx).map (fun x => (4 + 28 * x.2, [BitVec.ofNat 8 x.1]))))
  | 0x07 => some (structOf 512 [(0, [7])] ++ SMap.bytes zeroByte p.frz.log 0 p.wptr)
  | 0x08 => some (structOf 512 [(0, [8])] ++ SMap.bytes zeroByte p.frz.log 0 p.wptr)
  | 0xBF => some (structOf 4096 ((0, le2 h.changedZones.length) ::
              (h.changedZones.zipIdx).map (fun x => (8 + 8 * x.2, le8 (x.1.2 * zoneSize)))))
  | 0xC0 => some ((List.range 36).flatMap (unitEntry p))
  | 0xC1 => some (le4 h.auditLog.length ++ List.replicate 12 0 ++ h.auditLog.flatMap auditBytes)
  | 0xC2 => some ((fw ++ List.replicate 320 0).take 320)
  | _ => none

/-- Get Log Page: NUMD and the log page offset as the standard gives them; reading the changed lists empties them unless RAE. -/
def Fe.getLog (e : Fe) (t pg : Nat) (fw : List Byte) : Fe :=
  e.admin t 0x02 (fun e =>
    let d10 := e.h.dw t 10
    let len := 4 * (d10 / 2 ^ 16 + 2 ^ 16 * (e.h.dw t 11 % 2 ^ 16) + 1)
    let off := e.h.dw t 12 + 2 ^ 32 * e.h.dw t 13
    let lid := d10 % 256
    let own := if lid = 0xBF then { e.h with changedZones := e.h.changedZones.filter (fun x => x.1 == e.h.nsid t) } else e.h
    match logPage e.p own lid fw with
    | none => e.finish t 0 0x109
    | some page =>
      if 2 ^ 21 < len then e.finish t 0 0x02
      else
        let h := if d10.testBit 15 then e.h
          else if lid = 0x04 then { e.h with changedNs := [] }
          else if lid = 0xBF then { e.h with changedZones := e.h.changedZones.filter (fun x => x.1 != e.h.nsid t) }
          else e.h
        { e with h := h }.dataOut t pg 0 ((page.drop off ++ List.replicate len 0).take len))

/-- A command whose opcode Table HIF-4 does not list (R277), and a Zone Management Send whose action it does not list. -/
def Fe.unsupported (e : Fe) (t : Nat) : Fe :=
  if e.p.tagState t = 1 ∧ t < tagCount then
    let op := e.h.opcode t
    let admin : Bool := e.p.ct t Ct.sqid == 0
    if (supportedOps admin).contains op = false then e.finish t 0 0x01
    else if admin = false ∧ op = 0x79 ∧ ¬ [1, 2, 3, 4, 5].contains (e.h.dw t 13 % 256) then e.finish t 0 0x02
    else e
  else e

end Sys2Proof.Machine
end

