-- ==== Sys2Proof/Machine/LinkOps.lean ====
section
/-! DEFINITION. What the units of one actuator work on together, the fields of the task in the registers (Table TSQ-4), locking a
code and posting a request (R111, R124), and the Actuator Link's packets at the actuator's end (R91 to R100). -/

namespace Sys2Proof.Machine

/-- An actuator at work: its number, the Track Sequencer that serves it (R128), and what its units share. -/
structure Ac where
  n : Nat
  t : Nat
  p : Plat
  l : Link
  q : Tsq
  g : Gate
  m : Arm
  deriving DecidableEq, Repr

/-! ## The task in the registers -/

/-- The 64-bit word of a LO and HI register pair. -/
def Plat.rd64 (p : Plat) (lo : Nat) : Nat := (p.rd lo).toNat + 2 ^ 32 * (p.rd (lo + 4)).toNat

/-- Write a 64-bit word to a LO and HI register pair. -/
def Plat.wr64 (p : Plat) (lo v : Nat) : Plat := (p.wr lo (BitVec.ofNat 32 v)).wr (lo + 4) (BitVec.ofNat 32 (v / 2 ^ 32))

/-- Bits `hi` to `lo` of a number. -/
def bits (v hi lo : Nat) : Nat := v / 2 ^ lo % 2 ^ (hi + 1 - lo)

/-- Task word `i`, and bits `hi` to `lo` of it. -/
def Ac.word (a : Ac) (i : Nat) : Nat := a.p.rd64 (Reg.TSQ_TASK_LO a.t i)
/-- Bits `hi` to `lo` of task word `i`. -/
def Ac.tf (a : Ac) (i hi lo : Nat) : Nat := bits (a.word i) hi lo
/-- Extension word `i`. -/
def Ac.extWord (a : Ac) (i : Nat) : Nat := a.p.rd64 (Reg.TSQ_EXT_LO a.t i)

def Ac.kind (a : Ac) : Nat := a.tf 0 63 60
def Ac.tag (a : Ac) : Nat := a.p.fld (Reg.TSQ_TNUM a.t) Fld.TSQ_TNUM_TAG
def Ac.tnum (a : Ac) : Nat := a.p.fld (Reg.TSQ_TNUM a.t) Fld.TSQ_TNUM_TNUM
def Ac.slot (a : Ac) : Nat := a.tf 0 42 40
def Ac.elen (a : Ac) : Nat := a.tf 0 15 8
def Ac.member (a : Ac) : Nat := a.tf 0 7 0
def Ac.mqId (a : Ac) : Nat := a.tf 1 63 32
def Ac.zgen (a : Ac) : Nat := a.tf 1 31 20
def Ac.suppress (a : Ac) : Nat := a.tf 1 15 8
def Ac.headset (a : Ac) : Nat := a.tf 1 7 0
def Ac.qFirst (a : Ac) : Nat := a.tf 2 63 40
def Ac.lrowFirst (a : Ac) : Nat := a.tf 2 39 20
def Ac.nrows (a : Ac) : Nat := a.tf 2 19 0
def Ac.cseq (a : Ac) : Nat := a.tf 3 63 32
def Ac.slack0 (a : Ac) : Nat := a.tf 3 31 0
def Ac.nsect (a : Ac) : Nat := a.tf 4 63 54
def Ac.firstJ (a : Ac) : Nat := a.tf 4 53 51
def Ac.ofs (a : Ac) : Nat := a.tf 4 31 0
def Ac.mayRebuild (a : Ac) : Bool := a.tf 5 8 8 == 1
def Ac.ladderMax (a : Ac) : Nat := a.tf 5 7 0
def Ac.deadline (a : Ac) : Nat := a.word 6

/-- Whether a task is in the registers. -/
def Ac.busy (a : Ac) : Bool := a.p.bit (Reg.TSQ_STATUS a.t) Fld.TSQ_STATUS_BUSY

/-- Whether the task in the registers is a ZWRITE; a ZWRITE or CWRITE; a ZREAD, CREAD or AUDIT; a conventional kind. -/
def Ac.isZwrite (a : Ac) : Bool := a.busy && a.kind == 1
/-- ZWRITE or CWRITE. -/
def Ac.isWrite (a : Ac) : Bool := a.busy && (a.kind == 1 || a.kind == 3)
/-- ZREAD, CREAD or AUDIT. -/
def Ac.isRead (a : Ac) : Bool := a.busy && (a.kind == 2 || a.kind == 4 || a.kind == 6)
/-- CWRITE or CREAD. -/
def Ac.isConv (a : Ac) : Bool := a.busy && (a.kind == 3 || a.kind == 4)
/-- LOAD. -/
def Ac.isLoad (a : Ac) : Bool := a.busy && a.kind == 5

/-- The number of bits set in a head mask. -/
def heads8 (m : Nat) : List Nat := (List.range 8).filter (fun h => m.testBit h)
/-- k of the task: the heads of HEADSET. -/
def Ac.k (a : Ac) : Nat := (heads8 a.headset).length
/-- A head mask of a list of heads. -/
def maskOf (hs : List Nat) : Nat := hs.foldl (fun m h => m ||| 2 ^ h) 0
/-- The heads of one mask that are not in another. -/
def maskDiff (m k : Nat) : Nat := maskOf ((heads8 m).filter (fun h => !k.testBit h))
/-- The heads of HEADSET that are not in SUPPRESS. -/
def Ac.useHeads (a : Ac) : Nat := maskDiff a.headset a.suppress
/-- The stripe slot of head `h`: its place among the heads of HEADSET in ascending order (R44). -/
def Ac.slotOf (a : Ac) (h : Nat) : Nat := ((heads8 a.headset).filter (fun x => decide (x < h))).length
/-- The head of stripe slot `s`. -/
def Ac.headOf (a : Ac) (s : Nat) : Nat := (heads8 a.headset).getD s 0

/-! ## Codes and requests (R110, R111, R124) -/

/-- Whether the task's code is locked. -/
def Ac.locked (a : Ac) : Bool := a.p.bit (Reg.TSQ_STATUS a.t) Fld.TSQ_STATUS_LOCKED

/-- TSQ_MQ_LAST takes the reason and slot of a MAQUETTE_BAD, MAQUETTE_ABSENT or MAQUETTE_STALE. -/
def Plat.mqLast (p : Plat) (t reason slot : Nat) : Plat :=
  (p.setFld (Reg.TSQ_MQ_LAST t) Fld.TSQ_MQ_LAST_REASON reason).setFld (Reg.TSQ_MQ_LAST t) Fld.TSQ_MQ_LAST_SLOT slot

/-- Hardware sets a code: the first stands and is locked (R111). -/
def Ac.lock (a : Ac) (code reason : Nat) : Ac :=
  if a.busy ∧ a.locked = false then
    let p := (a.p.setFlag (Reg.TSQ_STATUS a.t) Fld.TSQ_STATUS_LOCKED).setFld (Reg.TSQ_STATUS a.t) Fld.TSQ_STATUS_CODE code
    let p := if 0x10 ≤ code ∧ code ≤ 0x12 then p.mqLast a.t reason a.slot else p
    { a with p := p, q := { a.q with code := some code, reason := reason } }
  else a

/-- The PEND bits: LINK_ERR 8, PREAMP 4, ABRT 2, STOP 1. -/
def Ac.pend (a : Ac) (b : Nat) : Ac :=
  if a.busy then
    { a with p := a.p.setFld (Reg.TSQ_STATUS a.t) Fld.TSQ_STATUS_PEND (a.p.fld (Reg.TSQ_STATUS a.t) Fld.TSQ_STATUS_PEND ||| b) }
  else a

/-! ## The link at the actuator's end -/

/-- UP_CREDIT, DN_GRANT, TASKS and ABRTS of LNK_STATUS. -/
def Ac.upCredit (a : Ac) : Nat := a.p.fld (Reg.LNK_STATUS a.n) Fld.LNK_STATUS_UP_CREDIT
/-- Sectors granted and not yet received. -/
def Ac.grant (a : Ac) : Nat := a.p.fld (Reg.LNK_STATUS a.n) Fld.LNK_STATUS_DN_GRANT
/-- Put UP_CREDIT. -/
def Ac.setCredit (a : Ac) (c : Nat) : Ac := { a with p := a.p.setFld (Reg.LNK_STATUS a.n) Fld.LNK_STATUS_UP_CREDIT c }
/-- Put DN_GRANT. -/
def Ac.setGrant (a : Ac) (c : Nat) : Ac := { a with p := a.p.setFld (Reg.LNK_STATUS a.n) Fld.LNK_STATUS_DN_GRANT c }

/-- ABRT packets waiting on the downstream direction. -/
def Link.abrts (l : Link) : Nat :=
  (l.down.filter (fun x => match x with | .abrt _ _ => true | _ => false)).length

/-- TASKS and ABRTS follow what the link and the registers hold. -/
def Ac.showLink (a : Ac) : Ac :=
  let p := a.p.setFld (Reg.LNK_STATUS a.n) Fld.LNK_STATUS_TASKS (a.l.queue.length + (if a.busy then 1 else 0))
  { a with p := p.setFld (Reg.LNK_STATUS a.n) Fld.LNK_STATUS_ABRTS a.l.abrts }

/-- Put a packet on the upstream direction. -/
def Ac.send (a : Ac) (x : UpPkt) : Ac := { a with l := { a.l with up := a.l.up ++ [x] } }

/-- Whether the link carries packets. -/
def Ac.linkOn (a : Ac) : Bool := a.p.bit (Reg.LNK_CTRL a.n) Fld.LNK_CTRL_ENABLE && a.p.on (4 * a.n + 2)

/-- A downstream packet is discarded: the flag, LINK_ERROR locked, the LINK_ERR request posted (R100). -/
def Ac.downError (a : Ac) (f : Fld) : Ac :=
  ({ a with p := a.p.setFlag (Reg.LNK_ERR a.n) f }.lock 0x41 0).pend 8

/-- A downstream packet is taken off the link: what the fault found on it leaves, or the effect (R100). -/
def Ac.take (a : Ac) (f : LinkFault) (rest : List DnPkt) (eff : Ac → Ac) : Ac :=
  let a := { a with l := { a.l with down := rest } }
  match f with
  | .good => (eff a).showLink
  | .corrected =>
    let p := a.p.setFlag (Reg.LNK_ERR a.n) Fld.LNK_ERR_DN_CORR
    (eff { a with p := p.bump (Reg.LNK_CORR_LO a.n) 1 (Reg.LNK_ERR a.n) ⟨0, 0⟩ }).showLink
  | .uncorrectable => (a.downError Fld.LNK_ERR_DN_UNCORR).showLink
  | .protocol => (a.downError Fld.LNK_ERR_PROTO).showLink

/-- The STAT of a task that reached no check point and wrote nothing: CODE, its own SLACK, LROW_FIRST and Q_FIRST (R113). -/
def blankStat (code : Nat) (words : List Nat) : List Nat :=
  [code * 2 ^ 56, bits (words.getD 3 0) 31 0 * 2 ^ 32,
   bits (words.getD 2 0) 39 20 * 2 ^ 44 + bits (words.getD 2 0) 63 40 * 2 ^ 20]

/-- A TASK packet arrives: it waits in the task queue, which holds one beside the task in the registers; without a credit it is a
protocol error (R95, R100). -/
def Ac.taskArrives (a : Ac) (f : LinkFault) : Ac :=
  match a.l.down with
  | .task tag tnum ws xs :: rest =>
    if a.linkOn then
      a.take f rest (fun a =>
        if a.l.queue.length + (if a.busy then 1 else 0) < 2 then
          { a with l := { a.l with queue := a.l.queue ++ [⟨tag, tnum, ws, xs⟩] } }
        else a.downError Fld.LNK_ERR_PROTO)
    else a
  | _ => a

/-- An ABRT arrives (R98, R99). -/
def Ac.abrtArrives (a : Ac) (f : LinkFault) : Ac :=
  match a.l.down with
  | .abrt tag tnum :: rest =>
    if a.linkOn then
      a.take f rest (fun a =>
        match a.l.queue.find? (fun x => x.tag == tag && x.tnum == tnum) with
        | some x =>
          let st := UpPkt.stat tag tnum (blankStat 0x40 x.words)
          let a := { a with l := { a.l with queue := a.l.queue.filter (fun y => y != x) } }
          if a.busy then { a with l := { a.l with owed := a.l.owed ++ [st] } } else a.send st
        | none =>
          if a.busy ∧ a.tag = tag ∧ a.tnum = tnum then
            if a.q.ponr then { a with q := { a.q with late := true } } else (a.lock 0x40 0).pend 2
          else a)
    else a
  | _ => a

/-! ## The track buffer -/

/-- The track buffer's place `i`. -/
def Tsq.tb (q : Tsq) (i : Nat) : Option Sector := SMap.get (fun _ => none) q.tbuf i

/-- Put a place of the track buffer. -/
def Tsq.setTb (q : Tsq) (i : Nat) (s : Option Sector) : Tsq := { q with tbuf := SMap.set (fun _ => none) q.tbuf i s }

/-- The free space of R96: 64 sectors less those held and those granted and not yet received. -/
def Ac.tbFree (a : Ac) : Nat := 64 - a.q.tbuf.length - a.grant

/-- Drop the sectors that belong to row `r`. -/
def Tsq.dropRow (q : Tsq) (r : Nat) : Tsq :=
  { q with tbuf := q.tbuf.filter (fun e => match e.2 with | some s => s.lrow != r | none => true) }

end Sys2Proof.Machine
end

