-- ==== Sys2Proof/Machine/MaqOps.lean ====
section
/-! DEFINITION. Maquettes: the fields of an image, the checks of Table MAQ-2, binding and staleness, positions and their places,
head offsets, assist and heater codes (R67 to R90). -/

namespace Sys2Proof.Machine

/-- An image: its bytes by offset. -/
abbrev Img := Nat → Nat

/-- The image in slot `s` of the maquette store. -/
def Tsq.img (q : Tsq) (s : Nat) : Img := fun o => (SMap.get zeroByte q.store (65536 * s + o)).toNat

/-- A 16-bit value of an image. -/
def Img.u16 (m : Img) (o : Nat) : Nat := m o + 256 * m (o + 1)
/-- A 32-bit value of an image. -/
def Img.u32 (m : Img) (o : Nat) : Nat := m.u16 o + 65536 * m.u16 (o + 2)
/-- A signed 8-bit value. -/
def Img.i8 (m : Img) (o : Nat) : Int := signed 8 (m o)
/-- A signed 16-bit value. -/
def Img.i16 (m : Img) (o : Nat) : Int := signed 16 (m.u16 o)
/-- A signed 32-bit value. -/
def Img.i32 (m : Img) (o : Nat) : Int := signed 32 (m.u32 o)
/-- `n` bytes from `o`. -/
def Img.bytes (m : Img) (o n : Nat) : List Byte := (List.range n).map (fun i => BitVec.ofNat 8 (m (o + i)))

/-! ## Header (Table MAQ-1) -/

def Img.imageLen (m : Img) : Nat := m.u32 0x008
def Img.mqId (m : Img) : Nat := m.u32 0x00C
def Img.calEpoch (m : Img) : Nat := m.u16 0x010
def Img.isConv (m : Img) : Bool := m 0x012 == 1
def Img.heads (m : Img) : Nat := m 0x013
def Img.k (m : Img) : Nat := (heads8 m.heads).length
def Img.wedges (m : Img) : Nat := m.u16 0x024
def Img.wedgeInt (m : Img) : Nat := m.u32 0x028
def Img.swin (m : Img) : Nat := m.u16 0x02C
/-- The data span of a wedge in channel bits (R72). -/
def Img.span (m : Img) : Nat := m.wedgeInt - m.swin
def Img.abandonLimit (m : Img) : Nat := m 0x02E
def Img.descends (m : Img) : Bool := m 0x02F % 2 == 1
def Img.tracks (m : Img) : Nat := m.u16 0x030
def Img.perTrack (m : Img) : Nat := m.u16 0x032
def Img.rows (m : Img) : Nat := m.u32 0x034
def Img.members (m : Img) : Nat := m.u16 0x03C
def Img.bandPitch (m : Img) : Nat := m.u16 0x03E
def Img.baseTrack (m : Img) : Nat := m.u32 0x040
def Img.sm1Win (m : Img) : Nat := m 0x044
def Img.pool (m : Img) : Nat := m.u16 0x046
/-- Offset and length of section `i`: 0 ROWT, 1 HEAD, 2 MEMB, 3 SKIP, 4 FFWD, 5 APRF (R69). -/
def Img.secOff (m : Img) (i : Nat) : Nat := m.u32 (0x080 + 8 * i)
/-- Length of section `i`. -/
def Img.secLen (m : Img) (i : Nat) : Nat := m.u32 (0x084 + 8 * i)

/-! ## Sections -/

/-- ROWT entry `i`: START_WEDGE, START_OFS, SPLIT1, SPLIT2 (R71). -/
def Img.rowt (m : Img) (i : Nat) : Nat × Nat × Nat × Nat :=
  let o := m.secOff 0 + 8 * i
  (m.u32 o / 2 ^ 22, m.u32 o % 2 ^ 22, m.u16 (o + 4), m.u16 (o + 6))

/-- The offset of head `h`'s HEAD entry (R73). -/
def Img.headAt (m : Img) (h : Nat) : Nat := m.secOff 1 + 64 * h
def Img.sskew (m : Img) (h : Nat) : Nat := m.u16 (m.headAt h + 2)
def Img.wlat (m : Img) (h : Nat) : Nat := m.u16 (m.headAt h + 4)
def Img.precomp (m : Img) (h i : Nat) : Nat := m (m.headAt h + 16 + i)
def Img.assistMax (m : Img) (h : Nat) : Nat := m.u16 (m.headAt h + 20)
def Img.npts (m : Img) (h : Nat) : Nat := m (m.headAt h + 24)

/-- SKIP_FIRST and SKIP_CNT of member `i` (R74). -/
def Img.skipFirst (m : Img) (i : Nat) : Nat := m.u32 (m.secOff 2 + 16 * i + 4)
/-- SKIP_CNT of member `i`. -/
def Img.skipCnt (m : Img) (i : Nat) : Nat := m.u16 (m.secOff 2 + 16 * i + 8)
/-- Position and mask of SKIP entry `j` (R75). -/
def Img.skipQ (m : Img) (j : Nat) : Nat := m.u32 (m.secOff 3 + 4 * j) % 2 ^ 24
/-- The head mask of SKIP entry `j`. -/
def Img.skipMask (m : Img) (j : Nat) : Nat := m.u32 (m.secOff 3 + 4 * j) / 2 ^ 24
/-- The positions that are not usable in member `i` (R42). -/
def Img.skips (m : Img) (i : Nat) : List Nat := (List.range (m.skipCnt i)).map (fun j => m.skipQ (m.skipFirst i + j))

/-- The stripe slot of head `h` in the class (R44). -/
def Img.slotOf (m : Img) (h : Nat) : Nat := ((heads8 m.heads).filter (fun x => decide (x < h))).length
/-- The feed-forward of head `h` at wedge `w` (R76). -/
def Img.ffwd (m : Img) (h w : Nat) : Int := m.i16 (m.secOff 4 + 2 * (m.slotOf h * m.wedges + w))
/-- The offset of APRF point `i` of head `h` (R77). -/
def Img.point (m : Img) (h i : Nat) : Nat := m.secOff 5 + 128 * m.slotOf h + 8 * i

/-! ## The checks of Table MAQ-2 (R81) -/

/-- Whether a value lies within limits. -/
def within (lo hi v : Nat) : Bool := decide (lo ≤ v) && decide (v ≤ hi)

/-- The range and count limits of Table MAQ-1. -/
def Img.headerOk (m : Img) : Bool :=
  decide (m 0x012 ≤ 1) && (if m.isConv then m.k == 1 else within 2 8 m.k) && decide (m 0x014 ≤ 3)
    && decide (m.i16 0x01C ≤ m.i16 0x018) && decide (m.i16 0x01A ≤ m.i16 0x01E)
    && within 1 65534 (m.u16 0x022) && within 480 1024 m.wedges && within 5400 10000 (m.u16 0x026)
    && within 256 8192 m.swin && (m.isConv || within 1 15 m.abandonLimit) && within 1 4096 m.tracks
    && within 1 1200 m.perTrack && within 1 256 m.members && (!m.isConv || m.members == 1)
    && decide (m.tracks ≤ m.bandPitch) && within 1 64 m.sm1Win && decide (m 0x045 ≤ 64)
    && (m.isConv || m.pool == 0)

/-- The section directory (R69): order, alignment, bounds, no overlap, and the lengths that the counts give. -/
def Img.sectionsOk (m : Img) : Bool :=
  m.secLen 6 == 0 && m.secLen 7 == 0
    && (List.range 6).all (fun i => m.secLen i == 0
        || (m.secOff i % 8 == 0 && decide (256 ≤ m.secOff i) && decide (m.secOff i + m.secLen i ≤ m.imageLen - 4)))
    && (List.range 6).all (fun i => (List.range 6).all (fun j => i == j || m.secLen i == 0 || m.secLen j == 0
        || decide (m.secOff i + m.secLen i ≤ m.secOff j) || decide (m.secOff j + m.secLen j ≤ m.secOff i)))
    && m.secLen 0 == 8 * m.perTrack && m.secLen 1 == 512 && m.secLen 2 == 16 * m.members && m.secLen 3 % 4 == 0
    && m.secLen 4 == 2 * m.k * m.wedges && m.secLen 5 == 128 * m.k

/-- Every byte outside the header, the sections and the CRC is zero (R69). -/
def Img.gapsOk (m : Img) : Bool :=
  (List.range (m.imageLen - 4)).all (fun o => decide (o < 256) || m o == 0
    || (List.range 6).any (fun i => decide (m.secOff i ≤ o) && decide (o < m.secOff i + m.secLen i)))

/-- The limits of the R73 head table. -/
def Img.headOk (m : Img) (h : Nat) : Bool :=
  decide (m.sskew h < m.swin) && decide (m.wlat h ≤ 255) && decide (m.assistMax h ≤ 1023) && within 1 16 (m.npts h)

/-- Ascending without repeats. -/
def ascending : List Nat → Bool
  | [] => true
  | [_] => true
  | a :: b :: l => decide (a < b) && ascending (b :: l)

/-- R74 and R75 for member `i`. -/
def Img.memberOk (m : Img) (i : Nat) : Bool :=
  decide (4 * (m.skipFirst i + m.skipCnt i) ≤ m.secLen 3) && ascending (m.skips i)
    && (List.range (m.skipCnt i)).all (fun j => m.skipMask (m.skipFirst i + j) &&& m.heads == m.skipMask (m.skipFirst i + j))
    && (m.isConv || m.u32 (m.secOff 2 + 16 * i) + m.skipCnt i + m.rows == m.tracks * m.perTrack)

/-- The end of ROWT entry `i` (wedge, bit after its last), when its header, divisions and postamble lie as R72 says. -/
def Img.frameEnd (m : Img) (i : Nat) : Option (Nat × Nat) :=
  let r := m.rowt i
  let d := m.span
  let s1 := r.2.2.1
  let s2 := r.2.2.2
  if s1 = 0xFFFF then
    if s2 = 0xFFFF ∧ r.2.1 + 37324 ≤ d then some (r.1, r.2.1 + 37324) else none
  else if ¬ (1 ≤ s1 ∧ s1 < 37044 ∧ r.2.1 + 248 + s1 = d) then none
  else if s2 = 0xFFFF then
    if 64 + (37044 - s1) + 32 ≤ d then some (r.1 + 1, 64 + (37044 - s1) + 32) else none
  else if s1 < s2 ∧ s2 < 37044 ∧ 64 + (s2 - s1) = d ∧ 64 + (37044 - s2) + 32 ≤ d then
    some (r.1 + 2, 64 + (37044 - s2) + 32)
  else none

/-- Every ROWT entry meets R72, in ascending timeline order. -/
def Img.rowsOk (m : Img) : Bool :=
  (List.range m.perTrack).all (fun i =>
    match m.frameEnd i with
    | none => false
    | some e =>
      decide (e.1 < m.wedges)
        && (decide (m.perTrack ≤ i + 1) || decide (e.1 * m.span + e.2 ≤ (m.rowt (i + 1)).1 * m.span + (m.rowt (i + 1)).2.1)))

/-- Checks 3 to 7, in order: the reason of the first that fails, 0 when the image is good. `len` is the byte count of the task. -/
def Img.check (m : Img) (p : Plat) (n len : Nat) : Nat :=
  if crc32 (m.bytes 0 (len - 4)) ≠ m.u32 (len - 4) then 0x03
  else if (m.headerOk && m.sectionsOk && m.gapsOk && (heads8 m.heads).all m.headOk
      && (List.range m.members).all m.memberOk) = false then 0x04
  else if (m 0x014 == n && (heads8 m.heads).all (fun h => p.bit (Reg.ARM_HEAD n h) Fld.ARM_HEAD_EN)) = false then 0x05
  else if m 0x015 ≠ p.fld (Reg.WRP_CFG n) Fld.WRP_CFG_FAMILY then 0x06
  else if (decide (m.wedgeInt * m.wedges * m.u16 0x026 ≤ 300000000000) && m.rowsOk) = false then 0x07
  else 0

/-- Checks 1 and 2. -/
def Img.check1 (m : Img) : Bool := m.u32 0 == 0x3154514D && m.u16 4 == 1 && m.u16 6 == 256
/-- IMAGE_LEN within limits and equal to the byte count of the task. -/
def Img.check2 (m : Img) (len : Nat) : Bool := m.imageLen % 8 == 0 && within 512 65536 m.imageLen && m.imageLen == len

/-- The reason that a LOAD fails for once `got` of its `len` bytes have arrived, 0 while none does (R81). -/
def Img.loadReason (m : Img) (p : Plat) (n got len : Nat) : Nat :=
  if got < 8 then (if len ≤ got then 0x01 else 0)
  else if m.check1 = false then 0x01
  else if got < 12 then (if len ≤ got then 0x02 else 0)
  else if m.check2 len = false then 0x02
  else if got < len then 0
  else m.check p n len

/-- A piece of an image arrives for the LOAD in the registers (R81): the first empties the slot. -/
def Ac.loadPiece (a : Ac) (sidx : Nat) (d : List Byte) : Ac :=
  if a.locked then a
  else
    let s := a.slot
    let len := a.ofs
    let d := d.take (len - 4096 * sidx)
    let first : Bool := sidx == 0
    let p := if first then (a.p.setFld (Reg.TSQ_MQ_ST a.t s) Fld.TSQ_MQ_ST_VALID 0).setFlag (Reg.TSQ_MQ_ST a.t s) Fld.TSQ_MQ_ST_LOADING
      else a.p
    let q := { a.q with store := SMap.store zeroByte a.q.store (65536 * s + 4096 * sidx % 65536) d,
                        loaded := 4096 * sidx + d.length }
    let a := { a with p := p, q := q }
    let m := a.q.img s
    let r : Nat := m.loadReason a.p a.n a.q.loaded len
    if r ≠ 0 then
      { a with p := a.p.setFld (Reg.TSQ_MQ_ST a.t s) Fld.TSQ_MQ_ST_LOADING 0 }.lock 0x10 r
    else if a.q.loaded < len then a
    else
      let p := (a.p.setFld (Reg.TSQ_MQ_ST a.t s) Fld.TSQ_MQ_ST_LOADING 0).setFlag (Reg.TSQ_MQ_ST a.t s) Fld.TSQ_MQ_ST_VALID
      let p := p.setFld (Reg.TSQ_MQ_ST a.t s) Fld.TSQ_MQ_ST_LEN m.imageLen
      { a with p := p.wr (Reg.TSQ_MQ_ID a.t s) (BitVec.ofNat 32 m.mqId) }

/-! ## Binding and staleness (R85 to R88) -/

/-- The image the task in the registers uses. -/
def Ac.img (a : Ac) : Img := a.q.img a.slot

/-- The reason of Table MAQ-3, 0 when the task is bound. -/
def Ac.bindReason (a : Ac) : Nat :=
  if a.p.bit (Reg.TSQ_MQ_ST a.t a.slot) Fld.TSQ_MQ_ST_VALID = false then 0x21
  else if a.p.fld (Reg.TSQ_MQ_ID a.t a.slot) Fld.TSQ_MQ_ID_MQ_ID ≠ a.mqId then 0x22
  else if a.img.members ≤ a.member then 0x23
  else if a.headset ≠ a.img.heads then 0x24
  else 0

/-- TSQ_ENV.TEMP, TSQ_ENV_AGE.AGE and TSQ_CAL_EPOCH.EPOCH, sampled together (R87). -/
def Ac.sample (a : Ac) : Ac :=
  { a with q := { a.q with
      sTemp := a.p.fld (Reg.TSQ_ENV a.t) Fld.TSQ_ENV_TEMP
      sAge := a.p.fld (Reg.TSQ_ENV_AGE a.t) Fld.TSQ_ENV_AGE_AGE
      sEpoch := a.p.fld (Reg.TSQ_CAL_EPOCH a.t) Fld.TSQ_CAL_EPOCH_EPOCH } }

/-- Tests 1 to 4 of Table MAQ-4 on the values sampled: the reason, 0 when they hold. -/
def Ac.staleReason (a : Ac) : Nat :=
  let m := a.img
  let t := signed 16 a.q.sTemp
  if a.q.sEpoch ≠ m.calEpoch then 0x13
  else if m.u16 0x022 < a.q.sAge then 0x14
  else if t < m.i16 (if a.isWrite then 0x018 else 0x01C) then 0x11
  else if m.i16 (if a.isWrite then 0x01A else 0x01E) < t then 0x12
  else 0

/-! ## Positions -/

/-- The region track of position `q` of member `i` (R67, R71, R78). -/
def Img.track (m : Img) (i q : Nat) : Nat :=
  if m.isConv then q / m.perTrack
  else i * m.bandPitch + (if m.descends then m.tracks - 1 - q / m.perTrack else q / m.perTrack)

/-- Whether position `q` of member `i` is usable (R42). -/
def Img.usable (m : Img) (i q : Nat) : Bool := !(m.skips i).contains q

/-- How many positions from `q` on are not usable, at most `n`. -/
def Img.skipRun (m : Img) (i : Nat) : Nat → Nat → Nat
  | 0, _ => 0
  | n + 1, q => if m.usable i q then 0 else 1 + Img.skipRun m i n (q + 1)

/-- The position that holds LBA offset `x` of a conventional region (R78). -/
def Img.convPos (m : Img) (x : Nat) : Nat :=
  let run := 64 * m.perTrack
  let good := run - m.pool
  let y := (m.skips 0).foldl (fun y s => if s % run < good ∧ s / run * good + s % run ≤ y then y + 1 else y) x
  y / good * run + y % good

/-- The position of LBA offset `x` for the task: the spare an extension word names for it, else the region's (R105). -/
def Ac.lbaPos (a : Ac) (x : Nat) : Nat :=
  match ((List.range a.elen).map a.extWord).find? (fun e => bits e 31 0 == x) with
  | some e => bits e 55 32
  | none => a.img.convPos x

/-- The parity slot of logical row `r` in a stripe of `k` slots, and the slot of data index `j` (R44). -/
def paritySlot (k r : Nat) : Nat := k - 1 - r % k
/-- The slot of data index `j` in logical row `r`. -/
def dataSlot (k r j : Nat) : Nat := if j < paritySlot k r then j else j + 1
/-- The data index that slot `s` holds. -/
def dataIndex (k r s : Nat) : Nat := if s < paritySlot k r then s else s - 1

/-! ## Head offsets and codes (R73, R77) -/

/-- The offset of head `h` at region track `t` (R73). -/
def Img.headOffset (m : Img) (h t : Nat) : Int :=
  m.i32 (m.headAt h + 8) + Int.tdiv (m.i32 (m.headAt h + 12) * t) 1024

/-- The profile of head `h` at region track `t`: the field of width 16 or 8 at byte `o` of its points, interpolated (R77). -/
def Img.profile (m : Img) (h t : Nat) (val : Nat → Nat) : Int :=
  let n := m.npts h
  let tr := fun i => m.u16 (m.point h i)
  if t ≤ tr 0 then val 0
  else if tr (n - 1) ≤ t then val (n - 1)
  else
    let i := ((List.range n).filter (fun i => decide (tr i ≤ t))).length - 1
    (val i : Int) + Int.tdiv (((val (i + 1) : Int) - val i) * ((t : Int) - tr i)) ((tr (i + 1) : Int) - tr i)

/-- The assist code of R77 before ASSIST_MAX is applied, for temperature `th`. -/
def Img.assist (m : Img) (h t : Nat) (th : Int) : Int :=
  m.profile h t (fun i => m.u16 (m.point h i + 2)) + Int.tdiv (m.i8 (m.headAt h + 22) * (th - m.i16 0x020)) 16

/-- The heater code of R77. -/
def Img.heater (m : Img) (h t : Nat) (th : Int) : Nat :=
  (clampInt 0 255 (m.profile h t (fun i => m (m.point h i + 4)) + Int.tdiv (m.i8 (m.headAt h + 23) * (th - m.i16 0x020)) 16)).toNat

/-- The codes that WRP 1 sends for head `h`: assist, heater. -/
def Img.codes (m : Img) (h t : Nat) (th : Int) : Nat × Nat := ((max 0 (m.assist h t th)).toNat, m.heater h t th)

/-- Test 5 of Table MAQ-4: every head's code is at most its ASSIST_MAX. -/
def Img.assistOk (m : Img) (hs t : Nat) (th : Int) : Bool :=
  (heads8 hs).all (fun h => decide (m.assist h t th ≤ m.assistMax h))

end Sys2Proof.Machine
end

