-- ==== Sys2Proof/Machine/ChnOps.lean ====
section
/-! DEFINITION. The read channel: front end events, sync search and framing, decodes and their checks, the row store, parity rebuild,
the retry ladder and the spares (R163 to R206, R190, R481). -/

namespace Sys2Proof.Machine

/-! ## Bits of a status word, codewords -/

/-- The number with `x` in bits `hi` to `lo`. -/
def putBits (v hi lo x : Nat) : Nat := v - bits v hi lo * 2 ^ lo + x % 2 ^ (hi + 1 - lo) * 2 ^ lo

/-- The bits of a byte string, each byte from bit 7 down (R36), as a number whose highest bit is recorded first. -/
def bitsToNat (bs : List Byte) : Nat := bs.foldl (fun v b => v * 256 + b.toNat) 0

/-- Block `b` of 343 bits of `n` recorded bits, its bit 0 highest. -/
def block343 (v n b : Nat) : Nat := v / 2 ^ (n - 343 * (b + 1)) % 2 ^ 343

/-- Bit t of the result is bit (t + s) mod 343 of the block. -/
def rot343 (x s : Nat) : Nat := (x * 2 ^ s + x * 2 ^ s / 2 ^ 343) % 2 ^ 343

/-- The shift of information block `j` in its connection `m` (R190). -/
def ldpcShift (j m : Nat) : Nat := ((2 * m + 1) * j * j + 11 * m * j + 5 * m) % 343

/-- The information terms of row block `i` over 32,928 information bits. -/
def infoTerms (v i : Nat) : Nat :=
  (List.range 96).foldl (fun x j => (List.range 4).foldl (fun x m =>
    if (j + 3 * m) % 12 = i then x ^^^ rot343 (block343 v 32928 j) (ldpcShift j m) else x) x) 0

/-- The first `n` parity blocks, the first highest, and the last of them: block i is block i − 1 XOR the information terms of row
block i. -/
def parityBlocks (v : Nat) : Nat → Nat × Nat
  | 0 => (0, 0)
  | n + 1 =>
    let r := parityBlocks v n
    let b := r.2 ^^^ infoTerms v n
    (r.1 * 2 ^ 343 + b, b)

/-- The LDPC parity, 4,116 bits in recorded order, of user data, metadata and CRC (R35, R190). -/
def ldpcParity (info : List Byte) : Nat := (parityBlocks (bitsToNat info) 12).1

/-- Whether every check of R190 is 0: the parity bits are those of the information bits. -/
def ldpcOk (info : List Byte) (parity : Nat) : Bool := ldpcParity info == parity

/-! ## Rows and slots -/

/-- A slot not captured. -/
def slotReset : RSlot := ⟨0, 0, [], 0, 0, [], false, false⟩

/-- Slot `s` of a row. -/
def RRow.slot (r : RRow) (s : Nat) : RSlot := SMap.get (fun _ => slotReset) r.slots s
/-- Put slot `s` of a row. -/
def RRow.setSlot (r : RRow) (s : Nat) (x : RSlot) : RRow := { r with slots := SMap.set (fun _ => slotReset) r.slots s x }

/-- RESULT of a slot's status word. -/
def RSlot.result (x : RSlot) : Nat := bits x.word 63 60
/-- A slot with a result that is OK, RECOVERED or REBUILT. -/
def RSlot.good (x : RSlot) : Bool := x.st == 2 && decide (x.result < 8)
/-- A slot with any other result. -/
def RSlot.failing (x : RSlot) : Bool := x.st == 2 && !decide (x.result < 8)

/-- A slot whose result is `r` at the row's step. -/
def RSlot.finish (x : RSlot) (r step : Nat) : RSlot := { x with st := 2, word := putBits (putBits x.word 63 60 r) 59 55 step }

/-- The slots of a row of the task in the registers. -/
def Ac.slots (a : Ac) : List Nat := List.range (if a.isConv then 1 else a.k)

/-- The slot of head `h`: 0 in the conventional region. -/
def Ac.slotNo (a : Ac) (h : Nat) : Nat := if a.isConv then 0 else a.slotOf h

/-- The parity slot of row `r`; none in the conventional region, and none in a scan, where every slot is delivered. -/
def Ac.parSlot (a : Ac) (r : Nat) : Option Nat := if a.isConv ∨ a.q.scan then none else some (paritySlot a.k r)

/-- Whether slot `s` is not the parity slot of row `r`. -/
def Ac.isData (a : Ac) (r s : Nat) : Bool := a.parSlot r != some s

/-- SIDX of slot `s` of row `r`, when the task's NSECT and FIRST_J take it in; `all` takes every data sector (an AUDIT). -/
def Ac.sidxOf (a : Ac) (r s : Nat) (all : Bool) : Option Nat :=
  if a.isConv then some (r - a.ofs)
  else if a.q.scan then some ((r - a.lrowFirst) * a.k + s)
  else if a.isData r s = false then none
  else
    let i := (r - a.lrowFirst) * (a.k - 1) + dataIndex a.k r s
    if all then some i
    else if a.firstJ ≤ i ∧ i < a.firstJ + a.nsect then some (i - a.firstJ) else none

/-- Whether the task delivers slot `s` of row `r`. -/
def Ac.delivers (a : Ac) (r s : Nat) : Bool := a.kind != 6 && (a.sidxOf r s false).isSome

/-- Whether slot `s` counts for the row map: delivered, or any data sector of an AUDIT (R200, R203). -/
def Ac.counts (a : Ac) (r s : Nat) : Bool := (a.sidxOf r s (a.kind == 6)).isSome

/-- DET_ROWS shows the head row's step and the rows held. -/
def Ac.showRows (a : Ac) : Ac :=
  let st := match a.g.rows with | [] => 0 | r :: _ => r.step
  { a with p := (a.p.setFld (Reg.DET_ROWS a.n) Fld.DET_ROWS_STEP st).setFld (Reg.DET_ROWS a.n) Fld.DET_ROWS_HELD a.g.rows.length }

/-- Put the row store. -/
def Ac.setRows (a : Ac) (rs : List RRow) : Ac := { a with g := { a.g with rows := rs } }.showRows

/-- Change the row of logical row `r`. -/
def Ac.mapRow (a : Ac) (r : Nat) (f : RRow → RRow) : Ac :=
  a.setRows (a.g.rows.map (fun x => if x.lrow = r then f x else x))

/-- The row of logical row `r`. -/
def Ac.findRow (a : Ac) (r : Nat) : Option RRow := a.g.rows.find? (fun x => x.lrow == r)

/-- Whether a detectors or front end register domain is on: 4n + 1 and 4n. -/
def Ac.detOn (a : Ac) : Bool := a.p.on (4 * a.n + 1)
/-- Whether the read front end domain is on. -/
def Ac.rfeOn (a : Ac) : Bool := a.p.on (4 * a.n)

/-- The head index whose detector registers serve head `h`: 8 while the spare engine serves it (R204). -/
def Ac.detHd (a : Ac) (h : Nat) : Nat :=
  if a.p.bit (Reg.DET_SPARE a.n) Fld.DET_SPARE_EN ∧ a.p.fld (Reg.DET_SPARE a.n) Fld.DET_SPARE_HEAD = h then 8 else h

/-! ## Framing (R175 to R181) -/

/-- The first qualifying position of a search: its index (R176). -/
def firstWithin (thr : Nat) : List Nat → Nat → Option Nat
  | [], _ => none
  | d :: ds, i => if d ≤ thr then some i else firstWithin thr ds (i + 1)

/-- The qualifying index of least distance; ties to the one nearest `c`, then to the earlier (R177). -/
def bestWithin (thr c : Nat) (ds : List Nat) : Option Nat :=
  let near := fun i => if i ≤ c then c - i else i - c
  (List.range ds.length).foldl (fun best i =>
    let d := ds.getD i 0
    if thr < d then best
    else match best with
      | none => some i
      | some b =>
        if d < ds.getD b 0 ∨ (d = ds.getD b 0 ∧ near i < near b) then some i else best) none

/-- What framing decides: code, D1, D2 (Table RFE-1, R179). `win` is SM1_WIN, `ds1` the distances at the positions of the SM1
window, `ds2` those of the SM2 window. -/
def frame (win thr1 thr2 : Nat) (ds1 ds2 : List Nat) : Nat × Int × Int :=
  match firstWithin (min thr1 6) ds1 0 with
  | some i =>
    let d1 : Int := (i : Int) - win
    match bestWithin (min thr2 6) 4 ds2 with
    | none => (3, d1, -128)
    | some j =>
      let e : Int := (j : Int) - 4
      (if e = 0 then 0 else if 0 < e then 1 else 2, d1, d1 + e)
  | none =>
    match bestWithin (min thr2 6) win ds2 with
    | none => (5, -128, -128)
    | some j => (4, -128, (j : Int) - win)

/-- The framing of head `h`'s sector: RFE_FRAME_LAST, the counter of the code, NO_SYNC, the Frieze event that FRZ_MASK asks for. -/
def Ac.framed (a : Ac) (h code : Nat) (d1 d2 : Int) : Ac :=
  let r := Reg.RFE_FRAME_LAST a.n h
  let p := ((a.p.setFld r Fld.RFE_FRAME_LAST_CODE code).setFld r Fld.RFE_FRAME_LAST_D1 (bitsOf 8 d1)).setFld
    r Fld.RFE_FRAME_LAST_D2 (bitsOf 8 d2)
  let p := if code = 0 then p else p.bump (Reg.RFE_CNT_LO a.n h (code - 1)) 1 (Reg.RFE_EVT a.n h) Fld.RFE_EVT_CNT_SAT
  let p := p.setFlagIf (code == 5) (Reg.RFE_EVT a.n h) Fld.RFE_EVT_NO_SYNC
  let q := match a.q.pos.win with | some w => w.q | none => 0
  let p := if code ≠ 0 ∧ (p.fld (Reg.RFE_SYNC_CFG a.n h) Fld.RFE_SYNC_CFG_FRZ_MASK).testBit code then
      p.post (132 + 16 * a.n) 0x0001
        ([BitVec.ofNat 8 (16 * a.n + h), BitVec.ofNat 8 code, BitVec.ofNat 8 (bitsOf 8 d1), BitVec.ofNat 8 (bitsOf 8 d2)] ++ le4 q)
    else p
  { a with p := p }

/-- Put framing into a slot: NO_SYNC and CUT give no codeword, the capture's result is NO_FRAME (R178, R196). -/
def RSlot.frame (x : RSlot) (code : Nat) (d1 d2 : Int) (step : Nat) : RSlot :=
  let x := { x with framed := true,
                    word := putBits (putBits (putBits x.word 50 48 code) 47 40 (bitsOf 8 d1)) 39 32 (bitsOf 8 d2) }
  if code = 5 ∨ code = 6 then x.finish 0xB step else x

/-- The slot that head `h` is capturing in the window granted. -/
def Ac.capturing (a : Ac) (h : Nat) : Option (RRow × RSlot) :=
  match a.q.pos.win with
  | none => none
  | some w =>
    match a.findRow w.lrow with
    | none => none
    | some r =>
      let x := r.slot (a.slotNo h)
      if a.g.rg.testBit h ∧ x.st = 1 ∧ x.framed = false then some (r, x) else none

/-- Whether some reader of head `h` is on (R164). -/
def Ac.readerOn (a : Ac) (h : Nat) : Bool := (List.range 3).any (fun k => a.p.bit (Reg.RFE_RDR_CFG a.n h k) Fld.RFE_RDR_CFG_ON)

/-- The framing decision of head `h`, on the distances of its searches. -/
def Ac.framingDecision (a : Ac) (h : Nat) (ds1 ds2 : List Nat) : Ac :=
  match a.capturing h with
  | none => a
  | some (r, x) =>
    if a.rfeOn = false ∨ a.detOn = false then a
    else
      let c := Reg.RFE_SYNC_CFG a.n h
      let f := if a.readerOn h then frame a.img.sm1Win (a.p.fld c Fld.RFE_SYNC_CFG_SM1_THR) (a.p.fld c Fld.RFE_SYNC_CFG_SM2_THR) ds1 ds2
        else (5, -128, -128)
      (a.framed h f.1 f.2.1 f.2.2).mapRow r.lrow (fun r => r.setSlot (a.slotNo h) (x.frame f.1 f.2.1 f.2.2 r.step))

/-! ## Read gates (R109, R173, R180) -/

/-- Head `h`'s read gate rises for the armed frame: acquisition begins, INIT gain codes load, the slot is being captured. -/
def Ac.readRise (a : Ac) (h : Nat) : Ac :=
  match a.q.pos.win with
  | none => a
  | some w =>
    if a.isRead ∧ w.st = .proceeding ∧ a.g.rgArm.testBit h ∧ a.g.chn.testBit h ∧ a.g.rg.testBit h = false then
      let p := (List.range 3).foldl (fun p k =>
        if p.bit (Reg.RFE_AGC_CFG a.n h) Fld.RFE_AGC_CFG_REINIT ∧ a.rfeOn then
          p.setFld (Reg.RFE_RDR_GAIN a.n h k) Fld.RFE_RDR_GAIN_CODE (p.fld (Reg.RFE_RDR_GAIN a.n h k) Fld.RFE_RDR_GAIN_INIT)
        else p) a.p
      let held := maskOf []
      let g := { a.g with rg := a.g.rg ||| 2 ^ h, acq := a.g.acq ||| 2 ^ h,
                          taHeld := a.g.taHeld - bits a.g.taHeld (3 * h + 2) (3 * h) * 2 ^ (3 * h) + held }
      let s := a.slotNo h
      { a with p := p, g := g }.mapRow w.lrow (fun r =>
        { r with pend := false }.setSlot s { slotReset with st := 1, word := putBits 0 10 8 s })
    else a

/-- The read gates of the heads of a mask fall: a capture not yet framed is CUT. -/
def Ac.readFall (a : Ac) (mask : Nat) : Ac :=
  (heads8 (a.g.rg &&& mask)).foldl (fun a h =>
    let b := match a.capturing h with
      | none => a
      | some (r, x) =>
        (a.framed h 6 (-128) (-128)).mapRow r.lrow (fun r => r.setSlot (a.slotNo h) (x.frame 6 (-128) (-128) r.step))
    { b with g := { b.g with rg := maskDiff b.g.rg (2 ^ h), chn := maskDiff b.g.chn (2 ^ h), acq := maskDiff b.g.acq (2 ^ h) } }) a

/-- The taps that adaptation reached during the capture (R186): held at ±2,047, where EQ_SAT sets. -/
def Ac.adapt (a : Ac) (h : Nat) (taps : List (Nat × Nat × Int)) : Ac :=
  let hd := a.detHd h
  if a.p.bit (Reg.DET_EQ_CFG a.n hd) Fld.DET_EQ_CFG_ADAPT ∧ a.detOn then
    { a with p := taps.foldl (fun p x =>
        if x.1 < 3 ∧ x.2.1 < 32 then
          let p := p.setFld (Reg.DET_EQ a.n hd x.1 x.2.1) Fld.DET_EQ_TAP (bitsOf 12 (clampInt (-2047) 2047 x.2.2))
          p.setFlagIf (decide (2047 < x.2.2.natAbs)) (Reg.DET_EVT a.n hd) Fld.DET_EVT_EQ_SAT
        else p) a.p }
  else a

/-- Head `h`'s read gate falls after the postamble, ending capture (R180). -/
def Ac.readGateFall (a : Ac) (h : Nat) (taps : List (Nat × Nat × Int)) : Ac :=
  if a.g.rg.testBit h then (a.adapt h taps).readFall (2 ^ h) else a

/-- Acquisition ends: the gain codes the loops reached, for readers whose loop runs (R165, R173). -/
def Ac.acqEnd (a : Ac) (h : Nat) (codes : List Nat) : Ac :=
  if a.g.acq.testBit h ∧ a.rfeOn then
    let p := (List.range 3).foldl (fun p k =>
      if p.bit (Reg.RFE_RDR_CFG a.n h k) Fld.RFE_RDR_CFG_AGC ∧ p.bit (Reg.RFE_RDR_CFG a.n h k) Fld.RFE_RDR_CFG_ON
          ∧ (a.g.ta ||| a.g.taHeld).testBit (3 * h + k) = false then
        match codes[k]? with
        | some c => p.setFld (Reg.RFE_RDR_GAIN a.n h k) Fld.RFE_RDR_GAIN_CODE c
        | none => p
      else p) a.p
    { a with p := p, g := { a.g with acq := maskDiff a.g.acq (2 ^ h) } }
  else a

/-! ## Asperities, drops, spares (R168 to R171, R189) -/

/-- Add an erasure pointer: the 17th and later are merged into the 16th (R189). -/
def addPointer (es : List (Nat × Nat)) (start len : Nat) : List (Nat × Nat) :=
  if es.length < 16 then es ++ [(start, len)]
  else
    match es.getLast? with
    | none => es
    | some l => es.dropLast ++ [(l.1, max (l.1 + l.2) (start + len) - l.1)]

/-- An erasure pointer of head `h`'s sector in capture. -/
def Ac.erase (a : Ac) (h start len : Nat) : Ac :=
  match a.q.pos.win with
  | none => a
  | some w =>
    if a.g.rg.testBit h ∧ 0 < len then
      a.mapRow w.lrow (fun r =>
        let x := r.slot (a.slotNo h)
        if x.st = 1 then r.setSlot (a.slotNo h) { x with eras := addPointer x.eras start len } else r)
    else a

/-- An asperity asserts on input `i` (R170). -/
def Ac.taAssert (a : Ac) (i : Nat) : Ac :=
  let h := i / 3
  if a.rfeOn ∧ a.p.bit (Reg.RFE_TA_CFG a.n h) Fld.RFE_TA_CFG_EN ∧ a.p.bit (Reg.RFE_RDR_CFG a.n h (i % 3)) Fld.RFE_RDR_CFG_ON
      ∧ a.g.ta.testBit i = false then
    { a with p := a.p.bump (Reg.RFE_CNT_LO a.n h 6) 1 (Reg.RFE_EVT a.n h) Fld.RFE_EVT_CNT_SAT, g := { a.g with ta := a.g.ta ||| 2 ^ i } }
  else a

/-- An asperity releases on input `i`; its effects have left `len` erased bits from codeword bit `start`, where every reader was
erased (R171, R185, R189). -/
def Ac.taRelease (a : Ac) (i start len : Nat) : Ac :=
  if a.g.ta.testBit i then { a with g := { a.g with ta := a.g.ta - 2 ^ i } }.erase (i / 3) start len else a

/-- An asperity outlasts HOLD_MAX: the input is erased for the rest of the sector (R171). -/
def Ac.taHold (a : Ac) (i : Nat) : Ac :=
  let h := i / 3
  if a.g.ta.testBit i ∧ a.p.fld (Reg.RFE_TA_CFG a.n h) Fld.RFE_TA_CFG_HOLD_MAX ≠ 0 ∧ a.rfeOn then
    { a with p := a.p.setFlag (Reg.RFE_EVT a.n h) Fld.RFE_EVT_TA_LONG, g := { a.g with taHeld := a.g.taHeld ||| 2 ^ i } }
  else a

/-- An amplitude drop of head `h` (R189). -/
def Ac.ampDrop (a : Ac) (h start len : Nat) : Ac :=
  if a.p.bit (Reg.DET_DROP a.n (a.detHd h)) Fld.DET_DROP_EN ∧ a.detOn then a.erase h start len else a

/-- A write of RFE_SPAREn: ignored where both spares would name the same input (R168) and during a loop-back test (R435); the
inputs switched settle (R169). -/
def Ac.rfeSpareWrite (a : Ac) (k : Nat) (v : Word) : Ac :=
  let r := Reg.RFE_SPARE a.n k
  let o := a.p.rd (Reg.RFE_SPARE a.n (1 - k))
  let en := Fld.get Fld.RFE_SPARE_EN v = 1
  if en ∧ Fld.get Fld.RFE_SPARE_EN o = 1 ∧ Fld.get Fld.RFE_SPARE_INPUT v = Fld.get Fld.RFE_SPARE_INPUT o
      ∧ Fld.get Fld.RFE_SPARE_INPUT v < 24 ∧ a.g.still = false then
    { a with p := a.p.setFlag (Reg.RFE_SPARE_STAT a.n) Fld.RFE_SPARE_STAT_CONFLICT }
  else if a.g.still then a
  else
    let old := a.p.rd r
    let used := fun w : Word => if Fld.get Fld.RFE_SPARE_EN w = 1 ∧ Fld.get Fld.RFE_SPARE_INPUT w < 24
      then 2 ^ Fld.get Fld.RFE_SPARE_INPUT w else 0
    let sw := if used old = used v then 0 else used old ||| used v
    let p := a.p.fwWrite r v
    let p := if sw = 0 then p else p.setFlag (Reg.RFE_SPARE_STAT a.n) Fld.RFE_SPARE_STAT_SETTLING
    { a with p := p, g := { a.g with settling := a.g.settling ||| sw } }

/-- The 256-clock span after a spare switch ends. -/
def Ac.spareSettled (a : Ac) : Ac :=
  { a with p := a.p.setFld (Reg.RFE_SPARE_STAT a.n) Fld.RFE_SPARE_STAT_SETTLING 0, g := { a.g with settling := 0 } }

/-- Every slot of head `h` in the row store that is not good becomes final as UNRECOVERED; whether there was one (R204). -/
def Ac.loseHead (a : Ac) (h : Nat) : Ac × Bool :=
  let s := a.slotNo h
  let any := a.isRead && a.headset.testBit h && a.g.rows.any (fun r => !(r.slot s).good && (r.slot s).st != 0)
  if any then
    (a.setRows (a.g.rows.map (fun r =>
      let x := r.slot s
      if x.good ∨ x.st = 0 then r else r.setSlot s { x.finish 0x8 r.step with final := true })), true)
  else (a, false)

/-- A write of DET_SPARE (R204). -/
def Ac.detSpareWrite (a : Ac) (v : Word) : Ac :=
  let r := Reg.DET_SPARE a.n
  let served := fun w : Word => if Fld.get Fld.DET_SPARE_EN w = 1 then some (Fld.get Fld.DET_SPARE_HEAD w) else none
  let old := served (a.p.rd r)
  let new := served v
  let a := { a with p := (a.p.fwWrite r v).putBit (Reg.DET_SPARE_STAT a.n) Fld.DET_SPARE_STAT_ACTIVE new.isSome }
  if old = new then a
  else
    let x := match old with | some h => a.loseHead h | none => (a, false)
    let y := match new with | some h => x.1.loseHead h | none => (x.1, false)
    { y.1 with p := y.1.p.setFlagIf (x.2 || y.2) (Reg.DET_SPARE_STAT a.n) Fld.DET_SPARE_STAT_LOST }

/-! ## Decodes (R191 to R196) -/

/-- The metadata checks of Table DET-2 for slot `s` of row `r`; none in a scan (R481). -/
def Ac.metaOk (a : Ac) (r s m0 m1 : Nat) : Bool :=
  let kind := bits m0 42 40
  let slot := bits m0 50 48
  let pslot := bits m0 53 51
  let width := bits m0 58 56
  let zgen := bits m1 31 20
  let lrow := bits m1 19 0
  if a.q.scan then true
  else if a.isConv then kind == 4 && zgen == 0 && lrow == 0 && slot == 0 && pslot == 0 && width == 0
  else
    let k := a.k
    zgen == a.zgen && lrow == r && slot == s && pslot == paritySlot k r && width == k - 1
      && (if s = paritySlot k r then kind == 2 && bits m0 19 0 == 0
          else (kind == 1 || (kind == 3 && !a.delivers r s)) && bits m0 19 0 == (r * (k - 1) + dataIndex k r s) % 2 ^ 20)

/-- The bits a sector's erasure pointers cover. -/
def erasedBits (es : List (Nat × Nat)) : Nat := es.foldl (fun n e => n + e.2) 0

/-- The result of an attempt whose hard decisions are `info` (user data, metadata, CRC) and `parity`. -/
def Ac.decodeResult (a : Ac) (r : RRow) (s : Nat) (info : List Byte) (parity : Nat) : Nat :=
  let m := leNat (info.drop 4096)
  if ldpcOk info parity = false then 0x8
  else if crc32 (info.take 4112) ≠ leNat (info.drop 4112) then 0x9
  else if a.metaOk r.lrow s (m % 2 ^ 64) (m / 2 ^ 64 % 2 ^ 64) = false then 0xA
  else if r.step = 0 then 0x0 else 0x1

/-- A decode of head `h` ends: the oldest row with a framed capture of that head still decoding takes the result (R191, R192). Its
hard decisions are `info` and `parity`, after `giter` global iterations, `nflip` decisions changed, at bit offset `slip`. -/
def Ac.decodeEnd (a : Ac) (h : Nat) (info : List Byte) (parity giter nflip : Nat) (slip : Int) : Ac :=
  let s := a.slotNo h
  match a.g.rows.find? (fun r => (r.slot s).st == 1 && (r.slot s).framed) with
  | none => a
  | some r =>
    if ¬ (a.isRead ∧ a.headset.testBit h ∧ a.detOn) then a
    else
      let x := r.slot s
      let ran := decide (erasedBits x.eras ≤ a.p.fld (Reg.DET_DROP a.n (a.detHd h)) Fld.DET_DROP_MAXERA)
      let res := if ran then a.decodeResult r s info parity else 0x8
      let m := leNat ((info.drop 4096).take 16)
      let w := putBits (putBits (putBits (putBits x.word 54 51 (if ran then min giter 12 else 0)) 31 16 (min nflip 0xFFFF))
        15 11 x.eras.length) 7 4 (bitsOf 4 slip)
      let x := { x with word := w, data := info.take 4096, m0 := m % 2 ^ 64, m1 := m / 2 ^ 64 }
      a.mapRow r.lrow (fun r => r.setSlot s (x.finish res r.step))

/-! ## Conditions of the head row (R197) -/

/-- The slots of a row that are not good. -/
def Ac.notGood (a : Ac) (r : RRow) : List Nat := a.slots.filter (fun s => !(r.slot s).good)

/-- ROW_READ_DONE: no slot uncaptured or decoding, no rebuild in progress. -/
def Ac.rowDone (a : Ac) (r : RRow) : Bool := a.slots.all (fun s => (r.slot s).st == 2) && r.rebuild.isNone
/-- ALL_OK. -/
def Ac.allOk (a : Ac) (r : RRow) : Bool := a.slots.all (fun s => !a.isData r.lrow s || (r.slot s).good)
/-- ONE_MISSING. -/
def Ac.oneMissing (a : Ac) (r : RRow) : Bool :=
  match a.notGood r with
  | [s] => a.isData r.lrow s
  | _ => false
/-- MULTI_MISSING. -/
def Ac.multiMissing (a : Ac) (r : RRow) : Bool :=
  decide (2 ≤ (a.notGood r).length) && (a.notGood r).any (fun s => a.isData r.lrow s)

/-- R199's conditions for a rebuild of the head row. -/
def Ac.canRebuild (a : Ac) (r : RRow) : Bool :=
  a.isRead && (a.kind == 2 || a.kind == 6) && !a.q.scan && a.mayRebuild && a.oneMissing r
    && !a.slots.any (fun s => (r.slot s).st == 2 && (r.slot s).result == 0xA)

/-! ## Ladder (R201) -/

/-- Class of a ladder step. -/
def ladderClass (v : Word) : Nat := Fld.get Fld.DET_LADDER_CLASS v

/-- Whether slot `s` of a row is one a step may apply to: failing, not META_MISMATCH, not suppressed, not final. -/
def Ac.retriable (a : Ac) (r : RRow) (s : Nat) : Bool :=
  let x := r.slot s
  x.failing && x.result != 0xA && !x.final && (a.isConv || !a.suppress.testBit (a.headOf s))

/-- Whether a class applies to a framing code (Table DET-4). -/
def classTakes (cls code : Nat) : Bool := if cls = 1 then decide (code ≤ 4) else if cls = 2 then code == 3 else true

/-- The slots a step applies to: failing data sectors, or the failing parity sector once no data sector is failing. -/
def Ac.targets (a : Ac) (r : RRow) (cls : Nat) : List Nat :=
  let ok := a.slots.filter (fun s => a.retriable r s && classTakes cls (bits (r.slot s).word 50 48))
  if a.slots.any (fun s => a.isData r.lrow s && (r.slot s).failing) then ok.filter (fun s => a.isData r.lrow s) else ok

/-- Whether step `i` is permitted for the head row. -/
def Ac.permitted (a : Ac) (r : RRow) (i : Nat) : Bool :=
  let cls := ladderClass (a.p.rd (Reg.DET_LADDER a.n i))
  decide (r.step < i) && decide (i ≤ a.ladderMax) &&
    (match cls with
     | 1 => !(a.targets r 1).isEmpty
     | 2 => !(a.targets r 2).isEmpty
     | 3 => !r.closed
     | 4 => !r.closed
     | 5 => !r.closed && !a.isConv
     | 6 => a.canRebuild r
     | _ => false)

/-- The lowest permitted step. -/
def Ac.nextStep (a : Ac) (r : RRow) : Option Nat := ((List.range 32).drop 1).find? (fun i => a.permitted r i)

/-- Group 17: the class of the lowest permitted step of the head row, 0 without one. -/
def Ac.ladderGroup (a : Ac) : Nat :=
  match a.g.rows with
  | [] => 0
  | r :: _ => match a.nextStep r with | some i => ladderClass (a.p.rd (Reg.DET_LADDER a.n i)) | none => 0

/-- CHN 4: the head row moves to the next permitted step. -/
def Ac.chnLadder (a : Ac) : Ac :=
  match a.g.rows with
  | [] => a
  | r :: _ =>
    match a.nextStep r with
    | none => a
    | some i =>
      let v := a.p.rd (Reg.DET_LADDER a.n i)
      let cls := ladderClass v
      let r' := { r with step := i, cfg := v.toNat, pend := r.pend || (3 ≤ cls && cls ≤ 5) }
      let r' := if cls = 1 ∨ cls = 2 then
          (a.targets r cls).foldl (fun r s => r.setSlot s { r.slot s with st := 1 }) r'
        else r'
      a.mapRow r.lrow (fun _ => r')

/-! ## Arm, collect, rebuild (R197 to R200) -/

/-- Whether CHN 1 can act: a row store entry is free, or the row has one. -/
def Ac.armReady (a : Ac) : Bool :=
  match a.q.pos.win with
  | none => true
  | some w => (a.findRow w.lrow).isSome || decide (a.g.rows.length < 4)

/-- CHN 1: arm the read channels of the heads in RGM for the granted window; heads in HOLD are left. -/
def Ac.chnArm (a : Ac) (rgm hold : Nat) : Ac :=
  match a.q.pos.win with
  | none => a
  | some w =>
    if a.isRead ∧ a.armReady then
      let use := maskDiff (a.useHeads &&& rgm) (a.q.pos.splits ||| hold)
      match a.findRow w.lrow with
      | some r =>
        let hs := (heads8 use).filter (fun h =>
          let x := r.slot (a.slotNo h)
          x.st == 0 || (x.failing && r.pend && !x.final))
        { a with g := { a.g with chn := maskOf hs } }
      | none =>
        let r : RRow := ⟨w.lrow, w.q, 0, false, 0, false, [], none⟩
        let r := a.slots.foldl (fun r s =>
          if a.isConv = false ∧ a.suppress.testBit (a.headOf s) then
            r.setSlot s ({ slotReset with word := putBits 0 10 8 s }.finish 0xC 0)
          else r) r
        { a with g := { a.g with chn := use } }.setRows (a.g.rows ++ [r])
    else a

/-- TBUF_SPACE: room for one whole row of delivered sectors. -/
def Ac.tbufSpace (a : Ac) : Bool := decide ((if a.isConv then 1 else if a.q.scan then a.k else a.k - 1) ≤ a.tbFree)

/-- A sector is finalised: DET_LAST, its counters and events (R195, R205). -/
def Ac.finalise (a : Ac) (r : RRow) (s : Nat) : Ac :=
  let x := r.slot s
  let h := if a.isConv then (heads8 a.headset).headD 0 else a.headOf s
  let hd := a.detHd h
  let res := x.result
  let cnt := fun (p : Plat) i => p.bump (Reg.DET_CNT_LO a.n hd i) 1 (Reg.DET_EVT a.n hd) Fld.DET_EVT_CNT_SAT
  let p := cnt (a.p.wr64 (Reg.DET_LAST_LO a.n hd) x.word) 0
  let p := if res < 3 then cnt p (res + 1) else cnt p 4
  let p := if res = 0xA then (cnt p 5).setFlag (Reg.DET_EVT a.n hd) Fld.DET_EVT_META else p
  { a with p := p.setFlagIf (decide (8 ≤ res) && a.counts r.lrow s) (Reg.DET_EVT a.n hd) Fld.DET_EVT_FAILED }

/-- CHN 2: collect the head row (R197, R200). -/
def Ac.chnCollect (a : Ac) : Ac :=
  match a.g.rows with
  | [] => a
  | r :: rs =>
    if a.isRead ∧ a.rowDone r ∧ (a.tbufSpace ∨ a.kind = 6) then
      let b := a.slots.foldl (fun b s => b.finalise r s) a
      let b := a.slots.foldl (fun (b : Ac) s =>
        if a.delivers r.lrow s then
          match a.sidxOf r.lrow s false with
          | none => b
          | some i =>
            let x := r.slot s
            let sec : Sector := if x.good then ⟨r.lrow, i, x.data, x.m0, x.m1, x.word⟩
              else ⟨r.lrow, i, List.replicate 4096 0, 0, 0, x.word⟩
            { b with q := b.q.setTb (i % 64) (some sec) }
        else b) b
      let cs := a.slots.filter (fun s => a.counts r.lrow s)
      let rebuilt := maskOf (cs.filter (fun s => (r.slot s).good && (r.slot s).result == 2))
      let entry := cs.any (fun s => (r.slot s).result == 2 || !(r.slot s).good)
      let e := (if a.isConv then 0 else r.lrow % 2 ^ 20 * 2 ^ 40) + r.q % 2 ^ 24 * 2 ^ 16 + rebuilt * 2 ^ 8
      let b := if entry then { b with q := { b.q with pos := { b.q.pos with map := e :: b.q.pos.map } } } else b
      b.setRows rs
    else a

/-- CHN 3: begin the rebuild of the head row's missing slot. -/
def Ac.chnRebuild (a : Ac) : Ac :=
  match a.g.rows with
  | [] => a
  | r :: _ =>
    if a.canRebuild r ∧ r.rebuild.isNone then a.mapRow r.lrow (fun r => { r with rebuild := (a.notGood r).head? }) else a

/-- XOR of byte strings. -/
def xorBytes (x y : List Byte) : List Byte := List.zipWith (fun a b => a ^^^ b) x y

/-- The rebuilt slot `s` of a row: user data by R45 and R46, metadata by R199. -/
def Ac.rebuiltSlot (a : Ac) (r : RRow) (s : Nat) : RSlot :=
  let others := a.slots.filter (fun x => x != s)
  let data := others.foldl (fun d x => xorBytes d (r.slot x).data) (List.replicate 4096 0)
  let src := r.slot (others.headD 0)
  let k := a.k
  let j := dataIndex k r.lrow s
  let nd := bits src.m0 47 45
  let m0 := putBits (putBits (putBits src.m0 42 40 (if j < nd then 1 else 3)) 50 48 s) 19 0 (r.lrow * (k - 1) + j)
  let old := r.slot s
  let w := putBits (putBits 0 50 32 (bits old.word 50 32)) 10 8 s
  { old with word := w, data := data, m0 := m0, m1 := src.m1 }.finish 2 r.step

/-- The rebuild ends: the slot is REBUILT and FLAGS.REBUILT sets. -/
def Ac.rebuildEnd (a : Ac) : Ac :=
  match a.g.rows with
  | [] => a
  | r :: _ =>
    match r.rebuild with
    | none => a
    | some s =>
      { a with q := { a.q with rebuilt := true } }.mapRow r.lrow (fun r =>
        { r with rebuild := none }.setSlot s (a.rebuiltSlot r s))

end Sys2Proof.Machine
end

