-- ==== Sys2Proof/Machine/GateOps.lean ====
section
/-! DEFINITION. The gate unit, the head-stack interface and the write path: phases and turnaround, gates and their drops, side
frames, monitors, telemetry, preamp transactions, forming a frame (R34 to R38, R108, R109, R134 to R162, R190, R207 to R231). -/

namespace Sys2Proof.Machine

/-! ## Per-head state -/

/-- A head's write path after a reset. -/
def wheadReset : WHead := ⟨0, 0, false, none, none, false, 0, none, none, 0⟩

/-- The write path of head `h`. -/
def Gate.head (g : Gate) (h : Nat) : WHead := SMap.get (fun _ => wheadReset) g.heads h

/-- Put the write path of head `h`. -/
def Gate.setHead (g : Gate) (h : Nat) (x : WHead) : Gate := { g with heads := SMap.set (fun _ => wheadReset) g.heads h x }

/-- Change the write paths of the heads of a mask. -/
def Ac.mapHeads (a : Ac) (m : Nat) (f : Nat → WHead → WHead) : Ac :=
  { a with g := (heads8 m).foldl (fun g h => g.setHead h (f h (g.head h))) a.g }

/-! ## The Gate Bus -/

/-- The phase code on HGB_a[1:0]. -/
def Ac.code (a : Ac) : Nat := a.p.fld (Reg.HSI_BUS a.n) Fld.HSI_BUS_PHASE

/-- Whether WQ is held low until the next WRITE entry (R146). -/
def Ac.wqHeld (a : Ac) : Bool := a.p.bit (Reg.HSI_BUS a.n) Fld.HSI_BUS_WQ_HELD

/-- Whether the controller pulls ASAFE low (R147). -/
def Ac.pullsAsafe (a : Ac) : Bool := a.wqHeld || a.g.asafe

/-- The levels of HGB_a[3:2] (Table HSI-1): SCK and SDA idle high; FAULT_N high until it is seen low; HGB_a[3] low in READ; WQ
while a head is armed and WQ is not held; ASAFE; SWS low outside its strobe. -/
def Ac.showBus (a : Ac) : Ac :=
  let r := Reg.HSI_BUS a.n
  let two : Bool := if a.code = 2 then !a.g.gap && !a.wqHeld && a.g.wgArm != 0 else true
  let three : Bool := if a.code = 0 then true else if a.code = 2 then !a.pullsAsafe else false
  let p := ((a.p.putBit r Fld.HSI_BUS_GAP a.g.gap).putBit r Fld.HSI_BUS_PIN2 two).putBit r Fld.HSI_BUS_PIN3 three
  { a with p := p.setFld (Reg.TSQ_STATUS a.t) Fld.TSQ_STATUS_PHASE a.code }

/-- A preamp transaction ends: RESULT, ACK and RDATA, and the interrupt's flag in the source of R162. -/
def Ac.endXact (a : Ac) (result ack rdata : Nat) : Ac :=
  let r := Reg.HSI_PSTAT a.n
  let p := ((a.p.setFld r Fld.HSI_PSTAT_BUSY 0).setFld r Fld.HSI_PSTAT_RESULT result).setFld r Fld.HSI_PSTAT_ACK ack
  { a with p := (p.setFld r Fld.HSI_PSTAT_RDATA rdata).wr (xactEnded a.n) 1, g := { a.g with xact := false } }

/-- The phase code changes: a turnaround gap begins, a running transaction is cut (R157), WQ is released for the next WRITE
(R136, R146). A loop-back test holds it at IDLE (R435). -/
def Ac.toCode (a : Ac) (c : Nat) : Ac :=
  if a.code = c ∨ a.g.still then a
  else
    let a := if a.g.xact then a.endXact 3 0 0 else a
    let p := a.p.setFld (Reg.HSI_BUS a.n) Fld.HSI_BUS_PHASE c
    let p := if c = 2 then p.setFld (Reg.HSI_BUS a.n) Fld.HSI_BUS_WQ_HELD 0 else p
    { a with p := p, g := { a.g with gap := true } }.showBus

/-! ## Gate drops (R48, R109, R220, R221) -/

/-- Where WRP_CNTn counts a cause (R231). -/
def causeIdx (cause : Nat) : Nat := if cause ≤ 3 then cause else cause - 0x10 + 4

/-- The heads of an open window of a write task whose frame is not complete and not dropped. -/
def Ac.inFrame (a : Ac) : Nat :=
  match a.q.pos.win with
  | none => 0
  | some w => if a.isWrite ∧ w.st = .proceeding ∧ w.ended = false then maskDiff (maskDiff w.heads w.whole) w.dropped else 0

/-- Drop the write gates of the heads of a mask with a cause: each head in its frame is recorded and counted. -/
def Ac.dropWrite (a : Ac) (mask cause : Nat) : Ac :=
  let hs := a.inFrame &&& mask
  let a := { a with g := { a.g with wg := maskDiff a.g.wg mask } }
  if hs = 0 then a
  else
    match a.q.pos.win with
    | none => a
    | some w =>
      let w' := { w with dropped := w.dropped ||| hs, cause := if w.cause = 0 then cause else w.cause }
      let p := a.p.bump (Reg.WRP_CNT_LO a.n (causeIdx cause)) (heads8 hs).length (Reg.WRP_EVT a.n) Fld.WRP_EVT_CNT_SAT
      let p := p.setFld (Reg.WRP_DROP_LAST_LO a.n) Fld.WRP_DROP_LAST_LO_Q w.q
      let p := (p.setFld (Reg.WRP_DROP_LAST_HI a.n) Fld.WRP_DROP_LAST_HI_CAUSE cause).setFld
        (Reg.WRP_DROP_LAST_HI a.n) Fld.WRP_DROP_LAST_HI_HEAD ((heads8 hs).headD 0)
      { a with p := p, q := { a.q with pos := { a.q.pos with win := some w' } } }

/-- WQ goes low at once and stays low until the next entry into WRITE, with ASAFE (R146, R147). -/
def Ac.holdWq (a : Ac) : Ac :=
  { a with p := a.p.setFlag (Reg.HSI_BUS a.n) Fld.HSI_BUS_WQ_HELD }.showBus

/-- The CODES side frame without its CHECK: TYPE 1, ASSIST, HEATER, ASSIST_ON (Table HSI-4). -/
def codesFrame (assist heater : Nat) (on : Bool) : Nat :=
  1 + 4 * (assist % 1024) + 2 ^ 12 * (heater % 256) + (if on then 2 ^ 20 else 0)

/-- Assist is commanded off on every head: CODES with ASSIST_ON 0 and the last codes sent (R213). -/
def Ac.assistOff (a : Ac) : Ac :=
  a.mapHeads 0xFF (fun h x =>
    { x with due := some (codesFrame (a.p.fld (Reg.WRP_SENT a.n h) Fld.WRP_SENT_ASSIST)
                            (a.p.fld (Reg.WRP_SENT a.n h) Fld.WRP_SENT_HEATER) false, false) })

/-- Every write gate drops with a cause, WQ held low. -/
def Ac.dropAllWrite (a : Ac) (cause : Nat) : Ac := (a.dropWrite 0xFF cause).holdWq

/-- Every gate drops and nothing stays armed. -/
def Ac.dropGates (a : Ac) (cause : Nat) : Ac :=
  let a := (a.dropWrite 0xFF cause).readFall 0xFF
  { a with g := { a.g with wgArm := 0, rgArm := 0, wg := 0 } }.showBus

/-- Every gate drops, nothing stays armed, WQ is held low. -/
def Ac.dropEvery (a : Ac) (cause : Nat) : Ac := (a.dropGates cause).holdWq

/-- The PREAMP request is posted: write gates drop with cause PREAMP_FAULT, PREAMP_FAULT is locked (Table TSQ-14, R146). -/
def Ac.preamp (a : Ac) : Ac := ((a.dropAllWrite 0x03).lock 0x42 0).pend 4

/-! ## GATE operations (R108, R118) -/

/-- Set the phase: in a servo window it waits for the window's end; leaving WRITE drops the gates that are up. -/
def Ac.setPhase (a : Ac) (c : Nat) : Ac :=
  let a := { a with g := { a.g with phase := c } }
  if a.g.servo then a
  else (if a.code = 2 ∧ c ≠ 2 then a.dropWrite 0xFF 0x10 else a).toCode c

/-- One GATE operation outside a gap, with the masks of the word. -/
def Ac.gateNow (a : Ac) (op wgm rgm : Nat) : Ac :=
  match op with
  | 1 => a.setPhase 0
  | 2 => a.setPhase 1
  | 3 => a.setPhase 2
  | 4 => { a with g := { a.g with wgArm := a.g.wgArm ||| wgm } }.showBus
  | 5 => ({ a with g := { a.g with wgArm := maskDiff a.g.wgArm wgm } }.dropWrite wgm 0x10).showBus
  | 6 => if a.isWrite || a.isLoad then a else { a with g := { a.g with rgArm := a.g.rgArm ||| rgm } }
  | 7 => { a with g := { a.g with rgArm := maskDiff a.g.rgArm rgm } }.readFall rgm
  | 8 => (a.dropEvery 0x10).setPhase 0
  | _ => a

/-- A GATE operation: held during a gap; without effect in a LOAD, which never changes the phase (R81). -/
def Ac.gateOp (a : Ac) (op wgm rgm : Nat) : Ac :=
  if op = 0 ∨ a.isLoad then a
  else if a.g.gap then { a with g := { a.g with held := a.g.held ++ [(op, wgm, rgm)] } }
  else a.gateNow op wgm rgm

/-- The operations held during a gap take effect in order, until one begins another gap. -/
def Ac.runHeld (a : Ac) : List (Nat × Nat × Nat) → Ac
  | [] => { a with g := { a.g with held := [] } }
  | x :: xs =>
    let b := a.gateNow x.1 x.2.1 x.2.2
    if b.g.gap then { b with g := { b.g with held := xs } } else Ac.runHeld b xs

/-- Whether the actuator's write/sequencer domain is on. -/
def Ac.on (a : Ac) : Bool := a.p.on (4 * a.n + 2)

/-- A turnaround gap ends (R136). -/
def Ac.gapEnd (a : Ac) : Ac :=
  if a.g.gap then
    let a := { a with g := { a.g with gap := false } }
    (a.runHeld a.g.held).showBus
  else a

/-- A servo window begins at wedge `w`: the code becomes SERVO (R137). -/
def Ac.servoStart (a : Ac) (w : Nat) : Ac :=
  if a.on ∧ a.g.servo = false then
    let a := { a with g := { a.g with servo := true, fromW := a.code == 2, wedge := w } }
    (a.mapHeads 0xFF (fun _ x => { x with seen := false })).toCode 3
  else a

/-- The heads of the task whose lanes carry symbols (R143). -/
def Ac.laneHeads (a : Ac) : Nat := if a.busy then a.useHeads else 0

/-- Before a servo window ends the code returns to the phase last set; the windows without a good monitor frame are counted
(R224), and a new data span sends the codes in force and the MOD frame again (R144, R217). -/
def Ac.servoEnd (a : Ac) : Ac :=
  if a.g.servo then
    let a := if a.g.fromW then
        a.mapHeads (a.g.wgArm &&& a.laneHeads) (fun _ x => { x with miss := if x.seen then 0 else x.miss + 1 })
      else a
    let a := { a with g := { a.g with servo := false } }.toCode a.g.phase
    if a.g.phase = 2 then
      a.mapHeads a.laneHeads (fun h x =>
        let s := a.p.rd (Reg.WRP_SENT a.n h)
        let f := codesFrame (Fld.get Fld.WRP_SENT_ASSIST s) (Fld.get Fld.WRP_SENT_HEATER s) (Fld.get Fld.WRP_SENT_ASSIST_ON s != 0)
        { x with due := if x.due.isSome then x.due else some (f, false)
                 modDue := some (2 + 4 * a.p.fld (Reg.WRP_MOD a.n h) Fld.WRP_MOD_MODE
                            + 64 * a.p.fld (Reg.WRP_MOD a.n h) Fld.WRP_MOD_PARAM) })
    else a
  else a

/-! ## Side frames (R144, R145, R211, R217) -/

/-- A side frame with its CHECK. -/
def withCheck (f : Nat) : Nat := f + 2 ^ 24 * crc8 [BitVec.ofNat 8 f, BitVec.ofNat 8 (f / 2 ^ 8), BitVec.ofNat 8 (f / 2 ^ 16)]

/-- A side frame is sent on head `h`'s lane: CODES when due, else the MOD frame of the span, else HOLD. -/
def Ac.sideFrame (a : Ac) (h : Nat) : Ac :=
  if a.code = 2 ∧ a.g.gap = false ∧ a.laneHeads.testBit h then
    let x := a.g.head h
    let a := { a with g := { a.g with asafe := false } }
    match x.due with
    | some (f, wrp1) =>
      let r := Reg.WRP_SENT a.n h
      let p := ((a.p.setFld r Fld.WRP_SENT_ASSIST (f / 4)).setFld r Fld.WRP_SENT_HEATER (f / 2 ^ 12)).setFld
        r Fld.WRP_SENT_ASSIST_ON (f / 2 ^ 20)
      { a with p := p, g := a.g.setHead h { x with due := none, sent := x.sent || wrp1, side := withCheck f } }.showBus
    | none =>
      match x.modDue with
      | some f => { a with g := a.g.setHead h { x with modDue := none, side := withCheck f } }.showBus
      | none => { a with g := a.g.setHead h { x with side := withCheck 0 } }.showBus
  else a

/-- The region track of the window granted, none without one. -/
def Ac.winTrack (a : Ac) : Option Nat := a.q.pos.win.map (fun w => a.img.track a.member w.q)

/-- WRP 1: codes for the granted window, one CODES frame, and the precompensation taps of the heads in WGM (R211); an assist code
above ASSIST_MAX commands no assist (R77). -/
def Ac.wrpCodes (a : Ac) (wgm : Nat) : Ac :=
  match a.winTrack with
  | none => a
  | some t =>
    let m := a.img
    let th := signed 16 (a.p.fld (Reg.TSQ_ENV a.t) Fld.TSQ_ENV_TEMP)
    let hs := wgm &&& a.laneHeads
    let b := a.mapHeads hs (fun h x =>
      let c := m.codes h t th
      let on := a.p.bit (Reg.WRP_CFG a.n) Fld.WRP_CFG_ASSIST_EN && decide (c.1 ≤ m.assistMax h)
      { x with codes := some c, due := some (codesFrame (min c.1 1023) c.2 on, true), sent := false })
    { b with p := (heads8 hs).foldl (fun p h => p.wr (Reg.WRP_PRECOMP a.n h)
        (BitVec.ofNat 32 (m.precomp h 0 + 2 ^ 8 * m.precomp h 1 + 2 ^ 16 * m.precomp h 2 + 2 ^ 24 * m.precomp h 3))) b.p }

/-- WRP 2: assist off on every head, ASAFE low until the next side-frame boundary (R147, R213). -/
def Ac.wrpOff (a : Ac) : Ac :=
  let a := a.assistOff
  { a with g := { a.g with asafe := true } }.showBus

/-- Whether head `h` counts as armed for a write at an opening at region track `t` (R212). -/
def Ac.armedWrite (a : Ac) (t h : Nat) : Bool :=
  let x := a.g.head h
  a.g.wgArm.testBit h && x.sent && x.mon == 0 && x.codes == some (a.img.codes h t (signed 16 a.q.sTemp))

/-! ## The write-inhibit vector (R27, R248) -/

/-- The inhibit vector as it crosses to the gate unit. -/
def Ac.inhibit (a : Ac) : Nat := a.p.fld (Reg.ARM_STATUS a.n) Fld.ARM_STATUS_INHIBIT

/-- A newly set inhibit bit drops the head's gate. -/
def Ac.inhibitDrop (a : Ac) (h : Nat) : Ac := if a.inhibit.testBit h then a.dropWrite (2 ^ h) 0x01 else a

/-! ## Frames (R34 to R39, R190, R207) -/

/-- The 16 metadata bytes of Table MED-3. -/
def metaBytes (addr ndata : Nat) (prov isEnd : Bool) (kind pslot slot grprow width zgen lrow cseq : Nat) : List Byte :=
  leBytes 5 (addr % 2 ^ 35)
    ++ [BitVec.ofNat 8 (ndata % 8 * 32 + (if prov then 16 else 0) + (if isEnd then 8 else 0) + kind % 8),
        BitVec.ofNat 8 (pslot % 8 * 8 + slot % 8), BitVec.ofNat 8 (grprow % 32 * 8 + width % 8)]
    ++ le4 (zgen % 2 ^ 12 * 2 ^ 20 + lrow % 2 ^ 20) ++ le4 cseq

/-- The data sectors of logical row `r` of the ZWRITE in the registers: NDATA (R53, R55). -/
def Ac.ndata (a : Ac) (done : Nat) : Nat := min (a.k - 1) (a.nsect - done)

/-- The bits of ADDR that no task field carries (R39, R60): the zone index of a zoned sector, the LBA base of a conventional one,
a free value. -/
def Ac.addrBase (a : Ac) : Nat := if a.isConv then a.p.freeVal % 2 ^ 35 else a.p.freeVal % 2 ^ 15 * 2 ^ 20

/-- The user bytes head `h` writes: the row's sector, the parity store's row, zeros for a FILL (Table WRA-1); none when they are
not present. -/
def Ac.userOf (a : Ac) (h : Nat) : Option (List Byte) :=
  let pos := a.q.pos
  if a.isConv then (a.q.tb (pos.done % 64)).map (fun s => s.data)
  else
    let s := a.slotOf h
    let ps := paritySlot a.k pos.lrow
    if s = ps then if a.q.parReady then (a.q.parity.find? (fun x => x.1 == pos.lrow)).map (fun x => x.2) else none
    else
      let j := dataIndex a.k pos.lrow s
      if j < a.ndata pos.done then (a.q.tb ((pos.done + j) % 64)).map (fun s => s.data)
      else some (List.replicate 4096 0)

/-- The metadata head `h` writes (R38, R39, R61). -/
def Ac.metaOf (a : Ac) (h : Nat) : List Byte :=
  let pos := a.q.pos
  if a.isConv then metaBytes (a.addrBase + a.ofs + pos.done) 0 false false 4 0 0 0 0 0 0 a.cseq
  else
    let k := a.k
    let r := pos.lrow
    let nd := a.ndata pos.done
    let s := a.slotOf h
    let ps := paritySlot k r
    let j := dataIndex k r s
    let kind := if s = ps then 2 else if j < nd then 1 else 3
    let addr := if s = ps then a.addrBase else a.addrBase + r * (k - 1) + j
    metaBytes addr nd (decide (nd < k - 1)) (decide (a.nsect ≤ pos.done + nd)) kind ps s pos.grp (k - 1) a.zgen r a.cseq

/-- The frame head `h` writes: user data, metadata, CRC-32 and LDPC parity. -/
def Ac.formFrame (a : Ac) (h : Nat) (user : List Byte) : WFrame :=
  let info := a.metaOf h
  let c := crc32 (user ++ info)
  ⟨user, info, c, ldpcParity (user ++ info ++ le4 c)⟩

/-- Head `h`'s write gate rises at its frame start when every condition of R109 holds: the frame is formed; user data not present
is an UNDERRUN (R208). An inhibit bit set at the frame start, or a gate that cannot rise for another condition, counts as a drop (R48,
R227). -/
def Ac.writeRise (a : Ac) (h : Nat) : Ac :=
  match a.q.pos.win with
  | none => a
  | some w =>
    if a.isWrite ∧ w.st = .proceeding ∧ w.ended = false ∧ w.heads.testBit h ∧ w.begun.testBit h = false then
      let a := { a with q := { a.q with pos := { a.q.pos with win := some { w with begun := w.begun ||| 2 ^ h } } } }
      if a.inhibit.testBit h then a.dropWrite (2 ^ h) 0x01
      else if ¬ (a.code = 2 ∧ a.g.gap = false ∧ a.g.wgArm.testBit h ∧ (a.g.head h).mon = 0 ∧ a.wqHeld = false
          ∧ w.dropped.testBit h = false) then
        a.dropWrite (2 ^ h) 0x10
      else
        match a.userOf h with
        | none =>
          { a with p := a.p.setFlag (Reg.WRP_EVT a.n) Fld.WRP_EVT_UNDERRUN }.dropWrite (2 ^ h) 0x14
        | some u =>
          let f := a.formFrame h u
          { a with p := a.p.useFree, g := { a.g with wg := a.g.wg ||| 2 ^ h }.setHead h { a.g.head h with frame := some f } }
    else a

/-- Head `h`'s write gate falls by itself at the end of its postamble: its frame is whole (R109, R219). -/
def Ac.writeFall (a : Ac) (h : Nat) : Ac :=
  match a.q.pos.win with
  | none => a
  | some w =>
    if a.g.wg.testBit h then
      { a with g := { a.g with wg := maskDiff a.g.wg (2 ^ h) },
               q := { a.q with pos := { a.q.pos with win := some { w with whole := w.whole ||| 2 ^ h } } } }
    else a

/-- The serialiser reaches user data that is not present (R208). -/
def Ac.underrun (a : Ac) (h : Nat) : Ac :=
  if a.g.wg.testBit h then
    { a with p := a.p.setFlag (Reg.WRP_EVT a.n) Fld.WRP_EVT_UNDERRUN }.dropWrite (2 ^ h) 0x14
  else a

/-! ## Telemetry and monitors (R149 to R152, R222 to R226) -/

/-- A telemetry frame discarded is counted. -/
def Ac.telemBad (a : Ac) : Ac := { a with p := a.p.bump (Reg.HSI_TERR_LO a.n) 1 (Reg.HSI_FLT a.n) ⟨0, 0⟩ }

/-- Drop head `h`'s gate with a cause, hold monitor fault `bit`, set the event flag. -/
def Ac.monFault (a : Ac) (h bit cause : Nat) (f : Fld) : Ac :=
  let a := { a with p := a.p.setFlag (Reg.WRP_EVT a.n) f }.dropWrite (2 ^ h) cause
  { a with g := a.g.setHead h { a.g.head h with mon := (a.g.head h).mon ||| bit } }

/-- A monitor fault clears. -/
def Ac.monClear (a : Ac) (h bit : Nat) : Ac :=
  { a with g := a.g.setHead h { a.g.head h with mon := maskDiff (a.g.head h).mon bit } }

/-- The checks on a good frame of a head armed for the task in a servo window entered from WRITE. -/
def Ac.monitor (a : Ac) (h ttype value : Nat) : Ac :=
  if (a.busy && a.g.servo && a.g.fromW && (a.g.wgArm &&& a.laneHeads).testBit h) = false then a
  else if ttype = 1 then
    let a := { a with g := a.g.setHead h { a.g.head h with seen := true, miss := 0 } }
    let a := a.monClear h 4
    if a.p.bit (Reg.WRP_CFG a.n) Fld.WRP_CFG_MON_EN then
      if a.p.fld (Reg.WRP_MON a.n h) Fld.WRP_MON_LO ≤ value ∧ value ≤ a.p.fld (Reg.WRP_MON a.n h) Fld.WRP_MON_HI then a.monClear h 1
      else a.monFault h 1 0x11 Fld.WRP_EVT_ASSIST_MON
    else a
  else if ttype = 2 ∧ a.p.bit (Reg.WRP_CFG a.n) Fld.WRP_CFG_CS_EN then
    if a.p.sfld (Reg.WRP_CSTHR a.n h) Fld.WRP_CSTHR_THR < signed 16 value then a.monFault h 2 0x12 Fld.WRP_EVT_CONTACT
    else a.monClear h 2
  else a

/-- A telemetry frame's five characters arrive on head `h`'s lane (R150, R152): `cut` when it had a framing error or was cut
short. -/
def Ac.telemetry (a : Ac) (h : Nat) (c0 c1 c2 c3 c4 : Byte) (cut : Bool) : Ac :=
  if a.on = false ∨ a.code = 2 then a
  else
    let ttype := c0.toNat / 16
    let value := c1.toNat + 256 * c2.toNat
    let flt := c3.toNat
    if cut ∨ crc8 [c0, c1, c2, c3] ≠ c4.toNat ∨ ¬ (ttype = 1 ∨ ttype = 2 ∨ 8 ≤ ttype) then a.telemBad
    else
      let w := BitVec.ofNat 32 (c0.toNat * 2 ^ 24 + flt * 2 ^ 16 + value)
      let p := if ttype = 1 then a.p.wr (Reg.HSI_TLM_A a.n h) w else if ttype = 2 then a.p.wr (Reg.HSI_TLM_C a.n h) w else a.p
      let x := a.g.head h
      let p := if flt ≠ 0 ∧ flt ≠ x.fault then p.setFlag (Reg.HSI_FLT a.n) ⟨h, 1⟩ else p
      ({ a with p := p, g := a.g.setHead h { x with fault := flt } }).monitor h ttype value

/-- MON_MISS servo windows entered from WRITE have passed without a good monitor frame of head `h` (R224). -/
def Ac.monMissing (a : Ac) (h : Nat) : Ac :=
  let lim := a.p.fld (Reg.WRP_CFG a.n) Fld.WRP_CFG_MON_MISS
  if lim ≠ 0 ∧ lim ≤ (a.g.head h).miss ∧ (a.g.wgArm &&& a.laneHeads).testBit h then
    a.monFault h 4 0x13 Fld.WRP_EVT_MON_MISSING
  else a

/-- FAULT_N is seen low in READ or SERVO outside a gap (R159). -/
def Ac.faultLow (a : Ac) : Ac :=
  if (a.code = 1 ∨ a.code = 3) ∧ a.g.gap = false ∧ a.on then
    let p := (a.p.setFlag (Reg.HSI_FLT a.n) Fld.HSI_FLT_PIN).setFld (Reg.HSI_BUS a.n) Fld.HSI_BUS_PIN2 0
    if a.busy then { a with p := p }.preamp else { a with p := p }
  else a

/-- ASAFE is seen low in WRITE while the controller does not pull it (R147). -/
def Ac.asafeLow (a : Ac) : Ac :=
  if a.code = 2 ∧ a.g.gap = false ∧ a.pullsAsafe = false ∧ a.on then
    let p := a.p.setFlag (Reg.HSI_FLT a.n) Fld.HSI_FLT_ASAFE
    if a.busy then { a with p := p }.preamp else { a with p := p }
  else a

/-! ## Preamp transactions (R153 to R157) -/

/-- A write of HSI_PCMD requests a transaction; while one waits or runs it is ignored and OVERRUN sets. -/
def pcmdWrite (p : Plat) (n : Nat) (v : Word) : Plat :=
  if p.bit (Reg.HSI_PSTAT n) Fld.HSI_PSTAT_BUSY then p.setFlag (Reg.HSI_PSTAT n) Fld.HSI_PSTAT_OVERRUN
  else ((p.wr (Reg.HSI_PCMD n) v).wr (xactEnded n) 0).setFlag (Reg.HSI_PSTAT n) Fld.HSI_PSTAT_BUSY

/-- The transaction starts when its conditions hold: IDLE, no gap, EN. -/
def Ac.xactStart (a : Ac) : Ac :=
  if a.code = 0 ∧ a.g.gap = false ∧ a.p.bit (Reg.HSI_PCFG a.n) Fld.HSI_PCFG_EN
      ∧ a.p.bit (Reg.HSI_PSTAT a.n) Fld.HSI_PSTAT_BUSY ∧ a.on then
    { a with g := { a.g with xact := true } }
  else a

/-- The transaction ends with the 24 response bits and the check the preamp sent (R154, R155). -/
def Ac.xactEnd (a : Ac) (ack : Byte) (rdata : BitVec 16) (chk : Byte) : Ac :=
  if a.g.xact then
    let good : Bool := crc8 [ack, BitVec.ofNat 8 (rdata.toNat / 256), BitVec.ofNat 8 rdata.toNat] == chk.toNat
    a.endXact (if good then 0 else if ack = 0xFF then 2 else 1) ack.toNat rdata.toNat
  else a

/-! ## Register writes of the write path (R217, R218) -/

/-- Whether Table WRA-2 lists a MODE for a family. -/
def modeListed (family mode : Nat) : Bool := if family = 0 then decide (mode ≤ 2) else mode == 8 || mode == 9

/-- A write of WRP_MODh: refused where the family lists no such MODE. -/
def modWrite (p : Plat) (n h : Nat) (v : Word) : Plat :=
  if modeListed (p.fld (Reg.WRP_CFG n) Fld.WRP_CFG_FAMILY) (Fld.get Fld.WRP_MOD_MODE v) then p.fwWrite (Reg.WRP_MOD n h) v
  else p.setFlag (Reg.WRP_EVT n) Fld.WRP_EVT_CFG_REFUSED

/-- Whether every slot of Track Sequencer `t`'s maquette store is EMPTY and it is not BUSY. -/
def Plat.storeEmpty (p : Plat) (t : Nat) : Bool :=
  (List.range 8).all (fun s => !p.bit (Reg.TSQ_MQ_ST t s) Fld.TSQ_MQ_ST_VALID) && !p.bit (Reg.TSQ_STATUS t) Fld.TSQ_STATUS_BUSY

/-- A write of WRP_CFG: a change of FAMILY is ignored unless the store is empty and the sequencer idle; the rest stands. -/
def wrpCfgWrite (p : Plat) (n t : Nat) (v : Word) : Plat :=
  let old := p.fld (Reg.WRP_CFG n) Fld.WRP_CFG_FAMILY
  let q := p.fwWrite (Reg.WRP_CFG n) v
  if Fld.get Fld.WRP_CFG_FAMILY v = old ∨ p.storeEmpty t then q
  else (q.setFld (Reg.WRP_CFG n) Fld.WRP_CFG_FAMILY old).setFlag (Reg.WRP_EVT n) Fld.WRP_EVT_CFG_REFUSED

end Sys2Proof.Machine
end

