-- ==== Sys2Proof/Machine/PosOps.lean ====
section
/-! DEFINITION. The position unit and the set-point former: grants, openings, window ends, judgements, the row map, parity, set-point
and feed-forward records (R40 to R55, R105 to R107, R114, R198, R227, R237 to R239, R517). -/

namespace Sys2Proof.Machine

/-- Change the position unit. -/
def Ac.setPos (a : Ac) (f : Pos → Pos) : Ac := { a with q := { a.q with pos := f a.q.pos } }

/-! ## Set-point former (R237 to R239) -/

/-- The heads of HEADSET not in SUPPRESS whose effective Unit State is faulted. -/
def Ac.faulted (a : Ac) : Nat := maskOf ((heads8 a.useHeads).filter (fun h => a.p.effUnit (8 * a.n + h) == 4))

/-- The required offset of head `h` at region track `t`. -/
def Ac.reqOffset (a : Ac) (t h : Nat) : Int :=
  a.img.headOffset h t + (if a.isRead then signed 32 (a.p.rd (Reg.TSQ_RDOFS a.t h)).toNat else 0)

/-- The target heads for the row `lrow`: in SPLIT centring those of SRV 2, otherwise every head in use; faulted heads are none. -/
def Ac.targetHeads (a : Ac) : Nat :=
  maskDiff (match a.q.pos.split with | some x => x.2 &&& a.useHeads | none => a.useHeads) a.faulted

/-- The centre of the target heads; the last record's, or 0, without one. -/
def Ac.centre (a : Ac) (t : Nat) : Int :=
  let hs := heads8 a.targetHeads
  if hs = [] then a.q.pos.lastC.getD 0
  else Int.tdiv (hs.foldl (fun s h => s + a.reqOffset t h) 0) hs.length

/-- The split heads at region track `t` about centre `c`. -/
def Ac.splitHeads (a : Ac) (t : Nat) (c : Int) : Nat :=
  maskOf ((heads8 a.useHeads).filter (fun h =>
    decide (a.p.fld (Reg.TSQ_SPF_CFG a.t) Fld.TSQ_SPF_CFG_STROKE < (a.reqOffset t h - c).natAbs)))

/-- The set-point record for position `q` (Table ARM-4). -/
def Ac.spRecord (a : Ac) (q : Nat) (recentre : Bool) : SpRec :=
  let m := a.img
  let t := m.track a.member q
  let c := a.centre t
  let sp := a.splitHeads t c
  { active := maskDiff a.useHeads (sp ||| a.faulted)
    hold := a.useHeads &&& (sp ||| a.faulted)
    write := a.isWrite
    recentre := recentre
    rseq := if recentre then a.q.rseq else 0
    target := 4096 * ((m.baseTrack : Int) + t) + c
    off := (heads8 a.useHeads).map (fun h => (h, a.reqOffset t h - c))
    sskew := (heads8 a.headset).map (fun h => (h, m.sskew h)) }

/-- The former computes at a grant: the record and the split heads of groups 10 and 11. -/
def Ac.formSetpoint (a : Ac) (q lrow : Nat) : Ac :=
  let a := match a.q.pos.split with
    | some x => if x.1 = lrow then a else a.setPos (fun s => { s with split := none })
    | none => a
  let t := a.img.track a.member q
  let sp := a.splitHeads t (a.centre t)
  (a.setPos (fun s => { s with sp := some (a.spRecord q false), splits := sp, gsplits := sp }))

/-- A record crosses to the Armature: discarded with REC_DROP outside SEEK, SETTLE and FOLLOW (R240). -/
def Ac.queueRecord (a : Ac) (r : SpRec) : Ac :=
  let mode := a.p.fld (Reg.ARM_STATUS a.n) Fld.ARM_STATUS_MODE
  let l := Reg.TSQ_SPF_LAST a.t
  let p := ((a.p.setFld l Fld.TSQ_SPF_LAST_HOLD r.hold).setFld l Fld.TSQ_SPF_LAST_ACTIVE r.active).putBit
    l Fld.TSQ_SPF_LAST_SPLIT a.q.pos.split.isSome
  let a := { a with p := p }.setPos (fun s => { s with fed := true })
  if 2 ≤ mode ∧ mode ≤ 4 then { a with m := { a.m with inbox := a.m.inbox ++ [some r] } }
  else if a.p.on (4 * a.n + 3) then { a with p := a.p.setFlag (Reg.ARM_EVT a.n) Fld.ARM_EVT_REC_DROP }
  else a

/-- OFFTRACK: OFS is added to the failing heads' set-points in the records of the row's pending step (Table DET-4). -/
def Ac.offtrack (a : Ac) (r : SpRec) (lrow : Nat) : SpRec :=
  match a.findRow lrow with
  | none => r
  | some x =>
    if x.pend ∧ ladderClass (BitVec.ofNat 32 x.cfg) = 4 then
      let o := signed 12 x.cfg
      { r with off := r.off.map (fun e => if (x.slot (a.slotNo e.1)).failing then (e.1, e.2 + o) else e) }
    else r

/-- Queue a record computed for region track `t` and keep its centre. -/
def Ac.sendSetpoint (a : Ac) (r : SpRec) (c : Int) : Ac := (a.queueRecord r).setPos (fun s => { s with lastC := some c })

/-- SRV 1: queue the granted window's set-point record (R238). -/
def Ac.srvSetpoint (a : Ac) : Ac :=
  match a.q.pos.win, a.q.pos.sp with
  | some w, some r => a.sendSetpoint (a.offtrack r w.lrow) (a.centre (a.img.track a.member w.q))
  | _, _ => a

/-- SRV 2 and SRV 3: centring SPLIT on `targets` or NORMAL, the record recomputed and queued with RECENTRE and the next RSEQ. -/
def Ac.recentre (a : Ac) (split : Option Nat) : Ac :=
  match a.q.pos.last with
  | none => a
  | some (q, lrow) =>
    let n := if a.q.rseq = 15 then 1 else a.q.rseq + 1
    let a := { a with q := { a.q with rseq := n, rseqFor := n, recentred := false } }
    let a := a.setPos (fun s => { s with split := split.map (fun m => (lrow, m)) })
    let t := a.img.track a.member q
    let c := a.centre t
    (a.sendSetpoint (a.spRecord q true) c).setPos (fun s => { s with splits := a.splitHeads t c })

/-- SRV 2 with RGM: the heads of RGM split at the last grant, or else those in use. -/
def Ac.srvSplit (a : Ac) (rgm : Nat) : Ac :=
  let sp := rgm &&& a.q.pos.gsplits
  a.recentre (some (if sp = 0 then rgm &&& maskDiff a.useHeads a.faulted else sp))

/-- SRV 3. -/
def Ac.srvNormal (a : Ac) : Ac := a.recentre none

/-- A feed-forward record for the wedge after the timeline's (R238), once SRV 1 has queued a record in the task. -/
def Ac.ffQueue (a : Ac) : Ac :=
  if a.busy ∧ a.q.pos.fed then
    let m := a.img
    let w := if a.g.wedge + 1 < m.wedges then a.g.wedge + 1 else 0
    let vals := (heads8 a.headset).map (fun h => (h, m.ffwd h w))
    { a with m := { a.m with ffs := a.m.ffs ++ [FfRec.mk w vals] } }
  else a

/-! ## Rows (R53, R55, R103) -/

/-- Whether no row or sector is left. -/
def Ac.rowsDone (a : Ac) : Bool :=
  let s := a.q.pos
  if a.isConv then decide (a.nsect ≤ s.done)
  else if a.isZwrite then decide (a.nsect ≤ s.done) || s.left == 0
  else if a.isRead then s.left == 0
  else true

/-- Whether the current row or sector is the task's last. -/
def Ac.isLast (a : Ac) : Bool :=
  let s := a.q.pos
  if a.isConv then decide (a.nsect ≤ s.done + 1)
  else if a.isZwrite then decide (a.nsect ≤ s.done + a.ndata s.done) || s.left == 1
  else s.left == 1 && s.run == a.elen

/-- A row-map entry (Table TSQ-9). -/
def mapEntry (evt lrow q heads cause : Nat) : Nat :=
  evt * 2 ^ 62 + lrow % 2 ^ 20 * 2 ^ 40 + q % 2 ^ 24 * 2 ^ 16 + heads % 2 ^ 8 * 2 ^ 8 + cause % 2 ^ 8

/-- Record an entry in the row map; the logical row of a conventional sector is 0. -/
def Ac.record (a : Ac) (evt heads cause : Nat) (w : Win) : Ac :=
  a.setPos (fun s => { s with map := mapEntry evt (if a.isConv then 0 else w.lrow) w.q heads cause :: s.map })

/-- Spend a unit of slack, which only a ZWRITE has. -/
def Ac.spend (a : Ac) : Ac := if a.isZwrite then a.setPos (fun s => { s with slack := s.slack - 1 }) else a

/-- The position after the one judged: the next one in a zone; in the conventional region the same position (R227). -/
def Ac.nextPos (a : Ac) (w : Win) : Ac := if a.isConv then a else a.setPos (fun s => { s with q := w.q + 1 })

/-! ## ROW OPEN (R105) -/

/-- Grant position `q`. -/
def Ac.grantAt (a : Ac) (q : Nat) : Ac :=
  let lrow := if a.isConv then a.ofs + a.q.pos.done else a.q.pos.lrow
  let w : Win := ⟨q, lrow, .granted, 0, 0, 0, 0, 0, 0, 0, false⟩
  let a := a.setPos (fun s => { s with win := some w, last := some (q, lrow), q := q, g1 := 1 })
  let a := if a.isRead then { a with q := { a.q with ponr := true } } else a
  a.formSetpoint q lrow

/-- OPEN answers `g` in group 1. -/
def Ac.openResult (a : Ac) (g : Nat) : Ac := a.setPos (fun s => { s with g1 := g })

/-- ROW OPEN with no window unclosed: the position unit's answer, and ROW_RESULT. -/
def Ac.rowOpen (a : Ac) : Ac :=
  let a := a.setPos (fun s => { s with rowRes := true })
  let s := a.q.pos
  let m := a.img
  if a.locked then a.openResult 3
  else if a.rowsDone then a.openResult 2
  else if a.isZwrite ∧ s.slack = 0 then (a.lock 0x20 0).openResult 3
  else if 1020 < s.map.length + 2 then (a.lock 0x22 0).openResult 3
  else if a.deadline ≠ 0 ∧ a.deadline < a.p.time.toNat then (a.lock 0x23 0).openResult 3
  else if a.isConv then a.grantAt (a.lbaPos (a.ofs + s.done))
  else
    let all := m.tracks * m.perTrack
    let n := m.skipRun a.member (all - s.q) s.q
    let a := if n ≠ 0 ∧ a.isZwrite then
        a.setPos (fun s => { s with map := (3 * 2 ^ 62 + s.q % 2 ^ 24 * 2 ^ 16 + n % 2 ^ 16) :: s.map })
      else a
    if all ≤ s.q + n then ((a.setPos (fun s => { s with q := s.q + n })).lock 0x20 0).openResult 3
    else a.grantAt (s.q + n)

/-! ## The opening (R106) -/

/-- The granted window in a new state. -/
def Ac.openAs (a : Ac) (st : WinState) (heads nwHeads nwCause : Nat) : Ac :=
  a.setPos (fun s => { s with win := s.win.map (fun w => { w with st := st, heads := heads, nwHeads := nwHeads, nwCause := nwCause }) })

/-- The opening of the granted window: check point, write-inhibit test, arming test. -/
def Ac.windowOpening (a : Ac) : Ac :=
  match a.q.pos.win with
  | none => a
  | some w =>
    if w.st ≠ .granted then a
    else if a.locked then a.openAs .stale 0 0 0
    else if a.deadline ≠ 0 ∧ a.deadline < a.p.time.toNat then (a.lock 0x23 0).openAs .stale 0 0 0
    else
      let a := a.sample
      let t := a.img.track a.member w.q
      let r := if a.staleReason = 0 ∧ a.isWrite ∧ a.img.assistOk a.headset t (signed 16 a.q.sTemp) = false then 0x15
        else a.staleReason
      let late := maskOf ((heads8 a.useHeads).filter (fun h => !a.armedWrite t h))
      if r ≠ 0 then (a.lock 0x12 r).openAs .stale 0 0 0
      else if a.isZwrite ∧ a.inhibit ≠ 0 then a.openAs .notWritten 0 a.inhibit 0x01
      else if a.isWrite ∧ late ≠ 0 then a.openAs .notWritten 0 late 0x04
      else a.openAs .proceeding a.useHeads 0 0

/-! ## The judgement (R107, R198, R227) -/

/-- Whether a read window is judged written: every slot captured, no revolution step pending. -/
def Ac.readJudge (a : Ac) (w : Win) : Bool :=
  match a.findRow w.lrow with
  | none => false
  | some r => a.slots.all (fun s => (r.slot s).st != 0) && !r.pend && w.st == .proceeding

/-- Group 2: ROW_END, ABANDONED, LAST_ROW, NOT_WRITTEN. -/
def Ac.group2 (a : Ac) : Nat :=
  match a.q.pos.win with
  | none => 0
  | some w =>
    if w.ended = false then 0
    else
      let nw := if a.isRead then !a.readJudge w else w.st == .notWritten || w.st == .stale
      8 + (if w.dropped ≠ 0 then 4 else 0) + (if a.isLast then 2 else 0) + (if nw then 1 else 0)

/-- The window closes: its frames have ended (R107, R121). -/
def Ac.windowEnd (a : Ac) : Ac :=
  match a.q.pos.win with
  | none => a
  | some w =>
    if w.st = .granted ∨ a.inFrame ≠ 0 then a
    else a.setPos (fun s => { s with win := some { w with ended := true } })

/-- The current row is written: the next logical row or sector. -/
def Ac.advance (a : Ac) (w : Win) : Ac :=
  let a := (a.setPos (fun s => { s with abn := 0, lastWritten := some w.lrow })).nextPos w
  if a.isConv then a.setPos (fun s => { s with done := s.done + 1 })
  else
    let a := if a.isZwrite then
        let nd := a.ndata a.q.pos.done
        { a with q := { a.q with parReady := false } }.setPos (fun s => { s with done := s.done + nd })
      else a
    let a := a.setPos (fun s => { s with lrow := s.lrow + 1, grp := s.grp + 1, left := s.left - 1 })
    if a.isRead ∧ a.q.pos.left = 0 ∧ a.q.pos.run < a.elen then
      let e := a.extWord a.q.pos.run
      a.setPos (fun s => { s with run := s.run + 1, q := bits e 63 40, lrow := bits e 39 20, left := bits e 19 0 })
    else a

/-- The abandon limit of the task: the maquette's, or WRP_CFG.CONV_ABN (R51, R227). -/
def Ac.abnLimit (a : Ac) : Nat :=
  if a.isConv then atLeast1 (a.p.fld (Reg.WRP_CFG a.n) Fld.WRP_CFG_CONV_ABN) else a.img.abandonLimit

/-- A write window is abandoned. -/
def Ac.abandon (a : Ac) (w : Win) (heads cause : Nat) : Ac :=
  let a := ((a.record 1 heads cause w).spend.nextPos w).setPos (fun s => { s with abn := s.abn + 1 })
  let a := { a with p := a.p.bump (Reg.WRP_CNT_LO a.n 0) 1 (Reg.WRP_EVT a.n) Fld.WRP_EVT_CNT_SAT }
  if a.abnLimit ≤ a.q.pos.abn then a.lock 0x21 0 else a

/-- A window judged not written. -/
def Ac.skipped (a : Ac) (w : Win) : Ac := (((a.record 2 w.nwHeads w.nwCause w)).spend).nextPos w

/-- The window is judged and recorded. -/
def Ac.judge (a : Ac) (w : Win) : Ac :=
  let a := a.setPos (fun s => { s with win := none })
  if a.isRead then
    let ok := a.readJudge w
    let a := { a with g := { a.g with chn := 0 } }
    if ok then (a.mapRow w.lrow (fun r => { r with closed := true })).advance w else a
  else
    match w.st with
    | .stale => a
    | .notWritten => a.skipped w
    | _ => if w.dropped ≠ 0 then a.abandon w w.dropped w.cause else (a.record 0 w.heads 0 w).advance w

/-- Whether ROW CLOSE can act: no window, or its window has ended and its read gates have fallen. -/
def Ac.closeReady (a : Ac) : Bool :=
  match a.q.pos.win with
  | none => true
  | some w => w.ended && (a.g.rg == 0 || !a.isRead)

/-- ROW CLOSE. -/
def Ac.rowClose (a : Ac) : Ac :=
  match a.q.pos.win with
  | none => a
  | some w => if a.closeReady then a.judge w else a

/-- The position unit closes an open window itself, with the cause MAQ_PARITY or TASK_END (R517). -/
def Ac.autoClose (a : Ac) (cause : Nat) : Ac :=
  match a.q.pos.win with
  | none => a
  | some w0 =>
    let a := (a.dropGates cause).assistOff
    match a.q.pos.win with
    | none => a
    | some w =>
      if a.isWrite ∧ (w.st = .proceeding ∨ w.st = .granted) ∧ (w0.st = .granted ∨ w.heads ≠ w.whole) then
        let cut := if w0.st = .granted then a.useHeads else maskDiff w.heads w.whole
        (a.setPos (fun s => { s with win := none })).abandon w cut (if w.cause = 0 then cause else w.cause)
      else a.judge w

/-! ## Parity (R45, R118) -/

/-- ROW_DATA_READY: every data sector of the current row is in the track buffer. -/
def Ac.rowDataReady (a : Ac) : Bool :=
  let d := a.q.pos.done
  a.isWrite && (List.range (if a.isConv then 1 else a.ndata d)).all (fun j => (a.q.tb ((d + j) % 64)).isSome)
    && decide (d < a.nsect)

/-- XOR 1: form the parity of the current row from its data sectors; the parity store holds two rows. -/
def Ac.parityForm (a : Ac) : Ac :=
  if a.isZwrite ∧ a.rowDataReady then
    let s := a.q.pos
    let d := (List.range (a.ndata s.done)).foldl (fun x j =>
      match a.q.tb ((s.done + j) % 64) with | some b => xorBytes x b.data | none => x) (List.replicate 4096 0)
    { a with q := { a.q with parity := ((s.lrow, d) :: a.q.parity.filter (fun x => x.1 != s.lrow)).take 2, parReady := false } }
  else a

/-- The formation ends: PAR_READY. -/
def Ac.parityReady (a : Ac) : Ac :=
  if a.isZwrite ∧ a.q.parity.any (fun x => x.1 == a.q.pos.lrow) then { a with q := { a.q with parReady := true } } else a

/-- XOR 2: release the track-buffer space of the last row closed as written. -/
def Ac.tbufRelease (a : Ac) : Ac :=
  match a.q.pos.lastWritten with
  | none => a
  | some r => { a with q := a.q.dropRow r }

end Sys2Proof.Machine
end

