-- ==== Sys2Proof/Machine/ArmOps.lean ====
section
/-! DEFINITION. The servo demodulators, the Armature, the Servo Drive Link and the Spindle Link (R232 to R263). -/

namespace Sys2Proof.Machine

/-- Read and write a table of numbers whose default is 0. -/
def getN (m : SMap Nat) (k : Nat) : Nat := SMap.get (fun _ => 0) m k
/-- Put a number into a table whose default is 0. -/
def setN (m : SMap Nat) (k v : Nat) : SMap Nat := SMap.set (fun _ => 0) m k v
/-- Read a table of integers whose default is 0. -/
def getZ (m : SMap Int) (k : Nat) : Int := SMap.get (fun _ => 0) m k
/-- Put an integer into a table whose default is 0. -/
def setZ (m : SMap Int) (k : Nat) (v : Int) : SMap Int := SMap.set (fun _ => 0) m k v

/-! ## Modes and commands (R243, R244) -/

/-- Whether the Armature's domain is on. -/
def Ac.srvOn (a : Ac) : Bool := a.p.on (4 * a.n + 3)
/-- The mode of Table ARM-5. -/
def Ac.mode (a : Ac) : Nat := a.p.fld (Reg.ARM_STATUS a.n) Fld.ARM_STATUS_MODE
/-- Whether the loops run: SEEK, SETTLE, FOLLOW. -/
def loopMode (m : Nat) : Bool := 2 ≤ m && m ≤ 4

/-- Put a field of ARM_STATUS. -/
def Ac.setStatus (a : Ac) (f : Fld) (v : Nat) : Ac := { a with p := a.p.setFld (Reg.ARM_STATUS a.n) f v }
/-- Set a flag of ARM_EVT. -/
def Ac.armFlag (a : Ac) (f : Fld) : Ac := { a with p := a.p.setFlag (Reg.ARM_EVT a.n) f }
/-- Count `k` on ARM_CNT `i`. -/
def Ac.armCount (a : Ac) (i k : Nat) : Ac :=
  { a with p := a.p.bump (Reg.ARM_CNT_LO a.n i) k (Reg.ARM_EVT a.n) Fld.ARM_EVT_CNT_SAT }
/-- Change the Armature. -/
def Ac.setArm (a : Ac) (f : Arm → Arm) : Ac := { a with m := f a.m }

/-- Clear every filter state and the integrator. -/
def Arm.clearFilters (m : Arm) : Arm := { m with z := [], xi := 0 }

/-- Enter mode `m`: the region reads 31 outside the loops; SETTLE begins a new count of wedges on track; FOLLOW ends the
actuator's FAULTED state (R246, R459). -/
def Ac.enterMode (a : Ac) (m : Nat) : Ac :=
  if a.mode = m then a
  else
    let a := (a.setStatus Fld.ARM_STATUS_MODE m).setArm (fun x => { x with settled := if m = 3 then 0 else x.settled })
    let a := a.setStatus Fld.ARM_STATUS_SETTLED (if m = 4 then 1 else 0)
    let a := if loopMode m then a
      else (a.setStatus Fld.ARM_STATUS_REGION 31).setStatus Fld.ARM_STATUS_ON_TRACK 0
    if m = 4 then
      { a with p := { a.p with lostUnit := setN a.p.lostUnit (32 + a.n) 0 }.updateUnits a.n }
    else a

/-- A write of ARM_CTRL.CMD: it is acted on at the next wedge. -/
def Ac.armCmdWrite (a : Ac) (c : Nat) : Ac :=
  if a.srvOn ∧ 1 ≤ c ∧ c ≤ 4 then a.setArm (fun m => { m with cmd := some c }) else a

/-- Whether a command is accepted: 1 OFF and 3 RETRACT always, 2 LOAD in OFF, LOST and RETRACT, 4 DIRECT in OFF while the actuator
is in the non-service state MAINTENANCE. -/
def Ac.cmdOk (a : Ac) (c : Nat) : Bool :=
  match c with
  | 2 => a.mode == 0 || a.mode == 5 || a.mode == 6
  | 4 => a.mode == 0 && a.p.effAct a.n == 2
  | _ => true

/-- The Armature leaves OFF: no record is in use, none is returned, the wedge count starts. -/
def Arm.leaveOff (m : Arm) : Arm := { m with use := none, fed := false, fresh := false, rseq := 0, wedges := 0 }

/-- Act on the command that waits (R244). -/
def Ac.armCommand (a : Ac) : Ac :=
  match a.m.cmd with
  | none => a
  | some c =>
    let a := a.setArm (fun m => { m with cmd := none })
    if a.cmdOk c then
      let a := if a.mode = 0 ∧ c ≠ 1 then a.setArm Arm.leaveOff else a
      match c with
      | 1 => ((a.setArm (fun m => { m with satV := 0, satM := [] })).setStatus Fld.ARM_STATUS_SAT_ACT 0).enterMode 0
      | 2 => (a.setArm (fun m => { m with seen := [], inLoad := 0, lastY := [] })).enterMode 1
      | 3 => a.enterMode 6
      | _ => a.enterMode 7
    else a.armFlag Fld.ARM_EVT_CFG_REFUSED

/-! ## Demodulation (R233, R234) -/

/-- The number whose binary-reflected Gray code is `g` (24 bits). -/
def grayDecode (g : Nat) : Nat := (List.range 24).foldl (fun x i => x ^^^ ((g % 2 ^ 24) >>> i)) 0

/-- The position of R233 from the track number and the burst times. -/
def svdPosition (g : Nat) (ta1 tb1 ta2 tb2 d0 : Int) (kpes : Nat) : Int :=
  let d := Int.tdiv ((ta1 - tb1) + (ta2 - tb2)) 2 - d0
  4096 * g + clampInt (-2048) 2047 (Int.tdiv (d * kpes) 1024)

/-- Whether head `h` is demodulated: SVD_CFG.EN 1 and the domains of the read front end and the sequencer on. -/
def Ac.svdOn (a : Ac) (h : Nat) : Bool :=
  a.p.bit (Reg.SVD_CFG a.n h) Fld.SVD_CFG_EN && a.p.on (4 * a.n) && a.p.on (4 * a.n + 2)

/-- Whether the reader that SVD_CFG.RDR names exists and is on. -/
def Ac.svdReader (a : Ac) (h : Nat) : Bool :=
  let k := a.p.fld (Reg.SVD_CFG a.n h) Fld.SVD_CFG_RDR
  decide (k < 3) && a.p.bit (Reg.RFE_RDR_CFG a.n h k) Fld.RFE_RDR_CFG_ON

/-- Whether the SAM is found: at most SAM_THR differing cells at a place within 8 cells of nominal. -/
def Ac.samFound (a : Ac) (h diff : Nat) (place : Int) : Bool :=
  a.svdReader h && decide (diff ≤ min 4 (a.p.fld (Reg.SVD_CFG a.n h) Fld.SVD_CFG_SAM_THR)) && decide (place.natAbs ≤ 8)

/-- Whether track `g` is within ARM_LOSS.GATE of the track predicted from the head's previous position and, in SEEK, the
reference velocity; any track without a previous position. -/
def Ac.withinGate (a : Ac) (h g : Nat) : Bool :=
  match SMap.get (fun _ => none) a.m.lastY h with
  | none => true
  | some y =>
    let pred := (y + (if a.mode = 2 then a.m.v else 0) + 2048) / 4096
    decide (((g : Int) - pred).natAbs ≤ a.p.fld (Reg.ARM_LOSS a.n) Fld.ARM_LOSS_GATE)

/-- Head `h`'s servo field is demodulated into a record. -/
def Ac.demod (a : Ac) (h wid diff : Nat) (place : Int) (gray : Nat) (ta1 tb1 ta2 tb2 : Int) : Ac :=
  if a.svdOn h then
    let a := if a.m.demods = [] then a.setArm (fun m => { m with temp := a.p.sfld (Reg.TSQ_ENV a.t) Fld.TSQ_ENV_TEMP }) else a
    let c := Reg.SVD_CAL a.n h
    let g := grayDecode gray
    let y := svdPosition g ta1 tb1 ta2 tb2 (a.p.sfld c Fld.SVD_CAL_D0) (a.p.fld c Fld.SVD_CAL_KPES)
    let formed := a.samFound h diff place && wid == a.g.wedge
    let r : Demod := if formed && a.withinGate h g then ⟨true, y⟩ else ⟨false, if formed then y else 0⟩
    a.setArm (fun m =>
      { m with demods := (m.demods.filter (fun e => e.1 != h)) ++ [(h, r)]
               lastY := if formed then SMap.set (fun _ => none) m.lastY h (some y) else m.lastY })
  else a

/-! ## Records taken (R239, R240) -/

/-- The heads with ARM_HEADh.EN 1. -/
def Ac.enabledHeads (a : Ac) : Nat := maskOf ((List.range 8).filter (fun h => a.p.bit (Reg.ARM_HEAD a.n h) Fld.ARM_HEAD_EN))
/-- The heads lost and not yet given up (R254). -/
def Ac.lostHeads (a : Ac) : Nat := maskOf ((List.range 8).filter (fun h => getN a.p.lostUnit (8 * a.n + h) != 0))

/-- ACTIVE of the record in use before lost heads leave it. -/
def Ac.active0 (a : Ac) : Nat := match a.m.use with | some r => r.active | none => a.enabledHeads
/-- ACTIVE: a lost head is excluded at once. -/
def Ac.active (a : Ac) : Nat := maskDiff a.active0 a.lostHeads
/-- HOLD: that of the record in use and the heads lost since. -/
def Ac.hold (a : Ac) : Nat := (match a.m.use with | some r => r.hold | none => 0) ||| (a.active0 &&& a.lostHeads)
/-- o_h of the record in use. -/
def Ac.off (a : Ac) (h : Nat) : Int := match a.m.use with | some r => getZ r.off h | none => 0

/-- Take one record that has crossed. -/
def Arm.takeRecord (m : Arm) (r : Option SpRec) : Arm :=
  match r with
  | none => { m with fed := false }
  | some x =>
    { m with use := some x, target := some x.target, fed := true, fresh := true,
             rseq := if x.recentre then x.rseq else m.rseq }

/-- The records of set-points are taken: of several set-point records only the latest; outside SEEK, SETTLE and FOLLOW they are
discarded. -/
def Ac.takeRecords (a : Ac) : Ac :=
  if loopMode a.mode then
    let last := (a.m.inbox.filterMap id).getLast?
    a.setArm (fun m =>
      { (m.inbox.filter (fun r => r.isNone || r == last)).foldl Arm.takeRecord m with inbox := [] })
  else
    let a := if a.m.inbox.any Option.isSome then a.armFlag Fld.ARM_EVT_REC_DROP else a
    a.setArm (fun m => { m with inbox := [] })

/-! ## The inner loop (R241) -/

/-- A sum held at the limits of the 48-bit signal format. -/
def sat48 (x : Int) : Int := clampInt (-(2 ^ 47)) (2 ^ 47 - 1) x
/-- The product of a Q8.24 coefficient and a signal, truncated toward zero to the signal format. -/
def cmul (c x : Int) : Int := sat48 (Int.tdiv (c * x) (2 ^ 24))
/-- An integer as a signal with 16 fractional bits. -/
def toSig (x : Int) : Int := sat48 (x * 2 ^ 16)
/-- The integer part of a signal. -/
def truncSig (x : Int) : Int := Int.tdiv x (2 ^ 16)

/-- Word `j` of the bank in use as a coefficient, and as an unsigned number. -/
def Ac.bankNo (a : Ac) : Nat := a.p.fld (Reg.ARM_STATUS a.n) Fld.ARM_STATUS_BANK
/-- Word `j` of the bank in use. -/
def Ac.bankW (a : Ac) (j : Nat) : Nat := (a.p.rd (Reg.ARM_BANK a.n a.bankNo j)).toNat
/-- Word `j` of the bank in use as a signed number. -/
def Ac.coef (a : Ac) (j : Nat) : Int := signed 32 (a.bankW j)
/-- A limit: 0 acts as 1, above the maximum as the maximum (R245). -/
def bankLimit (v mx : Nat) : Nat := min mx (atLeast1 v)

/-- One biquad with the coefficients from word `j` of the bank and the states at key `k`. -/
def Ac.biquad (a : Ac) (j k : Nat) (x : Int) : Ac × Int :=
  let z1 := getZ a.m.z k
  let z2 := getZ a.m.z (k + 1)
  let y := sat48 (cmul (a.coef j) x + z1)
  let n1 := sat48 (cmul (a.coef (j + 1)) x - cmul (a.coef (j + 3)) y + z2)
  let n2 := sat48 (cmul (a.coef (j + 2)) x - cmul (a.coef (j + 4)) y)
  (a.setArm (fun m => { m with z := setZ (setZ m.z k n1) (k + 1) n2 }), y)

/-- The FLAGS of the bank in use. -/
def Ac.bankFlag (a : Ac) (b : Nat) : Bool := (a.bankW 23).testBit b

/-- The trajectory of SEEK: v moves by a within VMAX, p by v. -/
def Ac.trajectory (a : Ac) : Ac :=
  if a.mode = 2 then
    let vmax : Int := a.bankW 22
    let v := clampInt (-vmax) vmax (a.m.v + a.m.a)
    a.setArm (fun m => { m with v := v, p := m.p + v })
  else a

/-- The microactuator command of head `h` from its residual, and whether it is saturated; MA_EN 0 forces it to 0. -/
def Ac.microact (a : Ac) (h : Nat) (rho ff : Int) : Ac × Bool :=
  let r := a.biquad 14 (16 + 2 * h) (cmul (a.coef 13) rho)
  let a := r.1
  let i := Int.tdiv (a.off h * a.p.fld (Reg.ARM_HEAD a.n h) Fld.ARM_HEAD_MAGAIN) 4096 + ff
  let u := truncSig (sat48 (r.2 + toSig i))
  let lim : Int := bankLimit (a.bankW 20) 8191
  let en := a.bankFlag 1
  (a.setArm (fun m => { m with um := setZ m.um h (if en then clampInt (-lim) lim u else 0) }), en && decide (lim < u.natAbs))

/-- The successive saturated wedges of each output (R251). -/
def Ac.countSat (a : Ac) (v : Bool) (ms : Nat) : Ac :=
  a.setArm (fun m =>
    { m with satV := if v then m.satV + 1 else 0,
             satM := (heads8 (ms &&& a.active)).foldl (fun t h => setN t h (getN m.satM h + 1)) [] })

/-- The outputs in saturation: bit 8 the VCM, bits 7 to 0 the heads. -/
def Arm.saturated (m : Arm) : Nat := (if m.satV = 0 then 0 else 256) + maskOf ((List.range 8).filter (fun h => getN m.satM h != 0))

/-- The inner computation: `ys` the positions of the heads found. Without an active head found the last commands stay. -/
def Ac.inner (a : Ac) (found : Nat) (ys : Nat → Int) (ff : SMap Int) : Ac :=
  let act := heads8 (a.active &&& found)
  if act = [] then a.setArm (fun m => { m with em := none })
  else
    let e := fun h => a.m.p + a.off h - ys h
    let em := Int.tdiv (sat48 (act.foldl (fun s h => s + toSig (e h)) 0)) act.length
    let a := if a.bankFlag 2 then a.setArm (fun m => { m with xi := sat48 (m.xi + cmul (a.coef 11) em) }) else a
    let b1 := a.biquad 1 0 (cmul (a.coef 0) em)
    let b2 := b1.1.biquad 6 2 b1.2
    let a := b2.1
    let u := truncSig (sat48 (b2.2 + a.m.xi + cmul (a.coef 12) (toSig a.m.a)))
    let lim : Int := bankLimit (a.bankW 19) 32767
    let a := a.setArm (fun m => { m with uv := clampInt (-lim) lim u, um := [] })
    let r := (heads8 a.active).foldl (fun s h =>
      let x := s.1.microact h (if found.testBit h then toSig (e h) - em else 0) (getZ ff h)
      (x.1, if x.2 then s.2 ||| 2 ^ h else s.2)) (a, 0)
    (r.1.countSat (decide (lim < u.natAbs)) r.2).setArm (fun m => { m with em := some em })

/-! ## Shock, status, inhibit (R248 to R253) -/

/-- A shock at this wedge: the change of em, or the driver's SHOCK. -/
def Ac.shockAt (a : Ac) (prev : Option Int) : Bool :=
  a.p.bit (Reg.ARM_SHOCK a.n) Fld.ARM_SHOCK_EN &&
    (a.m.shocked || match prev, a.m.em with
      | some x, some y => decide (a.p.fld (Reg.ARM_SHOCK a.n) Fld.ARM_SHOCK_THR * 2 ^ 16 < (y - x).natAbs)
      | _, _ => false)

/-- The shock's effects: the hold of this wedge and the next HOLD, FOLLOW to SETTLE, the flag, the count. -/
def Ac.shockStep (a : Ac) (prev : Option Int) : Ac :=
  if a.shockAt prev then
    let a := a.setArm (fun m => { m with shock := a.p.fld (Reg.ARM_SHOCK a.n) Fld.ARM_SHOCK_HOLD + 1 })
    let a := (a.armFlag Fld.ARM_EVT_SHOCK).armCount 3 1
    if a.mode = 4 then a.enterMode 3 else a
  else a

/-- Whether head `h`'s inhibit bit evaluates to 1 (R248). -/
def Ac.inhibits (a : Ac) (found : Nat) (e : Nat → Int) (h : Nat) : Bool :=
  (a.active ||| a.hold).testBit h &&
    (a.hold.testBit h || a.mode != 4 || !found.testBit h
      || decide (a.p.fld (Reg.ARM_TRK a.n) Fld.ARM_TRK_WI_THR < (e h).natAbs)
      || !a.p.bit (Reg.ARM_HEAD a.n h) Fld.ARM_HEAD_EN || a.m.shock != 0
      || a.p.bit (Reg.ARM_STATUS a.n) Fld.ARM_STATUS_SAT_ACT)

/-- The inhibit vector: a bit set stays set until a set-point record has been taken (R249); the bits then follow their evaluation
up to and including the first made in FOLLOW with the record's target reached. -/
def Ac.inhibitStep (a : Ac) (found : Nat) (e : Nat → Int) : Ac :=
  let ev := maskOf ((List.range 8).filter (a.inhibits found e))
  let old := if a.m.fresh then 0 else a.inhibit &&& (a.active ||| a.hold)
  (a.setStatus Fld.ARM_STATUS_INHIBIT (ev ||| old)).setArm (fun m =>
    { m with fresh := m.fresh && !(a.mode == 4 && m.target.isNone) })

/-- Whether every ACTIVE head's field was found within ONTRK. -/
def Ac.onTrack (a : Ac) (found : Nat) (e : Nat → Int) : Bool :=
  (heads8 a.active).all (fun h => found.testBit h && decide ((e h).natAbs ≤ a.p.fld (Reg.ARM_TRK a.n) Fld.ARM_TRK_ONTRK))

/-- The status bits of the evaluation (R239, R250), and SETTLE's count of successive wedges on track. -/
def Ac.statusStep (a : Ac) (found : Nat) (e : Nat → Int) : Ac :=
  let ok := a.onTrack found e
  let follow : Bool := a.mode == 4
  let a := a.setArm (fun m => { m with settled := if a.mode = 3 ∧ ok = true then m.settled + 1 else 0 })
  let a := a.setStatus Fld.ARM_STATUS_SETTLED (if follow then 1 else 0)
  let a := a.setStatus Fld.ARM_STATUS_ON_TRACK (if follow && ok then 1 else 0)
  let a := a.setStatus Fld.ARM_STATUS_RECENTRED (if follow && a.m.rseq != 0 then 1 else 0)
  let a := a.setStatus Fld.ARM_STATUS_SPLITS a.hold
  if follow ∧ a.q.rseqFor ≠ 0 ∧ a.m.rseq = a.q.rseqFor then { a with q := { a.q with recentred := true } } else a

/-- ARM_PESh: FOUND of every head, E of the heads found. -/
def Ac.showPes (a : Ac) (found : Nat) (e : Nat → Int) : Ac :=
  { a with p := (List.range 8).foldl (fun p h =>
      let r := Reg.ARM_PES a.n h
      let p := p.putBit r Fld.ARM_PES_FOUND (found.testBit h)
      if found.testBit h then p.setFld r Fld.ARM_PES_E (bitsOf 24 (clampInt (-(2 ^ 23)) (2 ^ 23 - 1) (e h))) else p) a.p }

/-- Missing fields: the counters, the successive wedges of each active head in FOLLOW, the wedges with no active field (R254). -/
def Ac.lossStep (a : Ac) (mode found : Nat) : Ac :=
  let set := a.active ||| a.hold
  let a := a.armCount 1 (heads8 (maskDiff set found)).length
  let a := a.armCount 2 (if set ≠ 0 ∧ set &&& found = 0 then 1 else 0)
  let act := a.active
  a.setArm (fun m =>
    { m with missed := if mode = 4 then (heads8 (maskDiff act found)).foldl (fun t h => setN t h (getN m.missed h + 1)) [] else [],
             noField := if loopMode mode ∧ act ≠ 0 ∧ act &&& found = 0 then m.noField + 1 else 0 })

/-! ## The outer loop (R242, R246, R247) -/

/-- The temperature thresholds at or below `t`. -/
def Ac.tband (a : Ac) (t : Int) : Nat :=
  let r := Reg.ARM_TBAND a.n
  ([a.p.sfld r Fld.ARM_TBAND_TB1, a.p.sfld r Fld.ARM_TBAND_TB2, a.p.sfld r Fld.ARM_TBAND_TB3].filter (fun x => decide (x ≤ t))).length

/-- The band falls only when TEMP is more than 4 units below the threshold concerned. -/
def Ac.nextBand (a : Ac) : Nat := max (a.tband a.m.temp) (min a.m.band (a.tband (a.m.temp + 4)))

/-- The mode index M of the region for distance `d`. -/
def regionM (mode : Nat) (d : Int) : Nat :=
  if mode = 3 then 4 else if mode = 4 then 5
  else if 4096 * 4096 ≤ d.natAbs then 0 else if 256 * 4096 ≤ d.natAbs then 1 else if 16 * 4096 ≤ d.natAbs then 2 else 3

/-- The mode the outer step chooses, with p, v and a where it ends a move. -/
def Ac.outerMode (a : Ac) (d : Int) : Ac :=
  let here : Arm → Arm := fun m => { m with p := m.tgt, v := 0, a := 0 }
  let a :=
    if a.mode ≠ 2 ∧ a.p.fld (Reg.ARM_SEEK_MIN a.n) Fld.ARM_SEEK_MIN_SEEK_MIN < d.natAbs then a.enterMode 2
    else if a.mode ≠ 2 ∧ d ≠ 0 then (a.setArm here).enterMode 3
    else a
  if a.mode = 2 ∧ d.natAbs ≤ a.p.fld (Reg.ARM_SETTLE a.n) Fld.ARM_SETTLE_SETTLE_IN then (a.setArm here).enterMode 3 else a

/-- The region and its bank; a change of bank is counted, and clears the states where the new bank says RESET. -/
def Ac.selectBank (a : Ac) (d : Int) : Ac :=
  let t := a.nextBand
  let r := 4 * regionM a.mode d + t
  let b := bits (a.p.rd (Reg.ARM_BMAP a.n (r / 8))).toNat (4 * (r % 8) + 3) (4 * (r % 8))
  let old := a.bankNo
  let a := ((a.setArm (fun m => { m with band := t })).setStatus Fld.ARM_STATUS_REGION r).setStatus Fld.ARM_STATUS_BANK b
  if b = old then a
  else
    let a := a.armCount 4 1
    if a.bankFlag 0 then a.setArm Arm.clearFilters else a

/-- The acceleration of SEEK; 0 in SETTLE and FOLLOW. -/
def Ac.accel (a : Ac) (d : Int) : Int :=
  let amax : Int := a.bankW 21
  let v := a.m.v
  if a.mode ≠ 2 then 0
  else if 2 * amax * d.natAbs ≤ v * v ∧ 0 < v * d then -(v.sign * amax)
  else if v.natAbs < a.bankW 22 then d.sign * amax
  else 0

/-- One outer step, when the wedge count is a multiple of 2^OUTER. -/
def Ac.outer (a : Ac) : Ac :=
  if loopMode a.mode ∧ a.m.wedges % 2 ^ a.p.fld (Reg.ARM_CTRL a.n) Fld.ARM_CTRL_OUTER = 0 then
    let a := a.setArm (fun m => { m with tgt := m.target.getD m.tgt, target := none })
    let d := a.m.tgt - a.m.p
    let a := (a.outerMode d).selectBank d
    a.setArm (fun m => { m with a := a.accel d })
  else a

/-! ## A wedge (R235) -/

/-- The feed-forward values of wedge `w`, 0 without a record; FF_MISS while a task feeds the loop. -/
def Ac.feedForward (a : Ac) (w : Nat) : Ac × SMap Int :=
  match a.m.ffs.find? (fun r => r.wedge == w) with
  | some r => (a.setArm (fun m => { m with ffs := [] }), r.vals)
  | none =>
    ((if a.m.fed ∧ loopMode a.mode then a.armFlag Fld.ARM_EVT_FF_MISS else a).setArm (fun m => { m with ffs := [] }), [])

/-- The wedges of LOAD: in LOAD, and each active head's successive wedges found. -/
def Ac.loadStep (a : Ac) (found : Nat) : Ac :=
  if a.mode = 1 then
    let act := a.active
    a.setArm (fun m =>
      { m with inLoad := m.inLoad + 1,
               seen := (heads8 (act &&& found)).foldl (fun t h => setN t h (getN m.seen h + 1)) [] })
  else a

/-- The evaluation of wedge `w`, whose period was `period` SRV clocks: commands, records, the inner loop, shock, the inhibit
vector and status, the losses, the outer step. -/
def Ac.wedgeEval (a : Ac) (w period : Nat) : Ac :=
  if a.srvOn then
    let a := a.armCommand.takeRecords
    let a := a.setArm (fun m => { m with shock := if 1 < m.shock then m.shock - 1 else m.shock })
    let ds := a.m.demods
    let found := maskOf ((ds.filter (fun x => x.2.found)).map (fun x => x.1))
    let ys : Nat → Int := fun h => match ds.find? (fun x => x.1 == h) with | some x => x.2.y | none => 0
    let ff := a.feedForward w
    let a := ff.1.trajectory
    let e : Nat → Int := fun h => a.m.p + a.off h - ys h
    let prev := a.m.em
    let run := loopMode a.mode
    let a := if run then a.inner found ys ff.2 else a
    let mode := a.mode
    let a := a.shockStep (if run then prev else none)
    let a := if run ∧ a.m.em.isSome ∧ a.m.saturated = 0 then a.setStatus Fld.ARM_STATUS_SAT_ACT 0 else a
    let a := ((a.inhibitStep found e).statusStep found e).showPes found e
    let a := (a.lossStep mode found).loadStep found
    let a := a.outer
    let r := Reg.ARM_WEDGE a.n
    let a := { a with p := (a.p.setFld r Fld.ARM_WEDGE_WNUM w).setFld r Fld.ARM_WEDGE_PERIOD (min 0xFFFF period) }
    a.setArm (fun m => { m with wedges := m.wedges + 1, demods := [] })
  else a

/-! ## What an evaluation decides (R243, R251 to R254) -/

/-- The saturation counts exceed their limit and the timeout is not active. -/
def Ac.satDue (a : Ac) : Bool :=
  let r := Reg.ARM_SAT_LIMIT a.n
  let lim := if a.mode = 2 then a.p.fld r Fld.ARM_SAT_LIMIT_SEEK else a.p.fld r Fld.ARM_SAT_LIMIT_TRK
  loopMode a.mode && !a.p.bit (Reg.ARM_STATUS a.n) Fld.ARM_STATUS_SAT_ACT
    && (decide (lim < a.m.satV) || (List.range 8).any (fun h => decide (lim < getN a.m.satM h)))

/-- The last wedge number. -/
def Ac.wnum (a : Ac) : Nat := a.p.fld (Reg.ARM_WEDGE a.n) Fld.ARM_WEDGE_WNUM

/-- SAT_TIMEOUT is raised: every write gate drops with cause SAT_TIMEOUT, a head inhibited at the same wedge with WRITE_INHIBIT
(R252). -/
def Ac.satTimeout (a : Ac) : Ac :=
  if a.srvOn ∧ a.satDue then
    let a := ((a.setStatus Fld.ARM_STATUS_SAT_ACT 1).armFlag Fld.ARM_EVT_SAT_TIMEOUT).armCount 0 1
    let rec3 := le2 a.wnum ++ [BitVec.ofNat 8 a.mode, BitVec.ofNat 8 a.bankNo] ++ le2 a.m.saturated ++ le2 0
    let a := { a with p := a.p.post (140 + 16 * a.n) 0x0003 rec3 }
    (a.dropWrite (a.g.wg &&& a.inhibit) 0x01).dropAllWrite 0x02
  else a

/-- An active head missing HEAD_MAX successive wedges in FOLLOW is lost. -/
def Ac.headLost (a : Ac) (h : Nat) : Ac :=
  if a.srvOn ∧ a.active.testBit h
      ∧ atLeast1 (a.p.fld (Reg.ARM_LOSS a.n) Fld.ARM_LOSS_HEAD_MAX) ≤ getN a.m.missed h then
    let p := { a.p with lostUnit := setN a.p.lostUnit (8 * a.n + h) 1 }
    let p := p.post (141 + 16 * a.n) 0x0004 ([0, BitVec.ofNat 8 h] ++ le2 a.wnum)
    { a with p := p.updateUnits a.n, m := { a.m with missed := setN a.m.missed h 0 } }.armFlag Fld.ARM_EVT_HEAD_LOST
  else a

/-- The Armature enters LOST: the actuator is faulted. -/
def Ac.enterLost (a : Ac) : Ac :=
  let a := (a.enterMode 5).armFlag Fld.ARM_EVT_LOST
  let p := { a.p with lostUnit := setN a.p.lostUnit (32 + a.n) 1 }
  let p := p.post (141 + 16 * a.n) 0x0004 ([1, 0] ++ le2 a.wnum)
  { a with p := p.updateUnits a.n, m := { a.m with noField := 0 } }

/-- No active head's field has been found in ALL_MAX successive wedges. -/
def Ac.servoLost (a : Ac) : Ac :=
  if a.srvOn ∧ loopMode a.mode
      ∧ atLeast1 (a.p.fld (Reg.ARM_LOSS a.n) Fld.ARM_LOSS_ALL_MAX) ≤ a.m.noField then a.enterLost
  else a

/-- LOAD has found an active head's field in 8 successive wedges. -/
def Ac.loadDone (a : Ac) : Bool := (List.range 8).any (fun h => decide (8 ≤ getN a.m.seen h))

/-- LOAD moves to SETTLE on the track of the mean position. -/
def Ac.loadAcquired (a : Ac) : Ac :=
  if a.srvOn ∧ a.mode = 1 ∧ a.loadDone then
    let hs := (heads8 a.active).filter (fun h => a.p.bit (Reg.ARM_PES a.n h) Fld.ARM_PES_FOUND)
    let sum := hs.foldl (fun s h => s + (SMap.get (fun _ => none) a.m.lastY h).getD 0) 0
    let t := 4096 * Int.tdiv sum (4096 * hs.length)
    let m := a.m.clearFilters
    { a with m := { m with v := 0, a := 0, p := t, tgt := t, target := none, noField := 0 } }.enterMode 3
  else a

/-- LOAD has lasted TMO wedges. -/
def Ac.loadTimeout (a : Ac) : Ac :=
  if a.srvOn ∧ a.mode = 1 ∧ a.loadDone = false ∧ a.p.fld (Reg.ARM_LOAD a.n) Fld.ARM_LOAD_TMO ≤ a.m.inLoad then a.enterLost else a

/-- SETTLE_N successive wedges on track move SETTLE to FOLLOW. -/
def Ac.settleComplete (a : Ac) : Ac :=
  if a.srvOn ∧ a.mode = 3 ∧ atLeast1 (a.p.fld (Reg.ARM_SETTLE a.n) Fld.ARM_SETTLE_SETTLE_N) ≤ a.m.settled then a.enterMode 4 else a

/-- The shock hold ends after its last wedge. -/
def Ac.shockHoldEnd (a : Ac) : Ac := if a.srvOn ∧ a.m.shock = 1 then a.setArm (fun m => { m with shock := 0 }) else a

/-- The timeline gains or loses lock (R259). -/
def Ac.timelineLock (a : Ac) (locked : Bool) : Ac := a.setArm (fun m => { m with locked := locked })

/-! ## Servo Drive Link (R255 to R259) -/

/-- The big-endian bytes of the low `8n` bits of a number. -/
def beBytes (n v : Nat) : List Byte := (leBytes n v).reverse

/-- A frame from its fields without the CRC: `n` bytes followed by their CRC-8. -/
def frameCrc (n v : Nat) : Nat := v * 256 + crc8 (beBytes n v)

/-- The fields of an SDL frame (Table ARM-7) without its CRC. -/
def sdlFields (seq : Nat) (vcm : Int) (ma : Nat → Int) (retract vcmEn maEn shock : Bool) (wnum : Nat) : Nat :=
  5 * 2 ^ 148 + seq % 16 * 2 ^ 144 + bitsOf 16 vcm * 2 ^ 128
    + (List.range 8).foldl (fun s h => s + bitsOf 14 (ma h) * 2 ^ (114 - 14 * h)) 0
    + (if retract then 2 ^ 15 else 0) + (if vcmEn then 2 ^ 14 else 0) + (if maEn then 2 ^ 13 else 0)
    + (if shock then 2 ^ 12 else 0) + wnum % 256

/-- What the frames of the mode carry (Table ARM-5). -/
def Ac.sdlContent (a : Ac) : Nat :=
  let zero : Nat → Int := fun _ => 0
  let sh := a.m.shock != 0
  match a.mode with
  | 0 => sdlFields a.m.sdlSeq 0 zero false false false sh a.wnum
  | 1 => sdlFields a.m.sdlSeq (a.p.sfld (Reg.ARM_LOAD a.n) Fld.ARM_LOAD_CMD) zero false true false sh a.wnum
  | 5 => sdlFields a.m.sdlSeq 0 zero true false false sh a.wnum
  | 6 => sdlFields a.m.sdlSeq 0 zero true false false sh a.wnum
  | 7 => sdlFields a.m.sdlSeq (a.p.sfld (Reg.ARM_DIRECT a.n 0) Fld.ARM_DIRECT_VALUE)
           (fun h => signed 14 (a.p.fld (Reg.ARM_DIRECT a.n (h + 1)) Fld.ARM_DIRECT_VALUE)) false true true sh a.wnum
  | _ => sdlFields a.m.sdlSeq a.m.uv (fun h => getZ a.m.um h) false true (a.bankFlag 1) sh a.wnum

/-- An SDL frame is sent; `late` when it fell due while the last was still being sent. -/
def Ac.sdlSend (a : Ac) (late : Bool) : Ac :=
  if a.srvOn ∧ a.p.bit (Reg.ARM_SDL_CFG a.n) Fld.ARM_SDL_CFG_EN then
    let a := if late then a.armFlag Fld.ARM_EVT_SDL_LATE else a
    a.setArm (fun m => { m with sdl := frameCrc 19 a.sdlContent, sdlSeq := (m.sdlSeq + 1) % 16 })
  else a

/-- Whether a driver's status word has TYPE `ty` and a good CRC. -/
def driverGood (ty : Nat) (w : Word) : Bool := w.toNat / 2 ^ 28 == ty && crc8 (beBytes 3 (w.toNat / 256)) == w.toNat % 256

/-- The driver's status word arrives (R257). -/
def Ac.sdlStatus (a : Ac) (w : Word) : Ac :=
  if a.srvOn ∧ a.p.bit (Reg.ARM_SDL_CFG a.n) Fld.ARM_SDL_CFG_EN then
    let r := Reg.ARM_SDL_STAT a.n
    if driverGood 6 w then
      { a with p := a.p.setFld r Fld.ARM_SDL_STAT_WORD (w.toNat / 256), m := { a.m with shocked := w.getLsbD 23 } }
    else { a with p := a.p.setFld r Fld.ARM_SDL_STAT_BAD (min 0xFF (a.p.fld r Fld.ARM_SDL_STAT_BAD + 1)) }
  else a

/-! ## Spindle Link (R260) -/

/-- The mode in force: 4 to 15 act as OFF. -/
def Plat.splMode (p : Plat) : Nat :=
  if p.fld Reg.SPL_CTRL Fld.SPL_CTRL_MODE < 4 then p.fld Reg.SPL_CTRL Fld.SPL_CTRL_MODE else 0

/-- Whether the spindle controller runs: Armature 0's domain on and EN 1. -/
def Plat.splOn (p : Plat) : Bool := p.on 3 && p.bit Reg.SPL_CTRL Fld.SPL_CTRL_EN

/-- The integrator after a wedge of period `per`, and the DEMAND. -/
def splDemand (p : Plat) (x : Spl) (per : Nat) : Spl × Int :=
  match p.splMode with
  | 1 => (x, p.sfld Reg.SPL_CTRL Fld.SPL_CTRL_START_DEM)
  | 2 =>
    let err : Int := per - p.fld Reg.SPL_CFG Fld.SPL_CFG_TARGET
    let i := x.integ + err
    ({ x with integ := i },
     clampInt (-32767) 32767 (Int.tdiv err (2 ^ p.fld Reg.SPL_CFG Fld.SPL_CFG_KP)
       + Int.tdiv i (2 ^ (p.fld Reg.SPL_CFG Fld.SPL_CFG_KI + 8))))
  | _ => (x, 0)

/-- A Spindle Link frame is sent; `per` the measured wedge period in 1/16 SRV clocks, used in RUN. -/
def splSend (p : Plat) (x : Spl) (per : Nat) : Plat × Spl :=
  if p.splOn then
    let r := splDemand p x per
    let f := 3 * 2 ^ 52 + x.seq % 16 * 2 ^ 48 + p.splMode * 2 ^ 44 + bitsOf 16 r.2 * 2 ^ 24
    (p.setFld Reg.SPL_STAT Fld.SPL_STAT_DEMAND (bitsOf 16 r.2),
     { r.1 with frame := frameCrc 7 f, seq := (x.seq + 1) % 16 })
  else (p, x)

/-- The spindle driver's status word arrives: FLAGS and SPEED, or a bad word counted; FAULT and a bad word set ARM_EVT.SPL. -/
def splStatus (p : Plat) (w : Word) : Plat :=
  if p.splOn then
    if driverGood 7 w then
      let p := (p.setFld Reg.SPL_STAT Fld.SPL_STAT_FLAGS (w.toNat / 2 ^ 16)).setFld Reg.SPL_SPEED Fld.SPL_SPEED_SPEED (w.toNat / 2 ^ 8)
      p.setFlagIf (w.getLsbD 23) (Reg.ARM_EVT 0) Fld.ARM_EVT_SPL
    else
      (p.setFld Reg.SPL_STAT Fld.SPL_STAT_BAD (min 0xFF (p.fld Reg.SPL_STAT Fld.SPL_STAT_BAD + 1))).setFlag
        (Reg.ARM_EVT 0) Fld.ARM_EVT_SPL
  else p

/-- A write of SPL_CTRL: the integrator is cleared (R260). -/
def splCtrlWrite (p : Plat) (x : Spl) (v : Word) : Plat × Spl :=
  if p.on 3 then (p.fwWrite Reg.SPL_CTRL v, { x with integ := 0 }) else (p, x)

end Sys2Proof.Machine
end

