-- ==== Sys2Proof/Machine/KeepOps.lean ====
section
/-! DEFINITION. The Keep flash: cells behind the remap table, commands and their pulses, wear, brown-out, intent records, regions,
reads of the window, streams (R353 to R373). -/

namespace Sys2Proof.Machine

/-- What an unlisted cell of the Keep reads as: erased (R354). -/
def erasedByte : Nat → Byte := fun _ => 0xFF
/-- The info row of a sector never erased. -/
def infoReset : Nat → KInfo := fun _ => ⟨0, 0, false⟩
/-- A region never defined. -/
def regionReset : Nat → KRegion := fun _ => ⟨0, 0, none, false⟩

/-! ## Addresses (R353, R360) -/

/-- The bank of sector `s`. -/
def bankOf (s : Nat) : Nat := if s < 16384 then 0 else 1
/-- The cell of byte `o` of spare `i` of bank `b`. -/
def spareCell (b i o : Nat) : Nat := 2 ^ 27 + b * 2 ^ 18 + i * 4096 + o
/-- The cell at which sector `s` begins. -/
def Keep.base (k : Keep) (s : Nat) : Nat :=
  match SMap.get (fun _ => 0) k.remap s with
  | 0 => 4096 * s
  | i + 1 => spareCell (bankOf s) i 0
/-- The key of the info row behind sector `s`. -/
def Keep.infoKey (k : Keep) (s : Nat) : Nat :=
  match SMap.get (fun _ => 0) k.remap s with
  | 0 => s
  | i + 1 => 32768 + 64 * bankOf s + i
/-- The `n` bytes from Keep offset `o`, which stay within one sector. -/
def Keep.bytes (k : Keep) (o n : Nat) : List Byte := SMap.bytes erasedByte k.cells (k.base (o / 4096) + o % 4096) n
/-- Byte by byte, so that a range may cross sectors. -/
def Keep.read (k : Keep) (o n : Nat) : List Byte := (List.range n).flatMap (fun i => k.bytes (o + i) 1)

/-! ## What the registers show (R364, R375) -/

/-- The command under way on bank `b`. -/
def Keep.running (k : Keep) (b : Nat) : Option KCmd := SMap.get (fun _ => none) k.cmd b
/-- The pending record of bank `b`. -/
def Keep.pending (k : Keep) (b : Nat) : Option KPend := SMap.get (fun _ => none) k.pend b
/-- READY of bank `b`: scanned and idle. -/
def Keep.ready (k : Keep) (b : Nat) : Bool := SMap.get (fun _ => false) k.scanned b && (k.running b).isNone
/-- Region `n`. -/
def Keep.region (k : Keep) (n : Nat) : KRegion := SMap.get regionReset k.regions n
/-- A region is locked when it has a password and its latch is clear. -/
def KRegion.locked (r : KRegion) : Bool := r.pw.isSome && !r.latch

/-- KEEP_INTENTb of a pending record. -/
def intentWord (x : Option KPend) : Nat := match x with | some r => 2 ^ 31 + r.sector % 2 ^ 15 | none => 0

/-- The registers take the controller's values while the Keep interface is on. -/
def keepShow (p : Plat) (k : Keep) : Plat :=
  if p.on 29 then
    let flag := fun (b : Bool) (i : Nat) => if b then 2 ^ i else 0
    let st := flag (k.ready 0) 31 + flag (k.ready 1) 30 + flag k.brown 29
      + getNat k.lastOp 1 * 2 ^ 12 + getNat k.lastRes 1 * 2 ^ 8 + getNat k.lastOp 0 * 2 ^ 4 + getNat k.lastRes 0
    let p := p.wr Reg.KEEP_STATUS (BitVec.ofNat 32 st)
    let p := (p.wr Reg.KEEP_INFO_LO (BitVec.ofNat 32 k.infoLo)).wr Reg.KEEP_INFO_HI (BitVec.ofNat 32 k.infoHi)
    let p := [0, 1].foldl (fun p b => p.wr (Reg.KEEP_INTENT b) (BitVec.ofNat 32 (intentWord (k.pending b)))) p
    let p := (p.setFld Reg.KEEP_SPARE Fld.KEEP_SPARE_LEFT0 (64 - getNat k.used 0)).setFld
      Reg.KEEP_SPARE Fld.KEEP_SPARE_LEFT1 (64 - getNat k.used 1)
    let p := p.setFld Reg.KEEP_PW_FAIL Fld.KEEP_PW_FAIL_COUNT k.pwFail
    (List.range 16).foldl (fun p n =>
      let r := k.region n
      (p.wr (Reg.KEEP_REGION_LO n) (BitVec.ofNat 32 (r.count * 2 ^ 16 + r.start))).wr (Reg.KEEP_REGION_HI n)
        (BitVec.ofNat 32 (flag (r.count != 0) 2 + flag r.pw.isSome 1 + flag r.locked 0))) p
  else p
where
  /-- A number of a table whose default is 0. -/
  getNat (m : SMap Nat) (i : Nat) : Nat := SMap.get (fun _ => 0) m i

/-- A state of the Keep with its registers shown. -/
def keepPut (p : Plat) (k : Keep) : Plat × Keep := (keepShow p k, k)

/-! ## Protection (R367) -/

/-- Whether sector `s` lies in a defined and locked region. -/
def Keep.isProtected (k : Keep) (s : Nat) : Bool :=
  (List.range 16).any (fun n =>
    let r := k.region n
    r.locked && decide (r.start ≤ s) && decide (s < r.start + r.count))

/-- Every unlock latch clears. -/
def Keep.lockAll (k : Keep) : Keep :=
  { k with regions := (List.range 16).foldl (fun m n => SMap.set regionReset m n { SMap.get regionReset m n with latch := false }) k.regions }

/-! ## Ending a command (R356) -/

/-- The KEEP_EVT flag a result sets beside DONE. -/
def resultFlag (r : Nat) : Option Fld :=
  match r with
  | 4 => some Fld.KEEP_EVT_PROGRAM_FAIL
  | 5 => some Fld.KEEP_EVT_ERASE_FAIL
  | 6 => some Fld.KEEP_EVT_BROWNOUT
  | 8 => some Fld.KEEP_EVT_PW_LOCKOUT
  | _ => none

/-- Set a flag of KEEP_EVT, if the interface is on. -/
def keepFlag (p : Plat) (f : Fld) : Plat := p.setFlagIf (p.on 29) Reg.KEEP_EVT f

/-- Count on KEEP_CNT `i`, if the interface is on. -/
def keepCount (p : Plat) (i : Nat) : Plat := if p.on 29 then p.bump (Reg.KEEP_CNT_LO i) 1 Reg.KEEP_EVT Fld.KEEP_EVT_CNT_SAT else p

/-- The command of bank `b` ends: RESULT and OP, DONE, the result's flag; a password is cleared after use. -/
def keepEnd (p : Plat) (k : Keep) (b op r : Nat) : Plat × Keep :=
  let k := { k with cmd := SMap.set (fun _ => none) k.cmd b none,
                    lastOp := SMap.set (fun _ => 0) k.lastOp b op, lastRes := SMap.set (fun _ => 0) k.lastRes b r }
  let p := keepFlag p Fld.KEEP_EVT_DONE
  let p := match resultFlag r with | some f => keepFlag p f | none => p
  let p := if op = 6 ∨ op = 7 then (p.wr Reg.KEEP_PW_LO 0).wr Reg.KEEP_PW_HI 0 else p
  keepPut p k

/-! ## Issue (R356, R365) -/

/-- Whether a running stream spans bank `b`. -/
def Keep.streams (k : Keep) (b : Nat) : Bool :=
  match k.stream with
  | none => false
  | some (src, _, len, _) => decide (src < (b + 1) * 2 ^ 26) && decide (b * 2 ^ 26 < src + len)

/-- The page buffer. -/
def Plat.pageBuf (p : Plat) : List Byte := (List.range 64).flatMap (fun w => le4 (p.rd (Reg.KEEP_PAGEBUF w)).toNat)

/-- SOFT and HARD in force: SOFT 0 acts as 1; HARD above 32 as 32, at or below SOFT as SOFT + 1. -/
def Plat.wearLimits (p : Plat) : Nat × Nat :=
  let s := atLeast1 (p.fld Reg.KEEP_WEAR_CFG Fld.KEEP_WEAR_CFG_SOFT)
  let h := min 32 (p.fld Reg.KEEP_WEAR_CFG Fld.KEEP_WEAR_CFG_HARD)
  (s, if h ≤ s then s + 1 else h)

/-- Whether programming `new` over `old` would change a bit from 0 to 1. -/
def needsErase : List Byte → List Byte → Bool
  | o :: os, n :: ns => ((n &&& ~~~ o) != 0 && n != 0xFF) || needsErase os ns
  | _, _ => false

/-- The result a PROGRAM, ERASE or REMAP meets before its first pulse, none where it goes on. -/
def Keep.refusal (k : Keep) (op addr : Nat) (latch : List Byte) : Option Nat :=
  let s := addr / 4096
  let b := bankOf s
  let other : Bool := match k.pending b with | some r => r.sector != s | none => false
  let same : Bool := match k.pending b with | some r => r.sector == s | none => false
  match op with
  | 1 =>
    if addr % 256 ≠ 0 then some 2 else if same then some 0xA else if k.isProtected s then some 1
    else if needsErase (k.bytes addr 256) latch then some 3 else none
  | 2 =>
    if addr % 4096 ≠ 0 then some 2 else if other then some 0xA else if k.isProtected s ∧ same = false then some 1 else none
  | 4 =>
    if addr % 4096 ≠ 0 then some 2 else if other then some 0xA else if k.isProtected s then some 1
    else if 64 ≤ SMap.get (fun _ => 0) k.used b then some 9 else none
  | _ => none

/-- COUNT and WARN that the erase of a command starts from: the pending record's, else the info row's. -/
def Keep.eraseFrom (k : Keep) (op addr : Nat) : Nat × Bool :=
  let s := addr / 4096
  let b := bankOf s
  if op = 4 then
    let i := SMap.get infoReset k.info (32768 + 64 * b + SMap.get (fun _ => 0) k.used b)
    (i.count, i.warn)
  else
    match k.pending b with
    | some r => (r.count, r.warn)
    | none => let i := SMap.get infoReset k.info (k.infoKey s); (i.count, i.warn)

/-- A write of KEEP_CMD: refused while its bank runs a command or a stream spans it; ended at once for a reserved OP or under
brown-out; else it starts. -/
def keepIssue (p : Plat) (k : Keep) (op region : Nat) : Plat × Keep :=
  let addr := p.fld Reg.KEEP_ADDR Fld.KEEP_ADDR_OFS
  let b := if 5 ≤ op ∧ op ≤ 8 then 0 else bankOf (addr / 4096)
  if k.ready b = false ∨ k.streams b then (p.setFlag Reg.KEEP_EVT Fld.KEEP_EVT_CMD_REFUSED, k)
  else if op = 0 ∨ 8 < op then keepEnd p k b op 0xF
  else if k.brown then keepEnd p k b op 6
  else
    let latch := p.pageBuf
    let e := k.eraseFrom op addr
    let w := p.wearLimits
    let pw := (p.rd Reg.KEEP_PW_LO).toNat + 2 ^ 32 * (p.rd Reg.KEEP_PW_HI).toNat
    let c : KCmd :=
      { op := op, addr := addr, region := region, arg := p.fld Reg.KEEP_ARG Fld.KEEP_ARG_COUNT, pw := pw, soft := w.1, hard := w.2,
        latch := latch, spare := SMap.get (fun _ => 0) k.used b, page := 0, pulses := 0, count := e.1, warn := e.2,
        result := k.refusal op addr latch }
    let k := if (op = 2 ∨ op = 4) ∧ c.result = none then
        { k with seq := SMap.set (fun _ => 0) k.seq b (SMap.get (fun _ => 0) k.seq b + 1) } else k
    keepPut p { k with cmd := SMap.set (fun _ => none) k.cmd b (some c) }

/-! ## Pulses (R357 to R360) -/

/-- The bytes a program pulse leaves: a bit to be 0 becomes 0 unless `stuck` holds it. -/
def programBytes : List Byte → List Byte → List Byte → List Byte
  | o :: os, n :: ns, ss => (o &&& (n ||| ss.headD 0)) :: programBytes os ns ss.tail
  | _, _, _ => []

/-- The bytes asked for: every bit to be 0 is 0. -/
def wantBytes (old new : List Byte) : List Byte := programBytes old new []

/-- Change the command of bank `b`. -/
def Keep.setCmd (k : Keep) (b : Nat) (c : KCmd) : Keep := { k with cmd := SMap.set (fun _ => none) k.cmd b (some c) }

/-- Write cells. -/
def Keep.store (k : Keep) (at0 : Nat) (bs : List Byte) : Keep := { k with cells := SMap.store erasedByte k.cells at0 bs }

/-- One program pulse and its verify on the page at cell `cell`: the state, and whether the page has verified. -/
def Keep.programPulse (k : Keep) (cell : Nat) (latch stuck : List Byte) : Keep × Bool :=
  let old := SMap.bytes erasedByte k.cells cell 256
  let new := programBytes old latch stuck
  (k.store cell new, new == wantBytes old latch)

/-- An erase has ended after `c.pulses` pulses: the info row is programmed afresh, WARN and its event above SOFT (R358, R359). -/
def eraseDone (p : Plat) (k : Keep) (c : KCmd) (key : Nat) (failed : Bool) : Plat × Keep :=
  let late : Bool := decide (c.soft < c.pulses)
  let count := min 0xFFFFFF (c.count + 1)
  let k := { k with info := SMap.set infoReset k.info key ⟨count, c.pulses, c.warn || late || failed⟩ }
  let p := if failed then p else keepCount p 0
  if late ∨ failed then
    ((keepFlag p Fld.KEEP_EVT_WEAR_WARN).post 89 0x0008 (le4 key ++ leBytes 3 count ++ [BitVec.ofNat 8 c.pulses]), k)
  else (p, k)

/-- The free bytes of cells whose contents the manual leaves indeterminate. -/
def Plat.freeBytes (p : Plat) (n : Nat) : List Byte := leBytes n p.freeVal

/-- A pulse of an erase ends: of the sector at `cell` with info row `key`; whether it verified. Answers the state, the command and
whether the erase is over with ERASE_FAIL (`some true`) or well (`some false`). -/
def erasePulse (p : Plat) (k : Keep) (c : KCmd) (cell key : Nat) (ok : Bool) : Plat × Keep × KCmd × Option Bool :=
  let c := { c with pulses := c.pulses + 1 }
  let p := keepCount p 2
  if ok then
    let r := eraseDone p (k.store cell (List.replicate 4096 0xFF)) c key false
    (r.1, r.2, c, some false)
  else if c.hard ≤ c.pulses then
    let r := eraseDone p (k.store cell (p.freeBytes 4096)) c key true
    (r.1.useFree, r.2, c, some true)
  else (p, k, c, none)

/-- A program or erase pulse of bank `b` and its verify end (`stuck`: the bits that have not changed yet). -/
def keepPulse (p : Plat) (k : Keep) (b : Nat) (stuck : List Byte) : Plat × Keep :=
  match k.running b with
  | none => (p, k)
  | some c =>
    let s := c.addr / 4096
    let ok := stuck.all (fun x => x == 0)
    if c.result.isSome then (p, k)
    else match c.op with
    | 1 =>
      let r := k.programPulse (k.base s + c.addr % 4096) c.latch stuck
      let c := { c with pulses := c.pulses + 1 }
      if r.2 then (keepCount p 1, r.1.setCmd b { c with result := some 0 })
      else (p, r.1.setCmd b { c with result := if 24 ≤ c.pulses then some 4 else none })
    | 2 =>
      let r := erasePulse p k c (k.base s) (k.infoKey s) ok
      match r.2.2.2 with
      | none => (r.1, r.2.1.setCmd b r.2.2.1)
      | some failed =>
        keepPut r.1 ({ r.2.1 with pend := SMap.set (fun _ => none) r.2.1.pend b none }.setCmd b
          { r.2.2.1 with result := some (if failed then 5 else 0) })
    | 4 =>
      let cell := spareCell b c.spare 0
      if c.page = 0 then
        let r := erasePulse p k c cell (32768 + 64 * b + c.spare) ok
        match r.2.2.2 with
        | none => (r.1, r.2.1.setCmd b r.2.2.1)
        | some true =>
          spareUsed r.1 (r.2.1.setCmd b { r.2.2.1 with result := some 5 }) b
        | some false => (r.1, r.2.1.setCmd b { r.2.2.1 with page := 1, pulses := 0, latch := k.bytes c.addr 256 })
      else
        let o := 256 * (c.page - 1)
        let r := k.programPulse (cell + o) c.latch stuck
        let c := { c with pulses := c.pulses + 1 }
        if r.2 then
          if c.page = 16 then
            let k := { r.1 with remap := SMap.set (fun _ => 0) r.1.remap s (c.spare + 1) }
            spareUsed (keepCount p 1) (k.setCmd b { c with result := some 0 }) b
          else
            (keepCount p 1, r.1.setCmd b { c with page := c.page + 1, pulses := 0, latch := k.bytes (c.addr + o + 256) 256 })
        else if 24 ≤ c.pulses then spareUsed p (r.1.setCmd b { c with result := some 4 }) b
        else (p, r.1.setCmd b c)
    | _ => (p, k)
where
  /-- The spare is counted as used; SPARE_LOW when 8 are left. -/
  spareUsed (p : Plat) (k : Keep) (b : Nat) : Plat × Keep :=
    let n := SMap.get (fun _ => 0) k.used b + 1
    let p := if n = 56 then keepFlag p Fld.KEEP_EVT_SPARE_LOW else p
    keepPut p { k with used := SMap.set (fun _ => 0) k.used b n }

/-! ## The commands without pulses (R359, R365, R367) -/

/-- What INFO shows of a sector: LO and HI. -/
def Keep.infoWords (k : Keep) (s : Nat) : Nat × Nat :=
  let i := SMap.get infoReset k.info (k.infoKey s)
  let m := SMap.get (fun _ => 0) k.remap s
  let moved := if m = 0 then 0 else 2 ^ 30 + (m - 1)
  match k.pending (bankOf s) with
  | some r =>
    if r.sector = s then (i.pulses * 2 ^ 24 + r.count, (if r.warn then 2 ^ 31 else 0) + moved + 2 ^ 29)
    else (i.pulses * 2 ^ 24 + i.count, (if i.warn then 2 ^ 31 else 0) + moved)
  | none => (i.pulses * 2 ^ 24 + i.count, (if i.warn then 2 ^ 31 else 0) + moved)

/-- Put region `n`. -/
def Keep.setRegion (k : Keep) (n : Nat) (r : KRegion) : Keep := { k with regions := SMap.set regionReset k.regions n r }

/-- The password of a region without one, as the erased cells hold it. -/
def noPassword : Nat := 2 ^ 64 - 1

/-- The effect and the result of a command without pulses. -/
def Keep.runPlain (k : Keep) (c : KCmd) : Keep × Nat :=
  let r := k.region c.region
  match c.op with
  | 3 =>
    if c.addr % 4096 ≠ 0 then (k, 2)
    else
      let w := k.infoWords (c.addr / 4096)
      ({ k with infoLo := w.1, infoHi := w.2 }, 0)
  | 5 =>
    if c.addr % 4096 ≠ 0 ∨ 32768 < c.addr / 4096 + c.arg then (k, 2)
    else if r.locked then (k, 7)
    else (k.setRegion c.region { r with start := c.addr / 4096, count := c.arg, latch := true }, 0)
  | 6 =>
    if r.locked then (k, 7)
    else (k.setRegion c.region { r with pw := if c.pw = noPassword then none else some c.pw, latch := true }, 0)
  | 7 =>
    if 8 ≤ k.pwFail then (k, 8)
    else if r.pw.getD noPassword = c.pw then (k.setRegion c.region { r with latch := true }, 0)
    else ({ k with pwFail := k.pwFail + 1 }, if k.pwFail + 1 = 8 then 8 else 7)
  | _ => (k.setRegion c.region { r with latch := false }, 0)

/-- A command of bank `b` ends: one without pulses has its effect now, one with pulses when its result is decided. -/
def keepCommandEnd (p : Plat) (k : Keep) (b : Nat) : Plat × Keep :=
  match k.running b with
  | none => (p, k)
  | some c =>
    if c.op = 1 ∨ c.op = 2 ∨ c.op = 4 then
      match c.result with
      | none => (p, k)
      | some r => keepEnd p k b c.op r
    else
      let r := k.runPlain c
      keepEnd p r.1 b c.op r.2

/-! ## Brown-out and loss of power (R361, R362) -/

/-- What a command cut before its result was decided leaves: of a PROGRAM a subset of the zero bits, of an ERASE a sector of free
contents and its pending record, of a REMAP the old mapping. -/
def keepCut (p : Plat) (k : Keep) (b : Nat) (c : KCmd) : Plat × Keep :=
  let s := c.addr / 4096
  if c.result.isSome then (p, k)
  else match c.op with
  | 1 => (p.useFree, (k.programPulse (k.base s + c.addr % 4096) c.latch (p.freeBytes 256)).1)
  | 2 =>
    let k := k.store (k.base s) (p.freeBytes 4096)
    (p.useFree, { k with pend := SMap.set (fun _ => none) k.pend b (some ⟨s, c.count, c.warn⟩) })
  | _ => (p, k)

/-- Brown-out ends the command of bank `b` with BROWNOUT, unless its result is decided. -/
def keepBrown (p : Plat) (k : Keep) (b : Nat) : Plat × Keep :=
  match k.running b with
  | none => (p, k)
  | some c =>
    if c.result.isSome then (p, k)
    else
      let r := keepCut p k b c
      keepEnd r.1 r.2 b c.op 6

/-- Brown-out asserts: both banks. -/
def keepBrownout (p : Plat) (k : Keep) : Plat × Keep :=
  let r := keepBrown p { k with brown := true } 0
  let r := keepBrown r.1 r.2 1
  keepPut r.1 r.2

/-- Brown-out clears. -/
def keepBrownClear (p : Plat) (k : Keep) : Plat × Keep := keepPut p { k with brown := false }

/-- Power-on reset of the controller: a command under way is cut as by loss of power, latches and wrong UNLOCKs clear, the scan is
still to come. -/
def keepPowerOn (p : Plat) (k : Keep) : Plat × Keep :=
  let cut := fun (r : Plat × Keep) (b : Nat) => match r.2.running b with | some c => keepCut r.1 r.2 b c | none => r
  let r := cut (cut (p, k) 0) 1
  (r.1, { r.2.lockAll with
    cmd := [], lastOp := [], lastRes := [], scanned := [], pwFail := 0, infoLo := 0, infoHi := 0, brown := false, stream := none })

/-- The scan of both banks has ended (R364). -/
def keepScanned (p : Plat) (k : Keep) : Plat × Keep := keepPut p { k with scanned := [(0, true), (1, true)] }

/-! ## Reads of the window (R355) -/

/-- A read of `n` bytes at Keep offset `o` by core `c`: a bus error while a command runs on the bank. -/
def keepWindowRead (p : Plat) (k : Keep) (c o n : Nat) : Plat :=
  let a := 0x10000000 + o
  if p.on 29 = false then { p.busErr a c false 4 with resp := 0xFFFFFFFF }
  else if (k.running (bankOf (o / 4096))).isSome then
    { (p.busErr a c false 8).setFlag Reg.KEEP_EVT Fld.KEEP_EVT_BUSY_READ with resp := 0xFFFFFFFF }
  else { p with resp := BitVec.ofNat 32 (leNat (k.read o n)) }

/-! ## Continuous read (R372, R373) -/

/-- The destination address of KEEP_STR_DST. -/
def Plat.strDst (p : Plat) : Nat := (p.rd Reg.KEEP_STR_DST_LO).toNat + 2 ^ 32 * p.fld Reg.KEEP_STR_DST_HI Fld.KEEP_STR_DST_HI_DST

/-- Whether `len` bytes at `dst` lie wholly in control SRAM or in usable buffer. -/
def Plat.strDstOk (p : Plat) (dst len : Nat) : Bool :=
  (decide (0x20000000 ≤ dst) && decide (dst + len ≤ 0x20400000))
    || (decide (0x1000000000 ≤ dst) && decide (dst + len ≤ 0x1000000000 + 4096 * p.fld Reg.BUF_USABLE Fld.BUF_USABLE_PAGES))

/-- The stream ends with ERR and BYTES. -/
def streamDone (p : Plat) (k : Keep) (err bytes : Nat) : Plat × Keep :=
  let p := p.wr Reg.KEEP_STR_STAT (BitVec.ofNat 32 (err * 2 ^ 28 + bytes))
  (p.setFlag Reg.KEEP_EVT (if err = 0 then Fld.KEEP_EVT_STREAM_DONE else Fld.KEEP_EVT_STREAM_ERR), { k with stream := none })

/-- A write of KEEP_STR_CTRL.START. -/
def streamStart (p : Plat) (k : Keep) : Plat × Keep :=
  let src := p.fld Reg.KEEP_STR_SRC Fld.KEEP_STR_SRC_SRC
  let len := p.fld Reg.KEEP_STR_LEN Fld.KEEP_STR_LEN_LEN
  let dst := p.strDst
  if k.stream.isSome then (p.setFlag Reg.KEEP_EVT Fld.KEEP_EVT_CMD_REFUSED, k)
  else if src % 32 ≠ 0 ∨ dst % 32 ≠ 0 ∨ len % 32 ≠ 0 ∨ len = 0 ∨ 0x1000000 < len ∨ 0x8000000 < src + len
      ∨ p.strDstOk dst len = false then streamDone p k 4 0
  else
    let k' := { k with stream := some (src, dst, len, none) }
    if (k'.streams 0 && (k.running 0).isSome) || (k'.streams 1 && (k.running 1).isSome) then streamDone p k 1 0
    else (p.wr Reg.KEEP_STR_STAT 0x80000000, k')

/-- Deliver `n` bytes from Keep offset `src` to system address `dst`: page by page into the buffer, as core 0. Answers what was
delivered and whether no destination refused. -/
def deliver (p : Plat) (f : Buf) (y : Sys) (k : Keep) (src dst n : Nat) : Plat × Buf × Sys × Nat × Bool :=
  if dst < 0x1000000000 then
    (p, f, { y with sram := SMap.store zeroByte y.sram (dst - 0x20000000) (k.read src n) }, n, true)
  else
    let a := dst - 0x1000000000
    let r := (List.range ((a + n + 4095) / 4096 - a / 4096)).foldl (fun (s : Plat × Buf × Nat × Bool) i =>
      if s.2.2.2 then
        let lo := max a (4096 * (a / 4096 + i))
        let hi := min (a + n) (4096 * (a / 4096 + i + 1))
        let w := bufWrite s.1 s.2.1 (.core 0) lo (k.read (src + (lo - a)) (hi - lo))
        if w.2.2 then (w.1, w.2.1, s.2.2.1 + (hi - lo), true) else (w.1, w.2.1, s.2.2.1, false)
      else s) (p, f, 0, true)
    (r.1, r.2.1, y, r.2.2.1, r.2.2.2)

/-- A write of KEEP_STR_CTRL.STOP: the stream under way ends after the line in progress, when `n` bytes, whole lines of 32, have
been delivered. -/
def streamStop (k : Keep) (n : Nat) : Keep :=
  match k.stream with
  | some (src, dst, len, none) => { k with stream := some (src, dst, len, some (min len (n / 32 * 32))) }
  | _ => k

/-- The stream under way ends: all of it delivered, with ERR 3 what STOP left of it, or with ERR 2 at a destination that
refuses. -/
def streamFinish (p : Plat) (f : Buf) (y : Sys) (k : Keep) : Plat × Buf × Sys × Keep :=
  match k.stream with
  | none => (p, f, y, k)
  | some (src, dst, len, stop) =>
    let r := deliver p f y k src dst (stop.getD len)
    let e := streamDone r.1 k (if r.2.2.2.2 then (if stop.isSome then 3 else 0) else 2) r.2.2.2.1
    (e.1, r.2.1, r.2.2.1, e.2)

end Sys2Proof.Machine
end

