-- ==== Sys2Proof/Machine/BclOps.lean ====
section
/-! DEFINITION. The BIST and calibration block: the memory self-test, the loop-back test, the reference check, and the ADC slice
trims (R431 to R439). -/

namespace Sys2Proof.Machine

/-! ## Memory self-test (R431 to R434) -/

/-- The units and the size in bytes of memory MEM (Table SEC-3); no unit where MEM names no memory. -/
def mbShape (mem : Nat) : Nat × Nat :=
  match mem with
  | 0 => (16, 0x400000)
  | 1 => (5, 0x80000)
  | 2 => (5, 0x40000)
  | 3 => (4, 276480)
  | 4 => (4, 0x200000)
  | 5 => (16, 0x200000)
  | 6 => (16, 0x80000)
  | _ => (0, 0)

/-- The power domain in which unit `u` of memory MEM lies; control SRAM lies with the L2. -/
def mbDomain (mem u : Nat) : Nat :=
  match mem with
  | 0 => 27
  | 4 => 4 * u + 1
  | 5 => 21 + u / 4
  | 6 => 30
  | _ => if u = 4 then 35 else 4 * u + 2

/-- The precondition at GO of Table SEC-3. -/
def mbReady (p : Plat) (f : Buf) (mem u : Nat) : Bool :=
  match mem with
  | 0 => true
  | 5 => (p.rd Reg.STC_FENCE).getLsbD u && f.wayClean.testBit u
  | 6 => p.frozen
  | _ => !p.bit (Reg.TSQ_CTRL u) Fld.TSQ_CTRL_RUN && !p.bit (Reg.TSQ_STATUS u) Fld.TSQ_STATUS_BUSY

/-- Whether a test may start: the range of R431, the domains, the precondition. -/
def mbMayStart (p : Plat) (f : Buf) (t : MbTest) : Bool :=
  let s := mbShape t.mem
  decide (t.unit < s.1) && t.addr % 32 == 0 && t.len % 32 == 0 && decide (32 ≤ t.len) && decide (t.len ≤ 65536)
    && decide (t.addr + t.len ≤ s.2) && p.on (mbDomain t.mem t.unit) && mbReady p f t.mem t.unit

/-- A write of BCL_MB_CTRL.GO: ignored while BUSY; PRECOND where the test may not start. -/
def mbGo (p : Plat) (b : Bcl) (f : Buf) : Plat × Bcl :=
  if p.bit Reg.BCL_MB_STAT Fld.BCL_MB_STAT_BUSY then (p, b)
  else
    let t : MbTest := ⟨p.fld Reg.BCL_MB_CFG Fld.BCL_MB_CFG_MEM, p.fld Reg.BCL_MB_CFG Fld.BCL_MB_CFG_UNIT,
      p.fld Reg.BCL_MB_ADDR Fld.BCL_MB_ADDR_BYTES, p.fld Reg.BCL_MB_LEN Fld.BCL_MB_LEN_BYTES, false⟩
    if mbMayStart p f t then (p.wr Reg.BCL_MB_STAT 0x80000000, { b with mb := some t })
    else (p.setFld Reg.BCL_MB_STAT Fld.BCL_MB_STAT_RESULT 3, b)

/-- Whether a memory test runs on unit `u` of memory `mem`: a register access to it is a bus error of kind 8 (R432). -/
def Bcl.testing (b : Bcl) (mem u : Nat) : Bool :=
  match b.mb with
  | none => false
  | some t => t.mem == mem && t.unit == u

/-- The test under way ends: the number of failing words, the first one's place. A march that brown-out stopped is ABORTED. -/
def mbEnd (p : Plat) (b : Bcl) (bad : List Nat) (bit : Nat) : Plat × Bcl :=
  match b.mb with
  | none => (p, b)
  | some t =>
    let result := if t.stopped then 4 else if bad = [] then 1 else 2
    let p := (p.wr Reg.BCL_MB_STAT 0).setFld Reg.BCL_MB_STAT Fld.BCL_MB_STAT_RESULT result
    let p := p.setFld Reg.BCL_MB_STAT Fld.BCL_MB_STAT_NFAIL (min bad.length 0xFFFF)
    let p := match bad with
      | [] => p.wr Reg.BCL_MB_FAIL 0
      | o :: _ => (p.setFld Reg.BCL_MB_FAIL Fld.BCL_MB_FAIL_ADDR o).setFld Reg.BCL_MB_FAIL Fld.BCL_MB_FAIL_BIT bit
    (p.setFlag Reg.BCL_EVT Fld.BCL_EVT_MB_DONE, { b with mb := none })

/-- Brown-out stops the march (R434). -/
def Bcl.brownout (b : Bcl) : Bcl :=
  match b.mb with
  | none => b
  | some t => { b with mb := some { t with stopped := true } }

/-- The `n` bytes at offset `o` of control SRAM take undefined values. -/
def Sys.lose (y : Sys) (v : Nat) (o n : Nat) : Sys := { y with sram := SMap.store zeroByte y.sram o (leBytes n v) }

/-- The `n` bytes at offset `o` of the Frieze log take undefined values. -/
def Frz.lose (f : Frz) (v : Nat) (o n : Nat) : Frz := { f with log := SMap.store zeroByte f.log o (leBytes n v) }

/-- The `n` bytes at offset `o` of a Track Sequencer's maquette store (MEM 1) or control store (MEM 2) take undefined values. The
other memories of Table SEC-3 hold nothing that is in use while their precondition holds. -/
def Tsq.lose (q : Tsq) (mem v o n : Nat) : Tsq :=
  match mem with
  | 1 => { q with store := SMap.store zeroByte q.store o (leBytes n v) }
  | 2 => { q with cs := (List.range (n / 4)).foldl (fun m i => SMap.set (fun _ => 0) m (o / 4 + i) (v / 2 ^ (32 * i) % 2 ^ 32)) q.cs }
  | _ => q

/-! ## Loop-back test (R435, R436) -/

/-- Whether actuator `n` may take a loop-back test. -/
def lbAllowed (p : Plat) (n : Nat) : Bool :=
  let t := p.servedBy n
  p.effAct n == 2 && !p.bit (Reg.TSQ_CTRL t) Fld.TSQ_CTRL_RUN && !p.bit (Reg.TSQ_STATUS t) Fld.TSQ_STATUS_BUSY

/-- A write of BCL_LB_CTRL with GO: ACT, HEAD, AMP and LEN are taken with the write; refused unless R435 allows it; ignored
while BUSY. -/
def lbGo (p : Plat) (b : Bcl) : Plat × Bcl :=
  if b.lb.isSome then (p, b)
  else
    let r := Reg.BCL_LB_CTRL
    let n := p.fld r Fld.BCL_LB_CTRL_ACT
    if lbAllowed p n then
      (p.setFlag r Fld.BCL_LB_CTRL_BUSY,
       { b with lb := some (n, p.fld r Fld.BCL_LB_CTRL_HEAD, p.fld r Fld.BCL_LB_CTRL_AMP,
          atLeast1 (p.fld r Fld.BCL_LB_CTRL_LEN), p.fld Reg.BCL_LB_CFG Fld.BCL_LB_CFG_SLICES) })
    else (p.setFlag Reg.BCL_EVT Fld.BCL_EVT_REFUSED, b)

/-- The gate unit of the tested actuator goes to IDLE and is held there. -/
def Ac.holdIdle (a : Ac) : Ac :=
  let a := a.toCode 0
  { a with g := { a.g with still := true } }

/-- The hold ends. -/
def Ac.freeIdle (a : Ac) : Ac := { a with g := { a.g with still := false } }

/-- One slice's result registers. -/
def lbSlice (p : Plat) (i : Nat) (x : Slice) : Plat :=
  let p := p.wr (Reg.BCL_LB_RES_LO i) (BitVec.ofNat 32 (bitsOf 16 x.offset * 2 ^ 16 + x.ampl % 2 ^ 16))
  p.wr (Reg.BCL_LB_RES_HI i) (BitVec.ofNat 32 ((if x.lock then 2 ^ 31 else 0) + min x.err (2 ^ 31 - 1)))

/-- The loop-back measurement ends with what slice `i` measured at place `i`: the selected slices' results, LB_DONE. -/
def lbEnd (p : Plat) (b : Bcl) (xs : List (Nat × Slice)) : Plat × Bcl :=
  match b.lb with
  | none => (p, b)
  | some (_, _, _, _, slices) =>
    let p := xs.foldl (fun p x => if x.1 < 26 ∧ slices.testBit x.1 then lbSlice p x.1 x.2 else p) p
    ((p.setFld Reg.BCL_LB_CTRL Fld.BCL_LB_CTRL_BUSY 0).setFlag Reg.BCL_EVT Fld.BCL_EVT_LB_DONE, { b with lb := none })

/-! ## Reference check (R437) -/

/-- A write of BCL_REF_CTRL.GO: ignored while a check runs. -/
def refGo (p : Plat) : Plat := p.setFlag Reg.BCL_REF_STAT Fld.BCL_REF_STAT_BUSY

/-- The check ends: BG_A − BG_B in 0.1 mV, and each group's deviation in 0.1%, against TOL_BG and TOL_ADC. -/
def refEnd (p : Plat) (diff : Int) (dev : List Int) : Plat :=
  if p.bit Reg.BCL_REF_STAT Fld.BCL_REF_STAT_BUSY then
    let bg : Bool := decide (p.fld Reg.BCL_REF_CTRL Fld.BCL_REF_CTRL_TOL_BG < diff.natAbs)
    let adc := maskOf ((List.range 4).filter (fun a =>
      decide (p.fld Reg.BCL_REF_CTRL Fld.BCL_REF_CTRL_TOL_ADC < (dev.getD a 0).natAbs)))
    let q := ((p.wr Reg.BCL_REF_STAT 0).setFld Reg.BCL_REF_STAT Fld.BCL_REF_STAT_BG_DIFF (bitsOf 12 diff)).setFld
      Reg.BCL_REF_STAT Fld.BCL_REF_STAT_ADC_FAIL adc
    (q.putBit Reg.BCL_REF_STAT Fld.BCL_REF_STAT_BG_FAIL bg).setFlagIf (bg || adc != 0) Reg.BCL_EVT Fld.BCL_EVT_REF_FAIL
  else p

/-! ## ADC slice trims (R439) -/

/-- One code from APPLIED toward TARGET, both signed bytes. -/
def trimStep (applied target : Nat) : Nat :=
  let a := signed 8 applied
  let t := signed 8 target
  bitsOf 8 (if a < t then a + 1 else if t < a then a - 1 else a)

/-- The trims of slice `i` of actuator `n` step. -/
def adcTrim (p : Plat) (n i : Nat) : Plat :=
  let r := Reg.RFE_ADCTRIM n i
  let p := p.setFld r Fld.RFE_ADCTRIM_OFS_APPLIED
    (trimStep (p.fld r Fld.RFE_ADCTRIM_OFS_APPLIED) (p.fld r Fld.RFE_ADCTRIM_OFS_TARGET))
  p.setFld r Fld.RFE_ADCTRIM_GAIN_APPLIED (trimStep (p.fld r Fld.RFE_ADCTRIM_GAIN_APPLIED) (p.fld r Fld.RFE_ADCTRIM_GAIN_TARGET))

end Sys2Proof.Machine
end

