-- ==== Sys2Proof/Machine/SysOps.lean ====
section
/-! DEFINITION. The SYS block: the interrupt hub, machine timers, counters and snapshots, the watchdog, starting a core, and the
console (R382 to R399, R514). -/

namespace Sys2Proof.Machine

/-! ## Interrupt hub -/

/-- Whether source `i` qualifies for core `c`: pending, EN, TARGET c, PRIO above THR (R383). -/
def Plat.qualifies (p : Plat) (c i : Nat) : Bool :=
  p.pendingSrc i && p.bit (Reg.HUB_SRC i) Fld.HUB_SRC_EN && p.fld (Reg.HUB_SRC i) Fld.HUB_SRC_TARGET == c
    && decide (p.fld (Reg.HUB_THR c) Fld.HUB_THR_THR < p.fld (Reg.HUB_SRC i) Fld.HUB_SRC_PRIO)

/-- The qualifying source of the highest PRIO, the lowest number on a tie (R384). -/
def Plat.bestSrc (p : Plat) (c : Nat) : Option Nat :=
  (List.range 256).foldl (fun best i =>
    if p.qualifies c i then
      match best with
      | none => some i
      | some j =>
        if p.fld (Reg.HUB_SRC j) Fld.HUB_SRC_PRIO < p.fld (Reg.HUB_SRC i) Fld.HUB_SRC_PRIO then some i else some j
    else best) none

/-- A read of HUB_CLAIMc (R384). -/
def hubClaim (p : Plat) (y : Sys) (c : Nat) : Plat × Sys :=
  match p.bestSrc c with
  | none => ({ p with resp := 0 }, y)
  | some i =>
    ({ p.setFlag (Reg.HUB_SRC i) Fld.HUB_SRC_INSVC with resp := BitVec.ofNat 32 (2 ^ 31 + i) },
     { y with claimant := SMap.set (fun _ => 0) y.claimant i c })

/-- A write of source `i` to HUB_COMPLETEc: ends its service if core `c` claimed it; ignored otherwise (R384). -/
def hubComplete (p : Plat) (y : Sys) (c i : Nat) : Plat :=
  if p.bit (Reg.HUB_SRC i) Fld.HUB_SRC_INSVC ∧ SMap.get (fun _ => 0) y.claimant i = c then
    p.setFld (Reg.HUB_SRC i) Fld.HUB_SRC_INSVC 0
  else p

/-- A write of HUB_SWI_SET, and of HUB_SWI_CLR (R386). -/
def Plat.swi (p : Plat) (set : Bool) (v : Word) : Plat :=
  p.wr Reg.HUB_SWI (if set then p.rd Reg.HUB_SWI ||| v else p.rd Reg.HUB_SWI &&& ~~~ v)

/-! ## Machine timers (R387) -/

/-- The compare value of core `c`. -/
def Plat.mtimecmp (p : Plat) (c : Nat) : Nat :=
  (p.rd (Reg.SYS_MTIMECMP_LO c)).toNat + 2 ^ 32 * (p.rd (Reg.SYS_MTIMECMP_HI c)).toNat

/-- The state of core `c`. -/
def Sys.core (y : Sys) (c : Nat) : CoreState := SMap.get (fun _ => ⟨0, true, 0, 0, 0, false⟩) y.cores c

/-- Put the state of core `c`. -/
def Sys.setCore (y : Sys) (c : Nat) (k : CoreState) : Sys :=
  { y with cores := SMap.set (fun _ => ⟨0, true, 0, 0, 0, false⟩) y.cores c k }

/-- The timer interrupt of core `c` is pending while the time base is at or above its compare value. -/
def timerLevel (p : Plat) (y : Sys) (c : Nat) : Sys :=
  y.setCore c { y.core c with mtip := decide (p.mtimecmp c ≤ p.time.toNat) }

/-! ## Counters and snapshots (R394, R395, R397) -/

/-- A write of 1 to SAT of the counter whose HI register is at `hi`: SAT clears and the count becomes 0. -/
def Plat.satClear (p : Plat) (hi : Nat) : Plat := (p.wr (hi - 4) 0).wr hi 0

/-- Whether the register at `a` belongs to a counter whose domain is on. -/
def Plat.liveCounter (p : Plat) (a : Nat) : Bool :=
  match regDesc a with
  | none => false
  | some d => d.cnt != 0 && p.on (domainOf a)

/-- The domains that hold counters. -/
def counterDomains : List Nat := List.range 16 ++ [20, 21, 28, 29, 30, 31, 34]

/-- A write of TRC_SNAP with GO: S is 5,000 ns ahead; ignored while BUSY (R397). -/
def Plat.snapGo (p : Plat) (hold : Bool) : Plat :=
  let p := p.putBit Reg.TRC_SNAP Fld.TRC_SNAP_HOLD hold
  if p.bit Reg.TRC_SNAP_STAT Fld.TRC_SNAP_STAT_BUSY then p
  else
    let s := p.time + 5000
    ((p.setFlag Reg.TRC_SNAP_STAT Fld.TRC_SNAP_STAT_BUSY).wr Reg.TRC_SNAP_TIME_LO (BitVec.ofNat 32 s.toNat)).wr
      Reg.TRC_SNAP_TIME_HI (BitVec.ofNat 32 (s.toNat / 2 ^ 32))

/-- Every powered domain copies its counters into their holding registers; a counter of a domain that is off reads 0 there and
sets MISSED (R397). -/
def Plat.snapCapture (p : Plat) : Plat :=
  if p.bit Reg.TRC_SNAP_STAT Fld.TRC_SNAP_STAT_BUSY then
    let q := { p with hold := p.regs.filter (fun e => p.liveCounter e.1) }
    let q := (q.setFld Reg.TRC_SNAP_STAT Fld.TRC_SNAP_STAT_BUSY 0).setFlag Reg.TRC_SNAP_STAT Fld.TRC_SNAP_STAT_DONE
    q.setFlagIf (counterDomains.any (fun d => !p.on d)) Reg.TRC_SNAP_STAT Fld.TRC_SNAP_STAT_MISSED
  else p

/-! ## A read on the register bus -/

/-- A read of a register by core `core`: the word, the captures, or a bus error of kind 1 (unmapped) or 4 (domain off). -/
def Plat.busRead (p : Plat) (core a : Nat) : Plat :=
  match regDesc a with
  | none => { p.busErr a core false 1 with resp := 0xFFFFFFFF }
  | some _ =>
    if p.on (domainOf a) then { p.capture a with resp := p.peek a }
    else { p.busErr a core false 4 with resp := 0xFFFFFFFF }

/-! ## Watchdog (R398, R399) -/

/-- Start stage 1 with the T1 and T2 now written. -/
def wdtRestart (p : Plat) (y : Sys) : Plat × Sys :=
  let t1 := atLeast1 (p.fld Reg.SYS_WDT_CTRL Fld.SYS_WDT_CTRL_T1)
  ((p.setFld Reg.SYS_WDT_STAT Fld.SYS_WDT_STAT_STAGE 1).setFld Reg.SYS_WDT_STAT Fld.SYS_WDT_STAT_REMAIN t1,
   { y with wdtT1 := t1, wdtT2 := atLeast1 (p.fld Reg.SYS_WDT_CTRL Fld.SYS_WDT_CTRL_T2), wdtNs := 0 })

/-- A write of SYS_WDT_KICK: the key restarts stage 1 while the watchdog runs; another value sets BADKEY. -/
def wdtKick (p : Plat) (y : Sys) (key : Nat) : Plat × Sys :=
  if key = 0xC3A5 then
    if p.bit Reg.SYS_WDT_CTRL Fld.SYS_WDT_CTRL_EN then wdtRestart p y else (p, y)
  else (p.setFlag Reg.SYS_WDT_STAT Fld.SYS_WDT_STAT_BADKEY, y)

/-- Stage 1 expires: WARN, a Frieze event, stage 2. -/
def wdtWarn (p : Plat) (y : Sys) : Plat × Sys :=
  if p.bit Reg.SYS_WDT_CTRL Fld.SYS_WDT_CTRL_EN ∧ p.fld Reg.SYS_WDT_STAT Fld.SYS_WDT_STAT_STAGE = 1 then
    ((((p.setFlag Reg.SYS_WDT_STAT Fld.SYS_WDT_STAT_WARN).post 0 0x0009 []).setFld
        Reg.SYS_WDT_STAT Fld.SYS_WDT_STAT_STAGE 2).setFld Reg.SYS_WDT_STAT Fld.SYS_WDT_STAT_REMAIN y.wdtT2, { y with wdtNs := 0 })
  else (p, y)

/-- `ns` nanoseconds of a stage pass: REMAIN is the whole milliseconds left of it. -/
def wdtTick (p : Plat) (y : Sys) (ns : Nat) : Plat × Sys :=
  let st := p.fld Reg.SYS_WDT_STAT Fld.SYS_WDT_STAT_STAGE
  if st = 0 then (p, y)
  else
    let ms := if st = 1 then y.wdtT1 else y.wdtT2
    (p.setFld Reg.SYS_WDT_STAT Fld.SYS_WDT_STAT_REMAIN ((ms * 1000000 - (y.wdtNs + ns)) / 1000000), { y with wdtNs := y.wdtNs + ns })

/-- A write of SYS_WDT_CTRL: ignored once locked; enabling starts stage 1, EN := 0 stops the watchdog. -/
def wdtCtrl (p : Plat) (y : Sys) (v : Word) : Plat × Sys :=
  if p.bit Reg.SYS_WDT_CTRL Fld.SYS_WDT_CTRL_LOCK then (p, y)
  else
    let was := p.bit Reg.SYS_WDT_CTRL Fld.SYS_WDT_CTRL_EN
    let q := p.fwWrite Reg.SYS_WDT_CTRL v
    if q.bit Reg.SYS_WDT_CTRL Fld.SYS_WDT_CTRL_EN then
      if was then (q, y) else wdtRestart q y
    else ((q.setFld Reg.SYS_WDT_STAT Fld.SYS_WDT_STAT_STAGE 0).setFld Reg.SYS_WDT_STAT Fld.SYS_WDT_STAT_REMAIN 0, y)

/-! ## Starting a core (R382) -/

/-- A write of SYS_CORE_START: core `c` begins in Machine mode at control SRAM offset `addr`, with a0 = c and the rest as at the
hand-off; refused for core 0 or a running core. -/
def coreStart (p : Plat) (y : Sys) (c addr : Nat) : Plat × Sys :=
  if c = 0 ∨ (p.fld Reg.SYS_CORE_STAT Fld.SYS_CORE_STAT_RUNNING).testBit c then
    (p.setFlag Reg.SYS_EVT Fld.SYS_EVT_START_REFUSED, y)
  else
    (p.putBit Reg.SYS_CORE_STAT ⟨c, 1⟩ true,
     y.setCore c { y.core c with
        pc := BitVec.ofNat 40 (0x20000000 + addr / 4 * 4 % 0x400000), mmode := true
        a0 := BitVec.ofNat 64 c, a1 := (y.core 0).a1, a2 := (y.core 0).a2 })

/-! ## Console (R514) -/

/-- SYS_CON_STAT shows the queue. -/
def showConsole (p : Plat) (n : Nat) : Plat :=
  (p.setFld Reg.SYS_CON_STAT Fld.SYS_CON_STAT_LEVEL n).putBit Reg.SYS_CON_STAT Fld.SYS_CON_STAT_FULL (n == 64)

/-- A write of SYS_CON_TX: the character is queued, or dropped when 64 wait. -/
def conWrite (p : Plat) (y : Sys) (ch : Byte) : Plat × Sys :=
  if y.console.length < 64 then
    (showConsole p (y.console.length + 1), { y with console := y.console ++ [ch] })
  else (p.setFlag Reg.SYS_CON_STAT Fld.SYS_CON_STAT_DROP, y)

/-- The oldest queued character leaves on CON_TX. -/
def conSend (p : Plat) (y : Sys) : Plat × Sys :=
  match y.console with
  | [] => (p, y)
  | ch :: cs => (showConsole p cs.length, { y with console := cs, conOut := y.conOut ++ [ch] })

end Sys2Proof.Machine
end

