-- ==== Sys2Proof/Machine/SeqOps.lean ====
section
/-! DEFINITION. Tasks and microcode: entering and its checks, XRDY, DATA and STAT, ending, faults, conditions, the operations of
Table TSQ-11, issuing a microword, requests, the control store, the spare (R85, R87, R96, R97, R101 to R104, R110 to R129). -/

namespace Sys2Proof.Machine

/-! ## STAT and the end of a task (R113, R116, R124) -/

/-- SLACK_LEFT, LROW_NEXT and Q_NEXT: the task's own where it wrote, delivered and recorded nothing. -/
def Ac.progress (a : Ac) : Nat × Nat × Nat :=
  let s := a.q.pos
  let idle : Bool := s.map.isEmpty && (if a.kind = 6 then s.lastWritten.isNone else if a.isRead then s.sent == 0 else s.done == 0)
  if idle ∨ a.isLoad then (a.slack0, a.lrowFirst, a.qFirst)
  else if a.isConv then (0, 0, a.lbaPos (a.ofs + s.done))
  else if a.isRead then
    let open' := a.g.rows.map (fun r => r.lrow) ++ a.q.tbuf.filterMap (fun e => e.2.map (fun x => x.lrow))
    (0, open'.foldl min s.lrow, s.q)
  else (s.slack, s.lrow, s.q)

/-- The words of the STAT of the task in the registers with a code and a reason (Tables TSQ-8, TSQ-9). -/
def Ac.statWords (a : Ac) (code reason : Nat) : List Nat :=
  let s := a.q.pos
  let pr := a.progress
  let flag := fun (b : Bool) (i : Nat) => if b then 2 ^ i else 0
  [code % 2 ^ 8 * 2 ^ 56 + reason % 2 ^ 8 * 2 ^ 48 + s.map.length % 2 ^ 10 * 2 ^ 38 + flag a.q.late 37 + flag a.q.forced 36
      + flag a.q.rebuilt 35 + a.q.sTemp % 2 ^ 16 * 2 ^ 16 + a.q.sAge % 2 ^ 16,
   pr.1 % 2 ^ 32 * 2 ^ 32 + a.q.sEpoch % 2 ^ 16 * 2 ^ 16 + (if a.isWrite then s.done else s.sent) % 2 ^ 16,
   pr.2.1 % 2 ^ 20 * 2 ^ 44 + pr.2.2 % 2 ^ 24 * 2 ^ 20] ++ s.map.reverse

/-- The task leaves the registers: what does not pass from task to task is emptied (R97, R116, R124, R222, R238). -/
def Ac.endTask (a : Ac) : Ac :=
  let r := Reg.TSQ_STATUS a.t
  let p := ((((a.p.setFld r Fld.TSQ_STATUS_BUSY 0).setFld r Fld.TSQ_STATUS_LOCKED 0).setFld r Fld.TSQ_STATUS_FAULT_ACTIVE 0).setFld
    r Fld.TSQ_STATUS_PEND 0).setFld r Fld.TSQ_STATUS_DEPTH 0
  let p := p.setFld (Reg.TSQ_MQ_ST a.t a.slot) Fld.TSQ_MQ_ST_LOADING 0
  let q := { a.q with
    stack := [], running := false, held := false, cmp := .off, tlHit := false, pos := posReset, tbuf := [], parity := [],
    parReady := false, scan := false }
  let m := if a.isLoad then a.m else { a.m with inbox := a.m.inbox ++ [none], ffs := [] }
  let a := { a with p := p, q := q, m := m, g := { a.g with wgArm := 0, rgArm := 0, rg := 0, wg := 0, chn := 0 } }
  let a := (a.mapHeads 0xFF (fun _ x => { x with mon := 0, miss := 0, codes := none, sent := false })).setRows []
  let a := (a.setGrant 0).showBus
  { a with l := { a.l with up := a.l.up ++ a.l.owed, owed := [] } }.showLink

/-- STAT with a code and reason is sent, and the task ends. -/
def Ac.finishTask (a : Ac) (code reason : Nat) : Ac :=
  let a := { a with p := a.p.setFld (Reg.TSQ_STATUS a.t) Fld.TSQ_STATUS_CODE code }
  (a.send (.stat a.tag a.tnum (a.statWords code reason))).endTask

/-- The code STAT carries: the one locked, else the last SETCODE, else SUCCESS (R111). -/
def Ac.finalCode (a : Ac) : Nat := a.q.code.getD 0

/-- LNK 3: the open window is closed (R517), STAT is sent, execution stops. -/
def Ac.statSend (a : Ac) : Ac :=
  if a.busy then
    let a := a.autoClose 0x16
    a.finishTask a.finalCode a.q.reason
  else a

/-! ## Faults (R112, R125) -/

/-- TSQ_PC.PC. -/
def Ac.pc (a : Ac) : Nat := a.p.fld (Reg.TSQ_PC a.t) Fld.TSQ_PC_PC
/-- Put TSQ_PC.PC. -/
def Ac.setPc (a : Ac) (v : Nat) : Ac := { a with p := a.p.setFld (Reg.TSQ_PC a.t) Fld.TSQ_PC_PC v }
/-- TSQ_PC.GAP. -/
def Ac.gap (a : Ac) : Nat := a.p.fld (Reg.TSQ_PC a.t) Fld.TSQ_PC_GAP
/-- Put TSQ_PC.GAP. -/
def Ac.setGap (a : Ac) (v : Nat) : Ac := { a with p := a.p.setFld (Reg.TSQ_PC a.t) Fld.TSQ_PC_GAP v }

/-- A fault: gates and assist drop, IDLE, execution stops, the window closes, a forced STAT (none after a link reset), HALTED. An
END_TIMEOUT keeps the locked code and reason (R112). -/
def Ac.fault (a : Ac) (cause : Nat) : Ac :=
  if a.busy then
    let pc := a.pc
    let a := ((a.dropEvery 0x16).assistOff).setPhase 0
    let a := { a with q := { a.q with running := false, forced := true } }.autoClose 0x16
    let code := if cause = 6 then a.finalCode else 0x51
    let reason := if cause = 6 then a.q.reason else cause
    let a := if cause = 8 then { a with p := a.p.setFld (Reg.TSQ_STATUS a.t) Fld.TSQ_STATUS_CODE 0x51 }.endTask
      else a.finishTask code reason
    let p := a.p.setFlag (Reg.TSQ_STATUS a.t) Fld.TSQ_STATUS_HALTED
    { a with p := (p.setFld (Reg.TSQ_FAULT a.t) Fld.TSQ_FAULT_CAUSE cause).setFld (Reg.TSQ_FAULT a.t) Fld.TSQ_FAULT_ADDR pc }
  else a

/-! ## Entering (R101 to R104) -/

/-- The runs of a ZREAD or AUDIT follow each other: each names the logical row after the last of the run before. -/
def runsFollow : Nat → List Nat → Bool
  | _, [] => true
  | next, e :: es => bits e 39 20 == next && runsFollow (next + bits e 19 0) es

/-- The sum of NROWS over the task's runs. -/
def Ac.totalRows (a : Ac) : Nat := ((List.range a.elen).map a.extWord).foldl (fun n e => n + bits e 19 0) a.nrows

/-- Whether the task in the registers is well-formed (R102, R103, R481): `scan` is TSQ_SCAN.EN. -/
def Ac.wellFormed (a : Ac) (scan : Bool) : Bool :=
  let xs := (List.range a.elen).map a.extWord
  let resv := a.tf 0 59 56 == 0 && a.tf 0 39 32 == 0 && a.tf 1 19 16 == 0 && a.tf 4 50 32 == 0 && a.tf 5 63 9 == 0
  let sup := decide ((heads8 a.suppress).length ≤ 1) && (a.suppress &&& a.headset) == a.suppress
  let runs := runsFollow (a.lrowFirst + a.nrows) xs
  let conv := a.zgen == 0 && a.suppress == 0 && a.word 2 == 0 && a.slack0 == 0 && a.firstJ == 0 && within 1 512 a.nsect
    && xs.all (fun e => bits e 63 56 == 0)
  resv && sup && decide (a.elen ≤ 24) &&
    (match a.kind with
     | 1 => !scan && a.elen == 0 && within 1 38 a.nsect && a.firstJ == 0 && a.ofs == 0 && a.word 5 == 0
     | 2 => a.word 3 == 0 && a.ofs == 0 && runs && (!scan || (a.nsect == a.k * a.totalRows && a.firstJ == 0))
     | 3 => !scan && conv && a.word 5 == 0
     | 4 => conv
     | 5 => a.elen == 0 && a.member == 0 && a.word 1 == 0 && a.word 2 == 0 && a.word 3 == 0 && a.nsect == 0 && a.firstJ == 0
              && a.word 5 == 0
     | 6 => a.word 3 == 0 && a.ofs == 0 && runs && a.nsect == 0
     | _ => false)

/-- Put a list of words at consecutive register pairs. -/
def Plat.wrWords (p : Plat) (at0 : Nat) : List Nat → Plat
  | [] => p
  | w :: ws => Plat.wrWords (p.wr64 at0 w) (at0 + 8) ws

/-- The registers and the unit as a task enters. -/
def Ac.loadTask (a : Ac) (x : Queued) : Ac :=
  let t := a.t
  let p := (a.p.wrWords (Reg.TSQ_TASK_LO t 0) (x.words.take 8)).wrWords (Reg.TSQ_EXT_LO t 0) (x.exts.take 24)
  let p := (p.setFld (Reg.TSQ_TNUM t) Fld.TSQ_TNUM_TAG x.tag).setFld (Reg.TSQ_TNUM t) Fld.TSQ_TNUM_TNUM x.tnum
  let p := (p.setFlag (Reg.TSQ_STATUS t) Fld.TSQ_STATUS_BUSY).setFld (Reg.TSQ_STATUS t) Fld.TSQ_STATUS_CODE 0
  let a := { a with p := p, l := { a.l with queue := a.l.queue.drop 1 } }
  let scan := p.bit (Reg.TSQ_SCAN t) Fld.TSQ_SCAN_EN
  let pos := { posReset with
    q := a.qFirst, lrow := a.lrowFirst, slack := if a.kind = 1 then a.slack0 else 0, left := a.nrows }
  { a with q := { a.q with
      pos := pos, ext := 0, code := none, reason := 0, ponr := false, late := false, scan := scan && a.kind == 2, forced := false,
      rebuilt := false, sTemp := 0, sAge := 0, sEpoch := 0, tbuf := [], parity := [], parReady := false, loaded := 0 } }

/-- The checks of R104: the code and reason of the first that fails; the check point of R87 is sampled when it is reached. -/
def Ac.entryCheck (a : Ac) : Ac × Nat × Nat :=
  if a.wellFormed (a.p.bit (Reg.TSQ_SCAN a.t) Fld.TSQ_SCAN_EN) = false then (a, 0x50, 0)
  else if a.kind = 5 then (a, 0, 0)
  else if a.bindReason ≠ 0 then (a, 0x11, a.bindReason)
  else
    let a := a.sample
    if a.staleReason ≠ 0 then (a, 0x12, a.staleReason) else (a, 0, 0)

/-- A queued task enters the registers (R101): it is ended by the first check that fails, or microcode is entered at
TSQ_ENTRYk. -/
def Ac.taskEnter (a : Ac) : Ac :=
  match a.l.queue with
  | [] => a
  | x :: _ =>
    if a.busy ∨ a.p.bit (Reg.TSQ_CTRL a.t) Fld.TSQ_CTRL_RUN = false ∨ a.p.bit (Reg.TSQ_STATUS a.t) Fld.TSQ_STATUS_HALTED
        ∨ a.on = false then a
    else
      let c := (a.loadTask x).entryCheck
      let b := c.1
      if c.2.1 ≠ 0 then
        let b := b.lock c.2.1 c.2.2
        b.finishTask c.2.1 c.2.2
      else
        let b := (b.setPc (b.p.rd (Reg.TSQ_ENTRY b.t b.kind)).toNat).setGap 0
        { b with q := { b.q with running := true, held := false } }.showLink

/-! ## Data (R96, R97, R118) -/

/-- A downstream DATA arrives (R97, R100). -/
def Ac.dataArrives (a : Ac) (f : LinkFault) : Ac :=
  match a.l.down with
  | .data _ tnum sidx d bad :: rest =>
    if a.linkOn then
      a.take (if bad then .uncorrectable else f) rest (fun a =>
        if a.busy = false ∨ a.tnum ≠ tnum then a
        else if a.grant = 0 then a.downError Fld.LNK_ERR_PROTO
        else
          let a := a.setGrant (a.grant - 1)
          if a.isLoad then a.loadPiece sidx d
          else
            let row := if a.isConv then a.ofs + sidx else a.lrowFirst + sidx / (a.k - 1)
            { a with q := a.q.setTb (sidx % 64) (some ⟨row, sidx, d, 0, 0, 0⟩) }.setPos (fun s => { s with recv := s.recv + 1 }))
    else a
  | _ => a

/-- Whether LNK 1 may have this COUNT (R96). -/
def Ac.countOk (a : Ac) (c : Nat) : Bool := decide (1 ≤ c) && decide (c ≤ if a.isLoad then 16 else 64)

/-- Whether LNK 1 has the space it needs. -/
def Ac.xrdyReady (a : Ac) (c : Nat) : Bool := a.isLoad || a.locked || decide (c ≤ a.tbFree)

/-- LNK 1: XRDY with COUNT, none while a code is locked; the first is the point of no return of a write or LOAD (R98, R111). -/
def Ac.xrdySend (a : Ac) (c : Nat) : Ac :=
  if a.locked then a
  else
    let a := (a.setGrant (a.grant + c)).send (.xrdy a.tag a.tnum c)
    if a.isWrite ∨ a.isLoad then { a with q := { a.q with ponr := true } } else a

/-- LNK 2: send the upstream DATA of track-buffer sector `i`, whose space is free then. -/
def Ac.dataUpSend (a : Ac) (i : Nat) : Ac :=
  match a.q.tb (i % 64) with
  | none => a
  | some s =>
    let a := (a.setCredit (a.upCredit - 1)).send (.data a.tag a.tnum s.sidx s.data s.m0 s.m1 s.st)
    { a with q := a.q.setTb (i % 64) none }.setPos (fun x => { x with sent := x.sent + 1 })

/-! ## Work registers (R116, R118) -/

/-- 64 bits. -/
def w64 (v : Nat) : Nat := v % 2 ^ 64

/-- Work register `i`. -/
def Tsq.reg (q : Tsq) (i : Nat) : Nat := w64 (SMap.get (fun _ => 0) q.w (i % 16))
/-- Put work register `i`. -/
def Tsq.setReg (q : Tsq) (i v : Nat) : Tsq := { q with w := SMap.set (fun _ => 0) q.w (i % 16) (w64 v) }
/-- Loop counter `i`. -/
def Tsq.cnt (q : Tsq) (i : Nat) : Nat := SMap.get (fun _ => 0) q.l (i % 4) % 2 ^ 16
/-- Put loop counter `i`. -/
def Tsq.setCnt (q : Tsq) (i v : Nat) : Tsq := { q with l := SMap.set (fun _ => 0) q.l (i % 4) (v % 2 ^ 16) }

/-- The flags Z and N of a result, with C and V. -/
def Tsq.flags (q : Tsq) (r : Nat) (c v : Bool) : Tsq := { q with z := w64 r == 0, n := (w64 r).testBit 63, c := c, v := v }

/-- The 32-bit IMM sign-extended to 64 bits. -/
def sext32 (imm : Nat) : Nat := bitsOf 64 (signed 32 imm)

/-- The signed value of 64 bits. -/
def s64 (v : Nat) : Int := signed 64 v

/-- An addition with its flags: C the carry, V signed overflow. -/
def Tsq.add (q : Tsq) (x y dst : Nat) : Tsq :=
  (q.setReg dst (x + y)).flags (x + y) (decide (2 ^ 64 ≤ x + y)) (decide (s64 x + s64 y ≠ s64 (x + y)))

/-- The flags of a subtraction: C the borrow, V signed overflow. -/
def Tsq.subFlags (q : Tsq) (x y : Nat) : Tsq :=
  q.flags (x + 2 ^ 64 - y) (decide (x < y)) (decide (s64 x - s64 y ≠ s64 (x + 2 ^ 64 - y)))

/-- A logic result with its flags. -/
def Tsq.logic (q : Tsq) (r dst : Nat) : Tsq := (q.setReg dst r).flags r false false

/-- A left shift: C is the last bit shifted out. -/
def Tsq.shl (q : Tsq) (x s dst : Nat) : Tsq :=
  (q.setReg dst (x * 2 ^ s)).flags (x * 2 ^ s) (s != 0 && x.testBit (64 - s)) false

/-- A right shift: C is the last bit shifted out. -/
def Tsq.shr (q : Tsq) (x s dst : Nat) : Tsq :=
  (q.setReg dst (x / 2 ^ s)).flags (x / 2 ^ s) (s != 0 && x.testBit (s - 1)) false

/-- The ALU operations (Table TSQ-11). -/
def Ac.alu (a : Ac) (op sa sb dst imm : Nat) : Ac :=
  let q := a.q
  let x := q.reg sa
  let y := q.reg sb
  match op with
  | 1 => { a with q := q.add x y dst }
  | 2 => { a with q := (q.setReg dst (x + 2 ^ 64 - y)).subFlags x y }
  | 3 => { a with q := q.logic (x &&& y) dst }
  | 4 => { a with q := q.logic (x ||| y) dst }
  | 5 => { a with q := q.logic (x ^^^ y) dst }
  | 6 => { a with q := q.shl x (y % 64) dst }
  | 7 => { a with q := q.shr x (y % 64) dst }
  | 8 => { a with q := q.setReg dst (imm % 2 ^ 32) }
  | 9 => { a with q := q.add x (sext32 imm) dst }
  | 10 =>
    let v := a.word (bits imm 2 0) / 2 ^ bits imm 13 8
    { a with q := q.setReg dst (if bits imm 21 16 = 0 then v else v % 2 ^ bits imm 21 16) }
  | 11 =>
    if q.ext < a.elen then { a with q := { q.setReg dst (a.extWord q.ext) with ext := q.ext + 1 } }
    else { a with q := q.setReg dst 0 }
  | 12 =>
    let s := q.pos
    { a with q := q.setReg dst (match imm % 4 with | 0 => s.q | 1 => s.lrow | 2 => s.slack | _ => s.abn) }
  | 13 => { a with q := q.subFlags x y }
  | 14 => { a with q := q.subFlags x (sext32 imm) }
  | _ => a

/-- The loop-counter operations. -/
def Ac.cntOp (a : Ac) (op sel sa imm : Nat) : Ac :=
  match op with
  | 1 => { a with q := a.q.setCnt sel imm }
  | 2 => { a with q := a.q.setCnt sel (a.q.cnt sel - 1) }
  | 3 => { a with q := a.q.setCnt sel (a.q.reg sa) }
  | _ => a

/-- Whether microcode may set a code (R111). -/
def codeAllowed (c : Nat) : Bool := c == 0 || c == 1 || c == 0x30 || decide (0x80 ≤ c)

/-- SETCODE: the task's code when none is locked. -/
def Ac.setCode (a : Ac) (c : Nat) : Ac :=
  if a.locked then a
  else { a with p := a.p.setFld (Reg.TSQ_STATUS a.t) Fld.TSQ_STATUS_CODE c, q := { a.q with code := some c } }

/-- REASON when no code is locked. -/
def Ac.setReason (a : Ac) (r : Nat) : Ac := if a.locked then a else { a with q := { a.q with reason := r } }

/-- TLN: arm or disarm the compare; TL_HIT clears (R121). -/
def Ac.tln (a : Ac) (op sa : Nat) (tofs : Int) : Ac :=
  let set := fun c => { a with q := { a.q with cmp := c, tlHit := false } }
  match op with
  | 1 => set (match a.q.pos.last with | some x => .window x.1 tofs | none => .off)
  | 2 => set (.wedge (a.q.reg sa % 1024) tofs)
  | 3 => set (.now tofs)
  | 4 => set .off
  | _ => a

/-- The timeline reaches the armed point; a wedge of WEDGES or more never hits. -/
def Ac.timelineHit (a : Ac) : Ac :=
  match a.q.cmp with
  | .off => a
  | .wedge w _ => if w < a.img.wedges then { a with q := { a.q with tlHit := true } } else a
  | _ => { a with q := { a.q with tlHit := true } }

/-! ## Conditions (R121) -/

/-- Four bits as a number, the first highest. -/
def nib (b3 b2 b1 b0 : Bool) : Nat := (if b3 then 8 else 0) + (if b2 then 4 else 0) + (if b1 then 2 else 0) + (if b0 then 1 else 0)

/-- ALL_DELIVERED: every data sector received for a write, or sent upstream for a read. -/
def Ac.allDelivered (a : Ac) : Bool := decide (a.nsect ≤ if a.isWrite then a.q.pos.recv else a.q.pos.sent)

/-- The good slots of the head row, as a mask. -/
def Ac.goodMask (a : Ac) : Nat :=
  match a.g.rows with
  | [] => 0
  | r :: _ => maskOf (a.slots.filter (fun s => (r.slot s).good))

/-- The value of a condition group (Table TSQ-13). -/
def Ac.group (a : Ac) (g : Nat) : Nat :=
  let q := a.q
  match g with
  | 0 => nib true q.tlHit q.pos.rowRes a.g.servo
  | 1 => q.pos.g1
  | 2 => a.group2
  | 3 => a.inhibit % 16
  | 4 => a.inhibit / 16
  | 5 => nib a.rowDataReady (a.upCredit != 0) a.locked (decide (q.ext < a.elen))
  | 6 => nib q.parReady a.tbufSpace a.allDelivered false
  | 7 => match a.g.rows with | [] => 0 | r :: _ => nib (a.rowDone r) (a.allOk r) (a.oneMissing r) (a.multiMissing r)
  | 8 => a.goodMask % 16
  | 9 => a.goodMask / 16
  | 10 => q.pos.splits % 16
  | 11 => q.pos.splits / 16
  | 12 =>
    let r := Reg.ARM_STATUS a.n
    nib (a.p.bit r Fld.ARM_STATUS_SAT_ACT) (a.p.bit r Fld.ARM_STATUS_SETTLED) (a.p.bit r Fld.ARM_STATUS_ON_TRACK) q.recentred
  | 13 => nib (q.cnt 3 == 0) (q.cnt 2 == 0) (q.cnt 1 == 0) (q.cnt 0 == 0)
  | 14 => nib q.z q.n q.c q.v
  | 15 =>
    let f := a.p.fld (Reg.HSI_FLT a.n) ⟨8, 2⟩ != 0
    nib (a.g.wg != 0 && a.code == 2 && !a.g.gap) (a.g.rg != 0) f a.isConv
  | 16 => a.kind
  | 17 => a.ladderGroup
  | 18 => (if a.g.gap then 8 else 0) + a.code
  | 28 => q.reg 15 % 16
  | 29 => q.reg 15 / 16 % 16
  | 30 => q.reg 15 / 256 % 16
  | 31 => q.reg 15 / 4096 % 16
  | _ => 0

/-- Condition WEV: bit WEV mod 4 of group WEV div 4 (R122). -/
def Ac.cond (a : Ac) (wev : Nat) : Bool := (a.group (wev / 4)).testBit (wev % 4)

/-! ## Microwords (R115 to R120, R123, R124) -/

/-- Microword `w`: 160 bits. -/
def Tsq.microword (q : Tsq) (w : Nat) : Nat :=
  (List.range 5).foldl (fun v g => v + SMap.get (fun _ => 0) q.cs (8 * w + g) * 2 ^ (32 * g)) 0

/-- DEPTH shows the call stack. -/
def Ac.setStack (a : Ac) (s : List (Nat × Bool)) : Ac :=
  { a with p := a.p.setFld (Reg.TSQ_STATUS a.t) Fld.TSQ_STATUS_DEPTH s.length, q := { a.q with stack := s } }

/-- The operation of the ROW, XOR, CHN, SRV, WRP and GATE fields of a word. -/
def Ac.unitOps (a : Ac) (mw : Nat) : Ac :=
  let wgm := bits mw 127 120
  let rgm := bits mw 119 112
  let a := a.gateOp (bits mw 131 128) wgm rgm
  let a := match bits mw 111 108 with | 1 => a.rowOpen | 2 => a.rowClose | _ => a
  let a := match bits mw 104 103 with | 1 => a.parityForm | 2 => a.tbufRelease | _ => a
  let hold := match a.q.pos.sp with | some r => r.hold | none => 0
  let a := if a.isRead then
      match bits mw 102 100 with
      | 1 => a.chnArm rgm hold
      | 2 => a.chnCollect
      | 3 => a.chnRebuild
      | 4 => a.chnLadder
      | _ => a
    else a
  let a := match bits mw 99 98 with | 1 => a.srvSetpoint | 2 => a.srvSplit rgm | 3 => a.srvNormal | _ => a
  match bits mw 97 96 with | 1 => a.wrpCodes wgm | 2 => a.wrpOff | _ => a

/-- Every operation of a word but LNK 3: units, timeline, ALU, counters, status, IRQ, trace tag, link; registers are read as they
stood before the word. -/
def Ac.wordOps (a : Ac) (mw : Nat) : Ac :=
  let sa := bits mw 66 63
  let w := a.q.reg sa
  let b := (a.unitOps mw).tln (bits mw 95 93) sa (signed 22 (bits mw 92 71))
  let c := b.cntOp (bits mw 22 20) (bits mw 19 18) sa (bits mw 54 23)
  let c := c.alu (bits mw 70 67) sa (bits mw 62 59) (bits mw 58 55) (bits mw 54 23)
  let imm := bits mw 30 23
  let c := match bits mw 16 15 with | 1 => c.setCode imm | 2 => c.setReason imm | _ => c
  let c := { c with p := c.p.setFlagIf (bits mw 17 17 == 1) (Reg.TSQ_STATUS c.t) Fld.TSQ_STATUS_IRQ }
  let c := if bits mw 14 7 = 0 then c else { c with p := c.p.trcTag c.t (bits mw 14 7) }
  match bits mw 107 105 with | 1 => c.xrdySend (w % 256) | 2 => c.dataUpSend (w % 64) | _ => c

/-- Whether every operation of a word has the resource it needs (R117). -/
def Ac.ready (a : Ac) (mw : Nat) : Bool :=
  let w := a.q.reg (bits mw 66 63)
  let chn := bits mw 102 100
  (bits mw 111 108 != 2 || a.closeReady)
    && (bits mw 107 105 != 1 || a.xrdyReady (w % 256))
    && (bits mw 107 105 != 2 || a.upCredit != 0)
    && (chn != 1 || !a.isRead || a.armReady)
    && (chn != 2 || !a.isRead || (match a.g.rows with | [] => true | r :: _ => a.rowDone r && (a.tbufSpace || a.kind == 6)))

/-- The fault cause of a word as fetched, 0 for none (R117 to R120, Table TSQ-15). -/
def Ac.wordFault (a : Ac) (mw : Nat) : Nat :=
  let na := bits mw 159 157
  let row := bits mw 111 108
  let lnk := bits mw 107 105
  let xor := bits mw 104 103
  let chn := bits mw 102 100
  let srv := bits mw 99 98
  let wrp := bits mw 97 96
  let tln := bits mw 95 93
  let sta := bits mw 16 15
  let w := a.q.reg (bits mw 66 63)
  let imm := bits mw 30 23
  let next : Bool := na == 0 || na == 3 || na == 5
  if 6 ≤ na ∨ 8 < bits mw 131 128 ∨ 2 < row ∨ 3 < lnk ∨ xor = 3 ∨ 4 < chn ∨ wrp = 3 ∨ 4 < tln ∨ bits mw 70 67 = 15
      ∨ 3 < bits mw 22 20 ∨ sta = 3 ∨ bits mw 6 0 ≠ 0 then 1
  else if (row = 1 ∨ row = 2) ∧ (xor ≠ 0 ∨ chn ≠ 0 ∨ srv ≠ 0 ∨ wrp ≠ 0 ∨ tln = 1) then 1
  else if lnk = 2 ∧ xor = 2 then 1
  else if row = 1 ∧ a.q.pos.win.isSome then 1
  else if sta = 1 ∧ codeAllowed imm = false then 1
  else if lnk = 1 ∧ a.countOk (w % 256) = false then 1
  else if lnk = 2 ∧ (a.q.tb (w % 64)).isNone then 9
  else if xor = 1 ∧ a.isZwrite ∧ a.rowDataReady = false then 9
  else if lnk = 3 then 0
  else if next ∧ a.pc = 8191 then 1
  else if na = 3 ∧ 8 ≤ a.q.stack.length then 3
  else if na = 4 ∧ a.q.stack = [] then 4
  else 0

/-- The address after a word, from the conditions sampled at `a`, and the stack it leaves (Table TSQ-12); none while a WAIT
holds. -/
def Ac.nextAddr (a : Ac) (mw : Nat) : Option (Nat × List (Nat × Bool)) :=
  let addr := bits mw 155 143
  let s := a.q.stack
  match bits mw 159 157 with
  | 0 => some (a.pc + 1, s)
  | 1 => some (addr, s)
  | 2 => some (addr ||| a.group (bits mw 142 138), s)
  | 3 => some (addr, (a.pc + 1, false) :: s)
  | 4 => some ((s.headD (0, false)).1, s.drop 1)
  | _ => if a.cond (bits mw 137 132) then some (a.pc + 1, s) else none

/-- The pending request of highest priority: its PEND bit and vector (Table TSQ-14). -/
def topRequest (pend : Nat) : Option (Nat × Nat) :=
  if pend.testBit 3 then some (8, 0) else if pend.testBit 2 then some (4, 1)
  else if pend.testBit 1 then some (2, 2) else if pend.testBit 0 then some (1, 3) else none

/-- A safe point: the highest pending request is taken when no request routine is active (R124). -/
def Ac.takeRequest (a : Ac) : Ac :=
  let r := Reg.TSQ_STATUS a.t
  match topRequest (a.p.fld r Fld.TSQ_STATUS_PEND) with
  | none => a
  | some (b, v) =>
    if a.p.bit r Fld.TSQ_STATUS_FAULT_ACTIVE ∨ a.q.running = false then a
    else if 8 ≤ a.q.stack.length then a.fault 3
    else
      let a := a.setStack ((a.pc, true) :: a.q.stack)
      let p := (a.p.setFlag r Fld.TSQ_STATUS_FAULT_ACTIVE).setFld r Fld.TSQ_STATUS_PEND (a.p.fld r Fld.TSQ_STATUS_PEND - b)
      { a with p := p, q := { a.q with held := false } }.setPc (a.p.rd (Reg.TSQ_VEC a.t v)).toNat

/-- Go to the next address: a return that pops a request's entry clears FAULT_ACTIVE. -/
def Ac.goto (a : Ac) (old : List (Nat × Bool)) (n : Nat × List (Nat × Bool)) : Ac :=
  let popped : Bool := n.2.length < old.length && (old.headD (0, false)).2
  let a := (a.setStack n.2).setPc n.1
  let a := { a with q := { a.q with held := false } }
  if popped then { a with p := a.p.setFld (Reg.TSQ_STATUS a.t) Fld.TSQ_STATUS_FAULT_ACTIVE 0 } else a

/-- Issue one microword (R117): conditions sampled, operations, next address, then the safe point. `parityErr` is a parity error
in the word fetched. Nothing issues while 64 words have passed without a safe point (R123). -/
def Ac.issue (a : Ac) (parityErr : Bool) : Ac :=
  if a.q.running = false ∨ a.busy = false ∨ 64 ≤ a.gap then a
  else
    let mw := a.q.microword a.pc
    let safe : Bool := bits mw 156 156 == 1
    let next := a.nextAddr mw
    if a.q.held then
      match next with
      | none => (a.setGap 0).takeRequest
      | some n =>
        let b := a.goto a.q.stack n
        if safe then (b.setGap 0).takeRequest else b.setGap (a.gap + 1)
    else if parityErr then a.fault 2
    else if a.wordFault mw ≠ 0 then a.fault (a.wordFault mw)
    else if a.ready mw = false then a
    else
      let b := a.wordOps mw
      if bits mw 107 105 = 3 then b.statSend
      else
        match next with
        | none => ({ b with q := { b.q with held := true } }.setGap 0).takeRequest
        | some n =>
          let b := b.goto a.q.stack n
          if safe then (b.setGap 0).takeRequest else b.setGap (a.gap + 1)

/-- CALL: push the return address and jump. -/
def Ac.call (a : Ac) (addr : Nat) : Ac :=
  if a.q.running = false then a
  else if 8 ≤ a.q.stack.length then a.fault 3
  else (a.setStack ((a.pc + 1, false) :: a.q.stack)).setPc addr

/-- RETURN: pop the next address. -/
def Ac.ret (a : Ac) : Ac :=
  if a.q.running = false then a
  else match a.q.stack with
    | [] => a.fault 4
    | x :: s => a.goto (x :: s) (x.1, s)

/-- An operation of microcode as a step of its own, while microcode runs on a task. -/
def Ac.micro (a : Ac) (f : Ac → Ac) : Ac := if a.q.running ∧ a.busy then f a else a

/-! ## Timeouts (R112, R122, R123) -/

/-- A wait has lasted longer than TSQ_WAIT_LIMIT. -/
def Ac.waitTimeout (a : Ac) : Ac :=
  if a.q.running ∧ a.q.held ∧ (a.p.rd (Reg.TSQ_WAIT_LIMIT a.t)).toNat ≠ 0 then a.fault 7 else a

/-- 64 consecutive words have been executed without a safe point. -/
def Ac.safeGap (a : Ac) : Ac := if a.q.running ∧ 64 ≤ a.gap then a.fault 5 else a

/-- STAT has not followed a lock within TSQ_END_LIMIT. -/
def Ac.endTimeout (a : Ac) : Ac :=
  if a.busy ∧ a.locked ∧ (a.p.rd (Reg.TSQ_END_LIMIT a.t)).toNat ≠ 0 then a.fault 6 else a

/-! ## Maquette-store parity (R84) -/

/-- A parity error in the slot the task uses: MAQUETTE_BAD PARITY is locked, the window closes at once, the slot is EMPTY, the
Frieze is told. -/
def Ac.storeParity (a : Ac) : Ac :=
  if a.busy ∧ a.isLoad = false then
    let tag := a.tag
    let id := a.mqId
    let s := a.slot
    let a := ((a.autoClose 0x15).lock 0x10 0x08)
    let p := ((a.p.setFld (Reg.TSQ_MQ_ST a.t s) Fld.TSQ_MQ_ST_VALID 0).setFlag (Reg.TSQ_MQ_ST a.t s) Fld.TSQ_MQ_ST_PAR_ERR)
    { a with p := p.post (if a.t = 4 then 192 else 128 + 16 * a.n) 0x0002 ([BitVec.ofNat 8 s, 0] ++ le2 tag ++ le4 id) }
  else a

/-! ## TSQ_CTRL, control store, environment (R86, R124 to R129) -/

/-- A write of RUN: ignored while the spare serves the actuator; from 1 to 0 with a task in the registers it posts STOP; the
effective states of the actuator follow (R459). -/
def runWrite (p : Plat) (t n : Nat) (run : Bool) : Plat :=
  if p.bit (Reg.TSQ_STATUS t) Fld.TSQ_STATUS_DETACHED then p
  else
    let was := p.bit (Reg.TSQ_CTRL t) Fld.TSQ_CTRL_RUN
    let q := p.putBit (Reg.TSQ_CTRL t) Fld.TSQ_CTRL_RUN run
    let q := if was ∧ run = false ∧ q.bit (Reg.TSQ_STATUS t) Fld.TSQ_STATUS_BUSY then
        q.setFld (Reg.TSQ_STATUS t) Fld.TSQ_STATUS_PEND (q.fld (Reg.TSQ_STATUS t) Fld.TSQ_STATUS_PEND ||| 1)
      else q
    q.updateUnits n

/-- RESUME: HALTED and TSQ_FAULT clear. -/
def tsqResume (p : Plat) (t : Nat) : Plat := (p.setFld (Reg.TSQ_STATUS t) Fld.TSQ_STATUS_HALTED 0).wr (Reg.TSQ_FAULT t) 0

/-- CS_CHECK: the computation starts, ignored while one is under way. -/
def csCheck (p : Plat) (t : Nat) : Plat := p.setFlag (Reg.TSQ_STATUS t) Fld.TSQ_STATUS_CS_BUSY

/-- The control-store image: bytes 0 to 19 of every slot in word order. -/
def Tsq.csBytes (q : Tsq) : List Byte :=
  (List.range 8192).flatMap (fun w => (List.range 5).flatMap (fun g => le4 (SMap.get (fun _ => 0) q.cs (8 * w + g))))

/-- The computation ends: TSQ_CS_CRC and CS_VALID. -/
def csCheckEnd (p : Plat) (q : Tsq) (t : Nat) : Plat :=
  if p.bit (Reg.TSQ_STATUS t) Fld.TSQ_STATUS_CS_BUSY then
    ((p.wr (Reg.TSQ_CS_CRC t) (BitVec.ofNat 32 (crc32 q.csBytes))).setFld (Reg.TSQ_STATUS t) Fld.TSQ_STATUS_CS_BUSY 0).setFlag
      (Reg.TSQ_STATUS t) Fld.TSQ_STATUS_CS_VALID
  else p

/-- Whether firmware may write the control store (R126). -/
def csWritable (p : Plat) (t : Nat) : Bool :=
  !p.bit (Reg.TSQ_CTRL t) Fld.TSQ_CTRL_RUN && !p.bit (Reg.TSQ_STATUS t) Fld.TSQ_STATUS_BUSY
    && !p.bit (Reg.TSQ_STATUS t) Fld.TSQ_STATUS_CS_BUSY

/-- The address of control-store byte `o` of Track Sequencer `t`. -/
def csAddr (t o : Nat) : Nat := 0x41020000 + 0x400000 * t + o

/-- A write of 32 bits at control-store offset `o` by core `core`: stored, bytes 20 to 31 of a slot ignored, or a bus error. -/
def csWrite (p : Plat) (q : Tsq) (t core o : Nat) (v : Word) : Plat × Tsq :=
  if csWritable p t then
    (p.setFld (Reg.TSQ_STATUS t) Fld.TSQ_STATUS_CS_VALID 0,
     if o % 32 < 20 then { q with cs := SMap.set (fun _ => 0) q.cs (8 * (o / 32) + o % 32 / 4) v.toNat } else q)
  else (p.busErr (csAddr t o) core true 8, q)

/-- Whether Track Sequencer `t` has RUN 0 and BUSY 0. -/
def Plat.tsqIdle (p : Plat) (t : Nat) : Bool :=
  !p.bit (Reg.TSQ_CTRL t) Fld.TSQ_CTRL_RUN && !p.bit (Reg.TSQ_STATUS t) Fld.TSQ_STATUS_BUSY

/-- A write of ATTACH and HOST in the spare window (R128, R129). -/
def attachWrite (p : Plat) (q : Tsq) (attach : Bool) (host : Nat) : Plat × Tsq :=
  let r := Reg.TSQ_CTRL 4
  let was := p.bit r Fld.TSQ_CTRL_ATTACH
  let old := p.fld r Fld.TSQ_CTRL_HOST
  if was = attach ∧ old = host then (p, q)
  else if p.tsqIdle 4 = false ∨ (attach ∧ p.tsqIdle host = false) ∨ (was ∧ p.tsqIdle old = false) then
    (p.setFlag (Reg.TSQ_STATUS 4) Fld.TSQ_STATUS_ATTACH_REFUSED, q)
  else
    let x := (p.putBit r Fld.TSQ_CTRL_ATTACH attach).setFld r Fld.TSQ_CTRL_HOST host
    let x := if was then x.setFld (Reg.TSQ_STATUS old) Fld.TSQ_STATUS_DETACHED 0 else x
    let x := if attach then x.setFlag (Reg.TSQ_STATUS host) Fld.TSQ_STATUS_DETACHED else x
    let x := if attach then (List.range 8).foldl (fun x s => x.setFld (Reg.TSQ_MQ_ST 4 s) Fld.TSQ_MQ_ST_VALID 0)
        (x.setFld (Reg.TSQ_ENV_AGE 4) Fld.TSQ_ENV_AGE_AGE 0xFFFF)
      else x
    ((x.updateUnits old).updateUnits host, if attach then { q with envNs := none } else q)

/-- A write of TSQ_ENV: TEMP, and AGE 0 (R86). -/
def envWrite (p : Plat) (q : Tsq) (t : Nat) (v : Word) : Plat × Tsq :=
  ((p.fwWrite (Reg.TSQ_ENV t) v).setFld (Reg.TSQ_ENV_AGE t) Fld.TSQ_ENV_AGE_AGE 0, { q with envNs := some 0 })

/-- `ns` nanoseconds pass: AGE counts the milliseconds since TSQ_ENV was written, up to 0xFFFF. -/
def envTick (p : Plat) (q : Tsq) (t ns : Nat) : Plat × Tsq :=
  match q.envNs with
  | none => (p, q)
  | some k =>
    if p.on (if t = 4 then 35 else 4 * t + 2) then
      (p.setFld (Reg.TSQ_ENV_AGE t) Fld.TSQ_ENV_AGE_AGE (min 0xFFFF ((k + ns) / 1000000)), { q with envNs := some (k + ns) })
    else (p, q)

end Sys2Proof.Machine
end

