-- ==== Sys2Proof/Machine/ThermalOps.lean ====
section
/-! DEFINITION. Thermal supervision and the Plinth's power requests: sensors, the thermal model, the throttle, the power cap, the
trip, oscillator and reference compensation, and which requested domain set is accepted (R404, R405, R409 to R417). -/

namespace Sys2Proof.Machine

/-! ## Requested domains (R404, R405, Table PWR-1) -/

/-- The prerequisites of domain `d` (Table PWR-1). -/
def requires (d : Nat) : List Nat :=
  if d < 16 then
    match d % 4 with
    | 1 => [d - 1]
    | 3 => [d - 3, d - 1]
    | _ => [34]
  else match d with
    | 17 => [16]
    | 20 => [18, 19]
    | 21 => [20]
    | 22 => [21]
    | 23 => [21]
    | 24 => [21]
    | 25 => [27]
    | 26 => [27]
    | 30 => []
    | 31 => [30]
    | 34 => []
    | _ => [34]

/-- The 36 switched domains. -/
def allDomains : List Nat := List.range 36

/-- PWR_REQ as one set of 36 bits. -/
def Plat.reqSet (p : Plat) : Nat := (p.rd Reg.PWR_REQ_LO).toNat + 2 ^ 32 * (p.fld Reg.PWR_REQ_HI Fld.PWR_REQ_HI_REQ)

/-- PWR_STAT as one set of 36 bits. -/
def Plat.statSet (p : Plat) : Nat := (p.rd Reg.PWR_STAT_LO).toNat + 2 ^ 32 * (p.fld Reg.PWR_STAT_HI Fld.PWR_STAT_HI_ON)

/-- Whether the request to switch domain `d` off is refused: 25, 27 and 34 are, and so is one that leaves an on domain that
stays requested without its prerequisite. -/
def offRefused (stat req d : Nat) : Bool :=
  !req.testBit d && stat.testBit d &&
    (d == 25 || d == 27 || d == 34 || allDomains.any (fun e => stat.testBit e && req.testBit e && (requires e).contains d))

/-- Whether the request to switch domain `d` on is refused: a prerequisite is not requested. -/
def onRefused (stat req d : Nat) : Bool :=
  req.testBit d && !stat.testBit d && (requires d).any (fun e => !req.testBit e)

/-- The set with refused switch-offs put back to on. -/
def keepOn (stat req : Nat) : Nat := allDomains.foldl (fun r d => if offRefused stat req d then r ||| 2 ^ d else r) req

/-- The set with refused switch-ons put back to off. -/
def keepOff (stat req : Nat) : Nat := allDomains.foldl (fun r d => if onRefused stat req d then r - 2 ^ d else r) req

/-- The set the Plinth accepts of a requested one: refusals are followed through the chains of Table PWR-1. -/
def acceptSet (stat req : Nat) : Nat :=
  let r := keepOn stat (keepOn stat (keepOn stat (keepOn stat (keepOn stat req))))
  keepOff stat (keepOff stat (keepOff stat (keepOff stat (keepOff stat r))))

/-- Put the requested set. -/
def Plat.setReq (p : Plat) (r : Nat) : Plat :=
  (p.wr Reg.PWR_REQ_LO (BitVec.ofNat 32 r)).setFld Reg.PWR_REQ_HI Fld.PWR_REQ_HI_REQ (r / 2 ^ 32)

/-- DONE sets when PWR_STAT equals the requested set; BUSY shows that it does not. -/
def Plat.pwrProgress (p : Plat) : Plat :=
  if p.statSet = p.reqSet then (p.setFld Reg.PWR_STAT_HI Fld.PWR_STAT_HI_BUSY 0).setFlag Reg.PWR_EVT Fld.PWR_EVT_DONE
  else p.setFlag Reg.PWR_STAT_HI Fld.PWR_STAT_HI_BUSY

/-- A write of PWR_REQ_LO or PWR_REQ_HI (R404, R405). -/
def Plat.pwrRequest (p : Plat) (hi : Bool) (v : Word) : Plat :=
  let want := if hi then p.reqSet % 2 ^ 32 + 2 ^ 32 * (v.toNat % 16) else v.toNat + 2 ^ 32 * (p.reqSet / 2 ^ 32)
  let got := acceptSet p.statSet want
  let p := p.setReq got
  let p := match (allDomains.filter (fun d => got.testBit d != want.testBit d)).getLast? with
    | none => p
    | some d => (p.setFlag Reg.PWR_EVT Fld.PWR_EVT_SEQ_REFUSED).setFld Reg.PWR_EVT Fld.PWR_EVT_DOMAIN d
  p.pwrProgress

/-! ## Nodes and their demands (R412) -/

/-- The demand the formula gives for value `t` of node `i`. -/
def Plat.demandOf (p : Plat) (i : Nat) (t : Int) : Nat :=
  let level := p.sfld (Reg.THM_LIM i) Fld.THM_LIM_LEVEL
  if t < level then 0
  else min 7 (1 + ((t - level) / (atLeast1 (p.fld Reg.THM_TCFG Fld.THM_TCFG_STEP) : Int)).toNat)

/-- The demand of node `i` now. -/
def Thm.dem (h : Thm) (i : Nat) : Nat := SMap.get (fun _ => 0) h.demand i

/-- Put a node's demand. -/
def Thm.setDem (h : Thm) (i n : Nat) : Thm := { h with demand := SMap.set (fun _ => 0) h.demand i n }

/-- Whether the thermal supervision runs: THM_CTRL.EN is 1 and its domain is on (R407, R416). -/
def Plat.thmOn (p : Plat) : Bool := p.on 31 && p.bit Reg.THM_CTRL Fld.THM_CTRL_EN

/-- A node takes a value: VALUE, its trip count, and its demand, which rises at once and falls only to what the formula gives
for the value plus HYST; a rise from 0 sets LEVEL and counts (R412, R416). -/
def nodeValue (p : Plat) (h : Thm) (i : Nat) (t : Int) : Plat × Thm :=
  let p := p.setFld (Reg.THM_TEMP i) Fld.THM_TEMP_VALUE (bitsOf 12 t)
  let old := h.dem i
  let up := p.demandOf i t
  let down := p.demandOf i (t + p.fld Reg.THM_TCFG Fld.THM_TCFG_HYST)
  let new := if old < up then up else if down < old then down else old
  let h := { h.setDem i new with
      tripCnt := SMap.set (fun _ => 0) h.tripCnt i
        (if p.sfld Reg.THM_TRIP Fld.THM_TRIP_LIMIT ≤ t then SMap.get (fun _ => 0) h.tripCnt i + 1 else 0) }
  if old = 0 ∧ new ≠ 0 then
    ((p.setFlag Reg.THM_EVT Fld.THM_EVT_LEVEL).bump (Reg.THM_CNT_LO 0) 1 Reg.THM_EVT Fld.THM_EVT_CNT_SAT, h)
  else (p, h)

/-! ## The throttle level (R413) -/

/-- How many sensors have FAILED set. -/
def Plat.failedCount (p : Plat) : Nat :=
  ((List.range 24).filter (fun i => p.bit (Reg.THM_TEMP i) Fld.THM_TEMP_FAILED)).length

/-- The greatest node demand. -/
def Thm.maxDem (h : Thm) : Nat := (List.range 32).foldl (fun m i => max m (h.dem i)) 0

/-- The level that the terms of R413 call for, and the term it comes from (THM_STATUS.CAUSE): 1 node, 2 rate, 3 power, 4 floor,
5 two failed, 0 none; 0 while THM_CTRL.EN is 0. -/
def throttleWant (p : Plat) (h : Thm) : Nat × Nat :=
  if p.thmOn then
    let terms := [(h.maxDem, 1), (if h.rateOn then p.fld Reg.THM_TCFG Fld.THM_TCFG_RATE_LVL else 0, 2), (h.pDemand, 3),
      (p.fld Reg.THM_CTRL Fld.THM_CTRL_FLOOR, 4), (if 2 ≤ p.failedCount then 7 else 0, 5)]
    terms.foldl (fun b t => if b.1 < t.1 then t else b) (0, 0)
  else (0, 0)

/-- The throttle level L. -/
def Plat.level (p : Plat) : Nat := p.fld Reg.THM_STATUS Fld.THM_STATUS_LEVEL

/-- Change L, with its cause (R413). -/
def Plat.setLevel (p : Plat) (l cause : Nat) : Plat :=
  if p.level = l then p
  else ((p.setFld Reg.THM_STATUS Fld.THM_STATUS_LEVEL l).setFld Reg.THM_STATUS Fld.THM_STATUS_CAUSE cause).setFlag
    Reg.THM_EVT Fld.THM_EVT_CHANGE

/-- L rises at once to what the terms call for; it does not fall here. -/
def levelRise (p : Plat) (h : Thm) : Plat :=
  let w := throttleWant p h
  if p.level < w.1 then p.setLevel w.1 w.2 else p

/-- DWELL has run: the rate demand ends and L falls by one toward what the terms call for, unless the hold is in force. -/
def dwellStep (p : Plat) (h : Thm) : Plat × Thm :=
  let h := { h with rateOn := false }
  let w := throttleWant p h
  if w.1 < p.level ∧ p.bit Reg.THM_STATUS Fld.THM_STATUS_HOLD = false then (p.setLevel (p.level - 1) w.2, h) else (p, h)

/-- The 1 s hold ends, and L falls by one where the terms allow it. -/
def holdEnd (p : Plat) (h : Thm) : Plat :=
  if p.bit Reg.THM_STATUS Fld.THM_STATUS_HOLD then
    let p := p.setFld Reg.THM_STATUS Fld.THM_STATUS_HOLD 0
    let w := throttleWant p h
    if w.1 < p.level then p.setLevel (p.level - 1) w.2 else p
  else p

/-- THM_STATUS shows the hottest node and the failed count. -/
def Plat.showHot (p : Plat) : Plat :=
  let v := fun i => p.sfld (Reg.THM_TEMP i) Fld.THM_TEMP_VALUE
  let n := (List.range 32).foldl (fun b i => if v b < v i then i else b) 0
  ((p.setFld Reg.THM_STATUS Fld.THM_STATUS_HOT_NODE n).setFld Reg.THM_STATUS Fld.THM_STATUS_HOT (bitsOf 12 (v n))).setFld
    Reg.THM_STATUS Fld.THM_STATUS_FAILED p.failedCount

/-! ## Compensation (R417) -/

/-- The band a reading lies in, without hysteresis. -/
def Plat.rawBand (p : Plat) (t : Int) : Nat :=
  let w := atLeast1 (p.fld Reg.THM_COMP_CFG Fld.THM_COMP_CFG_WIDTH)
  min 15 ((t - p.sfld Reg.THM_COMP_CFG Fld.THM_COMP_CFG_BASE) / (w : Int)).toNat

/-- The band after a reading: it changes only when the reading has passed the boundary by 1 °C. -/
def Plat.nextBand (p : Plat) (old : Option Nat) (t : Int) : Nat :=
  match old with
  | none => p.rawBand t
  | some b => if b < p.rawBand (t - 4) then p.rawBand (t - 4) else if p.rawBand (t + 4) < b then p.rawBand (t + 4) else b

/-- A change of band applies the oscillator code at once and leaves the reference code waiting for each actuator. -/
def compBand (p : Plat) (h : Thm) (i : Nat) (t : Int) : Thm :=
  let s := p.fld Reg.THM_COMP_CFG Fld.THM_COMP_CFG_SENSOR
  if p.bit Reg.THM_COMP_CFG Fld.THM_COMP_CFG_EN ∧ i = (if 24 ≤ s then 0 else s) then
    let b := p.nextBand h.band t
    if h.band = some b then h
    else
      let r := p.sfld (Reg.THM_COMP b) Fld.THM_COMP_REF
      { h with
        band := some b, oscTrim := p.sfld (Reg.THM_COMP b) Fld.THM_COMP_OSC
        refWait := (List.range 4).foldl (fun m a => SMap.set (fun _ => none) m a (some r)) h.refWait }
  else h

/-- The waiting reference code of actuator `a` takes effect while its read front end is on, no read gate is up and the phase is
not SERVO. -/
def refApply (p : Plat) (h : Thm) (a : Nat) (gateUp servo : Bool) : Thm :=
  match SMap.get (fun _ => none) h.refWait a with
  | none => h
  | some r =>
    if gateUp || servo || !p.on (4 * a) then h
    else { h with refTrim := SMap.set (fun _ => 0) h.refTrim a r, refWait := SMap.set (fun _ => none) h.refWait a none }

/-! ## Sensors (R409, R410) -/

/-- A sensor's last valid reading. -/
def Thm.lastValid (h : Thm) (i : Nat) : Int := SMap.get (fun _ => 0) h.valid i

/-- Whether sensor `i` had the highest reading of all sensors at its last valid sample (R413). -/
def Thm.wasHottest (h : Thm) (i : Nat) : Bool := (List.range 24).all (fun j => decide (h.lastValid j ≤ h.lastValid i))

/-- The trim step of a sensor: APPLIED moves one code toward TARGET once per sample (R439). -/
def Plat.sensorTrim (p : Plat) (i : Nat) : Plat :=
  let a := p.sfld (Reg.THM_SNSTRIM i) Fld.THM_SNSTRIM_APPLIED
  let t := p.sfld (Reg.THM_SNSTRIM i) Fld.THM_SNSTRIM_TARGET
  p.setFld (Reg.THM_SNSTRIM i) Fld.THM_SNSTRIM_APPLIED (bitsOf 8 (if a < t then a + 1 else if t < a then a - 1 else a))

/-- The rate of a sensor: the reading less the one 1 ms earlier, which is the last one at 1 kHz and the sixteenth last at
16 kHz; 0 while fewer readings exist. -/
def Thm.rate (h : Thm) (fast : Bool) (i : Nat) (t : Int) : Int :=
  match (SMap.get (fun _ => []) h.hist i)[if fast then 15 else 0]? with
  | none => 0
  | some o => t - o

/-- The readings kept for the rate. -/
def Thm.remember (h : Thm) (i : Nat) (t : Int) : Thm :=
  { h with hist := SMap.set (fun _ => []) h.hist i (t :: (SMap.get (fun _ => []) h.hist i).take 15) }

/-- A valid reading: the rate test, FAST, and the node's value. -/
def sensorGood (p : Plat) (h : Thm) (i : Nat) (t : Int) : Plat × Thm :=
  let rl := p.fld (Reg.THM_LIM i) Fld.THM_LIM_RATE
  let tooFast : Bool := rl != 0 && decide ((rl : Int) < h.rate (p.bit (Reg.THM_TEMP i) Fld.THM_TEMP_FAST) i t)
  let p := if tooFast then (p.setFlag Reg.THM_EVT Fld.THM_EVT_RATE).bump (Reg.THM_CNT_LO 1) 1 Reg.THM_EVT Fld.THM_EVT_CNT_SAT else p
  let fast : Bool := decide (p.sfld (Reg.THM_LIM i) Fld.THM_LIM_LEVEL - 32 ≤ t)
    || decide (p.sfld Reg.THM_TRIP Fld.THM_TRIP_LIMIT - 32 ≤ t)
  let p := (p.putBit (Reg.THM_TEMP i) Fld.THM_TEMP_FAST fast).setFld (Reg.THM_TEMP i) Fld.THM_TEMP_SUB 0
  let h := { h.remember i t with
    rateOn := h.rateOn || tooFast, valid := SMap.set (fun _ => 0) h.valid i t }
  nodeValue p h i t

/-- A failed sensor: the value used is its model estimate plus 5 °C (R410). -/
def sensorSub (p : Plat) (h : Thm) (i : Nat) : Plat × Thm :=
  nodeValue (p.setFld (Reg.THM_TEMP i) Fld.THM_TEMP_SUB 1) h i (p.sfld (Reg.THM_TEMP i) Fld.THM_TEMP_EST + 20)

/-- The failure of a sensor: FAILED, SENS_FAIL, a Frieze event, and the hold when it was the hottest while L was above 0. -/
def sensorFails (p : Plat) (h : Thm) (i : Nat) (t : Int) : Plat × Thm :=
  let p := (p.setFlag (Reg.THM_TEMP i) Fld.THM_TEMP_FAILED).setFlag Reg.THM_EVT Fld.THM_EVT_SENS_FAIL
  let p := p.post 98 0x000A ([BitVec.ofNat 8 i, 0] ++ le2 (bitsOf 16 t)
    ++ le2 (bitsOf 16 (p.sfld (Reg.THM_TEMP i) Fld.THM_TEMP_EST)) ++ [0, 0])
  sensorSub (p.setFlagIf (h.wasHottest i && decide (0 < p.level)) Reg.THM_STATUS Fld.THM_STATUS_HOLD) h i

/-- Successive samples more than 20 °C from the estimate, held at 16. -/
def Thm.mismatch (h : Thm) (p : Plat) (i : Nat) (t : Int) : Nat :=
  let e := p.sfld (Reg.THM_TEMP i) Fld.THM_TEMP_EST
  if 80 < t - e ∨ t - e < -80 then min 16 (SMap.get (fun _ => 0) h.mism i + 1) else 0

/-- A sample of sensor `i`: `raw` is its conversion in 0.25 °C, `fault` whether the conversion reports a fault (R409, R410,
R413, R417). -/
def sensorSample (p : Plat) (h : Thm) (i : Nat) (raw : Int) (fault : Bool) : Plat × Thm :=
  if p.thmOn then
    let p := p.sensorTrim i
    let t := raw + p.sfld (Reg.THM_SNSTRIM i) Fld.THM_SNSTRIM_APPLIED
    let m := h.mismatch p i t
    let h := { h with mism := SMap.set (fun _ => 0) h.mism i m }
    let bad : Bool := fault || decide (t < -160) || decide (600 < t) || m == 16
    let r :=
      if p.bit (Reg.THM_TEMP i) Fld.THM_TEMP_FAILED then sensorSub p h i
      else if bad then sensorFails p h i t
      else sensorGood p h i t
    let h := compBand r.1 r.2 i (r.1.sfld (Reg.THM_TEMP i) Fld.THM_TEMP_VALUE)
    ((levelRise r.1 h).showHot, h)
  else (p.setLevel 0 0, h)

/-! ## The model (R411) and the power cap (R414) -/

/-- The power of rail `j`, mW. -/
def Thm.rail (h : Thm) (j : Nat) : Nat := SMap.get (fun _ => 0) h.railP j

/-- The filtered power of rail `j` after an update. -/
def Plat.filtered (p : Plat) (h : Thm) (j : Nat) : Int :=
  let pf : Int := p.fld (Reg.THM_RAIL j) Fld.THM_RAIL_PF
  pf + ((h.rail j : Int) - pf).tdiv ((2 ^ p.fld (Reg.THM_RAIL j) Fld.THM_RAIL_TAU : Nat) : Int)

/-- Coefficient k[i][j]: byte j of the pair THM_Ki. -/
def Plat.coeff (p : Plat) (i j : Nat) : Nat :=
  if j < 4 then ((p.rd (Reg.THM_K_LO i)).toNat / 2 ^ (8 * j)) % 256
  else ((p.rd (Reg.THM_K_HI i)).toNat / 2 ^ (8 * (j - 4))) % 256

/-- Tref: the reading of sensor REF, or the lowest among the sensors that have not failed. -/
def tref (p : Plat) (h : Thm) : Int :=
  let r := p.fld Reg.THM_CTRL Fld.THM_CTRL_REF
  let r := if 24 ≤ r then 0 else r
  if p.bit (Reg.THM_TEMP r) Fld.THM_TEMP_FAILED then
    match (List.range 24).filter (fun i => !p.bit (Reg.THM_TEMP i) Fld.THM_TEMP_FAILED) with
    | [] => h.lastValid r
    | i :: is => is.foldl (fun m j => min m (h.lastValid j)) (h.lastValid i)
  else h.lastValid r

/-- The estimate of node `i`. -/
def Plat.estimate (p : Plat) (base : Int) (i : Nat) : Int :=
  base + ((List.range 8).foldl (fun (s : Int) j => s + (p.coeff i j : Int) * p.fld (Reg.THM_RAIL j) Fld.THM_RAIL_PF) 0).tdiv 4000

/-- One update of the model: filtered powers, then every node's estimate; hot spots 24 to 31 and failed sensors take values
from it. -/
def modelUpdate (p : Plat) (h : Thm) : Plat × Thm :=
  if p.thmOn then
    let p := (List.range 8).foldl
      (fun q j => q.setFld (Reg.THM_RAIL j) Fld.THM_RAIL_PF (bitsOf 16 (p.filtered h j))) p
    let base := tref p h
    let r := (List.range 32).foldl (fun (s : Plat × Thm) i =>
        let q := s.1.setFld (Reg.THM_TEMP i) Fld.THM_TEMP_EST (bitsOf 12 (p.estimate base i))
        if 24 ≤ i then nodeValue q s.2 i (q.sfld (Reg.THM_TEMP i) Fld.THM_TEMP_EST)
        else if q.bit (Reg.THM_TEMP i) Fld.THM_TEMP_FAILED then sensorSub q s.2 i
        else (q, s.2)) (p, h)
    ((levelRise r.1 r.2).showHot, r.2)
  else (p, h)

/-- The total power of the eight rails, mW. -/
def Thm.total (h : Thm) : Nat := (List.range 8).foldl (fun s j => s + h.rail j) 0

/-- The end of a millisecond: the power demand moves against CAP by the mean total of the reports in it, and a millisecond spent
with L above 0 is counted. -/
def capTick (p : Plat) (h : Thm) : Plat × Thm :=
  if p.on 31 = false then (p, h) else
  let mean := if h.capN = 0 then h.total else h.capSum / h.capN
  let cap := 10 * p.fld Reg.THM_PCAP Fld.THM_PCAP_CAP
  let d :=
    if p.bit Reg.THM_PCAP Fld.THM_PCAP_EN then
      if cap < mean then min 7 (h.pDemand + 1) else if 16 * mean < 15 * cap then h.pDemand - 1 else h.pDemand
    else 0
  let h := { h with pDemand := d, capSum := 0, capN := 0 }
  let p := if 0 < p.level then p.bump (Reg.THM_CNT_LO 2) 1 Reg.THM_EVT Fld.THM_EVT_CNT_SAT else p
  (levelRise p h, h)

/-! ## Limits of the throttle's effects (Table PWR-4) -/

/-- Active actuators allowed at level `l`. -/
def activeLimit (l : Nat) : Nat :=
  match l with
  | 0 => 4
  | 1 => 4
  | 2 => 3
  | 3 => 3
  | 4 => 2
  | 5 => 2
  | 6 => 1
  | _ => 0

end Sys2Proof.Machine
end

