-- ==== Sys2Proof/Machine/TaskOps.lean ====
section
/-! DEFINITION. The dispatcher's and the Buffer Hub's end of an Actuator Link: sending tasks and data, taking what comes up,
closing tasks, and the link reset (R93 to R100, R296, R297, R303, R415). -/

namespace Sys2Proof.Machine

/-! ## What both ends show -/

/-- LNK_STATUS of link `n` shows the packets and tasks the link holds. -/
def Plat.showLink (p : Plat) (n : Nat) (l : Link) : Plat :=
  let busy : Bool := p.bit (Reg.TSQ_STATUS (p.servedBy n)) Fld.TSQ_STATUS_BUSY
  let p := p.setFld (Reg.LNK_STATUS n) Fld.LNK_STATUS_TASKS (l.queue.length + (if busy then 1 else 0))
  p.setFld (Reg.LNK_STATUS n) Fld.LNK_STATUS_ABRTS l.abrts

/-- The position with wrap of a posted slot, from the tail of its queue. -/
def slotPos (tail slot : Nat) : Nat :=
  let d := (tail + 64 - slot) % 32
  (tail + 64 - (if d = 0 then 32 else d)) % 64

/-- CMD_DQn_PTR shows the oldest slot not closed and the first not sent. -/
def showPtr (p : Plat) (c : Cmd) (n : Nat) : Plat :=
  let tail := p.fld (Reg.CMD_DQ_TAIL n) Fld.CMD_DQ_TAIL_TAIL
  let at0 (l : List Posted) : Nat := match l with
    | [] => tail
    | x :: _ => slotPos tail x.slot
  let p := p.setFld (Reg.CMD_DQ_PTR n) Fld.CMD_DQ_PTR_HEAD (at0 (c.posts n))
  p.setFld (Reg.CMD_DQ_PTR n) Fld.CMD_DQ_PTR_SENT (at0 ((c.posts n).filter (fun x => !x.sent)))

/-! ## Closing a task (R297) -/

/-- Merge a code and flags into tag `t` (Table CMD-1), and lower its TREF. -/
def mergeTag (p : Plat) (t code : Nat) (rebuilt late : Bool) : Plat :=
  let p := if p.ct t Ct.firstCode = 0 ∧ code ≠ 0 ∧ code ≠ 1 then p.setCt t Ct.firstCode code else p
  let p := (p.setCt t Ct.lastCode code).setCt t Ct.ended (min 63 (p.ct t Ct.ended + 1))
  let p := if rebuilt then p.setCt t Ct.rebuilt 1 else p
  let p := if late then p.setCt t Ct.abrtLate 1 else p
  let p := if code = 1 then p.setCt t Ct.recovered 1 else p
  p.setCt t Ct.tref (p.ct t Ct.tref - 1)

/-- A bound tag moves to DONE once nothing of it remains. -/
def Fe.doneIfLast (e : Fe) (t : Nat) : Fe :=
  if (e.p.tagState t = 3 ∨ e.p.tagState t = 4) ∧ e.p.ct t Ct.tref = 0 ∧ e.p.ct t Ct.lastSeen = 1 then e.tagDone t else e

/-- Close the task of posted descriptor `x` of queue `n`: steps 2 to 5 of R297. -/
def Fe.closeTask (e : Fe) (n : Nat) (x : Posted) (code : Nat) (rebuilt late : Bool) : Fe :=
  let tags := x.binds.map (fun b => b % 2 ^ 13)
  let p := tags.foldl (fun p t => mergeTag p t code rebuilt late) e.p
  let others := if code = 0x40 then e.c.others
    else tags.foldl (fun o t => SMap.set (fun _ => 0) o t (SMap.get (fun _ => 0) o t + 1)) e.c.others
  let c := { e.c with others := others }.setPosts n ((e.c.posts n).filter (fun y => y.slot != x.slot))
  tags.foldl Fe.doneIfLast { e with p := showPtr p c n, c := c }

/-- Write bytes into the buffer for the Buffer Hub, page by page from byte address `a`. -/
def hubStore (p : Plat) (b : Buf) : Nat → Nat → List Byte → Plat × Buf
  | 0, _, _ => (p, b)
  | k + 1, a, d =>
    if d = [] then (p, b)
    else
      let m := 4096 - a % 4096
      let w := bufWrite p b .hub a (d.take m)
      if w.2.2 then hubStore w.1 w.2.1 k (a + m) (d.drop m) else (w.1, w.2.1)

/-- BUF_PAGE, STS_LINE and STAT_LINE of slot `i` of queue `n`, read when they are used (R296). -/
def Plat.descPage (p : Plat) (n i : Nat) : Nat := p.desc n i 64 % 2 ^ 23
/-- STS_LINE. -/
def Plat.descSts (p : Plat) (n i : Nat) : Nat := p.desc n i 65 % 2 ^ 30
/-- STAT_LINE. -/
def Plat.descStat (p : Plat) (n i : Nat) : Nat := p.desc n i 66 % 2 ^ 30

/-- Step 1 of R297: the words of a STAT in order at STAT_LINE of slot `i` of queue `n`. -/
def Fe.putStat (e : Fe) (n i : Nat) (words : List Nat) : Fe :=
  let bytes := words.flatMap le8
  let w := hubStore e.p e.b (bytes.length / 4096 + 2) (32 * e.p.descStat n i) bytes
  { e with p := w.1, b := w.2 }

/-- FLAGS.ABRT_LATE and FLAGS.REBUILT of a STAT's first word, and its CODE (Table TSQ-8). -/
def statCode (words : List Nat) : Nat := bits (words.headD 0) 63 56
/-- FLAGS.ABRT_LATE. -/
def statLate (words : List Nat) : Bool := bits (words.headD 0) 37 37 == 1
/-- FLAGS.REBUILT. -/
def statRebuilt (words : List Nat) : Bool := bits (words.headD 0) 35 35 == 1

/-! ## Sending (R93 to R96, R296, R303, R415) -/

/-- Task word `w`, 0 to 7, and extension word `w` of slot `i` of queue `n`. -/
def Plat.descWord (p : Plat) (n i w : Nat) : Nat := p.desc n i (2 * w) + 2 ^ 32 * p.desc n i (2 * w + 1)

/-- The downstream DATA of a task (R96): NSECT sectors of a write, ceil(OFS ÷ 4,096) pieces of a LOAD, none of any other. -/
def taskData (words : List Nat) : Nat :=
  let w4 := words.getD 4 0
  match bits (words.headD 0) 63 60 with
  | 1 => bits w4 63 54
  | 3 => bits w4 63 54
  | 5 => (bits w4 31 0 + 4095) / 4096
  | _ => 0

/-- Whether link `l` makes its actuator active: it holds a task of a kind other than LOAD (R415). -/
def Link.isActive (l : Link) : Bool := l.hub.any (fun x => x.kind != 5)

/-- Whether link `n` can carry packets at the dispatcher's end. -/
def Plat.linkUp (p : Plat) (n : Nat) : Bool := p.bit (Reg.LNK_CTRL n) Fld.LNK_CTRL_ENABLE && p.on (4 * n + 2)

/-- The first descriptor of queue `n` neither sent nor closed. -/
def Cmd.nextPost (c : Cmd) (n : Nat) : Option Posted := (c.posts n).find? (fun x => !x.sent)

/-- Whether the dispatcher may send the task of `words` on link `n`: a credit, no brown-out, every packet of the earlier tasks
sent (R94), and the throttle (Table PWR-4), `active` being the number of active actuators. -/
def mayTask (p : Plat) (c : Cmd) (l : Link) (n active : Nat) (words : List Nat) : Bool :=
  !c.hold && p.linkUp n && decide (0 < l.credit) && l.hub.all (fun x => decide (x.total ≤ x.sent))
    && (bits (words.headD 0) 63 60 == 5 || l.isActive
        || decide (active < activeLimit (p.fld Reg.THM_STATUS Fld.THM_STATUS_LEVEL)))

/-- The bound tags in ADMITTED move to DISPATCHED. -/
def dispatchTags (p : Plat) (binds : List Nat) : Plat :=
  binds.foldl (fun p b => if p.tagState (b % 2 ^ 13) = 2 then p.moveTag (b % 2 ^ 13) 3 else p) p

/-- The dispatcher sends the next TASK of queue `n`. -/
def taskSend (p : Plat) (c : Cmd) (l : Link) (n active : Nat) : Plat × Cmd × Link :=
  match c.nextPost n with
  | none => (p, c, l)
  | some x =>
    let raw := (List.range 8).map (p.descWord n x.slot)
    let w0 := raw.headD 0
    let words := (w0 - w0 / 2 ^ 16 % 2 ^ 16 * 2 ^ 16 + l.next * 2 ^ 16) :: raw.drop 1
    if x.abort ∨ mayTask p c l n active words = false then (p, c, l)
    else
      let exts := (List.range (min (bits w0 15 8) 24)).map (fun k => p.descWord n x.slot (8 + k))
      let tag := bits w0 55 43
      let c := c.setPosts n ((c.posts n).map (fun y => if y.slot = x.slot then { y with sent := true, tnum := l.next } else y))
      let l' : Link := { l with
        credit := l.credit - 1
        next := (l.next + 1) % 65536
        hub := l.hub ++ [⟨tag, l.next, x.slot, bits w0 63 60, taskData words, 0, 0⟩]
        down := l.down ++ [.task tag l.next words exts] }
      (showPtr (dispatchTags p x.binds) c n, c, l')

/-- The dispatcher closes the aborted descriptor that it has reached in queue `n`, as though a STAT with ABORTED had arrived
(R303). -/
def Fe.closeUnsent (e : Fe) (n : Nat) : Fe :=
  match e.c.nextPost n with
  | none => e
  | some x =>
    if x.abort then
      (e.putStat n x.slot (blankStat 0x40 ((List.range 8).map (e.p.descWord n x.slot)))).closeTask n x 0x40 false false
    else e

/-- One piece of a task's downstream data, by the Buffer Hub: a sector, or a piece of a LOAD's image, whole words (R93); `false`
marks data that the buffer could not give (R327). -/
def hubPiece (p : Plat) (b : Buf) (n : Nat) (x : HubTask) : Plat × Buf × List Byte × Bool :=
  let len := if x.kind = 5 then
      min 4096 ((bits (p.descWord n x.slot 4) 31 0 + 7) / 8 * 8 - 4096 * x.sent) else 4096
  let r := bufRead p b .hub (4096 * (p.descPage n x.slot + x.sent)) len .good
  match r.2.2 with
  | none => (r.1, r.2.1, List.replicate len 0, false)
  | some d => (r.1, r.2.1, d, true)

/-- The Buffer Hub sends the next downstream DATA that link `n` may carry (R96). -/
def dataDownSend (p : Plat) (b : Buf) (l : Link) (n : Nat) : Plat × Buf × Link :=
  match l.hub.find? (fun x => decide (x.sent < min x.granted x.total)) with
  | none => (p, b, l)
  | some x =>
    if p.linkUp n then
      let r := hubPiece p b n x
      let sent (y : HubTask) : HubTask := if y.tnum = x.tnum then { y with sent := y.sent + 1 } else y
      (r.1, r.2.1, { l with
        hub := l.hub.map sent
        down := l.down ++ [.data x.tag x.tnum x.sent r.2.2.1 (!r.2.2.2)] })
    else (p, b, l)

/-- ABRTs for the tasks that an ABORT names on link `n` (R98, R303). -/
def Link.sendAbrts (l : Link) (n : Nat) (as : List (Nat × Nat)) : Link :=
  { l with down := l.down ++ ((as.filter (fun x => x.1 == n)).flatMap (fun x =>
      (l.hub.filter (fun y => y.tnum == x.2)).map (fun y => DnPkt.abrt y.tag y.tnum))) }

/-! ## Receiving (R93, R96, R97, R100) -/

/-- The Buffer Hub discards a packet of the oldest open task: LINK_ERROR for its tags when its STAT arrives. -/
def Cmd.markLinkErr (c : Cmd) (l : Link) (n : Nat) : Cmd :=
  match l.hub with
  | [] => c
  | x :: _ => c.setPosts n ((c.posts n).map (fun y => if y.sent ∧ y.tnum = x.tnum then { y with linkErr := true } else y))

/-- Whether an upstream packet is taken as it arrives: without error, or corrected. -/
def usable (f : LinkFault) : Bool :=
  match f with
  | .good => true
  | .corrected => true
  | .uncorrectable => false
  | .protocol => false

/-- An XRDY's COUNT is added to its task's grant. -/
def grantTo (tnum count : Nat) (x : HubTask) : HubTask :=
  if x.tnum = tnum then { x with granted := x.granted + count } else x

/-- An XRDY arrives at the Buffer Hub. -/
def xrdyReceive (p : Plat) (c : Cmd) (l : Link) (n : Nat) (f : LinkFault) : Cmd × Link :=
  match l.up with
  | .xrdy _ tnum count :: rest =>
    if p.linkUp n then
      if usable f then
        (c, { l with up := rest, hub := l.hub.map (grantTo tnum count) })
      else (c.markLinkErr l n, { l with up := rest })
    else (c, l)
  | _ => (c, l)

/-- One upstream credit returns to the Track Sequencer. -/
def Plat.returnCredit (p : Plat) (n : Nat) : Plat :=
  p.setFld (Reg.LNK_STATUS n) Fld.LNK_STATUS_UP_CREDIT (p.fld (Reg.LNK_STATUS n) Fld.LNK_STATUS_UP_CREDIT + 1)

/-- The Buffer Hub places an upstream sector by its SIDX: the data at BUF_PAGE + SIDX, metadata and status at line STS_LINE +
SIDX. -/
def placeSector (p : Plat) (b : Buf) (n slot sidx : Nat) (bytes : List Byte) (m0 m1 st : Nat) : Plat × Buf :=
  let w := bufWrite p b .hub (4096 * (p.descPage n slot + sidx)) bytes
  hubStore w.1 w.2.1 2 (32 * (w.1.descSts n slot + sidx)) (le8 m0 ++ le8 m1 ++ le8 st)

/-- An upstream DATA arrives at the Buffer Hub. -/
def dataUpReceive (p : Plat) (b : Buf) (c : Cmd) (l : Link) (n : Nat) (f : LinkFault) : Plat × Buf × Cmd × Link :=
  match l.up with
  | .data _ tnum sidx bytes m0 m1 st :: rest =>
    if p.linkUp n then
      if usable f then
        match l.hub.find? (fun x => x.tnum == tnum) with
        | none => (p.returnCredit n, b, c, { l with up := rest })
        | some x =>
          let w := placeSector p b n x.slot sidx bytes m0 m1 st
          (w.1.returnCredit n, w.2, c, { l with up := rest })
      else (p.returnCredit n, b, c.markLinkErr l n, { l with up := rest })
    else (p, b, c, l)
  | _ => (p, b, c, l)

/-- Task `x` of link `l` closes: it leaves the open tasks and its credit returns. -/
def Link.closed (l : Link) (x : HubTask) : Link :=
  { l with hub := l.hub.filter (fun y => y.tnum != x.tnum), credit := l.credit + 1 }

/-- The posted descriptor of open task `x` of queue `n`. -/
def Cmd.postOf (c : Cmd) (n : Nat) (x : HubTask) : Option Posted := (c.posts n).find? (fun y => y.sent && y.tnum == x.tnum)

/-- A STAT is discarded: the oldest open task closes with LINK_ERROR. -/
def statLost (e : Fe) (l : Link) (n : Nat) : Fe × Link :=
  match l.hub with
  | [] => (e, l)
  | x :: _ =>
    match e.c.postOf n x with
    | none => (e, l.closed x)
    | some y => (e.closeTask n y 0x41 false false, l.closed x)

/-- A STAT arrives at the dispatcher; one that matches no sent descriptor is discarded. -/
def statReceive (e : Fe) (l : Link) (n : Nat) (f : LinkFault) : Fe × Link :=
  match l.up with
  | .stat _ tnum words :: rest =>
    if e.p.linkUp n then
      let l := { l with up := rest }
      if usable f then
        match l.hub.find? (fun x => x.tnum == tnum) with
        | none => ({ e with p := e.p.setFlag Reg.CMD_EVT Fld.CMD_EVT_STAT_ORPHAN }, l)
        | some x =>
          match e.c.postOf n x with
          | none => ({ e with p := e.p.setFlag Reg.CMD_EVT Fld.CMD_EVT_STAT_ORPHAN }, l.closed x)
          | some y =>
            let code := if y.linkErr then 0x41 else statCode words
            ((e.putStat n y.slot words).closeTask n y code (statRebuilt words) (statLate words), l.closed x)
      else statLost e l n
    else (e, l)
  | _ => (e, l)

/-! ## Link reset (LNK_CTRL.RESET) -/

/-- Every open task closes with ACT_RESET, oldest first. -/
def resetTasks (n : Nat) : List HubTask → Fe → Fe
  | [], e => e
  | x :: xs, e =>
    match e.c.postOf n x with
    | none => resetTasks n xs e
    | some y => resetTasks n xs (e.closeTask n y 0x53 false false)

/-- The credits of LNK_STATUS after a link reset. -/
def Plat.freshCredits (p : Plat) (n : Nat) : Plat :=
  (p.setFld (Reg.LNK_STATUS n) Fld.LNK_STATUS_UP_CREDIT 16).setFld (Reg.LNK_STATUS n) Fld.LNK_STATUS_DN_GRANT 0

end Sys2Proof.Machine
end

