-- ==== Sys2Proof/Machine/Ops.lean ====
section
/-! DEFINITION. How an operation on a part of the machine becomes an operation on the machine: reading and writing an actuator and
a Track Sequencer, and one lift per group of parts that operations work on together. A lift changes nothing but the parts it
names. -/

namespace Sys2Proof.Machine

/-! ## Actuators and Track Sequencers -/

/-- Actuator `n`. -/
def Dev.act (d : Dev) (n : Fin 4) : Act :=
  match n with
  | 0 => d.act0
  | 1 => d.act1
  | 2 => d.act2
  | 3 => d.act3

/-- Put actuator `n`. -/
def Dev.setAct (d : Dev) (n : Fin 4) (x : Act) : Dev :=
  match n with
  | 0 => { d with act0 := x }
  | 1 => { d with act1 := x }
  | 2 => { d with act2 := x }
  | 3 => { d with act3 := x }

/-- Track Sequencer `t`: 0 to 3, or 4 the spare. -/
def Dev.tsq (d : Dev) (t : Fin 5) : Tsq :=
  match t with
  | 0 => d.tsq0
  | 1 => d.tsq1
  | 2 => d.tsq2
  | 3 => d.tsq3
  | 4 => d.tsq4

/-- Put Track Sequencer `t`. -/
def Dev.setTsq (d : Dev) (t : Fin 5) (x : Tsq) : Dev :=
  match t with
  | 0 => { d with tsq0 := x }
  | 1 => { d with tsq1 := x }
  | 2 => { d with tsq2 := x }
  | 3 => { d with tsq3 := x }
  | 4 => { d with tsq4 := x }

/-- The Track Sequencer that serves actuator `n` (R128). -/
def Dev.serving (d : Dev) (n : Fin 4) : Fin 5 := if d.plat.servedBy n = 4 then 4 else n.castSucc

/-- The actuator whose units Track Sequencer `t` works with: the spare's is the one named by HOST. -/
def Dev.hostOf (d : Dev) (t : Fin 5) : Fin 4 :=
  match t with
  | 0 => 0
  | 1 => 1
  | 2 => 2
  | 3 => 3
  | 4 => Fin.ofNat 4 (d.plat.fld (Reg.TSQ_CTRL 4) Fld.TSQ_CTRL_HOST)

/-- Actuator `n` at work with Track Sequencer `t`. -/
def Dev.acWith (d : Dev) (n : Fin 4) (t : Fin 5) : Ac :=
  ⟨n, t, d.plat, (d.act n).link, d.tsq t, (d.act n).gate, (d.act n).arm⟩

/-- Put back what an actuator's units have done. -/
def Dev.putAc (d : Dev) (n : Fin 4) (t : Fin 5) (a : Ac) : Dev :=
  ({ d with plat := a.p }.setAct n ⟨a.l, a.g, a.m⟩).setTsq t a.q

/-! ## Lifts -/

/-- An operation on actuator `n` and the Track Sequencer that serves it. -/
def Dev.onAc (d : Dev) (n : Fin 4) (f : Ac → Ac) : Dev := d.putAc n (d.serving n) (f (d.acWith n (d.serving n)))

/-- An operation on Track Sequencer `t` and the actuator it works with. -/
def Dev.onTsq (d : Dev) (t : Fin 5) (f : Ac → Ac) : Dev := d.putAc (d.hostOf t) t (f (d.acWith (d.hostOf t) t))

/-- An operation on what every block shares. -/
def Dev.onPlat (d : Dev) (f : Plat → Plat) : Dev := { d with plat := f d.plat }

/-- An operation on the SYS block. -/
def Dev.onSys (d : Dev) (f : Plat → Sys → Plat × Sys) : Dev :=
  { d with plat := (f d.plat d.sys).1, sys := (f d.plat d.sys).2 }

/-- An operation on the thermal supervision. -/
def Dev.onThm (d : Dev) (f : Plat → Thm → Plat × Thm) : Dev :=
  { d with plat := (f d.plat d.thm).1, thm := (f d.plat d.thm).2 }

/-- An operation on the MGT block. -/
def Dev.onMgt (d : Dev) (f : Plat → Mgt → Plat × Mgt) : Dev :=
  { d with plat := (f d.plat d.mgt).1, mgt := (f d.plat d.mgt).2 }

/-- An operation on the buffer and the stage cache. -/
def Dev.onBuf (d : Dev) (f : Plat → Buf → Plat × Buf) : Dev :=
  { d with plat := (f d.plat d.buf).1, buf := (f d.plat d.buf).2 }

/-- An operation on the crypto block. -/
def Dev.onSec (d : Dev) (f : Plat → Sec → Plat × Sec) : Dev :=
  { d with plat := (f d.plat d.sec).1, sec := (f d.plat d.sec).2 }

/-- An operation on the BCL block. -/
def Dev.onBcl (d : Dev) (f : Plat → Bcl → Plat × Bcl) : Dev :=
  { d with plat := (f d.plat d.bcl).1, bcl := (f d.plat d.bcl).2 }

/-- An operation on the Host Interface's own state. -/
def Dev.onHif (d : Dev) (f : Plat → Hif → Plat × Hif) : Dev :=
  { d with plat := (f d.plat d.hif).1, hif := (f d.plat d.hif).2 }

/-- An operation on the CMD block. -/
def Dev.onCmd (d : Dev) (f : Plat → Cmd → Plat × Cmd) : Dev :=
  { d with plat := (f d.plat d.cmd).1, cmd := (f d.plat d.cmd).2 }

/-- An operation on the Keep. -/
def Dev.onKeep (d : Dev) (f : Plat → Keep → Plat × Keep) : Dev :=
  { d with plat := (f d.plat d.keep).1, keep := (f d.plat d.keep).2 }

/-- An operation on the spindle controller. -/
def Dev.onSpl (d : Dev) (f : Plat → Spl → Plat × Spl) : Dev :=
  { d with plat := (f d.plat d.spl).1, spl := (f d.plat d.spl).2 }

/-- The front end of the data plane. -/
def Dev.fe (d : Dev) : Fe := ⟨d.plat, d.hif, d.cmd, d.buf, d.sec⟩

/-- Put back the front end of the data plane. -/
def Dev.putFe (d : Dev) (e : Fe) : Dev := { d with plat := e.p, hif := e.h, cmd := e.c, buf := e.b, sec := e.s }

/-- An operation on the front end of the data plane. -/
def Dev.onFe (d : Dev) (f : Fe → Fe) : Dev := d.putFe (f d.fe)

/-- Put the link of actuator `n`. -/
def Dev.setLink (d : Dev) (n : Fin 4) (l : Link) : Dev := d.setAct n { d.act n with link := l }

/-- An operation on the front end and link `n`; LNK_STATUS follows. -/
def Dev.onLink (d : Dev) (n : Fin 4) (f : Fe → Link → Fe × Link) : Dev :=
  let r := f d.fe (d.act n).link
  ((d.putFe r.1).setLink n r.2).onPlat (fun p => p.showLink n r.2)

/-- The ABRTs that an ABORT sends on each link. -/
def Dev.sendAbrts (d : Dev) (as : List (Nat × Nat)) : Dev :=
  [0, 1, 2, 3].foldl (fun (d : Dev) (n : Fin 4) =>
    if as.any (fun x => x.1 == n.val) then
      let l := (d.act n).link.sendAbrts n as
      (d.setLink n l).onPlat (fun p => p.showLink n l)
    else d) d

/-! ## Register writes (R389, R391) -/

/-- A register write by core `c` to address `a`: a bus error of kind 4 while the register's domain is off, else its effect. -/
def Dev.regWrite (d : Dev) (c : Fin 4) (a : Nat) (f : Dev → Dev) : Dev :=
  if d.plat.on (domainOf a) then f d else d.onPlat (fun p => p.busErr a c true 4)

/-- A register read by core `c` of address `a`: a bus error of kind 4, reading all ones, while the domain is off. -/
def Dev.regRead (d : Dev) (c : Fin 4) (a : Nat) (f : Dev → Dev) : Dev :=
  if d.plat.on (domainOf a) then f d else d.onPlat (fun p => { p.busErr a c false 4 with resp := 0xFFFFFFFF })

/-! ## Meanings -/

/-- The outcome of a command whose effect on the part is `f`: the part after it, the queue as it stands. -/
def State.does (s : State) (f : Dev → Dev) : Host.Outcome State Fault Refusal := .next { s with dev := f s.dev }

end Sys2Proof.Machine
end

