-- ==== Sys2Proof/Machine/PowerOps.lean ====
section
/-! DEFINITION. What a power domain loses when it goes off and has when it comes on, standby, the thermal trip, the Power Control
Link, brown-out, the chip resets and the boot ROM (R361, R369 to R373, R381, R402 to R407, R416, R438, R470 to R479, R509 to
R512). -/

namespace Sys2Proof.Machine

/-! ## Registers of a domain (R391) -/

/-- Whether the register at `a` of the SYS window lies in the Plinth, which is never switched: SYS_RST_CAUSE, the watchdog, PWR_*
and SYS_PL_*. -/
def plinthReg (a : Nat) : Bool := a == Reg.SYS_RST_CAUSE || (decide (0x40000100 ≤ a) && decide (a < 0x40000300))

/-- Whether the register at `a` belongs to switched domain `k`. -/
def inDomain (k a : Nat) : Bool := domainOf a == k && !plinthReg a

/-- The registers of domain `k` take their Reset values. -/
def Plat.dropRegs (p : Plat) (k : Nat) : Plat :=
  { p with
    regs := p.regs.filter (fun e => !inDomain k e.1)
    hold := p.hold.filter (fun e => !inDomain k e.1)
    cap := p.cap.filter (fun e => !inDomain k e.1) }

/-! ## What a domain holds beside its registers (Table PWR-2) -/

/-- The range of a memory test that a reset or switch-off cuts short takes undefined contents (R434). -/
def Dev.mbLost (d : Dev) : Dev :=
  match d.bcl.mb with
  | none => d
  | some t =>
    let v := d.plat.freeVal
    let d := d.onPlat Plat.useFree
    match t.mem with
    | 0 => { d with sys := d.sys.lose v t.addr t.len }
    | 6 => d.onPlat (fun p => { p with frz := p.frz.lose v t.addr t.len })
    | m => if t.unit < 5 then d.setTsq (Fin.ofNat 5 t.unit) ((d.tsq (Fin.ofNat 5 t.unit)).lose m v t.addr t.len) else d

/-- The words of failing cells of the memory under test, at byte offsets `bad`, take undefined contents (R433). -/
def Dev.mbBadWords (d : Dev) (bad : List Nat) : Dev :=
  match d.bcl.mb with
  | none => d
  | some t => bad.foldl (fun d o => { d with bcl := { d.bcl with mb := some { t with addr := o, len := 8 } } }.mbLost) d

/-- A loop-back test ends its hold on the gate unit. -/
def Dev.lbFree (d : Dev) : Dev :=
  match d.bcl.lb with
  | none => d
  | some x => d.onAc (Fin.ofNat 4 x.1) Ac.freeIdle

/-- The units of an actuator that one of its four domains holds: read front end, detectors, write/sequencer, Armature. -/
def Act.lose (x : Act) (j : Nat) : Act :=
  match j with
  | 0 => { x with gate := { x.gate with acq := 0, ta := 0, taHeld := 0, settling := 0, chn := 0 } }
  | 1 => { x with gate := { x.gate with rows := [] } }
  | 2 => { x with
      link := { x.link with down := [], up := [], queue := [], owed := [] }
      gate := { gateReset with rows := x.gate.rows, acq := x.gate.acq, ta := x.gate.ta, taHeld := x.gate.taHeld,
                               settling := x.gate.settling, chn := x.gate.chn, still := x.gate.still } }
  | _ => { x with arm := armReset }

/-- The stage cache without the ways of bank `j`. -/
def Buf.loseBank (b : Buf) (j : Nat) : Buf :=
  let b := { b with lines := b.lines.filter (fun e => e.1 % 16 / 4 != j) }
  if j = 0 then { b with victims := [], wbuf := [], op := none, wayClean := 0, order := [] } else b

/-- Both ports' links go down with the PCIe domains (R268). -/
def Fe.linksDown (e : Fe) : Fe := (e.linkDown 0 false).linkDown 1 false

/-- What domain `k` holds beside its registers is lost. -/
def Dev.lose (d : Dev) (k : Nat) : Dev :=
  if k < 16 then
    let n := Fin.ofNat 4 (k / 4)
    let d := d.setAct n ((d.act n).lose (k % 4))
    match k % 4 with
    | 2 => d.setTsq n.castSucc tsqReset
    | 3 =>
      let keep (u : Nat) : Bool := u / 8 != n.val && u != 32 + n.val
      let d := d.onPlat (fun p => { p with lostUnit := p.lostUnit.filter (fun e => keep e.1) })
      if n = 0 then { d with spl := splReset } else d
    | _ => d
  else
    match k with
    | 16 => d.onFe Fe.linksDown
    | 17 => d.onFe Fe.linksDown
    | 18 => { d with buf := { d.buf with dram := [], werr := [], perr := [], hard := [] } }
    | 19 => { d with buf := { d.buf with dram := [], werr := [], perr := [], hard := [] } }
    | 20 => { d with buf := bufReset }
    | 21 => { d with buf := d.buf.loseBank 0 }
    | 22 => { d with buf := d.buf.loseBank 1 }
    | 23 => { d with buf := d.buf.loseBank 2 }
    | 24 => { d with buf := d.buf.loseBank 3 }
    | 25 => { d with sys := { d.sys with cores := d.sys.cores.filter (fun e => decide (2 ≤ e.1)) } }
    | 26 =>
      let d := { d with sys := { d.sys with cores := d.sys.cores.filter (fun e => decide (e.1 < 2)) } }
      d.onPlat (fun p => (p.putBit Reg.SYS_CORE_STAT ⟨2, 1⟩ false).putBit Reg.SYS_CORE_STAT ⟨3, 1⟩ false)
    | 27 => { d with sys := { d.sys with sram := [] } }
    | 28 => ({ d with sec := secReset }).onPlat (fun p => { p with stgShown := false })
    | 29 => { d with keep := { d.keep with stream := none } }
    | 30 => ({ d with mgt := mgtReset }).onPlat (fun p => { p with frz := platReset.frz })
    | 31 => { d with thm := { thmReset with tripped := d.thm.tripped, pclTx := d.thm.pclTx } }
    | 32 => d.onPlat (fun p => { p with trc := platReset.trc })
    | 33 => { d.mbLost.lbFree with bcl := bclReset }
    | 34 =>
      let d := { d with cmd := { cmdReset with hold := d.cmd.hold }, sys := { d.sys with claimant := [], console := [] } }
      [0, 1, 2, 3].foldl (fun d n => d.setLink n freshLink) d
    | 35 => d.setTsq 4 tsqReset
    | _ => d

/-- The effective Unit States of the actuator that domain `k` belongs to follow. -/
def Plat.unitsOf (p : Plat) (k : Nat) : Plat := if k < 16 then p.updateUnits (k / 4) else p

/-- Domain `k` is switched off. -/
def Dev.domainOff (d : Dev) (k : Nat) : Dev :=
  (d.lose k).onPlat (fun p => ((p.dropRegs k).setOn k false).unitsOf k)

/-- The reference code that waits for an actuator's read front end takes effect when it is switched on (R417). -/
def Dev.refOn (d : Dev) (k : Nat) : Dev :=
  if k < 16 ∧ k % 4 = 0 then { d with thm := refApply d.plat d.thm (k / 4) false false } else d

/-- Domain `k` is switched on, its registers at their Reset values; the Keep interface shows the Keep's own state. -/
def Dev.domainOn (d : Dev) (k : Nat) : Dev :=
  let d := (d.onPlat (fun p => ((p.dropRegs k).setOn k true).unitsOf k)).refOn k
  if k = 29 then d.onPlat (fun p => keepShow p d.keep) else d

/-! ## Switching (R404, R407, R416) -/

/-- Whether the Plinth still switches domains: not in standby, not after a trip. -/
def Dev.switching (d : Dev) : Bool := !d.plat.standby && d.thm.tripped.isNone

/-- Switching domain `k` on completes: it is requested and its prerequisites are on. -/
def Dev.switchOn (d : Dev) (k : Nat) : Dev :=
  if k < 36 ∧ d.switching ∧ d.plat.reqSet.testBit k ∧ d.plat.on k = false ∧ (requires k).all d.plat.on then
    (d.domainOn k).onPlat Plat.pwrProgress
  else d

/-- Switching domain `k` off completes: it is not requested, and no domain that is on requires it. -/
def Dev.switchOff (d : Dev) (k : Nat) : Dev :=
  if k < 36 ∧ d.switching ∧ d.plat.reqSet.testBit k = false ∧ d.plat.on k
      ∧ allDomains.all (fun e => !(d.plat.on e && (requires e).contains k)) then
    (d.domainOff k).onPlat Plat.pwrProgress
  else d

/-- Every domain, dependants first. -/
def offOrder : List Nat :=
  [32, 33, 35, 29, 28, 24, 23, 22, 21, 20, 19, 18, 17, 16, 3, 1, 2, 0, 7, 5, 6, 4, 11, 9, 10, 8, 15, 13, 14, 12, 26, 25, 27, 34,
   31, 30]

/-- The domains that are on and satisfy `q` go off, dependants first; the requested set follows. -/
def Dev.allOff (d : Dev) (q : Nat → Bool) : Dev :=
  let d := (offOrder.filter q).foldl (fun d k => if d.plat.on k then d.domainOff k else d) d
  d.onPlat (fun p => (p.setReq p.statSet).setFld Reg.PWR_STAT_HI Fld.PWR_STAT_HI_BUSY 0)

/-- A write of PWR_STBY: THM_ON is taken, and with ENTER every domain but management, and thermal/reference while THM_ON is 1, goes
off. -/
def Dev.stbyWrite (d : Dev) (v : Word) : Dev :=
  let d := d.onPlat (fun p => p.fwWrite Reg.PWR_STBY v)
  if Fld.get Fld.PWR_STBY_ENTER v = 1 then
    let thm := d.plat.bit Reg.PWR_STBY Fld.PWR_STBY_THM_ON
    let d := d.allOff (fun k => k != 30 && !(k == 31 && thm))
    d.onPlat (fun p => { p with standby := true })
  else d

/-- The bytes of a TRIP frame (R512). -/
def tripFrame (node : Nat) : List Byte :=
  let b : List Byte := [0x54, BitVec.ofNat 8 node]
  b ++ [BitVec.ofNat 8 (crc8 b)]

/-- A TRIP frame leaves on PCL_TX. -/
def Thm.sendTrip (h : Thm) : Thm :=
  match h.tripped with
  | none => h
  | some i => { h with pclTx := h.pclTx ++ [tripFrame i] }

/-- The node that trips: the first at or above LIMIT for COUNT successive samples, while THM_CTRL.EN is 1. -/
def tripNode (p : Plat) (h : Thm) : Option Nat :=
  if p.thmOn ∧ h.tripped = none then
    (List.range 32).find? (fun i => decide (atLeast1 (p.fld Reg.THM_TRIP Fld.THM_TRIP_COUNT) ≤ SMap.get (fun _ => 0) h.tripCnt i))
  else none

/-- The Plinth trips (R416). -/
def Dev.thermalTrip (d : Dev) : Dev :=
  match tripNode d.plat d.thm with
  | none => d
  | some i =>
    let v := d.plat.sfld (Reg.THM_TEMP i) Fld.THM_TEMP_VALUE
    let d := d.allOff (fun k => k != 30 && k != 31)
    let d := d.onPlat (fun p => (p.setFlag Reg.THM_EVT Fld.THM_EVT_TRIP).post 100 0x000B ([BitVec.ofNat 8 i, 0] ++ le2 (bitsOf 16 v)))
    { d with thm := ({ d.thm with tripped := some i }).sendTrip }

/-! ## Brown-out (R315, R361, R434) -/

/-- Brown-out asserts: fetch and dispatch hold, Keep commands end, a memory test's march stops. -/
def Dev.brownStart (d : Dev) : Dev :=
  let d := { d with cmd := { d.cmd with hold := true }, bcl := d.bcl.brownout }
  let d := d.onPlat (fun p => (p.setFlag Reg.SYS_PL_EVT Fld.SYS_PL_EVT_BROWNOUT).setFlag Reg.SYS_PL_STAT Fld.SYS_PL_STAT_BROWNOUT)
  d.onKeep keepBrownout

/-- Brown-out clears with PWR_OK high: fetch and dispatch resume. -/
def Dev.brownStop (d : Dev) : Dev :=
  let d := { d with cmd := { d.cmd with hold := false } }
  (d.onPlat (fun p => p.setFld Reg.SYS_PL_STAT Fld.SYS_PL_STAT_BROWNOUT 0)).onKeep keepBrownClear

/-- Brown-out is in force while the Plinth's detector or the board power IC reports it. -/
def Dev.brownUpdate (d : Dev) : Dev :=
  let b := d.sys.detector || d.plat.bit Reg.SYS_PL_PCL Fld.SYS_PL_PCL_BROWNOUT
  if b = d.keep.brown then d else if b then d.brownStart else d.brownStop

/-- The Plinth's detector asserts or clears. -/
def Dev.detect (d : Dev) (b : Bool) : Dev := { d with sys := { d.sys with detector := b } }.brownUpdate

/-! ## Chip resets (R470 to R472, R366, R367) -/

/-- The bits of the register at `a` that survive a pin or watchdog reset (Table SUW-2). -/
def surviveMask (a : Nat) : Word :=
  if a = Reg.SYS_RST_CAUSE ∨ a = Reg.MGT_BUDGET ∨ a = Reg.FRZ_LOST_LO ∨ a = Reg.FRZ_LOST_HI then 0xFFFFFFFF
  else if Reg.MGT_US 0 ≤ a ∧ a ≤ Reg.MGT_US 35 ∧ a % 8 = 0 then Fld.mask Fld.MGT_US_REQ
  else if a = Reg.FRZ_STATUS then Fld.mask Fld.FRZ_STATUS_WPTR ||| Fld.mask Fld.FRZ_STATUS_FULL
  else match regDesc a with
    | none => 0
    | some d => BitVec.ofNat 32 d.rws

/-- What the word of the register at `a` becomes at a pin or watchdog reset. -/
def surviving (a : Nat) (w : Word) : Word := (w &&& surviveMask a) ||| (resetWord a &&& ~~~ surviveMask a)

/-- The registers after a pin or watchdog reset. -/
def surviveRegs (m : SMap Word) : SMap Word :=
  m.foldl (fun r e => SMap.set resetWord r e.1 (surviving e.1 (SMap.get resetWord m e.1))) []

/-- What every block shares, after a pin or watchdog reset whose flag in SYS_RST_CAUSE is `f`. -/
def Plat.chipReset (p : Plat) (f : Fld) : Plat :=
  { platReset with
    regs := surviveRegs p.regs, resp := p.resp, time := p.time, free := p.free
    frz := { p.frz with queue := [] } }.setFlag Reg.SYS_RST_CAUSE f

/-- A zone after a reset that lost the buffered data (R314, R472): its write pointer falls to the end of its last complete commit
group, which the media alone tell (a free value at most the old one); an open zone comes up Closed. -/
def Zone.recover (x : Zone) (v : Nat) : Zone :=
  let wp := min x.wp v
  match x.st with
  | .readOnly => x
  | .offline => x
  | .empty => x
  | .full => if wp = x.wp then x else { x with wp := wp, st := if wp = 0 then .empty else .closed }
  | _ => { x with wp := wp, st := if wp = 0 then .empty else if x.cap ≤ wp then .full else .closed }

/-- Every zone after such a reset, unless a clean-shutdown record stands (R480). -/
def recoverZones (p : Plat) (h : Hif) : Plat × Hif :=
  if h.ctrls.any (fun c => c.2.shst == 2) then (p, h)
  else
    let r := h.zones.foldl (fun (r : Plat × SMap (Option Zone)) e =>
      match e.2 with
      | none => r
      | some x => (r.1.useFree, SMap.set (fun _ => none) r.2 e.1 (some (x.recover r.1.freeVal)))) (p, h.zones)
    (r.1, { h with zones := r.2 })

/-- What firmware keeps in the Keep of the Host Interface's state: namespaces, zones, logs, images; the image chosen by the last
commit starts. -/
def Hif.persist (h : Hif) : Hif :=
  { hifReset with
    nss := h.nss, zones := h.zones, errLog := h.errLog, errCount := h.errCount, auditLog := h.auditLog, testLog := h.testLog
    fw := { h.fw with image := [], active := h.fw.next, pending := none } }

/-- Power-on reset: everything but the flash, the device's identity of its free values and firmware's own records is lost. -/
def Dev.powerOnReset (d : Dev) : Dev :=
  let k := keepPowerOn { platReset with free := d.plat.free } d.keep
  let z := recoverZones { platReset with free := k.1.free } d.hif
  { Dev.reset with plat := { platReset with free := z.1.free }, keep := k.2, hif := z.2.persist }

/-- A pin or watchdog reset, with its flag in SYS_RST_CAUSE. -/
def Dev.chipReset (d : Dev) (f : Fld) : Dev :=
  let d := d.mbLost
  let z := recoverZones (d.plat.chipReset f) d.hif
  let k : Keep := { d.keep.lockAll with stream := none, brown := d.sys.detector }
  { Dev.reset with
    plat := keepShow z.1 k, keep := k, hif := z.2.persist
    sys := { sysReset false with detector := d.sys.detector, status := d.sys.status }
    thm := { thmReset with pclTx := d.thm.pclTx }
    cmd := { cmdReset with hold := d.sys.detector } }

/-- The Plinth switches every domain on, one after the other, the Frieze writing each record as it is posted; the effective Unit
States follow. -/
def unitsAtStart (p : Plat) : Plat :=
  (List.range 36).foldl (fun p u => (p.setEff u (p.effUnit u)).recordWrite) p

/-- A chip reset is released (Table SUW-3): TEST_MODE high at the release of power-on reset leads to zeroisation and scan (R438),
otherwise the intent scan ends, the domains are on and core 0 starts in the boot ROM. -/
def Dev.resetRelease (d : Dev) (testMode : Bool) : Dev :=
  match d.sys.boot with
  | .inReset por =>
    if por ∧ testMode then
      let d := { d with sec := secReset, keep := d.keep.lockAll, sys := { d.sys with boot := .scan } }
      d.onPlat (fun p => { p with frz := { p.frz with log := [] }, stgShown := false })
    else
      let d := { d with sys := { d.sys with boot := .waiting [] } }
      (if por then d.onKeep keepScanned else d).onPlat unitsAtStart
  | _ => d

/-! ## The Power Control Link (R403, R509 to R513) -/

/-- A frame that is discarded: SYS_PL_EVT.PCL_ERR. -/
def Plat.pclErr (p : Plat) : Plat := p.setFlag Reg.SYS_PL_EVT Fld.SYS_PL_EVT_PCL_ERR

/-- Whether the last byte of a frame is the CRC-8 of the others. -/
def crcOk (bs : List Byte) : Bool := bs.getLast? == some (BitVec.ofNat 8 (crc8 bs.dropLast))

/-- The STATUS of a valid frame is applied: SYS_PL_PCL, PERST# of each port (B only in MODE 1), brown-out, and a rise of WAKE
between two frames, which is a pin reset. -/
def Dev.applyStatus (d : Dev) (st : Nat) : Dev :=
  let st := st % 32
  let woke : Bool := match d.sys.status with
    | none => false
    | some o => !o.testBit 3 && st.testBit 3
  let d := { d with sys := { d.sys with status := some st } }
  let d := d.onPlat (fun p => p.wr Reg.SYS_PL_PCL (BitVec.ofNat 32 st))
  let modeB := SMap.get (fun _ => 0) d.hif.linkCfg 0 != 0
  let d := d.onFe (fun e =>
    let e := e.perst 0 (st.testBit 1)
    if modeB then e.perst 1 (st.testBit 2) else e)
  let d := d.brownUpdate
  if woke then d.chipReset Fld.SYS_RST_CAUSE_PIN else d

/-- Rail `j`'s power in mW from a REPORT: millivolts times milliamperes over 1,000. -/
def railPower (bs : List Byte) (j : Nat) : Nat := leNat ((bs.drop (2 + 4 * j)).take 2) * leNat ((bs.drop (4 + 4 * j)).take 2) / 1000

/-- A REPORT frame arrives; one that a STATUS frame cut short is discarded without an error (R510). -/
def Dev.pclReport (d : Dev) (bs : List Byte) (framing : Bool) : Dev :=
  if framing = false ∧ bs.length < 36 ∧ bs.headD 0 = 0x52 then d
  else if framing ∨ bs.length ≠ 36 ∨ bs.headD 0 ≠ 0x52 ∨ crcOk bs = false then d.onPlat Plat.pclErr
  else
    let h := (List.range 8).foldl (fun h j => { h with railP := SMap.set (fun _ => 0) h.railP j (railPower bs j) }) d.thm
    let h := { h with capSum := h.capSum + h.total, capN := h.capN + 1 }
    let d := { d with thm := h }.onPlat (fun p => p.setFlag Reg.SYS_PL_STAT Fld.SYS_PL_STAT_PCL_UP)
    d.applyStatus (bs.getD 34 0).toNat

/-- A STATUS frame arrives. -/
def Dev.pclStatus (d : Dev) (bs : List Byte) (framing : Bool) : Dev :=
  if framing ∨ bs.length ≠ 3 ∨ bs.headD 0 ≠ 0x53 ∨ crcOk bs = false then d.onPlat Plat.pclErr
  else d.applyStatus (bs.getD 1 0).toNat

/-- No report for 1 ms. -/
def Plat.pclStale (p : Plat) : Plat :=
  let p := p.setFld Reg.SYS_PL_STAT Fld.SYS_PL_STAT_PCL_UP 0
  p.setFlagIf (p.on 31) Reg.THM_EVT Fld.THM_EVT_PWR_STALE

/-! ## Boot ROM (R365, R369, R370, R381, R477, R478) -/

/-- A firmware image's header, its limits met: LEN, LOAD, ENTRY, VERSION, CHECK. -/
structure Image where
  len     : Nat
  load    : Nat
  entry   : Nat
  version : Nat
  check   : Nat
  deriving DecidableEq, Repr

/-- The header of the 64 bytes `hd`, if MAGIC and the limits are met (R369). -/
def imageHeader (hd : List Byte) : Option Image :=
  let w (o : Nat) : Nat := leNat ((hd.drop o).take 4)
  let x : Image := ⟨w 4, w 8, w 12, leNat ((hd.drop 16).take 8), w 60⟩
  if w 0 = 0x58464B4F ∧ x.len % 4 = 0 ∧ x.load + x.len ≤ 0x400000 ∧ x.check ≠ 0xFFFFFFFF ∧ x.len + 64 ≤ 0x400000 then some x
  else none

/-- Whether CHECK matches header and body (R369). -/
def Image.ok (x : Image) (hd body : List Byte) : Bool := crc32 (hd.take 60 ++ body) == x.check

/-- The Keep offset of image slot `i` (Table KEP-2). -/
def slotBase (i : Nat) : Nat := if i = 0 then 0x100000 else 0x4100000

/-- The image in slot `i`, if the slot is valid. -/
def Keep.image (k : Keep) (i : Nat) : Option Image :=
  let hd := k.read (slotBase i) 64
  match imageHeader hd with
  | none => none
  | some x => if x.ok hd (k.read (slotBase i + 64) x.len) then some x else none

/-- SLOT and SEQ of the pointer record at Keep offset `o`, if it is valid (R370). -/
def Keep.pointer (k : Keep) (o : Nat) : Option (Nat × Nat) :=
  let r := k.read o 32
  if leNat (r.take 2) = 0x4B50 ∧ leNat (r.drop 30) = crc16 (r.take 30) ∧ (r.getD 2 0).toNat ≤ 1 ∧ r.getD 3 0 = 0
      ∧ ((r.drop 8).take 22).all (fun b => b == 0) then
    some ((r.getD 2 0).toNat, leNat ((r.drop 4).take 4))
  else none

/-- The record in force: the valid one of greatest SEQ in P0 and P1. -/
def Keep.inForce (k : Keep) : Option (Nat × Nat) :=
  (List.range 256).foldl (fun best i =>
    match best, k.pointer (32 * i) with
    | none, r => r
    | some b, none => some b
    | some b, some r => if b.2 < r.2 then some r else some b) none

/-- The slot the boot ROM boots, and whether it is not the one the record in force names. -/
def Keep.chooseSlot (k : Keep) : Option (Nat × Image × Bool) :=
  let first := match k.inForce with | some r => r.1 | none => 0
  match k.image first with
  | some x => some (first, x, false)
  | none =>
    match k.image (1 - first) with
    | some x => some (1 - first, x, k.inForce.isSome)
    | none => none

/-- The boot ROM posts a record of its own range (R445, Table SUW-4). -/
def Plat.romPost (p : Plat) (typ : Nat) (payload : List Byte) : Plat := p.postEvent 256 typ true payload

/-- The bank with a pending record that the boot ROM has not yet redone. -/
def redoNext (k : Keep) (done : List (Nat × Nat)) : Option (Nat × Nat) :=
  [0, 1].findSome? (fun b =>
    match k.pending b with
    | none => none
    | some r => if done.any (fun x => x.1 == b) then none else some (b, r.sector))

/-- The boot ROM redoes a pending erase: it issues ERASE of the sector, KEEP_ADDR returning to 0. -/
def redoErase (p : Plat) (k : Keep) (s : Nat) : Plat × Keep :=
  let r := keepIssue (p.setFld Reg.KEEP_ADDR Fld.KEEP_ADDR_OFS (4096 * s)) k 2 0
  (r.1.setFld Reg.KEEP_ADDR Fld.KEEP_ADDR_OFS 0, r.2)

/-- ERASE_REDONE for each erase redone: bank, sector, COUNT after it. -/
def postRedone (p : Plat) (k : Keep) (done : List (Nat × Nat)) : Plat :=
  done.foldl (fun p x =>
    let i := SMap.get infoReset k.info (k.infoKey x.2)
    p.romPost 0x0103 ([BitVec.ofNat 8 x.1, 0] ++ le2 x.2 ++ le4 i.count)) p

/-- The boot ROM's working data fill control SRAM from 0x3F_F000 (R381): undefined contents. -/
def Dev.romData (d : Dev) : Dev :=
  { d with sys := d.sys.lose d.plat.freeVal 0x3FF000 4096 }.onPlat Plat.useFree

/-- The boot ROM has chosen a slot, or enters recovery. -/
def Dev.bootSlot (d : Dev) : Dev :=
  match d.keep.chooseSlot with
  | none => ({ d with sys := { d.sys with boot := .recovery } }).onPlat (fun p => p.romPost 0x0104 [])
  | some (i, x, fell) =>
    let d := d.romData
    let y := { d.sys with
      sram := SMap.store zeroByte d.sys.sram x.load (d.keep.read (slotBase i + 64) x.len)
      boot := .ready i x.load x.len x.entry x.version }
    let named := match d.keep.inForce with | some r => r.1 | none => 0
    ({ d with sys := y }).onPlat (fun p =>
      if fell then p.romPost 0x0102 [BitVec.ofNat 8 named, BitVec.ofNat 8 i, 0, 0] else p)

/-- The boot ROM goes on, once both banks are READY: a pending erase first, then the slot. -/
def Dev.bootRom (d : Dev) : Dev :=
  match d.sys.boot with
  | .waiting done =>
    if d.keep.ready 0 ∧ d.keep.ready 1 ∧ d.plat.on 29 then
      match redoNext d.keep done with
      | some x => ({ d with sys := { d.sys with boot := .waiting (done ++ [x]) } }).onKeep (fun p k => redoErase p k x.2)
      | none => (d.onPlat (fun p => postRedone p d.keep done)).bootSlot
    else d
  | _ => d

/-- The jump (Table COR-2): the watchdog is armed, core 0 runs from ENTRY, the BOOT record is posted. -/
def Dev.jump (d : Dev) (slot entry version : Nat) (recovery : Bool) : Dev :=
  let cause := (d.plat.rd Reg.SYS_RST_CAUSE).toNat
  let d := d.onPlat (fun p => p.romPost 0x0101 ([BitVec.ofNat 8 slot, 0, 0, 0] ++ le4 cause ++ le8 version))
  let d := d.onSys (fun p y => wdtRestart (p.setFlag Reg.SYS_WDT_CTRL Fld.SYS_WDT_CTRL_EN) y)
  let k : CoreState := { d.sys.core 0 with
    pc := BitVec.ofNat 40 (0x20000000 + entry % 0x400000), mmode := true, a0 := BitVec.ofNat 64 slot
    a1 := BitVec.ofNat 64 (cause + (if recovery then 2 ^ 31 else 0)), a2 := BitVec.ofNat 64 version }
  { d with sys := { d.sys.setCore 0 k with boot := .handedOff } }

/-- The boot ROM arms the watchdog and jumps to the image it streamed. -/
def Dev.handOff (d : Dev) : Dev :=
  match d.sys.boot with
  | .ready slot _ _ entry version => d.jump slot entry version false
  | _ => d

/-- Answer a management command. -/
def Dev.answer (d : Dev) (st : MiStatus) : Dev := d.onMgt (fun p g => miServe p g (p, g.say st []))

/-- Vendor 0xC8: bytes to control SRAM in recovery; Invalid Command Opcode outside it. -/
def Dev.recoveryWrite (d : Dev) (off : Nat) (bs : List Byte) : Dev :=
  if d.sys.boot = .recovery ∧ d.plat.miOn then
    if 2032 < bs.length ∨ 0x3FF000 < off + bs.length then d.answer .invalidParameter
    else ({ d with sys := { d.sys with sram := SMap.store zeroByte d.sys.sram off bs } }).answer .success
  else d.answer .invalidOpcode

/-- Vendor 0xC9: the image in control SRAM is checked, moved and started (R478). -/
def Dev.recoveryBoot (d : Dev) : Dev :=
  if d.sys.boot = .recovery ∧ d.plat.miOn then
    let hd := SMap.bytes zeroByte d.sys.sram 0 64
    match imageHeader hd with
    | none => d.answer .invalidParameter
    | some x =>
      let body := SMap.bytes zeroByte d.sys.sram 64 x.len
      if x.ok hd body then
        let d := ({ d with sys := { d.sys with sram := SMap.store zeroByte d.sys.sram x.load body } }).answer .success
        d.jump 0 x.entry x.version true
      else d.answer .invalidParameter
  else d.answer .invalidOpcode

/-- Stage 2 of the watchdog expires: a watchdog reset. -/
def Dev.watchdogReset (d : Dev) : Dev :=
  if d.plat.bit Reg.SYS_WDT_CTRL Fld.SYS_WDT_CTRL_EN ∧ d.plat.fld Reg.SYS_WDT_STAT Fld.SYS_WDT_STAT_STAGE = 2 then
    d.chipReset Fld.SYS_RST_CAUSE_WDT
  else d

end Sys2Proof.Machine
end

