-- ==== Sys2Proof/Machine/BusOps.lean ====
section
/-! DEFINITION. What a core's write to an address does: the effect of each register that acts when it is written, and a store
anywhere in the address map (R13, R388 to R394, Tables ARC-8 to ARC-10). -/

namespace Sys2Proof.Machine

/-! ## Registers that act when written -/

/-- A firmware write of register `a` with no effect beside its stored fields. -/
def Dev.fw (d : Dev) (a : Nat) (v : Word) : Dev := d.onPlat (fun p => p.fwWrite a v)

/-- SYS_CORE_START (R382). -/
def Dev.coreStartWrite (d : Dev) (v : Word) : Dev :=
  d.onSys (fun p y => coreStart p y (Fld.get Fld.SYS_CORE_START_CORE v) (4 * Fld.get Fld.SYS_CORE_START_ADDR v))

/-- SYS_BERR_HI: clearing VALID also clears OVER. -/
def Dev.berrWrite (d : Dev) (v : Word) : Dev :=
  let d := d.fw Reg.SYS_BERR_HI v
  if Fld.get Fld.SYS_BERR_HI_VALID v = 1 then d.onPlat (fun p => p.setFld Reg.SYS_BERR_HI Fld.SYS_BERR_HI_OVER 0) else d

/-- SYS_MTIMECMP (R387). -/
def Dev.mtimecmpWrite (d : Dev) (a : Nat) (v : Word) : Dev :=
  (d.fw a v).onSys (fun p y => (p, timerLevel p y ((a - Reg.SYS_MTIMECMP_LO 0) / 8)))

/-- SYS_WDT_KICK. -/
def Dev.kickWrite (d : Dev) (v : Word) : Dev := d.onSys (fun p y => wdtKick p y (Fld.get Fld.SYS_WDT_KICK_KEY v))

/-- A HUB_COMPLETEc write (R384). -/
def Dev.completeWrite (d : Dev) (c : Nat) (v : Word) : Dev :=
  d.onPlat (fun p => hubComplete p d.sys c (Fld.get Fld.HUB_COMPLETE_ID v))

/-- SYS_CON_TX. -/
def Dev.conTxWrite (d : Dev) (v : Word) : Dev := d.onSys (fun p y => conWrite p y (BitVec.ofNat 8 (Fld.get Fld.SYS_CON_TX_DATA v)))

/-- An operation on a tag that CMD_OP carries out. -/
def Dev.tagOp (d : Dev) (op t expect : Nat) : Dev :=
  match op with
  | 1 => d.onFe (fun e => e.opAdmit t expect)
  | 2 => d.onFe (fun e => e.opXferIn t expect)
  | 3 => d.onFe (fun e => e.opAck t expect)
  | 4 => d.onFe (fun e => e.opPost t expect)
  | 5 => (d.putFe (d.fe.opAbort t expect).1).sendAbrts (d.fe.opAbort t expect).2
  | 6 => d.onFe (fun e => e.opRelease t expect)
  | _ => d

/-- CMD_OP. -/
def Dev.cmdOpWrite (d : Dev) (v : Word) : Dev :=
  d.tagOp (Fld.get Fld.CMD_OP_OP v) (Fld.get Fld.CMD_OP_TAG v) (Fld.get Fld.CMD_OP_EXPECT v)

/-- CMD_DQn_TAIL (R295). -/
def Dev.tailWrite (d : Dev) (n : Nat) (v : Word) : Dev :=
  d.onCmd (fun p c =>
    let r := dqTailWrite p c n (Fld.get Fld.CMD_DQ_TAIL_TAIL v)
    (showPtr r.1 r.2 n, r.2))

/-- BUF_CTRL (R329). -/
def Dev.bufCtrlWrite (d : Dev) (v : Word) : Dev :=
  d.onPlat (fun p => p.bufCtrl (Fld.get Fld.BUF_CTRL_ST_RERUN v == 1) (Fld.get Fld.BUF_CTRL_INIT v == 1)
    (Fld.get Fld.BUF_CTRL_ZERO v == 1))

/-- STC_OP (R340). -/
def Dev.stcOp (d : Dev) (v : Word) : Dev :=
  d.onBuf (fun p b => stcOpWrite p b (Fld.get Fld.STC_OP_OP v) (Fld.get Fld.STC_OP_WAY v))

/-- STC_FENCE (R346). -/
def Dev.fenceWrite (d : Dev) (v : Word) : Dev := d.onBuf (fun p b => stcFence p b (Fld.get Fld.STC_FENCE_WAYS v))

/-- SEC_KEY_CMD (R426, R427). -/
def Dev.keyCmdWrite (d : Dev) (v : Word) : Dev :=
  d.onSec (fun p s => keyWrite p s (Fld.get Fld.SEC_KEY_CMD_OP v) (Fld.get Fld.SEC_KEY_CMD_SLOT v))

/-- SEC_KEYSTGw: a word firmware writes is not read back (R426). -/
def Dev.stagingWrite (d : Dev) (a : Nat) (v : Word) : Dev := d.onPlat (fun p => { p.fwWrite a v with stgShown := false })

/-- KEEP_CMD (R356). -/
def Dev.keepCmdWrite (d : Dev) (v : Word) : Dev :=
  d.onKeep (fun p k => keepIssue p k (Fld.get Fld.KEEP_CMD_OP v) (Fld.get Fld.KEEP_CMD_REGION v))

/-- KEEP_STR_SRC, DST or LEN: refused while a stream runs (R373). -/
def Dev.streamParamWrite (d : Dev) (a : Nat) (v : Word) : Dev :=
  if d.keep.stream.isSome then d.onPlat (fun p => p.setFlag Reg.KEEP_EVT Fld.KEEP_EVT_CMD_REFUSED) else d.fw a v

/-- KEEP_STR_CTRL; `n` is what has been delivered when the line in progress ends, as far as STOP asks (R372). -/
def Dev.streamCtrlWrite (d : Dev) (v : Word) (n : Nat) : Dev :=
  let d := if Fld.get Fld.KEEP_STR_CTRL_START v = 1 then d.onKeep streamStart else d
  if Fld.get Fld.KEEP_STR_CTRL_STOP v = 1 then { d with keep := streamStop d.keep n } else d

/-- FRZ_CTRL (R450). -/
def Dev.frzCtrlWrite (d : Dev) (v : Word) : Dev :=
  d.onPlat (fun p => p.frzCtrl (Fld.get Fld.FRZ_CTRL_CLEAR v == 1) (Fld.get Fld.FRZ_CTRL_MODE v == 1)
    (Fld.get Fld.FRZ_CTRL_FREEZE_FW v == 1))

/-- FRZ_POST (R446). -/
def Dev.frzPostWrite (d : Dev) (v : Word) : Dev :=
  d.onPlat (fun p => p.fwPost (Fld.get Fld.FRZ_POST_TYPE v) (Fld.get Fld.FRZ_POST_LENW v))

/-- MGT_TIME_CFG: the mark before next is the first again (R464). -/
def Dev.timeCfgWrite (d : Dev) (v : Word) : Dev :=
  { d.fw Reg.MGT_TIME_CFG v with mgt := { d.mgt with mark := none, prevMark := none } }

/-- MGT_MBOX (R457). -/
def Dev.mboxWrite (d : Dev) (v : Word) : Dev :=
  if Fld.get Fld.MGT_MBOX_DONE v = 1 then d.onMgt (fun p g => mboxDone p g (Fld.get Fld.MGT_MBOX_RSP_LEN v)) else d

/-- TRC_CFG: a SYNC is sent when EN goes from 0 to 1 (R455). -/
def Dev.trcCfgWrite (d : Dev) (v : Word) : Dev :=
  d.onPlat (fun p =>
    let q := p.fwWrite Reg.TRC_CFG v
    if p.bit Reg.TRC_CFG Fld.TRC_CFG_EN = false ∧ q.bit Reg.TRC_CFG Fld.TRC_CFG_EN then q.trcSync else q)

/-- TRC_SNAP (R397). -/
def Dev.snapWrite (d : Dev) (v : Word) : Dev :=
  d.onPlat (fun p =>
    let hold := Fld.get Fld.TRC_SNAP_HOLD v == 1
    if Fld.get Fld.TRC_SNAP_GO v = 1 then p.snapGo hold else p.putBit Reg.TRC_SNAP Fld.TRC_SNAP_HOLD hold)

/-- BCL_MB_CTRL (R431). -/
def Dev.mbCtrlWrite (d : Dev) (v : Word) : Dev :=
  if Fld.get Fld.BCL_MB_CTRL_GO v = 1 then d.onBcl (fun p b => mbGo p b d.buf) else d

/-- BCL_LB_CTRL (R435): the test that starts holds the actuator's gate unit at IDLE. -/
def Dev.lbCtrlWrite (d : Dev) (v : Word) : Dev :=
  let d := d.fw Reg.BCL_LB_CTRL v
  if Fld.get Fld.BCL_LB_CTRL_GO v = 1 ∧ d.bcl.lb = none then
    let d := d.onBcl lbGo
    match d.bcl.lb with
    | none => d
    | some x => d.onAc (Fin.ofNat 4 x.1) Ac.holdIdle
  else d

/-- BCL_REF_CTRL (R437). -/
def Dev.refCtrlWrite (d : Dev) (v : Word) : Dev :=
  let d := d.fw Reg.BCL_REF_CTRL v
  if Fld.get Fld.BCL_REF_CTRL_GO v = 1 then d.onPlat refGo else d

/-- A link reset (R297, R91): the task in the registers is faulted, the link is empty with its credits restored, the dispatcher
closes every open task of the link with ACT_RESET. -/
def Dev.linkReset (d : Dev) (n : Fin 4) : Dev :=
  let d := d.onAc n (fun a => a.fault 8)
  let hub := (d.act n).link.hub
  let d := (d.setLink n freshLink).onPlat (fun p => p.freshCredits n)
  (d.onFe (resetTasks n hub)).onPlat (fun p => p.showLink n freshLink)

/-- LNK_CTRL (R91). -/
def Dev.lnkCtrlWrite (d : Dev) (n : Fin 4) (v : Word) : Dev :=
  let d := d.fw (Reg.LNK_CTRL n) v
  if Fld.get Fld.LNK_CTRL_RESET v = 1 then d.linkReset n else d

/-- TSQ_CTRL of Track Sequencer `t`: RUN, RESUME and CS_CHECK, and ATTACH and HOST of the spare (R124 to R129). -/
def Dev.tsqCtrlWrite (d : Dev) (t : Fin 5) (v : Word) : Dev :=
  let d := if t = 4 then
      let r := attachWrite d.plat (d.tsq 4) (Fld.get Fld.TSQ_CTRL_ATTACH v == 1) (Fld.get Fld.TSQ_CTRL_HOST v)
      ({ d with plat := r.1 }).setTsq 4 r.2
    else d
  d.onPlat (fun p =>
    let p := runWrite p t (d.hostOf t) (Fld.get Fld.TSQ_CTRL_RUN v == 1)
    let p := if Fld.get Fld.TSQ_CTRL_RESUME v = 1 then tsqResume p t else p
    if Fld.get Fld.TSQ_CTRL_CS_CHECK v = 1 then csCheck p t else p)

/-- TSQ_ENV (R86). -/
def Dev.envWriteAt (d : Dev) (t : Fin 5) (v : Word) : Dev :=
  let r := envWrite d.plat (d.tsq t) t v
  ({ d with plat := r.1 }).setTsq t r.2

/-- A write of 32 bits at control-store offset `o` by core `c`; a bus error of kind 8 while a memory test runs on the store
(R126, R432). -/
def Dev.csWriteAt (d : Dev) (t : Fin 5) (c : Fin 4) (o : Nat) (v : Word) : Dev :=
  if d.bcl.testing 2 t then d.onPlat (fun p => p.busErr (csAddr t o) c true 8)
  else
    let r := csWrite d.plat (d.tsq t) t c o v
    ({ d with plat := r.1 }).setTsq t r.2

/-- ARM_HEADh: EN 0 ends the head's faulted state; the effective states of the actuator follow (R254, R459). -/
def Dev.headWrite (d : Dev) (n : Fin 4) (h : Nat) (v : Word) : Dev :=
  (d.fw (Reg.ARM_HEAD n h) v).onPlat (fun p =>
    let p := if Fld.get Fld.ARM_HEAD_EN v = 0 then { p with lostUnit := SMap.set (fun _ => 0) p.lostUnit (8 * n.val + h) 0 } else p
    p.updateUnits n)

/-- ARM_CTRL: the stored fields, and the command for the next wedge (R244). -/
def Dev.armCtrlWrite (d : Dev) (n : Fin 4) (v : Word) : Dev :=
  (d.fw (Reg.ARM_CTRL n) v).onAc n (fun a => a.armCmdWrite (Fld.get Fld.ARM_CTRL_CMD v))

/-! ## Which register an address is -/

/-- The effect of a write to address `a` of the SYS window, none where it has only its stored fields. -/
def Dev.sysEffect (d : Dev) (a : Nat) (v : Word) : Option Dev :=
  if a = Reg.SYS_CORE_START then some (d.coreStartWrite v)
  else if a = Reg.SYS_BERR_HI then some (d.berrWrite v)
  else if Reg.SYS_MTIMECMP_LO 0 ≤ a ∧ a ≤ Reg.SYS_MTIMECMP_HI 3 then some (d.mtimecmpWrite a v)
  else if a = Reg.SYS_WDT_CTRL then some (d.onSys (fun p y => wdtCtrl p y v))
  else if a = Reg.SYS_WDT_KICK then some (d.kickWrite v)
  else if Reg.HUB_COMPLETE 0 ≤ a ∧ a ≤ Reg.HUB_COMPLETE 3 ∧ a % 16 = 8 then
    some (d.completeWrite ((a - Reg.HUB_COMPLETE 0) / 16) v)
  else if a = Reg.HUB_SWI_SET then some (d.onPlat (fun p => p.swi true v))
  else if a = Reg.HUB_SWI_CLR then some (d.onPlat (fun p => p.swi false v))
  else if a = Reg.PWR_REQ_LO then some (d.onPlat (fun p => p.pwrRequest false v))
  else if a = Reg.PWR_REQ_HI then some (d.onPlat (fun p => p.pwrRequest true v))
  else if a = Reg.PWR_STBY then some (d.stbyWrite v)
  else if a = Reg.SYS_CON_TX then some (d.conTxWrite v)
  else none

/-- The same for the HIF, CMD, BUF, STC and SEC windows. -/
def Dev.dataEffect (d : Dev) (a : Nat) (v : Word) : Option Dev :=
  if Reg.HIF_FN_RES 0 ≤ a ∧ a ≤ Reg.HIF_FN_TAG 63 then
    some (d.onPlat (fun p => if a % 8 = 0 then fnResWrite p d.hif ((a - Reg.HIF_FN_RES 0) / 8) v
      else fnTagWrite p ((a - Reg.HIF_FN_RES 0) / 8) v))
  else if a = Reg.HIF_LINK_CFG then some (d.onPlat (fun p => linkCfgWrite p v))
  else if a = Reg.HIF_SRIOV then some (d.onPlat (fun p => sriovWrite p v))
  else if a = Reg.CMD_OP then some (d.cmdOpWrite v)
  else if Reg.CMD_DQ_TAIL 0 ≤ a ∧ a ≤ Reg.CMD_DQ_TAIL 3 ∧ a % 8 = 0 then some (d.tailWrite ((a - Reg.CMD_DQ_TAIL 0) / 8) v)
  else if 0x40200000 ≤ a ∧ a < 0x40280000 then
    some (d.onPlat (fun p => p.entryWrite ((a - 0x40200000) / 64) ((a - 0x40200000) % 64 / 4) v))
  else if 0x40280000 ≤ a ∧ a < 0x40290000 then some (d.onPlat (fun p => p.wr a v))
  else if a = Reg.BUF_CTRL then some (d.bufCtrlWrite v)
  else if a = Reg.BUF_DCFG then some (d.onPlat (fun p => p.dcfgWrite v))
  else if a = Reg.STC_CTRL then some (d.onPlat (fun p => stcCtrl p v))
  else if a = Reg.STC_OP then some (d.stcOp v)
  else if a = Reg.STC_FENCE then some (d.fenceWrite v)
  else if a = Reg.SEC_KEY_CMD then some (d.keyCmdWrite v)
  else if Reg.SEC_KEYSTG 0 ≤ a ∧ a ≤ Reg.SEC_KEYSTG 17 then some (d.stagingWrite a v)
  else none

/-- The same for the KEEP, THM, FRZ, MGT, BCL and TRC windows. STOP takes no part of a line that is not free (`n` of
`streamCtrlWrite` is a free value). -/
def Dev.serviceEffect (d : Dev) (c : Fin 4) (a : Nat) (v : Word) : Option Dev :=
  if a = Reg.KEEP_CMD then some (d.keepCmdWrite v)
  else if a = Reg.KEEP_PW_LO ∨ a = Reg.KEEP_PW_HI then some (d.onPlat (fun p => p.wr a v))
  else if Reg.KEEP_STR_SRC ≤ a ∧ a ≤ Reg.KEEP_STR_LEN then some (d.streamParamWrite a v)
  else if a = Reg.KEEP_STR_CTRL then some ((d.streamCtrlWrite v d.plat.freeVal).onPlat Plat.useFree)
  else if a = Reg.FRZ_CTRL then some (d.frzCtrlWrite v)
  else if a = Reg.FRZ_POST then some (d.frzPostWrite v)
  else if a = Reg.MGT_TIME_CFG then some (d.timeCfgWrite v)
  else if a = Reg.MGT_MBOX then some (d.mboxWrite v)
  else if 0x40901000 ≤ a ∧ a < 0x40902000 then
    some { d with mgt := { d.mgt with mbox := SMap.store zeroByte d.mgt.mbox (a - 0x40900000) (le4 v.toNat) } }
  else if a = Reg.BCL_MB_CTRL then some (d.mbCtrlWrite v)
  else if a = Reg.BCL_LB_CTRL then some (d.lbCtrlWrite v)
  else if a = Reg.BCL_REF_CTRL then some (d.refCtrlWrite v)
  else if a = Reg.TRC_SNAP then some (d.snapWrite v)
  else if a = Reg.TRC_CFG then some (d.trcCfgWrite v)
  else if a = Reg.TRC_FW then some (d.onPlat (fun p => p.trcFw c v))
  else none

/-- The same for actuator window `n` and offset `o` in it, and for the spare window, `n` 4. -/
def Dev.actEffect (d : Dev) (c : Fin 4) (n o : Nat) (v : Word) : Option Dev :=
  let t : Fin 5 := Fin.ofNat 5 n
  let k : Fin 4 := Fin.ofNat 4 n
  if 0x20000 ≤ o ∧ o < 0x60000 then some (d.csWriteAt t c (o - 0x20000) v)
  else if o = 0x10100 then some (d.tsqCtrlWrite t v)
  else if o = 0x10200 then some (d.envWriteAt t v)
  else if n = 4 then none
  else if o = 0 then some (d.lnkCtrlWrite k v)
  else if o = 0x88000 ∨ o = 0x88004 then some (d.onAc k (fun a => a.rfeSpareWrite ((o - 0x88000) / 4) v))
  else if o = 0x88680 then some (d.onAc k (fun a => a.detSpareWrite v))
  else if o = 0x100000 then some (d.onPlat (fun p => wrpCfgWrite p n (p.servedBy n) v))
  else if 0x100040 ≤ o ∧ o < 0x100060 then some (d.onPlat (fun p => modWrite p n ((o - 0x100040) / 4) v))
  else if o = 0x100804 then some (d.onPlat (fun p => pcmdWrite p n v))
  else if o = 0x180000 then some (d.armCtrlWrite k v)
  else if 0x180080 ≤ o ∧ o < 0x1800A0 then some (d.headWrite k ((o - 0x180080) / 4) v)
  else if n = 0 ∧ o = 0x180C00 then some (d.onSpl (fun p x => splCtrlWrite p x v))
  else none

/-- What a core's write of `v` to register address `a` does: a counter takes only a clear of SAT (R394). -/
def Dev.regEffect (d : Dev) (c : Fin 4) (a : Nat) (v : Word) : Dev :=
  let special :=
    if a < 0x40100000 then d.sysEffect a v
    else if a < 0x40600000 then d.dataEffect a v
    else if a < 0x41000000 then d.serviceEffect c a v
    else d.actEffect c ((a - 0x41000000) / 0x400000) ((a - 0x41000000) % 0x400000) v
  match special with
  | some e => e
  | none =>
    match regDesc a with
    | none => d
    | some r =>
      if r.cnt = 0 then d.fw a v
      else if r.cnt = 2 ∧ v.getLsbD 31 then d.onPlat (fun p => p.satClear a)
      else d

/-- Whether something is mapped at register address `a`: a register, a control-store slot, a Command Table entry, a dispatch slot,
the Frieze log, a mailbox area (R388). -/
def regMapped (a : Nat) : Bool :=
  (regDesc a).isSome
    || (decide (0x40200000 ≤ a) && decide (a < 0x40290000))
    || (decide (0x40901000 ≤ a) && decide (a < 0x40902000))
    || (decide (0x40880000 ≤ a) && decide (a < 0x40900000))
    || (decide (0x41000000 ≤ a) && decide (a < 0x42400000) && decide (0x20000 ≤ (a - 0x41000000) % 0x400000)
          && decide ((a - 0x41000000) % 0x400000 < 0x60000))

/-- Whether an address lies in a register, actuator or spare window (Table ARC-8). -/
def inWindows (a : Nat) : Bool :=
  (decide (0x40000000 ≤ a) && decide (a < 0x40C00000)) || (decide (0x41000000 ≤ a) && decide (a < 0x42400000))

/-- A core's store of `n` bytes (1, 2, 4 or 8) of `v` to system address `a` (R388, R391, R392, Table ARC-8). -/
def Dev.storeWrite (d : Dev) (c : Fin 4) (a n v : Nat) : Dev :=
  let err (kind : Nat) : Dev := d.onPlat (fun p => p.busErr a c true kind)
  if a < 0x40000 ∨ (0x10000000 ≤ a ∧ a < 0x18000000) then err 2
  else if 0x20000000 ≤ a ∧ a + n ≤ 0x20400000 then
    { d with sys := { d.sys with sram := SMap.store zeroByte d.sys.sram (a - 0x20000000) (leBytes n v) } }
  else if 0x1000000000 ≤ a ∧ a + n ≤ 0x1800000000 then
    d.onBuf (fun p b => coreBufWrite p b c (a - 0x1000000000) (leBytes n v))
  else if inWindows a then
    if n ≠ 4 ∨ a % 4 ≠ 0 then err 3
    else if regMapped a = false then err 1
    else d.regWrite c a (fun d => d.regEffect c a (BitVec.ofNat 32 v))
  else err 1

/-- A store that has not completed 16 µs after it left the L2 bridge: a TIMEOUT; whether it has taken effect is a free value
(R393). -/
def Dev.storeTimeout (d : Dev) (c : Fin 4) (a n v : Nat) : Dev :=
  let took := d.plat.freeVal % 2 = 1
  let d := d.onPlat Plat.useFree
  (if took ∧ inWindows a ∧ n = 4 ∧ a % 4 = 0 then d.regWrite c a (fun d => d.regEffect c a (BitVec.ofNat 32 v)) else d).onPlat
    (fun p => p.busErr a c true 5)

/-- A load that has not completed in that time: all ones. -/
def Dev.loadTimeout (d : Dev) (c : Fin 4) (a : Nat) : Dev :=
  d.onPlat (fun p => { p.busErr a c false 5 with resp := 0xFFFFFFFF })

end Sys2Proof.Machine
end

