-- ==== Sys2Proof/Machine/Operands.lean ====
section
/-! DEFINITION. The operand forms: what each form of a command that is more than one operation of a part does: an operation of a
microword on its own with the fault and the stall that a whole word has, a request to the buffer, a fetch, and the like. -/

namespace Sys2Proof.Machine

/-! ## Operations of a microword on their own (R105 to R120, log entry 12) -/

/-- An operation that a whole word would fault on where `cause` is not 0, and stall on where `ready` does not hold. -/
def Ac.guarded (a : Ac) (cause : Ac → Nat) (ready : Ac → Bool) (f : Ac → Ac) : Ac :=
  a.micro (fun a => if cause a ≠ 0 then a.fault (cause a) else if ready a then f a else a)

/-- ROW OPEN: with the last window unclosed it is an undefined operation (R105). -/
def Ac.doRowOpen (a : Ac) : Ac := a.guarded (fun a => if a.q.pos.win.isSome then 1 else 0) (fun _ => true) Ac.rowOpen

/-- ROW CLOSE: it stalls until the window has ended (R107). -/
def Ac.doRowClose (a : Ac) : Ac := a.guarded (fun _ => 0) Ac.closeReady Ac.rowClose

/-- COUNT in work register `sa`. -/
def Ac.countIn (a : Ac) (sa : Nat) : Nat := a.q.reg sa % 256

/-- LNK 1: a COUNT it may not have is an undefined operation; it stalls for track-buffer space (R96). -/
def Ac.doXrdy (a : Ac) (sa : Nat) : Ac :=
  a.guarded (fun a => if a.countOk (a.countIn sa) then 0 else 1) (fun a => a.xrdyReady (a.countIn sa))
    (fun a => a.xrdySend (a.countIn sa))

/-- The track-buffer place in work register `sa`. -/
def Ac.placeIn (a : Ac) (sa : Nat) : Nat := a.q.reg sa % 64

/-- LNK 2: a place that holds no sector is a fault of cause 9; it stalls for a credit (R118). -/
def Ac.doDataUp (a : Ac) (sa : Nat) : Ac :=
  a.guarded (fun a => if (a.q.tb (a.placeIn sa)).isNone then 9 else 0) (fun a => a.upCredit != 0)
    (fun a => a.dataUpSend (a.placeIn sa))

/-- XOR 1: data of the current row that is not there is a fault of cause 9 (R45). -/
def Ac.doParityForm (a : Ac) : Ac :=
  a.guarded (fun a => if a.isZwrite && !a.rowDataReady then 9 else 0) (fun _ => true) Ac.parityForm

/-- A read-channel operation, which has an effect on a read only. -/
def Ac.onRead (a : Ac) (f : Ac → Ac) : Ac := a.micro (fun a => if a.isRead then f a else a)

/-- The heads that the set-point record in use holds. -/
def Ac.heldHeads (a : Ac) : Nat :=
  match a.q.pos.sp with
  | some r => r.hold
  | none => 0

/-- CHN 1: it stalls for a row store entry (R197). -/
def Ac.doChnArm (a : Ac) (rgm : Nat) : Ac := a.onRead (fun a => if a.armReady then a.chnArm rgm a.heldHeads else a)

/-- Whether CHN 2 can act: the head row is done and there is room for its sectors (R197). -/
def Ac.collectReady (a : Ac) : Bool :=
  match a.g.rows with
  | [] => true
  | r :: _ => a.rowDone r && (a.tbufSpace || a.kind == 6)

/-- CHN 2. -/
def Ac.doChnCollect (a : Ac) : Ac := a.onRead (fun a => if a.collectReady then a.chnCollect else a)

/-- SETCODE: a code microcode may not set is an undefined operation (R111). -/
def Ac.doSetCode (a : Ac) (code : Nat) : Ac :=
  a.guarded (fun _ => if codeAllowed code then 0 else 1) (fun _ => true) (fun a => a.setCode code)

/-! ## Front end -/

/-- The Host Interface fetches an entry (R272, R290). -/
def Dev.fetch (d : Dev) (t sel : Nat) (entry : List Byte) : Dev :=
  let r := d.fe.fetch d.sys t sel entry
  { d.putFe r.1 with sys := r.2 }

/-- A PTM dialogue: it runs with SRC 2 while port A's link is up (R466). -/
def ptmDialogue (p : Plat) (g : Mgt) (w l : Nat) : Plat × Mgt :=
  if p.fld Reg.MGT_TIME_CFG Fld.MGT_TIME_CFG_SRC = 2 ∧ p.bit (Reg.HIF_LINK_STAT 0) Fld.HIF_LINK_STAT_DL_UP then
    applyTime p g w l
  else (p, g)

/-- NVMe-MI Send. -/
def Dev.miSend (d : Dev) (t : Nat) (m : MiCmd) : Dev :=
  let r := d.fe.miSend d.mgt t m
  { d.putFe r.1 with mgt := r.2 }

/-- The actuators that hold a task other than a LOAD (R415). -/
def Dev.activeCount (d : Dev) : Nat :=
  ([d.act0, d.act1, d.act2, d.act3].filter (fun x => x.link.isActive)).length

/-- The dispatcher sends the next TASK of queue `n`. -/
def Dev.taskSend (d : Dev) (n : Fin 4) : Dev :=
  d.onLink n (fun e l =>
    let r := Machine.taskSend e.p e.c l n d.activeCount
    ({ e with p := r.1, c := r.2.1 }, r.2.2))

/-- A write of ATTACH and HOST. -/
def Dev.attach (d : Dev) (attach : Bool) (host : Nat) : Dev :=
  let r := attachWrite d.plat d.tsq4 attach host
  { d with plat := r.1, tsq4 := r.2 }

/-! ## Buffer -/

/-- A request to the buffer: a read, or with `data` a write. A core's read answers on its bus; its refusals are bus errors
(R327, R336). -/
def Dev.bufferRequest (d : Dev) (r : Requester) (a n : Nat) (data : Option (List Byte)) (chk : ArrayCheck)
    (flips : List (Nat × Bool)) : Dev :=
  d.onBuf (fun p b =>
    let b := b.flip flips
    match data, r with
    | some bs, .core c => coreBufWrite p b c a bs
    | none, .core c => coreBufRead p b c a n chk
    | some bs, r => ((bufWrite p b r a bs).1, (bufWrite p b r a bs).2.1)
    | none, r => ((bufRead p b r a n chk).1, (bufRead p b r a n chk).2.1))

/-- The temperature poll of the devices: its reading derates the refresh interval once they are trained (R319). -/
def Dev.dramPoll (d : Dev) (code : Nat) : Dev :=
  if d.plat.on 20 ∧ d.plat.bit Reg.BUF_STATUS Fld.BUF_STATUS_TRAINED then { d with buf := { d.buf with derate := code } } else d

/-! ## Keep streams -/

/-- A write of KEEP_STR_CTRL.STOP. -/
def Dev.stopStream (d : Dev) (n : Nat) : Dev := { d with keep := Machine.streamStop d.keep n }

/-- The stream under way ends. -/
def Dev.streamEnd (d : Dev) : Dev :=
  let r := streamFinish d.plat d.buf d.sys d.keep
  { d with plat := r.1, buf := r.2.1, sys := r.2.2.1, keep := r.2.2.2 }

/-! ## Power, thermal, test -/

/-- PWR_STBY with ENTER 1. -/
def stbyWord (thmOn : Bool) : Word :=
  Fld.put Fld.PWR_STBY_THM_ON (Fld.mask Fld.PWR_STBY_ENTER) (if thmOn then 1 else 0)

/-- The waiting reference code of actuator `n` takes effect at a clock with no read gate up and no SERVO phase (R417). -/
def Dev.applyRef (d : Dev) (n : Fin 4) : Dev :=
  { d with thm := refApply d.plat d.thm n ((d.act n).gate.rg != 0) (d.act n).gate.servo }

/-- The trims of an ADC slice step while the read front end is on (R439). -/
def Dev.adcTrimStep (d : Dev) (n : Fin 4) (i : Nat) : Dev :=
  if d.plat.on (4 * n.val) then d.onPlat (fun p => adcTrim p n i) else d

/-- A memory test ends: the failing words lose their contents (R433). -/
def Dev.memoryTestEnd (d : Dev) (bad : List Nat) (bit : Nat) : Dev :=
  let e := d.mbBadWords bad
  { e with bcl := d.bcl }.onBcl (fun p b => mbEnd p b bad bit)

/-- A loop-back test ends: the gate unit is free again (R435, R436). -/
def Dev.loopbackEnd (d : Dev) (xs : List (Nat × Slice)) : Dev := d.lbFree.onBcl (fun p b => lbEnd p b xs)

/-! ## Trace, management -/

/-- A trace message of the source that its TRC_CFG bit enables (R455). -/
def Plat.trace (p : Plat) (m : TraceEvent) : Plat :=
  match m with
  | .tag unit tag => p.trcTag unit tag
  | .fw core v => p.trcFw core v
  | .frz typ src => p.trcFrz typ src

/-- Every SYNC µs, while the port runs, a SYNC is sent. -/
def Plat.traceSync (p : Plat) : Plat := if p.bit Reg.TRC_CFG Fld.TRC_CFG_EN then p.trcSync else p

/-- `ns` nanoseconds pass on the time base: AGE of every Track Sequencer, the watchdog's REMAIN and the machine timers follow
(R86, R387, R396, R398). -/
def Dev.tick (d : Dev) (ns : Nat) : Dev :=
  let d := d.onPlat (fun p => { p with time := p.time + BitVec.ofNat 64 ns })
  let d := [0, 1, 2, 3, 4].foldl (fun (d : Dev) (t : Fin 5) =>
    let r := envTick d.plat (d.tsq t) t ns
    ({ d with plat := r.1 }).setTsq t r.2) d
  let d := d.onSys (fun p y => wdtTick p y ns)
  d.onSys (fun p y => (p, [0, 1, 2, 3].foldl (fun y c => timerLevel p y c) y))

/-- One PLINTH clock in SLEW, while a correction is outstanding: the time base advances by 41 or 39 ns (R465). -/
def Dev.slew (d : Dev) : Dev :=
  if 0 < d.mgt.rem then { d.tick 41 with mgt := { d.mgt with rem := d.mgt.rem - 1 } }
  else if d.mgt.rem < 0 then { d.tick 39 with mgt := { d.mgt with rem := d.mgt.rem + 1 } }
  else d

/-- A write of 1 to bit 31 of the word at register address `a`: the clear of SAT where a counter's HI register is (R394); elsewhere a
write as any other, a bus error of kind 1 where nothing is mapped (R388). -/
def Dev.counterClear (d : Dev) (c : Fin 4) (a : Nat) : Dev :=
  match regDesc a with
  | none => d.onPlat (fun p => p.busErr a c true 1)
  | some r => if r.cnt = 2 then d.onPlat (fun p => p.satClear a) else d.regEffect c a 0x80000000

/-- Whether the boot ROM is in recovery, so that no firmware serves the mailbox (R478). -/
def Dev.inRecovery (d : Dev) : Bool := d.sys.boot == .recovery

end Sys2Proof.Machine
end

