-- ==== Sys2Proof/Machine/AdminCmds.lean ====
section
/-! DEFINITION. Meanings: the admin commands as firmware handles them (Table HIF-4, R273 to R278, R285, R286, R301, R309, R422,
R427). -/

namespace Sys2Proof.Machine

/-- DELETE_IO_SQ (R275): Delete I/O Submission Queue stops fetching, aborts unadmitted tags and completes once the queue's tags
drain. -/
def execDeleteIoSq (t : TagNo) (s : State) : Host.Outcome State Fault Refusal :=
  s.does (fun d => d.onFe (fun e => e.deleteSq t))

/-- CREATE_IO_SQ (R273): Create I/O Submission Queue sets up a contiguous submission ring. -/
def execCreateIoSq (t : TagNo) (s : State) : Host.Outcome State Fault Refusal :=
  s.does (fun d => d.onFe (fun e => e.createSq t))

/-- DELETE_IO_CQ (R273): Delete I/O Completion Queue removes a completion ring. -/
def execDeleteIoCq (t : TagNo) (s : State) : Host.Outcome State Fault Refusal :=
  s.does (fun d => d.onFe (fun e => e.deleteCq t))

/-- CREATE_IO_CQ (R273): Create I/O Completion Queue sets up a contiguous completion ring. -/
def execCreateIoCq (t : TagNo) (s : State) : Host.Outcome State Fault Refusal :=
  s.does (fun d => d.onFe (fun e => e.createCq t))

/-- GET_LOG_PAGE (R286): Get Log Page returns a supported log or completes with Invalid Log Page. -/
def execGetLogPage (t : TagNo) (pg : PageNo) (fw : Bytes) (s : State) : Host.Outcome State Fault Refusal :=
  s.does (fun d => d.onFe (fun e => e.getLog t pg fw))

/-- IDENTIFY (R285): Identify returns the controller or namespace data structure. -/
def execIdentify (t : TagNo) (pg : PageNo) (fw : Bytes) (s : State) : Host.Outcome State Fault Refusal :=
  s.does (fun d => d.onFe (fun e => e.identify t pg fw))

/-- ABORT_COMMAND (R301): The Abort command looks for its target tag and completes with caught or not caught. -/
def execAbortCommand (t : TagNo) (s : State) : Host.Outcome State Fault Refusal :=
  s.does (fun d => (d.putFe (d.fe.abort t).1).sendAbrts (d.fe.abort t).2)

/-- SET_FEATURES (R278): Set Features changes a supported feature or completes with Invalid Field in Command. -/
def execSetFeatures (t : TagNo) (data : Bytes) (s : State) : Host.Outcome State Fault Refusal :=
  s.does (fun d => d.onFe (fun e => e.setFeatures t data))

/-- GET_FEATURES (R278): Get Features returns a supported feature's value. -/
def execGetFeatures (t : TagNo) (pg : PageNo) (s : State) : Host.Outcome State Fault Refusal :=
  s.does (fun d => d.onFe (fun e => e.getFeatures t pg))

/-- ASYNC_EVENT_REQUEST (R277): An Asynchronous Event Request is held outstanding, up to 16 per controller. -/
def execAsyncEventRequest (t : TagNo) (s : State) : Host.Outcome State Fault Refusal :=
  s.does (fun d => d.onFe (fun e => e.aer t))

/-- NAMESPACE_MANAGEMENT (R276): Namespace Management creates or deletes a zoned or conventional namespace. -/
def execNamespaceManagement (t : TagNo) (data : Bytes) (zcap : Nat) (share : Nat) (s : State) : Host.Outcome State Fault Refusal
    :=
  s.does (fun d => d.onFe (fun e => e.nsManagement t data zcap share))

/-- NAMESPACE_ATTACHMENT (R276): Namespace Attachment attaches or detaches a namespace to controllers. -/
def execNamespaceAttachment (t : TagNo) (data : Bytes) (s : State) : Host.Outcome State Fault Refusal :=
  s.does (fun d => d.onFe (fun e => e.nsAttachment t data))

/-- FIRMWARE_COMMIT (R309): Firmware Commit commits an image, and with action 3 holds fetch, drains and activates without reset.
-/
def execFirmwareCommit (t : TagNo) (s : State) : Host.Outcome State Fault Refusal :=
  s.does (fun d => d.onFe (fun e => e.fwCommit t))

/-- FW_ACTIVATION_TIMEOUT (R309): If draining has not ended 4 s after FETCH_HOLD, the old image is kept and the Commit fails. -/
def execFwActivationTimeout (s : State) : Host.Outcome State Fault Refusal :=
  s.does (fun d => d.onFe Fe.fwTimeout)

/-- FIRMWARE_IMAGE_DOWNLOAD (R277): Firmware Image Download receives part of a new image. -/
def execFirmwareImageDownload (t : TagNo) (data : Bytes) (s : State) : Host.Outcome State Fault Refusal :=
  s.does (fun d => d.onFe (fun e => e.fwDownload t data))

/-- DEVICE_SELF_TEST (R277): Device Self-test runs firmware's composition of the memory and analogue self-tests. -/
def execDeviceSelfTest (t : TagNo) (ended : Option Nat) (s : State) : Host.Outcome State Fault Refusal :=
  s.does (fun d => d.onFe (fun e => e.selfTest t ended))

/-- VIRTUALIZATION_MANAGEMENT (R271): Virtualization Management is executed by writing HIF_FNn_RES. -/
def execVirtualizationManagement (t : TagNo) (s : State) : Host.Outcome State Fault Refusal :=
  s.does (fun d => d.onFe (fun e => e.virtualization t))

/-- NVME_MI_SEND (R277): NVMe-MI Send carries a management command in band. -/
def execNvmeMiSend (t : TagNo) (mi : MiCmd) (s : State) : Host.Outcome State Fault Refusal :=
  s.does (fun d => d.miSend t mi)

/-- NVME_MI_RECEIVE (R277): NVMe-MI Receive returns a management response in band. -/
def execNvmeMiReceive (t : TagNo) (pg : PageNo) (s : State) : Host.Outcome State Fault Refusal :=
  s.does (fun d => d.onFe (fun e => e.miReceive d.mgt t pg))

/-- DOORBELL_BUFFER_CONFIG (R274): Doorbell Buffer Config sets the shadow doorbell and EventIdx buffers of a controller. -/
def execDoorbellBufferConfig (t : TagNo) (s : State) : Host.Outcome State Fault Refusal :=
  s.does (fun d => d.onFe (fun e => e.dbbufConfig t))

/-- FORMAT_NVM (R277): Format NVM formats a namespace, resetting every zone of a zoned namespace. -/
def execFormatNvm (t : TagNo) (swept : Bool) (s : State) : Host.Outcome State Fault Refusal :=
  s.does (fun d => d.onFe (fun e => e.format t swept))

/-- SECURITY_SEND (R422): Security Send is passed to firmware, which drives the key store and locking ranges. -/
def execSecuritySend (t : TagNo) (ok : Bool) (s : State) : Host.Outcome State Fault Refusal :=
  s.does (fun d => d.onFe (fun e => e.securitySend t ok))

/-- SECURITY_RECEIVE (R422): Security Receive returns security protocol data from firmware. -/
def execSecurityReceive (t : TagNo) (pg : PageNo) (data : Bytes) (s : State) : Host.Outcome State Fault Refusal :=
  s.does (fun d => d.onFe (fun e => e.securityReceive t pg data))

/-- SANITIZE (R427): Sanitize performs a crypto erase by GEN on every slot in use, and every zone becomes Empty. -/
def execSanitize (t : TagNo) (s : State) : Host.Outcome State Fault Refusal :=
  s.does (fun d => d.onFe (fun e => e.sanitize t))

/-- UNSUPPORTED_OPCODE (R277): A fetched command with an opcode outside Table HIF-4 completes with Invalid Command Opcode. -/
def execUnsupportedOpcode (t : TagNo) (s : State) : Host.Outcome State Fault Refusal :=
  s.does (fun d => d.onFe (fun e => e.unsupported t))

end Sys2Proof.Machine
end

