-- ==== Sys2Proof/Machine/BufferCmds.lean ====
section
/-! DEFINITION. Meanings: the buffer memory and the stage cache (R314 to R352). -/

namespace Sys2Proof.Machine

/-- BUFFER_REQUEST (R336): A request to the Buffer DRAM range is checked for retirement and served by the stage cache or DRAM.
-/
def execBufferRequest (r : Machine.Requester) (a : Nat) (n : Nat) (data : Option Bytes) (chk : Machine.ArrayCheck) (flips :
    Flips) (s : State) : Host.Outcome State Fault Refusal :=
  s.does (fun d => d.bufferRequest r a n data chk flips)

/-- WRITE_BACK_ISSUE (R343): The buffer controller accepts a queued write-back and the victim copy becomes clean. -/
def execWriteBackIssue (s : State) : Host.Outcome State Fault Refusal :=
  s.does (fun d => d.onBuf wbIssue)

/-- WRITE_BACK_COMPLETE (R343): DRAM acknowledges a write-back and its entry is freed. -/
def execWriteBackComplete (s : State) : Host.Outcome State Fault Refusal :=
  s.does (fun d => d.onBuf wbComplete)

/-- ST_RERUN (R329): BUF_CTRL.ST_RERUN runs the checker self-test again or is refused. -/
def execStRerun (c : CoreNo) (s : State) : Host.Outcome State Fault Refusal :=
  s.does (fun d => d.regWrite c Reg.BUF_CTRL (fun d => d.onPlat (fun p => p.bufCtrl true false false)))

/-- CHECKER_SELFTEST_END (R329): The checker self-test ends, setting or not setting WC_FAIL and PC_FAIL. -/
def execCheckerSelftestEnd (wcFail : Bool) (pcFail : Bool) (s : State) : Host.Outcome State Fault Refusal :=
  s.does (fun d => d.onPlat (fun p => p.stEnd wcFail pcFail))

/-- BUF_INIT (R329): BUF_CTRL.INIT starts training the buffer devices or is refused. -/
def execBufInit (c : CoreNo) (s : State) : Host.Outcome State Fault Refusal :=
  s.does (fun d => d.regWrite c Reg.BUF_CTRL (fun d => d.onPlat (fun p => p.bufCtrl false true false)))

/-- TRAINING_END (R318): Training ends with TRAINED or TRAIN_FAIL. -/
def execTrainingEnd (size : Nat) (ranks : Nat) (converged : Bool) (s : State) : Host.Outcome State Fault Refusal :=
  s.does (fun d => d.onPlat (fun p => p.trainEnd size ranks converged))

/-- BUF_ZERO (R329): BUF_CTRL.ZERO starts the fill of every frame or is refused. -/
def execBufZero (c : CoreNo) (s : State) : Host.Outcome State Fault Refusal :=
  s.does (fun d => d.regWrite c Reg.BUF_CTRL (fun d => d.onPlat (fun p => p.bufCtrl false false true)))

/-- FILL_END (R329): The fill ends, setting FILLED and opening the buffer. -/
def execFillEnd (s : State) : Host.Outcome State Fault Refusal :=
  s.does (fun d => d.onBuf Machine.fillEnd)

/-- SCRUB_PAGE (R331): Every INTERVAL the scrubber reads one page whole and writes back any correction. -/
def execScrubPage (flips : Flips) (s : State) : Host.Outcome State Fault Refusal :=
  s.does (fun d => d.onBuf (fun p b => Machine.scrubPage p (b.flip flips)))

/-- BUF_RET_WRITE (R333): A write of BUF_RETn retires or unretires a page. -/
def execBufRetWrite (c : CoreNo) (n : RetNo) (v : Word) (s : State) : Host.Outcome State Fault Refusal :=
  s.does (fun d => d.regWrite c (Reg.BUF_RET n) (fun d => d.fw (Reg.BUF_RET n) v))

/-- BUF_BANK_RET_WRITE (R333): A write of BUF_BANK_RETr retires DRAM banks. -/
def execBufBankRetWrite (c : CoreNo) (r : PairNo) (v : Word) (s : State) : Host.Outcome State Fault Refusal :=
  s.does (fun d => d.regWrite c (Reg.BUF_BANK_RET r) (fun d => d.fw (Reg.BUF_BANK_RET r) v))

/-- BUF_INJ_WRITE (R351): A write of BUF_INJ arms corruption of the next DRAM write of the named word. -/
def execBufInjWrite (c : CoreNo) (v : Word) (s : State) : Host.Outcome State Fault Refusal :=
  s.does (fun d => d.regWrite c Reg.BUF_INJ (fun d => d.fw Reg.BUF_INJ v))

/-- STC_ENABLE_WRITE (R337): A write of STC_CTRL.EN enables the cache if INV_DONE holds, or disables it into bypass. -/
def execStcEnableWrite (c : CoreNo) (v : Word) (s : State) : Host.Outcome State Fault Refusal :=
  s.does (fun d => d.regWrite c Reg.STC_CTRL (fun d => d.onPlat (fun p => stcCtrl p v)))

/-- CLEAN_ALL (R340): STC_OP 1 writes back every dirty line. -/
def execCleanAll (c : CoreNo) (s : State) : Host.Outcome State Fault Refusal :=
  s.does (fun d => d.regWrite c Reg.STC_OP (fun d => d.onBuf (fun p b => stcOpWrite p b 1 0)))

/-- INVALIDATE_ALL (R340): STC_OP 2 invalidates every line while the cache is disabled. -/
def execInvalidateAll (c : CoreNo) (s : State) : Host.Outcome State Fault Refusal :=
  s.does (fun d => d.regWrite c Reg.STC_OP (fun d => d.onBuf (fun p b => stcOpWrite p b 2 0)))

/-- CLEAN_INV_ALL (R340): STC_OP 3 writes back and invalidates every line. -/
def execCleanInvAll (c : CoreNo) (s : State) : Host.Outcome State Fault Refusal :=
  s.does (fun d => d.regWrite c Reg.STC_OP (fun d => d.onBuf (fun p b => stcOpWrite p b 3 0)))

/-- CLEAN_RANGE (R340): STC_OP 4 writes back the dirty lines of a range. -/
def execCleanRange (c : CoreNo) (s : State) : Host.Outcome State Fault Refusal :=
  s.does (fun d => d.regWrite c Reg.STC_OP (fun d => d.onBuf (fun p b => stcOpWrite p b 4 0)))

/-- CLEAN_INV_RANGE (R340): STC_OP 5 writes back and invalidates the lines of a range. -/
def execCleanInvRange (c : CoreNo) (s : State) : Host.Outcome State Fault Refusal :=
  s.does (fun d => d.regWrite c Reg.STC_OP (fun d => d.onBuf (fun p b => stcOpWrite p b 5 0)))

/-- CLEAN_INV_WAY (R340): STC_OP 6 writes back and invalidates one way of every set. -/
def execCleanInvWay (c : CoreNo) (way : WayNo) (s : State) : Host.Outcome State Fault Refusal :=
  s.does (fun d => d.regWrite c Reg.STC_OP (fun d => d.onBuf (fun p b => stcOpWrite p b 6 way)))

/-- STC_OP_COMPLETE (R341): A maintenance operation completes and OP_DONE sets. -/
def execStcOpComplete (s : State) : Host.Outcome State Fault Refusal :=
  s.does (fun d => d.onBuf Machine.stcOpComplete)

/-- STC_FENCE_WRITE (R346): A write of STC_FENCE fences ways, or is refused when it would fence all 16. -/
def execStcFenceWrite (c : CoreNo) (v : Word) (s : State) : Host.Outcome State Fault Refusal :=
  s.does (fun d => d.regWrite c Reg.STC_FENCE (fun d => d.fenceWrite v))

/-- DRAM_TEMPERATURE_POLL (R319): Every 32 ms the buffer controller polls the devices' mode-register temperature and derates the
refresh interval. -/
def execDramTemperaturePoll (code : Byte) (s : State) : Host.Outcome State Fault Refusal :=
  s.does (fun d => d.dramPoll code.toNat)

end Sys2Proof.Machine
end

