-- ==== Sys2Proof/Machine/FriezeCmds.lean ====
section
/-! DEFINITION. Meanings: the Frieze and the trace port (R26, R440 to R455). -/

namespace Sys2Proof.Machine

/-- FRIEZE_RECORD_WRITE (R26): A queued event is written to the Frieze log in timestamp and source order. -/
def execFriezeRecordWrite (s : State) : Host.Outcome State Fault Refusal :=
  s.does (fun d => d.onPlat Plat.recordWrite)

/-- FRZ_POST (R446): A write of FRZ_POST queues a firmware record or is refused. -/
def execFrzPost (c : CoreNo) (v : Word) (s : State) : Host.Outcome State Fault Refusal :=
  s.does (fun d => d.regWrite c Reg.FRZ_POST (fun d => d.frzPostWrite v))

/-- FRZ_CLEAR (R450): FRZ_CTRL.CLEAR empties a frozen log or is refused. -/
def execFrzClear (c : CoreNo) (s : State) : Host.Outcome State Fault Refusal :=
  s.does (fun d => d.regWrite c Reg.FRZ_CTRL (fun d => d.onPlat (fun p => p.frzCtrl true (p.bit Reg.FRZ_CTRL Fld.FRZ_CTRL_MODE) (p.bit Reg.FRZ_CTRL Fld.FRZ_CTRL_FREEZE_FW))))

/-- FRZ_FREEZE_FW (R450): A write of FREEZE_FW stops or restarts recording. -/
def execFrzFreezeFw (c : CoreNo) (freeze : Bool) (s : State) : Host.Outcome State Fault Refusal :=
  s.does (fun d => d.regWrite c Reg.FRZ_CTRL (fun d => d.onPlat (fun p => p.frzCtrl false (p.bit Reg.FRZ_CTRL Fld.FRZ_CTRL_MODE) freeze)))

/-- TRACE_MESSAGE_SEND (R455): A trace message is queued for the trace port or dropped when the FIFO is full. -/
def execTraceMessageSend (m : TraceEvent) (s : State) : Host.Outcome State Fault Refusal :=
  s.does (fun d => d.onPlat (fun p => p.trace m))

/-- TRACE_SYNC (R455): Every SYNC µs a SYNC message is sent on the trace port. -/
def execTraceSync (s : State) : Host.Outcome State Fault Refusal :=
  s.does (fun d => d.onPlat Plat.traceSync)

/-- TRC_FW_WRITE (R455): A write of TRC_FW queues a FW trace message. -/
def execTrcFwWrite (c : CoreNo) (v : Word) (s : State) : Host.Outcome State Fault Refusal :=
  s.does (fun d => d.regWrite c Reg.TRC_FW (fun d => d.onPlat (fun p => p.trcFw c v)))

/-- TRACE_MESSAGE_OUT (R455): A message leaves the trace FIFO onto TRC_D, freeing space, so that a pending DROP message can be
sent. -/
def execTraceMessageOut (s : State) : Host.Outcome State Fault Refusal :=
  s.does (fun d => d.onPlat Plat.trcOut)

end Sys2Proof.Machine
end

