-- ==== Sys2Proof/Machine/GateCmds.lean ====
section
/-! DEFINITION. Meanings: windows, gates, side frames, telemetry and preamp transactions of a head stack, and the write path
(R27, R106 to R109, R133 to R162, R207 to R231). -/

namespace Sys2Proof.Machine

/-- WINDOW_OPENING (R106): At a granted window's opening the staleness, inhibit and arming tests decide whether the window
proceeds. -/
def execWindowOpening (n : ActNo) (s : State) : Host.Outcome State Fault Refusal :=
  s.does (fun d => d.onAc n Ac.windowOpening)

/-- WINDOW_END (R107): The window closes and the group 2 outcome bits are set. -/
def execWindowEnd (n : ActNo) (s : State) : Host.Outcome State Fault Refusal :=
  s.does (fun d => d.onAc n Ac.windowEnd)

/-- SERVO_WINDOW_START (R137): At each servo window the gate unit changes the code to SERVO and drives SWS. -/
def execServoWindowStart (n : ActNo) (w : WedgeNo) (s : State) : Host.Outcome State Fault Refusal :=
  s.does (fun d => d.onAc n (fun a => a.servoStart w))

/-- SERVO_WINDOW_END (R137): Before the window ends the gate unit returns to the last set phase, with training on WRITE entry.
-/
def execServoWindowEnd (n : ActNo) (s : State) : Host.Outcome State Fault Refusal :=
  s.does (fun d => d.onAc n Ac.servoEnd)

/-- TURNAROUND_END (R136): A turnaround gap ends and a GATE operation held during it takes effect. -/
def execTurnaroundEnd (n : ActNo) (s : State) : Host.Outcome State Fault Refusal :=
  s.does (fun d => d.onAc n Ac.gapEnd)

/-- WRITE_GATE_RISE (R109): A head's write gate rises at its frame start adjusted by WLAT when every condition holds. -/
def execWriteGateRise (n : ActNo) (h : HeadNo) (s : State) : Host.Outcome State Fault Refusal :=
  s.does (fun d => d.onAc n (fun a => a.writeRise h))

/-- WRITE_GATE_FALL (R109): A head's write gate falls by itself at the end of its frame's postamble. -/
def execWriteGateFall (n : ActNo) (h : HeadNo) (s : State) : Host.Outcome State Fault Refusal :=
  s.does (fun d => d.onAc n (fun a => a.writeFall h))

/-- SIDE_FRAME_SEND (R144): Every 32 groups a CODES, MOD or HOLD side frame is sent on a lane. -/
def execSideFrameSend (n : ActNo) (h : HeadNo) (s : State) : Host.Outcome State Fault Refusal :=
  s.does (fun d => d.onAc n (fun a => a.sideFrame h))

/-- WRITE_INHIBIT_DROP (R27): A newly set inhibit bit drops that head's write gate within 2.4 ns, abandoning the row. -/
def execWriteInhibitDrop (n : ActNo) (h : HeadNo) (s : State) : Host.Outcome State Fault Refusal :=
  s.does (fun d => d.onAc n (fun a => a.inhibitDrop h))

/-- UNDERRUN (R208): The serialiser reaches user data not present and drops the head's gate with cause UNDERRUN. -/
def execUnderrun (n : ActNo) (h : HeadNo) (s : State) : Host.Outcome State Fault Refusal :=
  s.does (fun d => d.onAc n (fun a => a.underrun h))

/-- HSI_PCMD_WRITE (R157): A write of HSI_PCMD requests a preamp register transaction, or sets OVERRUN while busy. -/
def execHsiPcmdWrite (c : CoreNo) (n : ActNo) (v : Word) (s : State) : Host.Outcome State Fault Refusal :=
  s.does (fun d => d.regWrite c (Reg.HSI_PCMD n) (fun d => d.onPlat (fun p => pcmdWrite p n v)))

/-- PREAMP_TRANSACTION_START (R157): Once the phase is IDLE with no gap, EN is 1 and it fits before the next servo window, the
transaction starts. -/
def execPreampTransactionStart (n : ActNo) (s : State) : Host.Outcome State Fault Refusal :=
  s.does (fun d => d.onAc n Ac.xactStart)

/-- PREAMP_TRANSACTION_END (R155): A preamp transaction ends with its ACK and RESULT recorded in HSI_PSTAT. -/
def execPreampTransactionEnd (n : ActNo) (ack : Byte) (rdata : HalfBits) (chk : Byte) (s : State) : Host.Outcome State Fault
    Refusal :=
  s.does (fun d => d.onAc n (fun a => a.xactEnd ack rdata chk))

/-- TELEMETRY_FRAME_RECEIVE (R152): A telemetry frame is received, checked, held or discarded, and a new fault reported. -/
def execTelemetryFrameReceive (n : ActNo) (h : HeadNo) (c0 : Byte) (c1 : Byte) (c2 : Byte) (c3 : Byte) (c4 : Byte) (cut : Bool)
    (s : State) : Host.Outcome State Fault Refusal :=
  s.does (fun d => d.onAc n (fun a => a.telemetry h c0 c1 c2 c3 c4 cut))

/-- MON_MISSING (R224): MON_MISS servo windows without a good monitor frame drop the head's gate and hold a fault. -/
def execMonMissing (n : ActNo) (h : HeadNo) (s : State) : Host.Outcome State Fault Refusal :=
  s.does (fun d => d.onAc n (fun a => a.monMissing h))

/-- FAULT_N_LOW (R159): FAULT_N seen low from the end of a gap posts the PREAMP request and sets HSI_FLT.PIN. -/
def execFaultNLow (n : ActNo) (s : State) : Host.Outcome State Fault Refusal :=
  s.does (fun d => d.onAc n Ac.faultLow)

/-- ASAFE_LOW (R147): ASAFE seen low in WRITE without the controller pulling it posts the PREAMP request. -/
def execAsafeLow (n : ActNo) (s : State) : Host.Outcome State Fault Refusal :=
  s.does (fun d => d.onAc n Ac.asafeLow)

/-- WRP_MOD_WRITE (R217): A write of WRP_MODh sets the MOD frame from the next span, or is refused for the family. -/
def execWrpModWrite (c : CoreNo) (n : ActNo) (h : HeadNo) (v : Word) (s : State) : Host.Outcome State Fault Refusal :=
  s.does (fun d => d.regWrite c (Reg.WRP_MOD n h) (fun d => d.onPlat (fun p => modWrite p n h v)))

/-- WRP_FAMILY_WRITE (R218): A write of WRP_CFG.FAMILY takes effect only with an empty store and idle Track Sequencer. -/
def execWrpFamilyWrite (c : CoreNo) (n : ActNo) (v : Word) (s : State) : Host.Outcome State Fault Refusal :=
  s.does (fun d => d.regWrite c (Reg.WRP_CFG n) (fun d => d.onPlat (fun p => wrpCfgWrite p n (p.servedBy n) v)))

end Sys2Proof.Machine
end

