-- ==== Sys2Proof/Machine/HostCmds.lean ====
section
/-! DEFINITION. Meanings: the host's doorbells, resets and links, and the writes of the HIF registers (R264 to R287, R306 to
R309). -/

namespace Sys2Proof.Machine

/-- SQ_TAIL_DOORBELL (R275): The host writes a submission-queue tail doorbell; the value is checked and fetching from that queue
is enabled. -/
def execSqTailDoorbell (n : CtlNo) (q : QueueNo) (v : HalfWord) (s : State) : Host.Outcome State Fault Refusal :=
  s.does (fun d => d.onFe (fun e => e.sqTail n q v))

/-- CQ_HEAD_DOORBELL (R275): The host writes a completion-queue head doorbell, releasing posted completion entries or being
ignored as invalid. -/
def execCqHeadDoorbell (n : CtlNo) (q : QueueNo) (v : HalfWord) (s : State) : Host.Outcome State Fault Refusal :=
  s.does (fun d => d.onFe (fun e => e.cqHead n q v))

/-- SHADOW_DOORBELL_POLL (R274): At each poll interval the Host Interface reads a queue's shadow doorbell and writes EventIdx.
-/
def execShadowDoorbellPoll (n : CtlNo) (q : QueueNo) (cq : Bool) (v : HalfWord) (s : State) : Host.Outcome State Fault Refusal
    :=
  s.does (fun d => d.onFe (fun e => e.shadowPoll n q cq v))

/-- COMMAND_FETCH (R272): When tag reserve and ceiling allow, the Host Interface fetches a submission entry into a FREE tag,
copies it to control SRAM and queues NEW. -/
def execCommandFetch (t : TagNo) (sel : Nat) (entry : Bytes) (s : State) : Host.Outcome State Fault Refusal :=
  s.does (fun d => d.fetch t sel entry)

/-- CONFIG_REQUEST (R268): A PCIe configuration request is answered, or answered with Retry Status while CFG_READY is 0. -/
def execConfigRequest (n : CtlNo) (item : ConfigItem) (s : State) : Host.Outcome State Fault Refusal :=
  s.does (fun d => d.onHif (fun p h => Machine.configRequest p h n item))

/-- LINK_TRAINING_START (R267): Link training begins within 1 ms of the later of PERST# deassertion and LTSSM enable. -/
def execLinkTrainingStart (port : PortNo) (s : State) : Host.Outcome State Fault Refusal :=
  s.does (fun d => d.onHif (fun p h => trainStart p h port))

/-- LINK_DOWN (R268): A port's data link goes down or a hot reset is received, resetting that port's controllers. -/
def execLinkDown (port : PortNo) (hot : Bool) (s : State) : Host.Outcome State Fault Refusal :=
  s.does (fun d => d.onFe (fun e => e.linkDown port hot))

/-- FUNCTION_LEVEL_RESET (R306): A Function Level Reset resets that controller and its tags are ended as Aborted-by-Reset. -/
def execFunctionLevelReset (n : CtlNo) (s : State) : Host.Outcome State Fault Refusal :=
  s.does (fun d => d.onFe (fun e => ({ e with p := e.p.setFlag Reg.HIF_EVT Fld.HIF_EVT_FLR }).ctrlReset n))

/-- CONTROLLER_ENABLE_CLEAR (R306): The host clears CC.EN, which starts a controller reset. -/
def execControllerEnableClear (n : CtlNo) (s : State) : Host.Outcome State Fault Refusal :=
  s.does (fun d => d.onFe (fun e => e.ctrlReset n))

/-- NVM_SUBSYSTEM_RESET (R306): An NVM Subsystem Reset resets every controller. -/
def execNvmSubsystemReset (s : State) : Host.Outcome State Fault Refusal :=
  s.does (fun d => d.onFe (fun e => (List.range 64).foldl (fun e n => e.ctrlReset n) e))

/-- SHUTDOWN_NOTIFICATION (R308): A write of CC.SHN acts as a Flush of every namespace and leads to the clean-shutdown record.
-/
def execShutdownNotification (n : CtlNo) (recorded : Bool) (s : State) : Host.Outcome State Fault Refusal :=
  s.does (fun d => d.onFe (fun e => e.shutdown n recorded))

/-- VF_CONFIG_WRITE (R287): The host writes NumVFs or VF Enable of a PF, setting HIF_EVT.VF_CFG. -/
def execVfConfigWrite (pf : PortNo) (num : HalfWord) (en : Bool) (s : State) : Host.Outcome State Fault Refusal :=
  s.does (fun d => d.onHif (fun p h => vfConfig p h pf num en))

/-- PTM_DIALOGUE (R466): Every PTM_INT ms with SRC 2 the Host Interface runs a PTM exchange on port A and yields W and L. -/
def execPtmDialogue (w : Nat) (l : Nat) (s : State) : Host.Outcome State Fault Refusal :=
  s.does (fun d => d.onMgt (fun p g => Machine.ptmDialogue p g w l))

/-- HIF_FN_RES_WRITE (R271): A write of a controller's queue and vector resources is applied or refused. -/
def execHifFnResWrite (c : CoreNo) (n : CtlNo) (v : Word) (s : State) : Host.Outcome State Fault Refusal :=
  s.does (fun d => d.regWrite c (Reg.HIF_FN_RES n) (fun d => d.onPlat (fun p => fnResWrite p d.hif n v)))

/-- HIF_FN_TAG_WRITE (R272): A write of a controller's tag reserve and ceiling is applied or refused. -/
def execHifFnTagWrite (c : CoreNo) (n : CtlNo) (v : Word) (s : State) : Host.Outcome State Fault Refusal :=
  s.does (fun d => d.regWrite c (Reg.HIF_FN_TAG n) (fun d => d.onPlat (fun p => fnTagWrite p n v)))

/-- HIF_LINK_CFG_WRITE (R264): A write of the link configuration is applied, or the MODE change is refused while a port may
train. -/
def execHifLinkCfgWrite (c : CoreNo) (v : Word) (s : State) : Host.Outcome State Fault Refusal :=
  s.does (fun d => d.regWrite c Reg.HIF_LINK_CFG (fun d => d.onPlat (fun p => linkCfgWrite p v)))

/-- HIF_SRIOV_WRITE (R268): A write of TotalVFs is applied only while CFG_READY is 0 and the sum is within 62. -/
def execHifSriovWrite (c : CoreNo) (v : Word) (s : State) : Host.Outcome State Fault Refusal :=
  s.does (fun d => d.regWrite c Reg.HIF_SRIOV (fun d => d.onPlat (fun p => sriovWrite p v)))

/-- LINK_UP (R287): A port's link completes training and comes up, or changes rate or width, setting HIF_EVT.LINK_A or LINK_B.
-/
def execLinkUp (port : PortNo) (speed : Nat) (width : Nat) (s : State) : Host.Outcome State Fault Refusal :=
  s.does (fun d => d.onHif (fun p h => Machine.linkUp p h port speed width))

/-- PCIE_UNCORRECTABLE_ERROR (R287): AER logs an uncorrectable PCIe error and HIF_EVT.AER_UNCORR sets, asserting source 23. -/
def execPcieUncorrectableError (s : State) : Host.Outcome State Fault Refusal :=
  s.does (fun d => d.onPlat (fun p => p.setFlag Reg.HIF_EVT Fld.HIF_EVT_AER_UNCORR))

/-- CONTROLLER_ENABLE (R476): The host sets CC.EN to 1, after which firmware sets CSTS.RDY and the controller's resources can no
longer be reassigned. -/
def execControllerEnable (n : CtlNo) (asqs : Nat) (acqs : Nat) (s : State) : Host.Outcome State Fault Refusal :=
  s.does (fun d => d.onFe (fun e => e.enable n asqs acqs))

/-- INTERRUPT_COALESCING_TIMEOUT (R278): The aggregation time of the Interrupt Coalescing feature runs out and the Host
Interface sends the held interrupt. -/
def execInterruptCoalescingTimeout (n : CtlNo) (v : Nat) (s : State) : Host.Outcome State Fault Refusal :=
  s.does (fun d => d.onHif (fun p h => (p, h.coalesceTimeout n v)))

end Sys2Proof.Machine
end

