-- ==== Sys2Proof/Machine/IoCmds.lean ====
section
/-! DEFINITION. Meanings: the I/O commands as firmware handles them (Table HIF-4, R57, R58, R279 to R284, R298 to R305, R312).
-/

namespace Sys2Proof.Machine

/-- FLUSH (R305): Flush completes once every covered write is on the media, or with Write Fault after a deferred error. -/
def execFlush (t : TagNo) (s : State) : Host.Outcome State Fault Refusal :=
  s.does (fun d => d.onFe (fun e => e.flush t))

/-- WRITE (R298): Write stores host data, ordered against overlapping commands of its queue. -/
def execWrite (t : TagNo) (pg : PageNo) (s : State) : Host.Outcome State Fault Refusal :=
  s.does (fun d => d.onFe (fun e => e.write t pg))

/-- READ (R281): Read returns data, zeros above a zone's write pointer, and may cross zone boundaries. -/
def execRead (t : TagNo) (pg : PageNo) (failed : Nats) (s : State) : Host.Outcome State Fault Refusal :=
  s.does (fun d => d.onFe (fun e => e.read t pg failed))

/-- WRITE_ZEROES (R284): Write Zeroes records zero sectors and deallocates nothing. -/
def execWriteZeroes (t : TagNo) (pg : PageNo) (s : State) : Host.Outcome State Fault Refusal :=
  s.does (fun d => d.onFe (fun e => e.writeZeroes t pg))

/-- DATASET_MANAGEMENT (R284): Dataset Management attributes are taken as hints and deallocate has no effect. -/
def execDatasetManagement (t : TagNo) (s : State) : Host.Outcome State Fault Refusal :=
  s.does (fun d => d.onFe (fun e => e.datasetManagement t))

/-- VERIFY (R298): Verify reads and checks without transfer and counts as a read for ordering. -/
def execVerify (t : TagNo) (failed : Nats) (s : State) : Host.Outcome State Fault Refusal :=
  s.does (fun d => d.onFe (fun e => e.verify t failed))

/-- ZONE_CLOSE (R280): Zone Management Send Close closes a zone. -/
def execZoneClose (t : TagNo) (s : State) : Host.Outcome State Fault Refusal :=
  s.does (fun d => d.onFe (fun e => e.zoneClose t))

/-- ZONE_FINISH (R280): Zone Management Send Finish moves a zone to Full. -/
def execZoneFinish (t : TagNo) (s : State) : Host.Outcome State Fault Refusal :=
  s.does (fun d => d.onFe (fun e => e.zoneFinish t))

/-- ZONE_OPEN (R280): Zone Management Send Open opens a zone, implicitly closing another if MOR would be exceeded. -/
def execZoneOpen (t : TagNo) (s : State) : Host.Outcome State Fault Refusal :=
  s.does (fun d => d.onFe (fun e => e.zoneOpen t))

/-- ZONE_RESET (R58): Reset Zone raises ZGEN durably, sweeping the zone first when the new ZGEN was held since its last sweep.
-/
def execZoneReset (t : TagNo) (cap : Option Nat) (swept : Bool) (s : State) : Host.Outcome State Fault Refusal :=
  s.does (fun d => d.onFe (fun e => e.zoneReset t cap swept))

/-- ZONE_OFFLINE (R280): Offline is accepted from the host only for Read Only zones. -/
def execZoneOffline (t : TagNo) (s : State) : Host.Outcome State Fault Refusal :=
  s.does (fun d => d.onFe (fun e => e.zoneOffline t))

/-- REPORT_ZONES (R277): Zone Management Receive returns zone descriptors. -/
def execReportZones (t : TagNo) (pg : PageNo) (s : State) : Host.Outcome State Fault Refusal :=
  s.does (fun d => d.onFe (fun e => e.reportZones t pg))

/-- ZONE_APPEND (R282): Zone Append places up to 32 LBAs at the write pointer within one commit group and returns the first LBA.
-/
def execZoneAppend (t : TagNo) (pg : PageNo) (s : State) : Host.Outcome State Fault Refusal :=
  s.does (fun d => d.onFe (fun e => e.append t pg))

/-- ZONE_AUDIT (R283): Zone Audit runs Band Audit on one zone and returns row counts and a log entry. -/
def execZoneAudit (t : TagNo) (rows : Nat) (noHeads : Nat) (rebuilt : Nat) (s : State) : Host.Outcome State Fault Refusal :=
  s.does (fun d => d.onFe (fun e => e.zoneAudit t rows noHeads rebuilt))

end Sys2Proof.Machine
end

