-- ==== Sys2Proof/Machine/KeepCmds.lean ====
section
/-! DEFINITION. Meanings: the Keep (R353 to R373). -/

namespace Sys2Proof.Machine

/-- PROGRAM (R357): Keep PROGRAM programs a page from the page buffer in verified pulses. -/
def execProgram (c : CoreNo) (s : State) : Host.Outcome State Fault Refusal :=
  s.does (fun d => d.regWrite c Reg.KEEP_CMD (fun d => d.onKeep (fun p k => keepIssue p k 1 0)))

/-- ERASE (R358): Keep ERASE writes an intent record, erases a sector in pulses and reprograms its info row. -/
def execErase (c : CoreNo) (s : State) : Host.Outcome State Fault Refusal :=
  s.does (fun d => d.regWrite c Reg.KEEP_CMD (fun d => d.onKeep (fun p k => keepIssue p k 2 0)))

/-- INFO (R359): Keep INFO reads a sector's info row into KEEP_INFO. -/
def execInfo (c : CoreNo) (s : State) : Host.Outcome State Fault Refusal :=
  s.does (fun d => d.regWrite c Reg.KEEP_CMD (fun d => d.onKeep (fun p k => keepIssue p k 3 0)))

/-- REMAP (R360): Keep REMAP copies a sector to the lowest unused spare and programs a remap entry. -/
def execRemap (c : CoreNo) (s : State) : Host.Outcome State Fault Refusal :=
  s.does (fun d => d.regWrite c Reg.KEEP_CMD (fun d => d.onKeep (fun p k => keepIssue p k 4 0)))

/-- DEFINE_REGION (R367): DEFINE_REGION sets or undefines a protection region. -/
def execDefineRegion (c : CoreNo) (region : RegionNo) (s : State) : Host.Outcome State Fault Refusal :=
  s.does (fun d => d.regWrite c Reg.KEEP_CMD (fun d => d.onKeep (fun p k => keepIssue p k 5 region)))

/-- SET_PASSWORD (R367): SET_PASSWORD sets or removes a region's password. -/
def execSetPassword (c : CoreNo) (region : RegionNo) (s : State) : Host.Outcome State Fault Refusal :=
  s.does (fun d => d.regWrite c Reg.KEEP_CMD (fun d => d.onKeep (fun p k => keepIssue p k 6 region)))

/-- UNLOCK (R367): UNLOCK sets a region's latch on a matching password or counts a failure. -/
def execUnlock (c : CoreNo) (region : RegionNo) (s : State) : Host.Outcome State Fault Refusal :=
  s.does (fun d => d.regWrite c Reg.KEEP_CMD (fun d => d.onKeep (fun p k => keepIssue p k 7 region)))

/-- LOCK (R367): LOCK clears a region's unlock latch. -/
def execLock (c : CoreNo) (region : RegionNo) (s : State) : Host.Outcome State Fault Refusal :=
  s.does (fun d => d.regWrite c Reg.KEEP_CMD (fun d => d.onKeep (fun p k => keepIssue p k 8 region)))

/-- KEEP_PULSE_END (R358): A program or erase pulse and its verify end, deciding whether another pulse follows. -/
def execKeepPulseEnd (b : BankNo) (stuck : Bytes) (s : State) : Host.Outcome State Fault Refusal :=
  s.does (fun d => d.onKeep (fun p k => keepPulse p k b stuck))

/-- KEEP_COMMAND_END (R356): A Keep command ends, writing RESULT and OP and setting DONE. -/
def execKeepCommandEnd (b : BankNo) (s : State) : Host.Outcome State Fault Refusal :=
  s.does (fun d => d.onKeep (fun p k => Machine.keepCommandEnd p k b))

/-- KEEP_WINDOW_READ (R355): A read through the direct-read window returns data or a bus error while its bank is busy. -/
def execKeepWindowRead (c : CoreNo) (o : Nat) (n : Nat) (s : State) : Host.Outcome State Fault Refusal :=
  s.does (fun d => d.onPlat (fun p => Machine.keepWindowRead p d.keep c o n))

/-- STREAM_START (R372): KEEP_STR_CTRL.START begins a continuous read or ends at once on bad parameters or a busy bank. -/
def execStreamStart (c : CoreNo) (s : State) : Host.Outcome State Fault Refusal :=
  s.does (fun d => d.regWrite c Reg.KEEP_STR_CTRL (fun d => d.onKeep Machine.streamStart))

/-- STREAM_STOP (R372): KEEP_STR_CTRL.STOP ends the stream after the line in progress. -/
def execStreamStop (c : CoreNo) (n : Nat) (s : State) : Host.Outcome State Fault Refusal :=
  s.does (fun d => d.regWrite c Reg.KEEP_STR_CTRL (fun d => d.stopStream n))

/-- STREAM_END (R372): A stream ends, with STREAM_DONE or STREAM_ERR. -/
def execStreamEnd (s : State) : Host.Outcome State Fault Refusal :=
  s.does (fun d => d.streamEnd)

end Sys2Proof.Machine
end

