-- ==== Sys2Proof/Machine/MgmtCmds.lean ====
section
/-! DEFINITION. Meanings: the management plane: management commands, Unit States, fleet time (R456 to R468). -/

namespace Sys2Proof.Machine

/-- MI_READ_DATA_STRUCTURE (R456): Read NVMe-MI Data Structure is served by hardware from the mailbox copy. -/
def execMiReadDataStructure (off : Nat) (len : Nat) (s : State) : Host.Outcome State Fault Refusal :=
  s.does (fun d => d.onMgt (fun p g => readDataStructure p g off len))

/-- MI_SUBSYSTEM_HEALTH_POLL (R456): NVM Subsystem Health Status Poll is served by hardware. -/
def execMiSubsystemHealthPoll (s : State) : Host.Outcome State Fault Refusal :=
  s.does (fun d => d.onMgt healthPoll)

/-- MI_CONFIGURATION_GET (R456): Configuration Get is served by hardware. -/
def execMiConfigurationGet (s : State) : Host.Outcome State Fault Refusal :=
  s.does (fun d => d.onMgt configGet)

/-- MI_CONFIGURATION_SET (R456): Configuration Set is served by hardware. -/
def execMiConfigurationSet (unit : Bool) (v : Nat) (s : State) : Host.Outcome State Fault Refusal :=
  s.does (fun d => d.onMgt (fun p g => configSet p g unit v))

/-- MI_CONTROLLER_HEALTH_POLL (R457): Controller Health Status Poll is passed to firmware through the mailbox. -/
def execMiControllerHealthPoll (req : Bytes) (s : State) : Host.Outcome State Fault Refusal :=
  s.does (fun d => d.onMgt (fun p g => mboxArrive p g d.inRecovery req))

/-- MI_VPD_READ (R457): VPD Read is passed to firmware through the mailbox. -/
def execMiVpdRead (req : Bytes) (s : State) : Host.Outcome State Fault Refusal :=
  s.does (fun d => d.onMgt (fun p g => mboxArrive p g d.inRecovery req))

/-- MI_VPD_WRITE (R457): VPD Write is passed to firmware through the mailbox. -/
def execMiVpdWrite (req : Bytes) (s : State) : Host.Outcome State Fault Refusal :=
  s.does (fun d => d.onMgt (fun p g => mboxArrive p g d.inRecovery req))

/-- MI_RESET (R457): The MI Reset command is passed to firmware through the mailbox. -/
def execMiReset (req : Bytes) (s : State) : Host.Outcome State Fault Refusal :=
  s.does (fun d => d.onMgt (fun p g => mboxArrive p g d.inRecovery req))

/-- MI_ADMIN_TUNNEL (R457): Tunnelled Identify, Get Log Page or Get Features is passed to firmware through the mailbox. -/
def execMiAdminTunnel (req : Bytes) (s : State) : Host.Outcome State Fault Refusal :=
  s.does (fun d => d.onMgt (fun p g => mboxArrive p g d.inRecovery req))

/-- UNIT_STATE_GET (R456): Vendor 0xC0 returns every Unit State Register. -/
def execUnitStateGet (s : State) : Host.Outcome State Fault Refusal :=
  s.does (fun d => d.onMgt Machine.unitStateGet)

/-- UNIT_STATE_SET (R460): Vendor 0xC1 sets one unit's requested field or answers Invalid Parameter. -/
def execUnitStateSet (u : Nat) (code : Nat) (s : State) : Host.Outcome State Fault Refusal :=
  s.does (fun d => d.onMgt (fun p g => Machine.unitStateSet p g u code))

/-- FRIEZE_READ (R456): Vendor 0xC2 returns Frieze log bytes. -/
def execFriezeRead (off : Nat) (len : Nat) (s : State) : Host.Outcome State Fault Refusal :=
  s.does (fun d => d.onMgt (fun p g => Machine.friezeRead p g off len))

/-- FRIEZE_FREEZE (R450): Vendor 0xC3 sets or clears FREEZE_MI. -/
def execFriezeFreeze (freeze : Bool) (s : State) : Host.Outcome State Fault Refusal :=
  s.does (fun d => d.onMgt (fun p g => Machine.friezeFreeze p g freeze))

/-- FLEET_BUDGET (R467): Vendor 0xC4 writes MGT_BUDGET and sets BUDGET. -/
def execFleetBudget (assist : Byte) (seek : SeekNo) (s : State) : Host.Outcome State Fault Refusal :=
  s.does (fun d => d.onMgt (fun p g => Machine.fleetBudget p g assist.toNat seek))

/-- FLEET_IDENTITY_SET (R463): Vendor 0xC5 writes the Fleet Node ID. -/
def execFleetIdentitySet (id : NodeNo) (s : State) : Host.Outcome State Fault Refusal :=
  s.does (fun d => d.onMgt (fun p g => fleetIdentity p g id))

/-- MI_UNSUPPORTED_COMMAND (R456): An out-of-band management command not in Table FRZ-5 receives Invalid Command Opcode. -/
def execMiUnsupportedCommand (s : State) : Host.Outcome State Fault Refusal :=
  s.does (fun d => d.onMgt miUnsupported)

/-- MAILBOX_DONE (R457): Firmware's write of MGT_MBOX.DONE sends the response and releases the mailbox. -/
def execMailboxDone (c : CoreNo) (len : RspLen) (s : State) : Host.Outcome State Fault Refusal :=
  s.does (fun d => d.regWrite c Reg.MGT_MBOX (fun d => d.onMgt (fun p g => mboxDone p g len)))

/-- MAILBOX_TIMEOUT (R457): No DONE within TMO answers the held command with Internal Error. -/
def execMailboxTimeout (s : State) : Host.Outcome State Fault Refusal :=
  s.does (fun d => d.onMgt mboxTimeout)

/-- UNIT_STATE_DISAGREE (R462): Fields differing for LIMIT ms set DIS and post a disagreement record. -/
def execUnitStateDisagree (u : UnitNo) (s : State) : Host.Outcome State Fault Refusal :=
  s.does (fun d => d.onPlat (fun p => unitDisagree p u))

/-- FLEET_SYNC_MARK (R464): A FLEET_SYNC pulse of valid width is a mark and the local time is captured. -/
def execFleetSyncMark (ns : Nat) (s : State) : Host.Outcome State Fault Refusal :=
  s.does (fun d => d.onMgt (fun p g => fleetMark p g ns))

/-- FLEET_SYNC_FRAME (R465): A valid time frame gives W, and the offset is stepped or slewed. -/
def execFleetSyncFrame (chars : Bytes) (s : State) : Host.Outcome State Fault Refusal :=
  s.does (fun d => d.onMgt (fun p g => fleetFrame p g chars))

/-- TIME_SLEW_STEP (R465): Every SLEW clocks the time base advances 41 or 39 ns while REM is non-zero. -/
def execTimeSlewStep (s : State) : Host.Outcome State Fault Refusal :=
  s.does (fun d => d.slew)

/-- TIME_LOCK_LOSS (R465): No valid frame or result for 2.5 s clears LOCKED and REM. -/
def execTimeLockLoss (s : State) : Host.Outcome State Fault Refusal :=
  s.does (fun d => d.onMgt timeLoss)

end Sys2Proof.Machine
end

