-- ==== Sys2Proof/Machine/MicroCmds.lean ====
section
/-! DEFINITION. Meanings: microcode: one microword whole, and each operation a microword holds (R105 to R122, Tables TSQ-10 to
TSQ-12). -/

namespace Sys2Proof.Machine

/-- MICROWORD_ISSUE (R117): The Track Sequencer issues one microword, samples conditions, acts and chooses the next address. -/
def execMicrowordIssue (n : ActNo) (parityErr : Bool) (s : State) : Host.Outcome State Fault Refusal :=
  s.does (fun d => d.onAc n (fun a => a.issue parityErr))

/-- GATE_IDLE (R108): GATE 1 sets the phase IDLE. -/
def execGateIdle (n : ActNo) (s : State) : Host.Outcome State Fault Refusal :=
  s.does (fun d => d.onAc n (fun a => a.micro (fun a => a.gateOp 1 0 0)))

/-- GATE_READ (R108): GATE 2 sets the phase READ. -/
def execGateRead (n : ActNo) (s : State) : Host.Outcome State Fault Refusal :=
  s.does (fun d => d.onAc n (fun a => a.micro (fun a => a.gateOp 2 0 0)))

/-- GATE_WRITE (R108): GATE 3 sets the phase WRITE. -/
def execGateWrite (n : ActNo) (s : State) : Host.Outcome State Fault Refusal :=
  s.does (fun d => d.onAc n (fun a => a.micro (fun a => a.gateOp 3 0 0)))

/-- WG_ARM (R109): GATE 4 arms the write gates of the heads in WGM. -/
def execWgArm (n : ActNo) (wgm : MaskNo) (s : State) : Host.Outcome State Fault Refusal :=
  s.does (fun d => d.onAc n (fun a => a.micro (fun a => a.gateOp 4 wgm 0)))

/-- WG_DROP (R220): GATE 5 drops the write gates of the heads in WGM with cause WG_DROP. -/
def execWgDrop (n : ActNo) (wgm : MaskNo) (s : State) : Host.Outcome State Fault Refusal :=
  s.does (fun d => d.onAc n (fun a => a.micro (fun a => a.gateOp 5 wgm 0)))

/-- RG_ARM (R118): GATE 6 arms the read gates of the heads in RGM. -/
def execRgArm (n : ActNo) (rgm : MaskNo) (s : State) : Host.Outcome State Fault Refusal :=
  s.does (fun d => d.onAc n (fun a => a.micro (fun a => a.gateOp 6 0 rgm)))

/-- RG_DROP (R118): GATE 7 drops the read gates of the heads in RGM. -/
def execRgDrop (n : ActNo) (rgm : MaskNo) (s : State) : Host.Outcome State Fault Refusal :=
  s.does (fun d => d.onAc n (fun a => a.micro (fun a => a.gateOp 7 0 rgm)))

/-- GATE_DROP_ALL (R146): GATE 8 drops every gate, holds WQ low and sets IDLE. -/
def execGateDropAll (n : ActNo) (s : State) : Host.Outcome State Fault Refusal :=
  s.does (fun d => d.onAc n (fun a => a.micro (fun a => a.gateOp 8 0 0)))

/-- ROW_OPEN (R105): ROW OPEN has the position unit grant the next window, or report ROWS_DONE, or lock an ending code. -/
def execRowOpen (n : ActNo) (s : State) : Host.Outcome State Fault Refusal :=
  s.does (fun d => d.onAc n Ac.doRowOpen)

/-- ROW_CLOSE (R107): ROW CLOSE has the position unit judge and record the window as written, abandoned or not written. -/
def execRowClose (n : ActNo) (s : State) : Host.Outcome State Fault Refusal :=
  s.does (fun d => d.onAc n Ac.doRowClose)

/-- XRDY_SEND (R96): LNK 1 sends XRDY with COUNT, stalling for track-buffer space. -/
def execXrdySend (n : ActNo) (sa : WorkReg) (s : State) : Host.Outcome State Fault Refusal :=
  s.does (fun d => d.onAc n (fun a => a.doXrdy sa))

/-- DATA_UP_SEND (R118): LNK 2 sends upstream DATA for a track-buffer sector, stalling for credit. -/
def execDataUpSend (n : ActNo) (sa : WorkReg) (s : State) : Host.Outcome State Fault Refusal :=
  s.does (fun d => d.onAc n (fun a => a.doDataUp sa))

/-- STAT_SEND (R113): LNK 3 sends STAT, ending the task and stopping execution. -/
def execStatSend (n : ActNo) (s : State) : Host.Outcome State Fault Refusal :=
  s.does (fun d => d.onAc n (fun a => a.micro Ac.statSend))

/-- PARITY_FORM (R45): XOR 1 forms the parity of the current row. -/
def execParityForm (n : ActNo) (s : State) : Host.Outcome State Fault Refusal :=
  s.does (fun d => d.onAc n Ac.doParityForm)

/-- TBUF_RELEASE (R118): XOR 2 releases the track-buffer space of the last row closed as written. -/
def execTbufRelease (n : ActNo) (s : State) : Host.Outcome State Fault Refusal :=
  s.does (fun d => d.onAc n (fun a => a.micro Ac.tbufRelease))

/-- CHN_ARM (R197): CHN 1 arms the read channels of eligible heads for the granted window. -/
def execChnArm (n : ActNo) (rgm : MaskNo) (s : State) : Host.Outcome State Fault Refusal :=
  s.does (fun d => d.onAc n (fun a => a.doChnArm rgm))

/-- CHN_COLLECT (R197): CHN 2 finalises the head row, places its sectors in the track buffer and frees its entry. -/
def execChnCollect (n : ActNo) (s : State) : Host.Outcome State Fault Refusal :=
  s.does (fun d => d.onAc n Ac.doChnCollect)

/-- CHN_REBUILD (R199): CHN 3 rebuilds the one missing slot of the head row from parity. -/
def execChnRebuild (n : ActNo) (s : State) : Host.Outcome State Fault Refusal :=
  s.does (fun d => d.onAc n (fun a => a.onRead Ac.chnRebuild))

/-- CHN_LADDER_STEP (R201): CHN 4 moves the head row to its lowest permitted ladder step. -/
def execChnLadderStep (n : ActNo) (s : State) : Host.Outcome State Fault Refusal :=
  s.does (fun d => d.onAc n (fun a => a.onRead Ac.chnLadder))

/-- SRV_SETPOINT (R238): SRV 1 queues the granted window's set-point record to the Armature. -/
def execSrvSetpoint (n : ActNo) (s : State) : Host.Outcome State Fault Refusal :=
  s.does (fun d => d.onAc n (fun a => a.micro Ac.srvSetpoint))

/-- SRV_SPLIT (R239): SRV 2 sets SPLIT centring and queues a recentre record. -/
def execSrvSplit (n : ActNo) (rgm : MaskNo) (s : State) : Host.Outcome State Fault Refusal :=
  s.does (fun d => d.onAc n (fun a => a.micro (fun a => a.srvSplit rgm)))

/-- SRV_RECENTRE (R239): SRV 3 sets NORMAL centring and queues a recentre record. -/
def execSrvRecentre (n : ActNo) (s : State) : Host.Outcome State Fault Refusal :=
  s.does (fun d => d.onAc n (fun a => a.micro Ac.srvNormal))

/-- WRP_CODES (R211): WRP 1 computes and queues CODES side frames and loads precompensation for heads in WGM. -/
def execWrpCodes (n : ActNo) (wgm : MaskNo) (s : State) : Host.Outcome State Fault Refusal :=
  s.does (fun d => d.onAc n (fun a => a.micro (fun a => a.wrpCodes wgm)))

/-- WRP_ASSIST_OFF (R213): WRP 2 commands assist off on every head. -/
def execWrpAssistOff (n : ActNo) (s : State) : Host.Outcome State Fault Refusal :=
  s.does (fun d => d.onAc n (fun a => a.micro Ac.wrpOff))

/-- TLN_WINDOW (R118): TLN 1 arms the timeline compare at the last granted window's start plus TOFS. -/
def execTlnWindow (n : ActNo) (tofs : Int) (s : State) : Host.Outcome State Fault Refusal :=
  s.does (fun d => d.onAc n (fun a => a.micro (fun a => a.tln 1 0 tofs)))

/-- TLN_WEDGE (R118): TLN 2 arms the compare at a wedge and offset. -/
def execTlnWedge (n : ActNo) (sa : WorkReg) (tofs : Int) (s : State) : Host.Outcome State Fault Refusal :=
  s.does (fun d => d.onAc n (fun a => a.micro (fun a => a.tln 2 sa tofs)))

/-- TLN_NOW (R118): TLN 3 arms the compare at the current timeline plus TOFS. -/
def execTlnNow (n : ActNo) (tofs : Int) (s : State) : Host.Outcome State Fault Refusal :=
  s.does (fun d => d.onAc n (fun a => a.micro (fun a => a.tln 3 0 tofs)))

/-- TLN_DISARM (R118): TLN 4 disarms the timeline compare. -/
def execTlnDisarm (n : ActNo) (s : State) : Host.Outcome State Fault Refusal :=
  s.does (fun d => d.onAc n (fun a => a.micro (fun a => a.tln 4 0 0)))

/-- ALU_ADD (R118): ALU 1 adds two work registers. -/
def execAluAdd (n : ActNo) (sa : WorkReg) (sb : WorkReg) (dst : WorkReg) (s : State) : Host.Outcome State Fault Refusal :=
  s.does (fun d => d.onAc n (fun a => a.micro (fun a => a.alu 1 sa sb dst 0)))

/-- ALU_SUB (R118): ALU 2 subtracts two work registers. -/
def execAluSub (n : ActNo) (sa : WorkReg) (sb : WorkReg) (dst : WorkReg) (s : State) : Host.Outcome State Fault Refusal :=
  s.does (fun d => d.onAc n (fun a => a.micro (fun a => a.alu 2 sa sb dst 0)))

/-- ALU_AND (R118): ALU 3 ands two work registers. -/
def execAluAnd (n : ActNo) (sa : WorkReg) (sb : WorkReg) (dst : WorkReg) (s : State) : Host.Outcome State Fault Refusal :=
  s.does (fun d => d.onAc n (fun a => a.micro (fun a => a.alu 3 sa sb dst 0)))

/-- ALU_OR (R118): ALU 4 ors two work registers. -/
def execAluOr (n : ActNo) (sa : WorkReg) (sb : WorkReg) (dst : WorkReg) (s : State) : Host.Outcome State Fault Refusal :=
  s.does (fun d => d.onAc n (fun a => a.micro (fun a => a.alu 4 sa sb dst 0)))

/-- ALU_XOR (R118): ALU 5 xors two work registers. -/
def execAluXor (n : ActNo) (sa : WorkReg) (sb : WorkReg) (dst : WorkReg) (s : State) : Host.Outcome State Fault Refusal :=
  s.does (fun d => d.onAc n (fun a => a.micro (fun a => a.alu 5 sa sb dst 0)))

/-- ALU_SHIFT_LEFT (R118): ALU 6 shifts a register left. -/
def execAluShiftLeft (n : ActNo) (sa : WorkReg) (sb : WorkReg) (dst : WorkReg) (s : State) : Host.Outcome State Fault Refusal :=
  s.does (fun d => d.onAc n (fun a => a.micro (fun a => a.alu 6 sa sb dst 0)))

/-- ALU_SHIFT_RIGHT (R118): ALU 7 shifts a register right. -/
def execAluShiftRight (n : ActNo) (sa : WorkReg) (sb : WorkReg) (dst : WorkReg) (s : State) : Host.Outcome State Fault Refusal
    :=
  s.does (fun d => d.onAc n (fun a => a.micro (fun a => a.alu 7 sa sb dst 0)))

/-- ALU_IMMEDIATE (R118): ALU 8 loads a zero-extended immediate. -/
def execAluImmediate (n : ActNo) (dst : WorkReg) (imm : Word) (s : State) : Host.Outcome State Fault Refusal :=
  s.does (fun d => d.onAc n (fun a => a.micro (fun a => a.alu 8 0 0 dst imm.toNat)))

/-- ALU_ADD_IMMEDIATE (R118): ALU 9 adds a sign-extended immediate. -/
def execAluAddImmediate (n : ActNo) (sa : WorkReg) (dst : WorkReg) (imm : Word) (s : State) : Host.Outcome State Fault Refusal
    :=
  s.does (fun d => d.onAc n (fun a => a.micro (fun a => a.alu 9 sa 0 dst imm.toNat)))

/-- ALU_TASK_FIELD (R118): ALU 10 extracts a field of a task word. -/
def execAluTaskField (n : ActNo) (dst : WorkReg) (imm : Word) (s : State) : Host.Outcome State Fault Refusal :=
  s.does (fun d => d.onAc n (fun a => a.micro (fun a => a.alu 10 0 0 dst imm.toNat)))

/-- ALU_NEXT_EXTENSION (R118): ALU 11 loads the next extension word. -/
def execAluNextExtension (n : ActNo) (dst : WorkReg) (s : State) : Host.Outcome State Fault Refusal :=
  s.does (fun d => d.onAc n (fun a => a.micro (fun a => a.alu 11 0 0 dst 0)))

/-- ALU_POSITION_VALUE (R118): ALU 12 loads a position-unit value. -/
def execAluPositionValue (n : ActNo) (dst : WorkReg) (imm : Word) (s : State) : Host.Outcome State Fault Refusal :=
  s.does (fun d => d.onAc n (fun a => a.micro (fun a => a.alu 12 0 0 dst imm.toNat)))

/-- ALU_COMPARE (R118): ALU 13 sets flags from A minus B. -/
def execAluCompare (n : ActNo) (sa : WorkReg) (sb : WorkReg) (s : State) : Host.Outcome State Fault Refusal :=
  s.does (fun d => d.onAc n (fun a => a.micro (fun a => a.alu 13 sa sb 0 0)))

/-- ALU_COMPARE_IMMEDIATE (R118): ALU 14 sets flags from A minus an immediate. -/
def execAluCompareImmediate (n : ActNo) (sa : WorkReg) (imm : Word) (s : State) : Host.Outcome State Fault Refusal :=
  s.does (fun d => d.onAc n (fun a => a.micro (fun a => a.alu 14 sa 0 0 imm.toNat)))

/-- CNT_LOAD_IMMEDIATE (R118): CNT 1 loads a loop counter from an immediate. -/
def execCntLoadImmediate (n : ActNo) (sel : LoopReg) (imm : Word) (s : State) : Host.Outcome State Fault Refusal :=
  s.does (fun d => d.onAc n (fun a => a.micro (fun a => a.cntOp 1 sel 0 imm.toNat)))

/-- CNT_DECREMENT (R118): CNT 2 decrements a loop counter, stopping at 0. -/
def execCntDecrement (n : ActNo) (sel : LoopReg) (s : State) : Host.Outcome State Fault Refusal :=
  s.does (fun d => d.onAc n (fun a => a.micro (fun a => a.cntOp 2 sel 0 0)))

/-- CNT_LOAD_REGISTER (R118): CNT 3 loads a loop counter from a work register. -/
def execCntLoadRegister (n : ActNo) (sel : LoopReg) (sa : WorkReg) (s : State) : Host.Outcome State Fault Refusal :=
  s.does (fun d => d.onAc n (fun a => a.micro (fun a => a.cntOp 3 sel sa 0)))

/-- SETCODE (R111): STA 1 sets the task's code when none is locked. -/
def execSetCode (n : ActNo) (code : Byte) (s : State) : Host.Outcome State Fault Refusal :=
  s.does (fun d => d.onAc n (fun a => a.doSetCode code.toNat))

/-- SET_REASON (R118): STA 2 sets REASON when no code is locked. -/
def execSetReason (n : ActNo) (reason : Byte) (s : State) : Host.Outcome State Fault Refusal :=
  s.does (fun d => d.onAc n (fun a => a.micro (fun a => a.setReason reason.toNat)))

/-- CALL (R119): A call pushes the return address and jumps, faulting STACK_OVER when full. -/
def execCall (n : ActNo) (addr : MicroAddr) (s : State) : Host.Outcome State Fault Refusal :=
  s.does (fun d => d.onAc n (fun a => a.call addr))

/-- RETURN (R119): A return pops the next address, faulting STACK_UNDER when empty and clearing FAULT_ACTIVE when it pops a
request entry. -/
def execRet (n : ActNo) (s : State) : Host.Outcome State Fault Refusal :=
  s.does (fun d => d.onAc n Ac.ret)

end Sys2Proof.Machine
end

