-- ==== Sys2Proof/Machine/PowerCmds.lean ====
section
/-! DEFINITION. Meanings: power domains, the Power Control Link, brown-out, resets and the boot ROM (R361, R381, R402 to R407,
R470 to R479, R509 to R513). -/

namespace Sys2Proof.Machine

/-- POWER_ON_RESET (R470): First power or PWR_OK low asserts power-on reset. -/
def execPowerOnReset (s : State) : Host.Outcome State Fault Refusal :=
  s.does (fun d => d.powerOnReset)

/-- PIN_RESET (R470): SYS_RST_N low, or a WAKE report, asserts pin reset. -/
def execPinReset (s : State) : Host.Outcome State Fault Refusal :=
  s.does (fun d => d.chipReset Fld.SYS_RST_CAUSE_PIN)

/-- RESET_RELEASE (R474): A chip reset is released and the Plinth switches on domains and starts core 0. -/
def execResetRelease (testMode : Bool) (s : State) : Host.Outcome State Fault Refusal :=
  s.does (fun d => d.resetRelease testMode)

/-- BOOT_ROM_START (R381): The boot ROM waits for Keep READY, redoes a pending erase, selects and checks a slot and streams it.
-/
def execBootRomStart (s : State) : Host.Outcome State Fault Refusal :=
  s.does (fun d => d.bootRom)

/-- BOOT_HANDOFF (R381): The boot ROM arms the watchdog and jumps to the image entry. -/
def execBootHandoff (s : State) : Host.Outcome State Fault Refusal :=
  s.does (fun d => d.handOff)

/-- RECOVERY_WRITE (R478): Vendor 0xC8 copies bytes into control SRAM in recovery. -/
def execRecoveryWrite (off : Nat) (bs : Bytes) (s : State) : Host.Outcome State Fault Refusal :=
  s.does (fun d => d.recoveryWrite off bs)

/-- RECOVERY_BOOT (R478): Vendor 0xC9 checks an image in control SRAM and boots it. -/
def execRecoveryBoot (s : State) : Host.Outcome State Fault Refusal :=
  s.does (fun d => d.recoveryBoot)

/-- PWR_REQUEST_WRITE (R404): A write of PWR_REQ sets the target domain set, refusing requests that break prerequisites. -/
def execPwrRequestWrite (c : CoreNo) (hi : Bool) (v : Word) (s : State) : Host.Outcome State Fault Refusal :=
  s.does (fun d => d.regWrite c (if hi then Reg.PWR_REQ_HI else Reg.PWR_REQ_LO) (fun d => d.onPlat (fun p => p.pwrRequest hi v)))

/-- DOMAIN_SWITCH_ON (R404): The Plinth completes switching one domain on and releases its reset. -/
def execDomainSwitchOn (k : DomainNo) (s : State) : Host.Outcome State Fault Refusal :=
  s.does (fun d => d.switchOn k)

/-- DOMAIN_SWITCH_OFF (R404): The Plinth completes switching one domain off after draining accesses. -/
def execDomainSwitchOff (k : DomainNo) (s : State) : Host.Outcome State Fault Refusal :=
  s.does (fun d => d.switchOff k)

/-- STANDBY_ENTER (R407): PWR_STBY.ENTER switches off every domain except management and optionally thermal. -/
def execStandbyEnter (c : CoreNo) (thmOn : Bool) (s : State) : Host.Outcome State Fault Refusal :=
  s.does (fun d => d.regWrite c Reg.PWR_STBY (fun d => d.stbyWrite (stbyWord thmOn)))

/-- PCL_REPORT_RECEIVE (R403): A REPORT frame gives rail voltages and currents and STATUS. -/
def execPclReportReceive (bs : Bytes) (framing : Bool) (s : State) : Host.Outcome State Fault Refusal :=
  s.does (fun d => d.pclReport bs framing)

/-- PCL_STATUS_RECEIVE (R510): A STATUS frame is applied within 2 µs: brown-out, PERST, WAKE and hold-up state. -/
def execPclStatusReceive (bs : Bytes) (framing : Bool) (s : State) : Host.Outcome State Fault Refusal :=
  s.does (fun d => d.pclStatus bs framing)

/-- PCL_REPORT_TIMEOUT (R403): No report for 1 ms sets PWR_STALE and clears PCL_UP, holding the last powers. -/
def execPclReportTimeout (s : State) : Host.Outcome State Fault Refusal :=
  s.does (fun d => d.onPlat Plat.pclStale)

/-- BROWNOUT_ASSERT (R361): Brown-out asserts: fetch and dispatch hold and Keep commands end BROWNOUT. -/
def execBrownoutAssert (s : State) : Host.Outcome State Fault Refusal :=
  s.does (fun d => d.detect true)

/-- BROWNOUT_CLEAR (R315): Brown-out clears with PWR_OK high and fetch and dispatch resume. -/
def execBrownoutClear (s : State) : Host.Outcome State Fault Refusal :=
  s.does (fun d => d.detect false)

/-- TRIP_FRAME_SEND (R512): A TRIP frame is sent on PCL_TX every 1 ms after a thermal trip. -/
def execTripFrameSend (s : State) : Host.Outcome State Fault Refusal :=
  s.does (fun d => { d with thm := d.thm.sendTrip })

end Sys2Proof.Machine
end

