-- ==== Sys2Proof/Machine/ReadCmds.lean ====
section
/-! DEFINITION. Meanings: the read front end and the detectors (R163 to R206). -/

namespace Sys2Proof.Machine

/-- READ_GATE_RISE (R173): A read gate rises RG_LEAD bits before the armed frame and acquisition begins. -/
def execReadGateRise (n : ActNo) (h : HeadNo) (s : State) : Host.Outcome State Fault Refusal :=
  s.does (fun d => d.onAc n (fun a => a.readRise h))

/-- READ_GATE_FALL (R180): A head's read gate falls after the frame's postamble, ending capture, or cutting framing to CUT if
this comes before the decision. -/
def execReadGateFall (n : ActNo) (h : HeadNo) (taps : Taps) (s : State) : Host.Outcome State Fault Refusal :=
  s.does (fun d => d.onAc n (fun a => a.readGateFall h taps))

/-- ACQUISITION_END (R173): After ACQ_LEN bits the loops switch to tracking gains and decision-directed phase detection. -/
def execAcquisitionEnd (n : ActNo) (h : HeadNo) (codes : Nats) (s : State) : Host.Outcome State Fault Refusal :=
  s.does (fun d => d.onAc n (fun a => a.acqEnd h codes))

/-- TA_ASSERT (R170): An input's asperity detector asserts after MIN clocks above THR and erasure marking begins. -/
def execTaAssert (n : ActNo) (i : InputNo) (s : State) : Host.Outcome State Fault Refusal :=
  s.does (fun d => d.onAc n (fun a => a.taAssert i))

/-- TA_RELEASE (R171): An asperity releases after 16 clocks at or below THR and its effects end 16 clocks later. -/
def execTaRelease (n : ActNo) (i : InputNo) (start : Nat) (len : Nat) (s : State) : Host.Outcome State Fault Refusal :=
  s.does (fun d => d.onAc n (fun a => a.taRelease i start len))

/-- TA_HOLD_LIMIT (R171): An asperity longer than HOLD_MAX marks the input erased for the rest of the sector and sets TA_LONG.
-/
def execTaHoldLimit (n : ActNo) (i : InputNo) (s : State) : Host.Outcome State Fault Refusal :=
  s.does (fun d => d.onAc n (fun a => a.taHold i))

/-- FRAMING_DECISION (R178): After the SM2 window the head frames the sector from the SM1 and SM2 searches and reports the code.
-/
def execFramingDecision (n : ActNo) (h : HeadNo) (ds1 : Nats) (ds2 : Nats) (s : State) : Host.Outcome State Fault Refusal :=
  s.does (fun d => d.onAc n (fun a => a.framingDecision h ds1 ds2))

/-- RFE_SPARE_WRITE (R168): A write of RFE_SPAREn switches an input to a spare slice or is refused as a conflict. -/
def execRfeSpareWrite (c : CoreNo) (n : ActNo) (k : PairNo) (v : Word) (s : State) : Host.Outcome State Fault Refusal :=
  s.does (fun d => d.regWrite c (Reg.RFE_SPARE n k) (fun d => d.onAc n (fun a => a.rfeSpareWrite k v)))

/-- SPARE_SETTLE_END (R169): 256 clocks after a spare switch the input's erased span ends. -/
def execSpareSettleEnd (n : ActNo) (s : State) : Host.Outcome State Fault Refusal :=
  s.does (fun d => d.onAc n Ac.spareSettled)

/-- AMPLITUDE_DROP (R189): A mean amplitude below the drop level for MIN bits begins an erasure pointer. -/
def execAmplitudeDrop (n : ActNo) (h : HeadNo) (start : Nat) (len : Nat) (s : State) : Host.Outcome State Fault Refusal :=
  s.does (fun d => d.onAc n (fun a => a.ampDrop h start len))

/-- DECODE_END (R191): A decode converges or runs out of global iterations and its sector result is set. -/
def execDecodeEnd (n : ActNo) (h : HeadNo) (hard : Bytes) (parity : Nat) (giter : Nat) (nflip : Nat) (slip : Int) (s : State) :
    Host.Outcome State Fault Refusal :=
  s.does (fun d => d.onAc n (fun a => a.decodeEnd h hard parity giter nflip slip))

/-- DET_SPARE_WRITE (R204): A write of DET_SPARE switches a head to engine 8, finalising its unfinished sectors. -/
def execDetSpareWrite (c : CoreNo) (n : ActNo) (v : Word) (s : State) : Host.Outcome State Fault Refusal :=
  s.does (fun d => d.regWrite c (Reg.DET_SPARE n) (fun d => d.onAc n (fun a => a.detSpareWrite v)))

/-- ADC_TRIM_STEP (R439): Every 1,024 clocks an ADC trim's APPLIED moves one code toward TARGET. -/
def execAdcTrimStep (n : ActNo) (i : SliceNo) (s : State) : Host.Outcome State Fault Refusal :=
  s.does (fun d => d.adcTrimStep n i)

end Sys2Proof.Machine
end

