-- ==== Sys2Proof/Machine/SecurityCmds.lean ====
section
/-! DEFINITION. Meanings: the key store and the random source (R418 to R430). -/

namespace Sys2Proof.Machine

/-- KEY_LOAD (R426): Key command LOAD loads a slot from the staging words. -/
def execKeyLoad (c : CoreNo) (k : SlotNo) (s : State) : Host.Outcome State Fault Refusal :=
  s.does (fun d => d.regWrite c Reg.SEC_KEY_CMD (fun d => d.onSec (fun p s => keyWrite p s 1 k)))

/-- KEY_GEN (R426): Key command GEN fills a slot from the random source. -/
def execKeyGen (c : CoreNo) (k : SlotNo) (s : State) : Host.Outcome State Fault Refusal :=
  s.does (fun d => d.regWrite c Reg.SEC_KEY_CMD (fun d => d.onSec (fun p s => keyWrite p s 2 k)))

/-- KEY_WRAP (R426): Key command WRAP wraps a slot's key under the device root key into staging. -/
def execKeyWrap (c : CoreNo) (k : SlotNo) (s : State) : Host.Outcome State Fault Refusal :=
  s.does (fun d => d.regWrite c Reg.SEC_KEY_CMD (fun d => d.onSec (fun p s => keyWrite p s 3 k)))

/-- KEY_UNWRAP (R426): Key command UNWRAP unwraps staging into a slot. -/
def execKeyUnwrap (c : CoreNo) (k : SlotNo) (s : State) : Host.Outcome State Fault Refusal :=
  s.does (fun d => d.regWrite c Reg.SEC_KEY_CMD (fun d => d.onSec (fun p s => keyWrite p s 4 k)))

/-- KEY_ERASE (R426): Key command ERASE zeroes a slot and makes it EMPTY. -/
def execKeyErase (c : CoreNo) (k : SlotNo) (s : State) : Host.Outcome State Fault Refusal :=
  s.does (fun d => d.regWrite c Reg.SEC_KEY_CMD (fun d => d.onSec (fun p s => keyWrite p s 5 k)))

/-- KEY_COMMAND_RUN (R427): A waiting key command runs once every transfer using its slot has ended. -/
def execKeyCommandRun (s : State) : Host.Outcome State Fault Refusal :=
  s.does (fun d => d.onSec Machine.keyCommandRun)

/-- KAT_END (R430): The known-answer tests at crypto switch-on end, setting READY or KAT_FAIL. -/
def execKatEnd (failed : Bool) (s : State) : Host.Outcome State Fault Refusal :=
  s.does (fun d => d.onPlat (fun p => Machine.katEnd p d.sec failed))

/-- RNG_HEALTH_FAIL (R429): A random-source health test fails and GEN is refused until power-cycle. -/
def execRngHealthFail (s : State) : Host.Outcome State Fault Refusal :=
  s.does (fun d => d.onSec Machine.rngHealthFail)

/-- RNG_READ (R429): A read of SEC_RNG consumes 32 random bits. -/
def execRngRead (c : CoreNo) (s : State) : Host.Outcome State Fault Refusal :=
  s.does (fun d => d.regRead c Reg.SEC_RNG (fun d => d.onPlat (fun p => Machine.rngRead p d.sec)))

end Sys2Proof.Machine
end

