-- ==== Sys2Proof/Machine/ServoCmds.lean ====
section
/-! DEFINITION. Meanings: the Armature, its links and the spindle controller (R232 to R263). -/

namespace Sys2Proof.Machine

/-- SERVO_FIELD_DEMOD (R233): A head's servo field is demodulated into a found or missing position record sent to the Armature.
-/
def execServoFieldDemod (n : ActNo) (h : HeadNo) (wid : Nat) (diff : Nat) (place : Int) (gray : Nat) (ta1 : Int) (tb1 : Int)
    (ta2 : Int) (tb2 : Int) (s : State) : Host.Outcome State Fault Refusal :=
  s.does (fun d => d.onAc n (fun a => a.demod h wid diff place gray ta1 tb1 ta2 tb2))

/-- FF_RECORD_QUEUE (R238): During each data span the Track Sequencer queues the next wedge's feed-forward record. -/
def execFfRecordQueue (n : ActNo) (s : State) : Host.Outcome State Fault Refusal :=
  s.does (fun d => d.onAc n Ac.ffQueue)

/-- WEDGE_EVALUATION (R235): At each wedge reference the Armature takes records, runs the inner loop and forms the inhibit
vector and status. -/
def execWedgeEvaluation (n : ActNo) (w : WedgeNo) (period : Nat) (s : State) : Host.Outcome State Fault Refusal :=
  s.does (fun d => d.onAc n (fun a => a.wedgeEval w period))

/-- SHOCK_HOLD_END (R253): The shock hold ends after HOLD further wedges. -/
def execShockHoldEnd (n : ActNo) (s : State) : Host.Outcome State Fault Refusal :=
  s.does (fun d => d.onAc n Ac.shockHoldEnd)

/-- SAT_TIMEOUT (R252): A saturation count exceeding its limit raises SAT_TIMEOUT, dropping every write gate. -/
def execSatTimeout (n : ActNo) (s : State) : Host.Outcome State Fault Refusal :=
  s.does (fun d => d.onAc n Ac.satTimeout)

/-- HEAD_LOST (R254): A head missing HEAD_MAX successive wedges in FOLLOW is lost and its effective state faulted. -/
def execHeadLost (n : ActNo) (h : HeadNo) (s : State) : Host.Outcome State Fault Refusal :=
  s.does (fun d => d.onAc n (fun a => a.headLost h))

/-- SERVO_LOST (R254): No active field found for ALL_MAX wedges puts the Armature in LOST and faults the actuator. -/
def execServoLost (n : ActNo) (s : State) : Host.Outcome State Fault Refusal :=
  s.does (fun d => d.onAc n Ac.servoLost)

/-- LOAD_ACQUIRED (R243): An active head's field found in 8 successive wedges moves LOAD to SETTLE. -/
def execLoadAcquired (n : ActNo) (s : State) : Host.Outcome State Fault Refusal :=
  s.does (fun d => d.onAc n Ac.loadAcquired)

/-- LOAD_TIMEOUT (R243): LOAD lasting TMO wedges moves the Armature to LOST. -/
def execLoadTimeout (n : ActNo) (s : State) : Host.Outcome State Fault Refusal :=
  s.does (fun d => d.onAc n Ac.loadTimeout)

/-- SETTLE_COMPLETE (R243): SETTLE_N successive on-track wedges move SETTLE to FOLLOW. -/
def execSettleComplete (n : ActNo) (s : State) : Host.Outcome State Fault Refusal :=
  s.does (fun d => d.onAc n Ac.settleComplete)

/-- ARM_CMD_OFF (R244): CMD OFF puts the Armature in OFF from the next wedge. -/
def execArmCmdOff (c : CoreNo) (n : ActNo) (s : State) : Host.Outcome State Fault Refusal :=
  s.does (fun d => d.regWrite c (Reg.ARM_CTRL n) (fun d => d.onAc n (fun a => a.armCmdWrite 1)))

/-- ARM_CMD_LOAD (R244): CMD LOAD starts head loading from OFF, LOST or RETRACT. -/
def execArmCmdLoad (c : CoreNo) (n : ActNo) (s : State) : Host.Outcome State Fault Refusal :=
  s.does (fun d => d.regWrite c (Reg.ARM_CTRL n) (fun d => d.onAc n (fun a => a.armCmdWrite 2)))

/-- ARM_CMD_RETRACT (R244): CMD RETRACT puts the Armature in RETRACT. -/
def execArmCmdRetract (c : CoreNo) (n : ActNo) (s : State) : Host.Outcome State Fault Refusal :=
  s.does (fun d => d.regWrite c (Reg.ARM_CTRL n) (fun d => d.onAc n (fun a => a.armCmdWrite 3)))

/-- ARM_CMD_DIRECT (R244): CMD DIRECT enters DIRECT from OFF in a non-service state or is refused. -/
def execArmCmdDirect (c : CoreNo) (n : ActNo) (s : State) : Host.Outcome State Fault Refusal :=
  s.does (fun d => d.regWrite c (Reg.ARM_CTRL n) (fun d => d.onAc n (fun a => a.armCmdWrite 4)))

/-- SDL_FRAME_SEND (R236): The Servo Drive Link frame of a wedge, or of the timer, is sent to the power driver. -/
def execSdlFrameSend (n : ActNo) (late : Bool) (s : State) : Host.Outcome State Fault Refusal :=
  s.does (fun d => d.onAc n (fun a => a.sdlSend late))

/-- SDL_STATUS_RECEIVE (R257): The driver's status word is received, kept or discarded as bad. -/
def execSdlStatusReceive (n : ActNo) (w : Word) (s : State) : Host.Outcome State Fault Refusal :=
  s.does (fun d => d.onAc n (fun a => a.sdlStatus w))

/-- SPL_FRAME_SEND (R260): A Spindle Link frame is sent, with DEMAND from the speed loop in RUN. -/
def execSplFrameSend (per : Nat) (s : State) : Host.Outcome State Fault Refusal :=
  s.does (fun d => d.onSpl (fun p x => splSend p x per))

/-- SPL_STATUS_RECEIVE (R260): The spindle driver's status word is received and SPEED updated. -/
def execSplStatusReceive (w : Word) (s : State) : Host.Outcome State Fault Refusal :=
  s.does (fun d => d.onPlat (fun p => splStatus p w))

/-- SPL_MODE_WRITE (R260): A write of SPL_CTRL.MODE changes the spindle mode and clears the integrator. -/
def execSplModeWrite (c : CoreNo) (v : Word) (s : State) : Host.Outcome State Fault Refusal :=
  s.does (fun d => d.regWrite c Reg.SPL_CTRL (fun d => d.onSpl (fun p x => splCtrlWrite p x v)))

/-- TIMELINE_LOCK (R259): The actuator's channel-bit timeline gains or loses lock to the wedge rate, which switches SDL framing
between each Tc and the timer. -/
def execTimelineLock (n : ActNo) (locked : Bool) (s : State) : Host.Outcome State Fault Refusal :=
  s.does (fun d => d.onAc n (fun a => a.timelineLock locked))

end Sys2Proof.Machine
end

