-- ==== Sys2Proof/Machine/SystemCmds.lean ====
section
/-! DEFINITION. Meanings: the SYS block and the register bus (R382 to R399, R514). -/

namespace Sys2Proof.Machine

/-- CORE_START (R382): A write of SYS_CORE_START starts core 1 to 3 or is refused. -/
def execCoreStart (c : CoreNo) (k : CoreNo) (addr : Nat) (s : State) : Host.Outcome State Fault Refusal :=
  s.does (fun d => d.regWrite c Reg.SYS_CORE_START (fun d => d.onSys (fun p y => Machine.coreStart p y k addr)))

/-- HUB_CLAIM (R384): A read of HUB_CLAIMc returns and places in service the best qualifying source. -/
def execHubClaim (c : CoreNo) (k : CoreNo) (s : State) : Host.Outcome State Fault Refusal :=
  s.does (fun d => d.regRead c (Reg.HUB_CLAIM k) (fun d => d.onSys (fun p y => Machine.hubClaim p y k)))

/-- HUB_COMPLETE (R384): A write of HUB_COMPLETEc ends a source's service. -/
def execHubComplete (c : CoreNo) (k : CoreNo) (i : SourceNo) (s : State) : Host.Outcome State Fault Refusal :=
  s.does (fun d => d.regWrite c (Reg.HUB_COMPLETE k) (fun d => d.onPlat (fun p => Machine.hubComplete p d.sys k i)))

/-- HUB_SRC_WRITE (R385): A write of HUB_SRCi changes a source's enable, priority and target. -/
def execHubSrcWrite (c : CoreNo) (i : SourceNo) (v : Word) (s : State) : Host.Outcome State Fault Refusal :=
  s.does (fun d => d.regWrite c (Reg.HUB_SRC i) (fun d => d.fw (Reg.HUB_SRC i) v))

/-- SWI_SET (R386): A write of HUB_SWI_SET sets software interrupt bits. -/
def execSwiSet (c : CoreNo) (v : Word) (s : State) : Host.Outcome State Fault Refusal :=
  s.does (fun d => d.regWrite c Reg.HUB_SWI_SET (fun d => d.onPlat (fun p => p.swi true v)))

/-- SWI_CLEAR (R386): A write of HUB_SWI_CLR clears software interrupt bits. -/
def execSwiClear (c : CoreNo) (v : Word) (s : State) : Host.Outcome State Fault Refusal :=
  s.does (fun d => d.regWrite c Reg.HUB_SWI_CLR (fun d => d.onPlat (fun p => p.swi false v)))

/-- MACHINE_TIMER (R387): The time base reaches a core's compare value and its timer interrupt becomes pending. -/
def execMachineTimer (k : CoreNo) (s : State) : Host.Outcome State Fault Refusal :=
  s.does (fun d => d.onSys (fun p y => (p, timerLevel p y k)))

/-- ACCESS_TIMEOUT (R393): An access not complete 16 µs after leaving the L2 bridge completes with a TIMEOUT bus error. -/
def execAccessTimeout (c : CoreNo) (store : Bool) (a : Nat) (n : Nat) (v : Nat) (s : State) : Host.Outcome State Fault Refusal
    :=
  s.does (fun d => (if store then d.storeTimeout c a n v else d.loadTimeout c a))

/-- REGISTER_WRITE (R389): A write to a register with no row of its own takes effect in its domain or completes with a bus
error. -/
def execRegisterWrite (c : CoreNo) (a : Nat) (n : Nat) (v : Nat) (s : State) : Host.Outcome State Fault Refusal :=
  s.does (fun d => d.storeWrite c a n v)

/-- COUNTER_SAT_CLEAR (R394): A write of 1 to a counter's SAT clears SAT and the count. -/
def execCounterSatClear (c : CoreNo) (a : Nat) (s : State) : Host.Outcome State Fault Refusal :=
  s.does (fun d => d.regWrite c a (fun d => d.counterClear c a))

/-- COUNTER_LO_READ (R395): A read of a counter's _LO captures its high bits and SAT for the next _HI read. -/
def execCounterLoRead (c : CoreNo) (a : Nat) (s : State) : Host.Outcome State Fault Refusal :=
  s.does (fun d => d.onPlat (fun p => p.busRead c a))

/-- SNAPSHOT_GO (R397): A write of TRC_SNAP.GO fixes the snapshot instant S. -/
def execSnapshotGo (c : CoreNo) (hold : Bool) (s : State) : Host.Outcome State Fault Refusal :=
  s.does (fun d => d.regWrite c Reg.TRC_SNAP (fun d => d.onPlat (fun p => p.snapGo hold)))

/-- SNAPSHOT_CAPTURE (R397): At instant S every powered domain copies its counters into holding registers and DONE sets. -/
def execSnapshotCapture (s : State) : Host.Outcome State Fault Refusal :=
  s.does (fun d => d.onPlat Plat.snapCapture)

/-- WATCHDOG_KICK (R398): A write of SYS_WDT_KICK with the key restarts stage 1, otherwise sets BADKEY. -/
def execWatchdogKick (c : CoreNo) (key : HalfWord) (s : State) : Host.Outcome State Fault Refusal :=
  s.does (fun d => d.regWrite c Reg.SYS_WDT_KICK (fun d => d.onSys (fun p y => wdtKick p y key)))

/-- WDT_WARN (R398): Stage 1 expires, setting WARN, posting a Frieze event and starting stage 2. -/
def execWdtWarn (s : State) : Host.Outcome State Fault Refusal :=
  s.does (fun d => d.onSys Machine.wdtWarn)

/-- WATCHDOG_RESET (R398): Stage 2 expires and a watchdog reset occurs. -/
def execWatchdogReset (s : State) : Host.Outcome State Fault Refusal :=
  s.does (fun d => d.watchdogReset)

/-- WDT_CTRL_WRITE (R399): A write of SYS_WDT_CTRL enables, stops, reconfigures or locks the watchdog. -/
def execWdtCtrlWrite (c : CoreNo) (v : Word) (s : State) : Host.Outcome State Fault Refusal :=
  s.does (fun d => d.regWrite c Reg.SYS_WDT_CTRL (fun d => d.onSys (fun p y => wdtCtrl p y v)))

/-- CONSOLE_WRITE (R514): A write of SYS_CON_TX queues a character or is dropped when full. -/
def execConsoleWrite (c : CoreNo) (ch : Byte) (s : State) : Host.Outcome State Fault Refusal :=
  s.does (fun d => d.regWrite c Reg.SYS_CON_TX (fun d => d.onSys (fun p y => conWrite p y ch)))

/-- CONSOLE_CHAR_SEND (R514): The next queued console character is sent on CON_TX. -/
def execConsoleCharSend (s : State) : Host.Outcome State Fault Refusal :=
  s.does (fun d => d.onSys conSend)

end Sys2Proof.Machine
end

