-- ==== Sys2Proof/Machine/TagCmds.lean ====
section
/-! DEFINITION. Meanings: the command engine: operations on tags, transfers, descriptors, tasks at the dispatcher and the Buffer
Hub (R93 to R98, R290 to R309). -/

namespace Sys2Proof.Machine

/-- ADMIT (R291): CMD_OP ADMIT moves a tag from FETCHED to ADMITTED. -/
def execAdmit (c : CoreNo) (t : TagNo) (expect : StateNo) (s : State) : Host.Outcome State Fault Refusal :=
  s.does (fun d => d.regWrite c Reg.CMD_OP (fun d => d.tagOp 1 t expect))

/-- XFER_IN (R291): CMD_OP XFER_IN starts moving a write's data through the crypto engine to the buffer, or writes zero sectors.
-/
def execXferIn (c : CoreNo) (t : TagNo) (expect : StateNo) (s : State) : Host.Outcome State Fault Refusal :=
  s.does (fun d => d.regWrite c Reg.CMD_OP (fun d => d.tagOp 2 t expect))

/-- XFER_IN_COMPLETE (R291): The host data move ends, setting DIN and queueing DATA_IN, or queueing XFER_ERR on an error. -/
def execXferInComplete (t : TagNo) (data : Bytes) (err : Bool) (s : State) : Host.Outcome State Fault Refusal :=
  s.does (fun d => d.onFe (fun e => e.endIn t data err))

/-- ACK (R291): CMD_OP ACK posts a write's completion and moves the tag to DESTAGING. -/
def execAck (c : CoreNo) (t : TagNo) (expect : StateNo) (s : State) : Host.Outcome State Fault Refusal :=
  s.does (fun d => d.regWrite c Reg.CMD_OP (fun d => d.tagOp 3 t expect))

/-- POST (R291): CMD_OP POST moves XLEN bytes out if XOUT is 1 and then posts the completion and frees the tag. -/
def execPost (c : CoreNo) (t : TagNo) (expect : StateNo) (s : State) : Host.Outcome State Fault Refusal :=
  s.does (fun d => d.regWrite c Reg.CMD_OP (fun d => d.tagOp 4 t expect))

/-- POST_TRANSFER_COMPLETE (R291): The XOUT data move of a POST ends and the completion is posted and the tag freed. -/
def execPostTransferComplete (t : TagNo) (err : Bool) (s : State) : Host.Outcome State Fault Refusal :=
  s.does (fun d => d.onFe (fun e => e.endOut t err))

/-- ABORT_OP (R303): CMD_OP ABORT marks the carrier's descriptors to close unsent and sends ABRT for sent tasks. -/
def execAbortOp (c : CoreNo) (t : TagNo) (expect : StateNo) (s : State) : Host.Outcome State Fault Refusal :=
  s.does (fun d => d.regWrite c Reg.CMD_OP (fun d => d.tagOp 5 t expect))

/-- RELEASE (R307): CMD_OP RELEASE frees a tag without posting. -/
def execRelease (c : CoreNo) (t : TagNo) (expect : StateNo) (s : State) : Host.Outcome State Fault Refusal :=
  s.does (fun d => d.regWrite c Reg.CMD_OP (fun d => d.tagOp 6 t expect))

/-- CMD_EVQ_READ (R292): A read of CMD_EVQ removes and returns the oldest queued event. -/
def execCmdEvqRead (c : CoreNo) (s : State) : Host.Outcome State Fault Refusal :=
  s.does (fun d => d.regRead c Reg.CMD_EVQ (fun d => d.onCmd evqRead))

/-- FETCH_HOLD_WRITE (R309): A write of CMD_CTRL.FETCH_HOLD stops or restarts tags entering FETCHED. -/
def execFetchHoldWrite (c : CoreNo) (v : Word) (s : State) : Host.Outcome State Fault Refusal :=
  s.does (fun d => d.regWrite c Reg.CMD_CTRL (fun d => d.onPlat (fun p => Machine.fetchHoldWrite p v)))

/-- DQ_TAIL_WRITE (R295): A write of CMD_DQn_TAIL posts descriptors, which are checked in ring order and bound to their tags. -/
def execDqTailWrite (c : CoreNo) (n : ActNo) (v : Word) (s : State) : Host.Outcome State Fault Refusal :=
  s.does (fun d => d.regWrite c (Reg.CMD_DQ_TAIL n) (fun d => d.tailWrite n v))

/-- TASK_SEND (R296): When a task credit is held and the throttle allows, the dispatcher sends the next descriptor's TASK and
moves ADMITTED tags to DISPATCHED. -/
def execTaskSend (n : ActNo) (s : State) : Host.Outcome State Fault Refusal :=
  s.does (fun d => d.taskSend n)

/-- DESCRIPTOR_CLOSE_UNSENT (R303): An aborted descriptor not yet sent is closed in ring order as though an ABORTED STAT had
arrived. -/
def execDescriptorCloseUnsent (n : ActNo) (s : State) : Host.Outcome State Fault Refusal :=
  s.does (fun d => d.onFe (fun e => e.closeUnsent n))

/-- STAT_RECEIVE (R297): A STAT arrives at the dispatcher, is written, merged into bound tags, and moves finished tags to DONE.
-/
def execStatReceive (n : ActNo) (f : LinkFault) (s : State) : Host.Outcome State Fault Refusal :=
  s.does (fun d => d.onLink n (fun e l => Machine.statReceive e l n f))

/-- LINK_RESET (R297): LNK_CTRL.RESET empties the link, restores credits, faults the task in the registers and closes
outstanding tasks with ACT_RESET. -/
def execLinkReset (c : CoreNo) (n : ActNo) (enable : Bool) (s : State) : Host.Outcome State Fault Refusal :=
  s.does (fun d => d.regWrite c (Reg.LNK_CTRL n) (fun d => (d.onPlat (fun p => p.putBit (Reg.LNK_CTRL n) Fld.LNK_CTRL_ENABLE enable)).linkReset n))

/-- XRDY_RECEIVE (R96): An XRDY adds COUNT downstream data credits for its task at the Buffer Hub. -/
def execXrdyReceive (n : ActNo) (f : LinkFault) (s : State) : Host.Outcome State Fault Refusal :=
  s.does (fun d => d.onLink n (fun e l => ({ e with c := (Machine.xrdyReceive e.p e.c l n f).1 }, (Machine.xrdyReceive e.p e.c l n f).2)))

/-- DATA_DOWN_SEND (R96): While it holds credit, the Buffer Hub sends the next downstream DATA of a task. -/
def execDataDownSend (n : ActNo) (s : State) : Host.Outcome State Fault Refusal :=
  s.does (fun d => d.onLink n (fun e l => ({ e with p := (Machine.dataDownSend e.p e.b l n).1, b := (Machine.dataDownSend e.p e.b l n).2.1 }, (Machine.dataDownSend e.p e.b l n).2.2)))

/-- DATA_UP_RECEIVE (R93): An upstream DATA arrives and the Buffer Hub places the sector by SIDX and returns a credit. -/
def execDataUpReceive (n : ActNo) (f : LinkFault) (s : State) : Host.Outcome State Fault Refusal :=
  s.does (fun d => d.onLink n (fun e l => ({ e with p := (Machine.dataUpReceive e.p e.b e.c l n f).1, b := (Machine.dataUpReceive e.p e.b e.c l n f).2.1, c := (Machine.dataUpReceive e.p e.b e.c l n f).2.2.1 }, (Machine.dataUpReceive e.p e.b e.c l n f).2.2.2)))

end Sys2Proof.Machine
end

