-- ==== Sys2Proof/Machine/TaskCmds.lean ====
section
/-! DEFINITION. Meanings: a Track Sequencer's tasks and packets (R95 to R104, R111, R112, R122, R123). -/

namespace Sys2Proof.Machine

/-- TASK_PACKET_RECEIVE (R95): A TASK packet arrives at the Track Sequencer's task queue. -/
def execTaskPacketReceive (n : ActNo) (f : LinkFault) (s : State) : Host.Outcome State Fault Refusal :=
  s.does (fun d => d.onAc n (fun a => a.taskArrives f))

/-- TASK_ENTER (R101): When no task is held, RUN is 1 and HALTED is 0, a queued task moves into the task registers. -/
def execTaskEnter (n : ActNo) (s : State) : Host.Outcome State Fault Refusal :=
  s.does (fun d => d.onAc n Ac.taskEnter)

/-- DATA_DOWN_RECEIVE (R97): A downstream DATA packet arrives and is placed in the track buffer or maquette store, or discarded.
-/
def execDataDownReceive (n : ActNo) (f : LinkFault) (s : State) : Host.Outcome State Fault Refusal :=
  s.does (fun d => d.onAc n (fun a => a.dataArrives f))

/-- ABRT_RECEIVE (R98): An ABRT removes a queued task, locks ABORTED on a task before its point of no return, or only flags a
late abort. -/
def execAbrtReceive (n : ActNo) (f : LinkFault) (s : State) : Host.Outcome State Fault Refusal :=
  s.does (fun d => d.onAc n (fun a => a.abrtArrives f))

/-- WAIT_TIMEOUT (R122): A wait lasting longer than TSQ_WAIT_LIMIT is a fault. -/
def execWaitTimeout (n : ActNo) (s : State) : Host.Outcome State Fault Refusal :=
  s.does (fun d => d.onAc n Ac.waitTimeout)

/-- SAFE_GAP (R123): 64 words executed without a safe point is a fault. -/
def execSafeGap (n : ActNo) (s : State) : Host.Outcome State Fault Refusal :=
  s.does (fun d => d.onAc n Ac.safeGap)

/-- END_TIMEOUT (R112): Microcode not sending STAT within TSQ_END_LIMIT after a lock takes the fault path. -/
def execEndTimeout (n : ActNo) (s : State) : Host.Outcome State Fault Refusal :=
  s.does (fun d => d.onAc n Ac.endTimeout)

/-- MQ_STORE_PARITY_ERROR (R84): A parity error in a slot in use ends the task MAQUETTE_BAD PARITY, empties the slot and logs a
Frieze event. -/
def execMqStoreParityError (n : ActNo) (s : State) : Host.Outcome State Fault Refusal :=
  s.does (fun d => d.onAc n Ac.storeParity)

/-- TIMELINE_HIT (R121): The timeline reaches the armed compare point and TL_HIT sets. -/
def execTimelineHit (n : ActNo) (s : State) : Host.Outcome State Fault Refusal :=
  s.does (fun d => d.onAc n (fun a => a.micro Ac.timelineHit))

/-- PARITY_READY (R121): Formation of the current row's parity by XOR 1 ends and PAR_READY sets. -/
def execParityReady (n : ActNo) (s : State) : Host.Outcome State Fault Refusal :=
  s.does (fun d => d.onAc n Ac.parityReady)

/-- REBUILD_END (R199): A parity rebuild ends 544 clocks after CHN 3, the slot becomes REBUILT and ROW_READ_DONE can set. -/
def execRebuildEnd (n : ActNo) (s : State) : Host.Outcome State Fault Refusal :=
  s.does (fun d => d.onAc n Ac.rebuildEnd)

/-- TSQ_RUN_WRITE (R124): A write of TSQ_CTRL.RUN enables tasks, and a change from 1 to 0 with a task held posts STOP. -/
def execTsqRunWrite (c : CoreNo) (t : SeqNo) (run : Bool) (s : State) : Host.Outcome State Fault Refusal :=
  s.does (fun d => d.regWrite c (Reg.TSQ_CTRL t) (fun d => d.onPlat (fun p => runWrite p t (d.hostOf t) run)))

/-- TSQ_RESUME (R125): TSQ_CTRL.RESUME clears HALTED and TSQ_FAULT so tasks may enter again. -/
def execTsqResume (c : CoreNo) (t : SeqNo) (s : State) : Host.Outcome State Fault Refusal :=
  s.does (fun d => d.regWrite c (Reg.TSQ_CTRL t) (fun d => d.onPlat (fun p => Machine.tsqResume p t)))

/-- CS_CHECK (R127): TSQ_CTRL.CS_CHECK starts the control-store CRC computation. -/
def execCsCheck (c : CoreNo) (t : SeqNo) (s : State) : Host.Outcome State Fault Refusal :=
  s.does (fun d => d.regWrite c (Reg.TSQ_CTRL t) (fun d => d.onPlat (fun p => Machine.csCheck p t)))

/-- CS_CHECK_END (R127): The control-store CRC ends, filling TSQ_CS_CRC and setting CS_VALID. -/
def execCsCheckEnd (t : SeqNo) (s : State) : Host.Outcome State Fault Refusal :=
  s.does (fun d => d.onPlat (fun p => Machine.csCheckEnd p (d.tsq t) t))

/-- CONTROL_STORE_WRITE (R126): A write to the control store stores 32 bits with parity, or is a bus error while running or
busy. -/
def execControlStoreWrite (c : CoreNo) (t : SeqNo) (i : CsWordNo) (v : Word) (s : State) : Host.Outcome State Fault Refusal :=
  s.does (fun d => d.regWrite c (csAddr t (4 * i)) (fun d => d.csWriteAt t c (4 * i) v))

/-- TSQ_ATTACH (R128): A write of ATTACH and HOST attaches or detaches the spare Track Sequencer or is refused. -/
def execTsqAttach (c : CoreNo) (attach : Bool) (host : ActNo) (s : State) : Host.Outcome State Fault Refusal :=
  s.does (fun d => d.regWrite c (Reg.TSQ_CTRL 4) (fun d => d.attach attach host))

/-- TSQ_ENV_WRITE (R86): A write of TSQ_ENV.TEMP sets the temperature and resets AGE to 0. -/
def execTsqEnvWrite (c : CoreNo) (t : SeqNo) (v : Word) (s : State) : Host.Outcome State Fault Refusal :=
  s.does (fun d => d.regWrite c (Reg.TSQ_ENV t) (fun d => d.envWriteAt t v))

end Sys2Proof.Machine
end

