-- ==== Sys2Proof/Machine/TestCmds.lean ====
section
/-! DEFINITION. Meanings: self-test and calibration (R431 to R439). -/

namespace Sys2Proof.Machine

/-- MEMORY_TEST_GO (R431): BCL_MB_CTRL.GO starts a memory self-test or ends PRECOND. -/
def execMemoryTestGo (c : CoreNo) (s : State) : Host.Outcome State Fault Refusal :=
  s.does (fun d => d.regWrite c Reg.BCL_MB_CTRL (fun d => d.onBcl (fun p b => mbGo p b d.buf)))

/-- MEMORY_TEST_END (R433): A memory self-test ends after restore with PASS, FAIL or ABORTED. -/
def execMemoryTestEnd (bad : Nats) (bit : Nat) (s : State) : Host.Outcome State Fault Refusal :=
  s.does (fun d => d.memoryTestEnd bad bit)

/-- LOOPBACK_GO (R435): BCL_LB_CTRL.GO starts a loop-back test or is refused. -/
def execLoopbackGo (c : CoreNo) (v : Word) (s : State) : Host.Outcome State Fault Refusal :=
  s.does (fun d => d.regWrite c Reg.BCL_LB_CTRL (fun d => d.lbCtrlWrite (v ||| Fld.mask Fld.BCL_LB_CTRL_GO)))

/-- LOOPBACK_END (R436): The loop-back measurement ends with per-slice OFFSET, AMPL, ERR and LOCK. -/
def execLoopbackEnd (xs : Slices) (s : State) : Host.Outcome State Fault Refusal :=
  s.does (fun d => d.loopbackEnd xs)

/-- REF_CHECK_GO (R437): BCL_REF_CTRL.GO starts the bandgap and reference check. -/
def execRefCheckGo (c : CoreNo) (v : Word) (s : State) : Host.Outcome State Fault Refusal :=
  s.does (fun d => d.regWrite c Reg.BCL_REF_CTRL (fun d => d.refCtrlWrite (v ||| Fld.mask Fld.BCL_REF_CTRL_GO)))

/-- REF_CHECK_END (R437): The reference check ends, setting failure flags if out of tolerance. -/
def execRefCheckEnd (diff : Int) (dev : Ints) (s : State) : Host.Outcome State Fault Refusal :=
  s.does (fun d => d.onPlat (fun p => refEnd p diff dev))

end Sys2Proof.Machine
end

