-- ==== Sys2Proof/Machine/ThermalCmds.lean ====
section
/-! DEFINITION. Meanings: thermal supervision (R408 to R417). -/

namespace Sys2Proof.Machine

/-- SENSOR_SAMPLE (R409): A sensor is sampled, its rate and demand computed and the throttle updated. -/
def execSensorSample (i : SensorNo) (raw : Int) (fault : Bool) (s : State) : Host.Outcome State Fault Refusal :=
  s.does (fun d => d.onThm (fun p h => Machine.sensorSample p h i raw fault))

/-- REF_TRIM_APPLY (R417): A reference trim code is applied at the first clock with no read gate up and no SERVO phase. -/
def execRefTrimApply (n : ActNo) (s : State) : Host.Outcome State Fault Refusal :=
  s.does (fun d => d.applyRef n)

/-- MODEL_UPDATE (R411): Every 100 µs the thermal model filters rail powers and updates node estimates. -/
def execModelUpdate (s : State) : Host.Outcome State Fault Refusal :=
  s.does (fun d => d.onThm Machine.modelUpdate)

/-- THROTTLE_DWELL_STEP (R413): After each DWELL the throttle level falls by one toward its demand. -/
def execThrottleDwellStep (s : State) : Host.Outcome State Fault Refusal :=
  s.does (fun d => d.onThm dwellStep)

/-- THROTTLE_HOLD_END (R413): The 1 s hold after the hottest sensor fails ends. -/
def execThrottleHoldEnd (s : State) : Host.Outcome State Fault Refusal :=
  s.does (fun d => d.onPlat (fun p => holdEnd p d.thm))

/-- POWER_CAP_TICK (R414): At the end of each millisecond the power demand rises or falls against CAP. -/
def execPowerCapTick (s : State) : Host.Outcome State Fault Refusal :=
  s.does (fun d => d.onThm capTick)

/-- THERMAL_TRIP (R416): A node at or above LIMIT for COUNT samples trips the Plinth, switching off all but management and
thermal. -/
def execThermalTrip (s : State) : Host.Outcome State Fault Refusal :=
  s.does (fun d => d.thermalTrip)

end Sys2Proof.Machine
end

