-- ==== Sys2Proof/Machine/Dispatch.lean ====
section
/-! DEFINITION. Which meaning each command has. -/

namespace Sys2Proof.Machine

/-- A command's effect on everything but the queue. -/
def exec (i : Instr) (s : State) : Host.Outcome State Fault Refusal :=
  match i with
  | .sqTailDoorbell n q v => Sys2Proof.Machine.execSqTailDoorbell n q v s
  | .cqHeadDoorbell n q v => Sys2Proof.Machine.execCqHeadDoorbell n q v s
  | .shadowDoorbellPoll n q cq v => Sys2Proof.Machine.execShadowDoorbellPoll n q cq v s
  | .commandFetch t sel entry => Sys2Proof.Machine.execCommandFetch t sel entry s
  | .configRequest n item => Sys2Proof.Machine.execConfigRequest n item s
  | .linkTrainingStart port => Sys2Proof.Machine.execLinkTrainingStart port s
  | .linkDown port hot => Sys2Proof.Machine.execLinkDown port hot s
  | .functionLevelReset n => Sys2Proof.Machine.execFunctionLevelReset n s
  | .controllerEnableClear n => Sys2Proof.Machine.execControllerEnableClear n s
  | .nvmSubsystemReset => Sys2Proof.Machine.execNvmSubsystemReset s
  | .shutdownNotification n recorded => Sys2Proof.Machine.execShutdownNotification n recorded s
  | .vfConfigWrite pf num en => Sys2Proof.Machine.execVfConfigWrite pf num en s
  | .ptmDialogue w l => Sys2Proof.Machine.execPtmDialogue w l s
  | .hifFnResWrite c n v => Sys2Proof.Machine.execHifFnResWrite c n v s
  | .hifFnTagWrite c n v => Sys2Proof.Machine.execHifFnTagWrite c n v s
  | .hifLinkCfgWrite c v => Sys2Proof.Machine.execHifLinkCfgWrite c v s
  | .hifSriovWrite c v => Sys2Proof.Machine.execHifSriovWrite c v s
  | .linkUp port speed width => Sys2Proof.Machine.execLinkUp port speed width s
  | .pcieUncorrectableError => Sys2Proof.Machine.execPcieUncorrectableError s
  | .controllerEnable n asqs acqs => Sys2Proof.Machine.execControllerEnable n asqs acqs s
  | .interruptCoalescingTimeout n v => Sys2Proof.Machine.execInterruptCoalescingTimeout n v s
  | .deleteIoSq t => Sys2Proof.Machine.execDeleteIoSq t s
  | .createIoSq t => Sys2Proof.Machine.execCreateIoSq t s
  | .deleteIoCq t => Sys2Proof.Machine.execDeleteIoCq t s
  | .createIoCq t => Sys2Proof.Machine.execCreateIoCq t s
  | .getLogPage t pg fw => Sys2Proof.Machine.execGetLogPage t pg fw s
  | .identify t pg fw => Sys2Proof.Machine.execIdentify t pg fw s
  | .abortCommand t => Sys2Proof.Machine.execAbortCommand t s
  | .setFeatures t data => Sys2Proof.Machine.execSetFeatures t data s
  | .getFeatures t pg => Sys2Proof.Machine.execGetFeatures t pg s
  | .asyncEventRequest t => Sys2Proof.Machine.execAsyncEventRequest t s
  | .namespaceManagement t data zcap share => Sys2Proof.Machine.execNamespaceManagement t data zcap share s
  | .namespaceAttachment t data => Sys2Proof.Machine.execNamespaceAttachment t data s
  | .firmwareCommit t => Sys2Proof.Machine.execFirmwareCommit t s
  | .fwActivationTimeout => Sys2Proof.Machine.execFwActivationTimeout s
  | .firmwareImageDownload t data => Sys2Proof.Machine.execFirmwareImageDownload t data s
  | .deviceSelfTest t ended => Sys2Proof.Machine.execDeviceSelfTest t ended s
  | .virtualizationManagement t => Sys2Proof.Machine.execVirtualizationManagement t s
  | .nvmeMiSend t mi => Sys2Proof.Machine.execNvmeMiSend t mi s
  | .nvmeMiReceive t pg => Sys2Proof.Machine.execNvmeMiReceive t pg s
  | .doorbellBufferConfig t => Sys2Proof.Machine.execDoorbellBufferConfig t s
  | .formatNvm t swept => Sys2Proof.Machine.execFormatNvm t swept s
  | .securitySend t ok => Sys2Proof.Machine.execSecuritySend t ok s
  | .securityReceive t pg data => Sys2Proof.Machine.execSecurityReceive t pg data s
  | .sanitize t => Sys2Proof.Machine.execSanitize t s
  | .unsupportedOpcode t => Sys2Proof.Machine.execUnsupportedOpcode t s
  | .flush t => Sys2Proof.Machine.execFlush t s
  | .write t pg => Sys2Proof.Machine.execWrite t pg s
  | .read t pg failed => Sys2Proof.Machine.execRead t pg failed s
  | .writeZeroes t pg => Sys2Proof.Machine.execWriteZeroes t pg s
  | .datasetManagement t => Sys2Proof.Machine.execDatasetManagement t s
  | .verify t failed => Sys2Proof.Machine.execVerify t failed s
  | .zoneClose t => Sys2Proof.Machine.execZoneClose t s
  | .zoneFinish t => Sys2Proof.Machine.execZoneFinish t s
  | .zoneOpen t => Sys2Proof.Machine.execZoneOpen t s
  | .zoneReset t cap swept => Sys2Proof.Machine.execZoneReset t cap swept s
  | .zoneOffline t => Sys2Proof.Machine.execZoneOffline t s
  | .reportZones t pg => Sys2Proof.Machine.execReportZones t pg s
  | .zoneAppend t pg => Sys2Proof.Machine.execZoneAppend t pg s
  | .zoneAudit t rows noHeads rebuilt => Sys2Proof.Machine.execZoneAudit t rows noHeads rebuilt s
  | .admitOp c t expect => Sys2Proof.Machine.execAdmit c t expect s
  | .xferIn c t expect => Sys2Proof.Machine.execXferIn c t expect s
  | .xferInComplete t data err => Sys2Proof.Machine.execXferInComplete t data err s
  | .ack c t expect => Sys2Proof.Machine.execAck c t expect s
  | .post c t expect => Sys2Proof.Machine.execPost c t expect s
  | .postTransferComplete t err => Sys2Proof.Machine.execPostTransferComplete t err s
  | .abortOp c t expect => Sys2Proof.Machine.execAbortOp c t expect s
  | .release c t expect => Sys2Proof.Machine.execRelease c t expect s
  | .cmdEvqRead c => Sys2Proof.Machine.execCmdEvqRead c s
  | .fetchHoldWrite c v => Sys2Proof.Machine.execFetchHoldWrite c v s
  | .dqTailWrite c n v => Sys2Proof.Machine.execDqTailWrite c n v s
  | .taskSend n => Sys2Proof.Machine.execTaskSend n s
  | .descriptorCloseUnsent n => Sys2Proof.Machine.execDescriptorCloseUnsent n s
  | .statReceive n f => Sys2Proof.Machine.execStatReceive n f s
  | .linkReset c n enable => Sys2Proof.Machine.execLinkReset c n enable s
  | .xrdyReceive n f => Sys2Proof.Machine.execXrdyReceive n f s
  | .dataDownSend n => Sys2Proof.Machine.execDataDownSend n s
  | .dataUpReceive n f => Sys2Proof.Machine.execDataUpReceive n f s
  | .taskPacketReceive n f => Sys2Proof.Machine.execTaskPacketReceive n f s
  | .taskEnter n => Sys2Proof.Machine.execTaskEnter n s
  | .dataDownReceive n f => Sys2Proof.Machine.execDataDownReceive n f s
  | .abrtReceive n f => Sys2Proof.Machine.execAbrtReceive n f s
  | .waitTimeout n => Sys2Proof.Machine.execWaitTimeout n s
  | .safeGap n => Sys2Proof.Machine.execSafeGap n s
  | .endTimeout n => Sys2Proof.Machine.execEndTimeout n s
  | .mqStoreParityError n => Sys2Proof.Machine.execMqStoreParityError n s
  | .timelineHit n => Sys2Proof.Machine.execTimelineHit n s
  | .parityReady n => Sys2Proof.Machine.execParityReady n s
  | .rebuildEnd n => Sys2Proof.Machine.execRebuildEnd n s
  | .tsqRunWrite c t run => Sys2Proof.Machine.execTsqRunWrite c t run s
  | .tsqResume c t => Sys2Proof.Machine.execTsqResume c t s
  | .csCheck c t => Sys2Proof.Machine.execCsCheck c t s
  | .csCheckEnd t => Sys2Proof.Machine.execCsCheckEnd t s
  | .controlStoreWrite c t ix v => Sys2Proof.Machine.execControlStoreWrite c t ix v s
  | .tsqAttach c attach host => Sys2Proof.Machine.execTsqAttach c attach host s
  | .tsqEnvWrite c t v => Sys2Proof.Machine.execTsqEnvWrite c t v s
  | .microwordIssue n parityErr => Sys2Proof.Machine.execMicrowordIssue n parityErr s
  | .gateIdle n => Sys2Proof.Machine.execGateIdle n s
  | .gateRead n => Sys2Proof.Machine.execGateRead n s
  | .gateWrite n => Sys2Proof.Machine.execGateWrite n s
  | .wgArm n wgm => Sys2Proof.Machine.execWgArm n wgm s
  | .wgDrop n wgm => Sys2Proof.Machine.execWgDrop n wgm s
  | .rgArm n rgm => Sys2Proof.Machine.execRgArm n rgm s
  | .rgDrop n rgm => Sys2Proof.Machine.execRgDrop n rgm s
  | .gateDropAll n => Sys2Proof.Machine.execGateDropAll n s
  | .rowOpen n => Sys2Proof.Machine.execRowOpen n s
  | .rowClose n => Sys2Proof.Machine.execRowClose n s
  | .xrdySend n sa => Sys2Proof.Machine.execXrdySend n sa s
  | .dataUpSend n sa => Sys2Proof.Machine.execDataUpSend n sa s
  | .statSend n => Sys2Proof.Machine.execStatSend n s
  | .parityForm n => Sys2Proof.Machine.execParityForm n s
  | .tbufRelease n => Sys2Proof.Machine.execTbufRelease n s
  | .chnArm n rgm => Sys2Proof.Machine.execChnArm n rgm s
  | .chnCollect n => Sys2Proof.Machine.execChnCollect n s
  | .chnRebuild n => Sys2Proof.Machine.execChnRebuild n s
  | .chnLadderStep n => Sys2Proof.Machine.execChnLadderStep n s
  | .srvSetpoint n => Sys2Proof.Machine.execSrvSetpoint n s
  | .srvSplit n rgm => Sys2Proof.Machine.execSrvSplit n rgm s
  | .srvRecentre n => Sys2Proof.Machine.execSrvRecentre n s
  | .wrpCodes n wgm => Sys2Proof.Machine.execWrpCodes n wgm s
  | .wrpAssistOff n => Sys2Proof.Machine.execWrpAssistOff n s
  | .tlnWindow n tofs => Sys2Proof.Machine.execTlnWindow n tofs s
  | .tlnWedge n sa tofs => Sys2Proof.Machine.execTlnWedge n sa tofs s
  | .tlnNow n tofs => Sys2Proof.Machine.execTlnNow n tofs s
  | .tlnDisarm n => Sys2Proof.Machine.execTlnDisarm n s
  | .aluAdd n sa sb dst => Sys2Proof.Machine.execAluAdd n sa sb dst s
  | .aluSub n sa sb dst => Sys2Proof.Machine.execAluSub n sa sb dst s
  | .aluAnd n sa sb dst => Sys2Proof.Machine.execAluAnd n sa sb dst s
  | .aluOr n sa sb dst => Sys2Proof.Machine.execAluOr n sa sb dst s
  | .aluXor n sa sb dst => Sys2Proof.Machine.execAluXor n sa sb dst s
  | .aluShiftLeft n sa sb dst => Sys2Proof.Machine.execAluShiftLeft n sa sb dst s
  | .aluShiftRight n sa sb dst => Sys2Proof.Machine.execAluShiftRight n sa sb dst s
  | .aluImmediate n dst imm => Sys2Proof.Machine.execAluImmediate n dst imm s
  | .aluAddImmediate n sa dst imm => Sys2Proof.Machine.execAluAddImmediate n sa dst imm s
  | .aluTaskField n dst imm => Sys2Proof.Machine.execAluTaskField n dst imm s
  | .aluNextExtension n dst => Sys2Proof.Machine.execAluNextExtension n dst s
  | .aluPositionValue n dst imm => Sys2Proof.Machine.execAluPositionValue n dst imm s
  | .aluCompare n sa sb => Sys2Proof.Machine.execAluCompare n sa sb s
  | .aluCompareImmediate n sa imm => Sys2Proof.Machine.execAluCompareImmediate n sa imm s
  | .cntLoadImmediate n sel imm => Sys2Proof.Machine.execCntLoadImmediate n sel imm s
  | .cntDecrement n sel => Sys2Proof.Machine.execCntDecrement n sel s
  | .cntLoadRegister n sel sa => Sys2Proof.Machine.execCntLoadRegister n sel sa s
  | .setCode n code => Sys2Proof.Machine.execSetCode n code s
  | .setReason n reason => Sys2Proof.Machine.execSetReason n reason s
  | .call n addr => Sys2Proof.Machine.execCall n addr s
  | .ret n => Sys2Proof.Machine.execRet n s
  | .windowOpening n => Sys2Proof.Machine.execWindowOpening n s
  | .windowEnd n => Sys2Proof.Machine.execWindowEnd n s
  | .servoWindowStart n w => Sys2Proof.Machine.execServoWindowStart n w s
  | .servoWindowEnd n => Sys2Proof.Machine.execServoWindowEnd n s
  | .turnaroundEnd n => Sys2Proof.Machine.execTurnaroundEnd n s
  | .writeGateRise n h => Sys2Proof.Machine.execWriteGateRise n h s
  | .writeGateFall n h => Sys2Proof.Machine.execWriteGateFall n h s
  | .sideFrameSend n h => Sys2Proof.Machine.execSideFrameSend n h s
  | .writeInhibitDrop n h => Sys2Proof.Machine.execWriteInhibitDrop n h s
  | .underrun n h => Sys2Proof.Machine.execUnderrun n h s
  | .hsiPcmdWrite c n v => Sys2Proof.Machine.execHsiPcmdWrite c n v s
  | .preampTransactionStart n => Sys2Proof.Machine.execPreampTransactionStart n s
  | .preampTransactionEnd n ack rdata chk => Sys2Proof.Machine.execPreampTransactionEnd n ack rdata chk s
  | .telemetryFrameReceive n h c0 c1 c2 c3 c4 cut => Sys2Proof.Machine.execTelemetryFrameReceive n h c0 c1 c2 c3 c4 cut s
  | .monMissing n h => Sys2Proof.Machine.execMonMissing n h s
  | .faultNLow n => Sys2Proof.Machine.execFaultNLow n s
  | .asafeLow n => Sys2Proof.Machine.execAsafeLow n s
  | .wrpModWrite c n h v => Sys2Proof.Machine.execWrpModWrite c n h v s
  | .wrpFamilyWrite c n v => Sys2Proof.Machine.execWrpFamilyWrite c n v s
  | .readGateRise n h => Sys2Proof.Machine.execReadGateRise n h s
  | .readGateFall n h taps => Sys2Proof.Machine.execReadGateFall n h taps s
  | .acquisitionEnd n h codes => Sys2Proof.Machine.execAcquisitionEnd n h codes s
  | .taAssert n ix => Sys2Proof.Machine.execTaAssert n ix s
  | .taRelease n ix start len => Sys2Proof.Machine.execTaRelease n ix start len s
  | .taHoldLimit n ix => Sys2Proof.Machine.execTaHoldLimit n ix s
  | .framingDecision n h ds1 ds2 => Sys2Proof.Machine.execFramingDecision n h ds1 ds2 s
  | .rfeSpareWrite c n k v => Sys2Proof.Machine.execRfeSpareWrite c n k v s
  | .spareSettleEnd n => Sys2Proof.Machine.execSpareSettleEnd n s
  | .amplitudeDrop n h start len => Sys2Proof.Machine.execAmplitudeDrop n h start len s
  | .decodeEnd n h hard parity giter nflip slip => Sys2Proof.Machine.execDecodeEnd n h hard parity giter nflip slip s
  | .detSpareWrite c n v => Sys2Proof.Machine.execDetSpareWrite c n v s
  | .adcTrimStep n ix => Sys2Proof.Machine.execAdcTrimStep n ix s
  | .servoFieldDemod n h wid diff place gray ta1 tb1 ta2 tb2 => Sys2Proof.Machine.execServoFieldDemod n h wid diff place gray ta1 tb1 ta2 tb2 s
  | .ffRecordQueue n => Sys2Proof.Machine.execFfRecordQueue n s
  | .wedgeEvaluation n w period => Sys2Proof.Machine.execWedgeEvaluation n w period s
  | .shockHoldEnd n => Sys2Proof.Machine.execShockHoldEnd n s
  | .satTimeout n => Sys2Proof.Machine.execSatTimeout n s
  | .headLost n h => Sys2Proof.Machine.execHeadLost n h s
  | .servoLost n => Sys2Proof.Machine.execServoLost n s
  | .loadAcquired n => Sys2Proof.Machine.execLoadAcquired n s
  | .loadTimeout n => Sys2Proof.Machine.execLoadTimeout n s
  | .settleComplete n => Sys2Proof.Machine.execSettleComplete n s
  | .armCmdOff c n => Sys2Proof.Machine.execArmCmdOff c n s
  | .armCmdLoad c n => Sys2Proof.Machine.execArmCmdLoad c n s
  | .armCmdRetract c n => Sys2Proof.Machine.execArmCmdRetract c n s
  | .armCmdDirect c n => Sys2Proof.Machine.execArmCmdDirect c n s
  | .sdlFrameSend n late => Sys2Proof.Machine.execSdlFrameSend n late s
  | .sdlStatusReceive n w => Sys2Proof.Machine.execSdlStatusReceive n w s
  | .splFrameSend per => Sys2Proof.Machine.execSplFrameSend per s
  | .splStatusReceive w => Sys2Proof.Machine.execSplStatusReceive w s
  | .splModeWrite c v => Sys2Proof.Machine.execSplModeWrite c v s
  | .timelineLock n locked => Sys2Proof.Machine.execTimelineLock n locked s
  | .bufferRequest r a n data chk flips => Sys2Proof.Machine.execBufferRequest r a n data chk flips s
  | .writeBackIssue => Sys2Proof.Machine.execWriteBackIssue s
  | .writeBackComplete => Sys2Proof.Machine.execWriteBackComplete s
  | .stRerun c => Sys2Proof.Machine.execStRerun c s
  | .checkerSelftestEnd wcFail pcFail => Sys2Proof.Machine.execCheckerSelftestEnd wcFail pcFail s
  | .bufInit c => Sys2Proof.Machine.execBufInit c s
  | .trainingEnd size ranks converged => Sys2Proof.Machine.execTrainingEnd size ranks converged s
  | .bufZero c => Sys2Proof.Machine.execBufZero c s
  | .fillEnd => Sys2Proof.Machine.execFillEnd s
  | .scrubPage flips => Sys2Proof.Machine.execScrubPage flips s
  | .bufRetWrite c n v => Sys2Proof.Machine.execBufRetWrite c n v s
  | .bufBankRetWrite c r v => Sys2Proof.Machine.execBufBankRetWrite c r v s
  | .bufInjWrite c v => Sys2Proof.Machine.execBufInjWrite c v s
  | .stcEnableWrite c v => Sys2Proof.Machine.execStcEnableWrite c v s
  | .cleanAll c => Sys2Proof.Machine.execCleanAll c s
  | .invalidateAll c => Sys2Proof.Machine.execInvalidateAll c s
  | .cleanInvAll c => Sys2Proof.Machine.execCleanInvAll c s
  | .cleanRange c => Sys2Proof.Machine.execCleanRange c s
  | .cleanInvRange c => Sys2Proof.Machine.execCleanInvRange c s
  | .cleanInvWay c way => Sys2Proof.Machine.execCleanInvWay c way s
  | .stcOpComplete => Sys2Proof.Machine.execStcOpComplete s
  | .stcFenceWrite c v => Sys2Proof.Machine.execStcFenceWrite c v s
  | .dramTemperaturePoll code => Sys2Proof.Machine.execDramTemperaturePoll code s
  | .program c => Sys2Proof.Machine.execProgram c s
  | .erase c => Sys2Proof.Machine.execErase c s
  | .info c => Sys2Proof.Machine.execInfo c s
  | .remap c => Sys2Proof.Machine.execRemap c s
  | .defineRegion c region => Sys2Proof.Machine.execDefineRegion c region s
  | .setPassword c region => Sys2Proof.Machine.execSetPassword c region s
  | .unlock c region => Sys2Proof.Machine.execUnlock c region s
  | .lock c region => Sys2Proof.Machine.execLock c region s
  | .keepPulseEnd b stuck => Sys2Proof.Machine.execKeepPulseEnd b stuck s
  | .keepCommandEnd b => Sys2Proof.Machine.execKeepCommandEnd b s
  | .keepWindowRead c o n => Sys2Proof.Machine.execKeepWindowRead c o n s
  | .streamStart c => Sys2Proof.Machine.execStreamStart c s
  | .streamStop c n => Sys2Proof.Machine.execStreamStop c n s
  | .streamEnd => Sys2Proof.Machine.execStreamEnd s
  | .powerOnReset => Sys2Proof.Machine.execPowerOnReset s
  | .pinReset => Sys2Proof.Machine.execPinReset s
  | .resetRelease testMode => Sys2Proof.Machine.execResetRelease testMode s
  | .bootRomStart => Sys2Proof.Machine.execBootRomStart s
  | .bootHandoff => Sys2Proof.Machine.execBootHandoff s
  | .recoveryWrite off bs => Sys2Proof.Machine.execRecoveryWrite off bs s
  | .recoveryBoot => Sys2Proof.Machine.execRecoveryBoot s
  | .pwrRequestWrite c hi v => Sys2Proof.Machine.execPwrRequestWrite c hi v s
  | .domainSwitchOn k => Sys2Proof.Machine.execDomainSwitchOn k s
  | .domainSwitchOff k => Sys2Proof.Machine.execDomainSwitchOff k s
  | .standbyEnter c thmOn => Sys2Proof.Machine.execStandbyEnter c thmOn s
  | .pclReportReceive bs framing => Sys2Proof.Machine.execPclReportReceive bs framing s
  | .pclStatusReceive bs framing => Sys2Proof.Machine.execPclStatusReceive bs framing s
  | .pclReportTimeout => Sys2Proof.Machine.execPclReportTimeout s
  | .brownoutAssert => Sys2Proof.Machine.execBrownoutAssert s
  | .brownoutClear => Sys2Proof.Machine.execBrownoutClear s
  | .tripFrameSend => Sys2Proof.Machine.execTripFrameSend s
  | .sensorSample ix raw fault => Sys2Proof.Machine.execSensorSample ix raw fault s
  | .refTrimApply n => Sys2Proof.Machine.execRefTrimApply n s
  | .modelUpdate => Sys2Proof.Machine.execModelUpdate s
  | .throttleDwellStep => Sys2Proof.Machine.execThrottleDwellStep s
  | .throttleHoldEnd => Sys2Proof.Machine.execThrottleHoldEnd s
  | .powerCapTick => Sys2Proof.Machine.execPowerCapTick s
  | .thermalTrip => Sys2Proof.Machine.execThermalTrip s
  | .coreStart c k addr => Sys2Proof.Machine.execCoreStart c k addr s
  | .hubClaim c k => Sys2Proof.Machine.execHubClaim c k s
  | .hubComplete c k ix => Sys2Proof.Machine.execHubComplete c k ix s
  | .hubSrcWrite c ix v => Sys2Proof.Machine.execHubSrcWrite c ix v s
  | .swiSet c v => Sys2Proof.Machine.execSwiSet c v s
  | .swiClear c v => Sys2Proof.Machine.execSwiClear c v s
  | .machineTimer k => Sys2Proof.Machine.execMachineTimer k s
  | .accessTimeout c store a n v => Sys2Proof.Machine.execAccessTimeout c store a n v s
  | .registerWrite c a n v => Sys2Proof.Machine.execRegisterWrite c a n v s
  | .counterSatClear c a => Sys2Proof.Machine.execCounterSatClear c a s
  | .counterLoRead c a => Sys2Proof.Machine.execCounterLoRead c a s
  | .snapshotGo c hold => Sys2Proof.Machine.execSnapshotGo c hold s
  | .snapshotCapture => Sys2Proof.Machine.execSnapshotCapture s
  | .watchdogKick c key => Sys2Proof.Machine.execWatchdogKick c key s
  | .wdtWarn => Sys2Proof.Machine.execWdtWarn s
  | .watchdogReset => Sys2Proof.Machine.execWatchdogReset s
  | .wdtCtrlWrite c v => Sys2Proof.Machine.execWdtCtrlWrite c v s
  | .consoleWrite c ch => Sys2Proof.Machine.execConsoleWrite c ch s
  | .consoleCharSend => Sys2Proof.Machine.execConsoleCharSend s
  | .keyLoad c k => Sys2Proof.Machine.execKeyLoad c k s
  | .keyGen c k => Sys2Proof.Machine.execKeyGen c k s
  | .keyWrap c k => Sys2Proof.Machine.execKeyWrap c k s
  | .keyUnwrap c k => Sys2Proof.Machine.execKeyUnwrap c k s
  | .keyErase c k => Sys2Proof.Machine.execKeyErase c k s
  | .keyCommandRun => Sys2Proof.Machine.execKeyCommandRun s
  | .katEnd failed => Sys2Proof.Machine.execKatEnd failed s
  | .rngHealthFail => Sys2Proof.Machine.execRngHealthFail s
  | .rngRead c => Sys2Proof.Machine.execRngRead c s
  | .memoryTestGo c => Sys2Proof.Machine.execMemoryTestGo c s
  | .memoryTestEnd bad bit => Sys2Proof.Machine.execMemoryTestEnd bad bit s
  | .loopbackGo c v => Sys2Proof.Machine.execLoopbackGo c v s
  | .loopbackEnd xs => Sys2Proof.Machine.execLoopbackEnd xs s
  | .refCheckGo c v => Sys2Proof.Machine.execRefCheckGo c v s
  | .refCheckEnd diff dev => Sys2Proof.Machine.execRefCheckEnd diff dev s
  | .friezeRecordWrite => Sys2Proof.Machine.execFriezeRecordWrite s
  | .frzPost c v => Sys2Proof.Machine.execFrzPost c v s
  | .frzClear c => Sys2Proof.Machine.execFrzClear c s
  | .frzFreezeFw c freeze => Sys2Proof.Machine.execFrzFreezeFw c freeze s
  | .traceMessageSend m => Sys2Proof.Machine.execTraceMessageSend m s
  | .traceSync => Sys2Proof.Machine.execTraceSync s
  | .trcFwWrite c v => Sys2Proof.Machine.execTrcFwWrite c v s
  | .traceMessageOut => Sys2Proof.Machine.execTraceMessageOut s
  | .miReadDataStructure off len => Sys2Proof.Machine.execMiReadDataStructure off len s
  | .miSubsystemHealthPoll => Sys2Proof.Machine.execMiSubsystemHealthPoll s
  | .miConfigurationGet => Sys2Proof.Machine.execMiConfigurationGet s
  | .miConfigurationSet unit v => Sys2Proof.Machine.execMiConfigurationSet unit v s
  | .miControllerHealthPoll req => Sys2Proof.Machine.execMiControllerHealthPoll req s
  | .miVpdRead req => Sys2Proof.Machine.execMiVpdRead req s
  | .miVpdWrite req => Sys2Proof.Machine.execMiVpdWrite req s
  | .miReset req => Sys2Proof.Machine.execMiReset req s
  | .miAdminTunnel req => Sys2Proof.Machine.execMiAdminTunnel req s
  | .unitStateGet => Sys2Proof.Machine.execUnitStateGet s
  | .unitStateSet u code => Sys2Proof.Machine.execUnitStateSet u code s
  | .friezeRead off len => Sys2Proof.Machine.execFriezeRead off len s
  | .friezeFreeze freeze => Sys2Proof.Machine.execFriezeFreeze freeze s
  | .fleetBudget assist seek => Sys2Proof.Machine.execFleetBudget assist seek s
  | .fleetIdentitySet id => Sys2Proof.Machine.execFleetIdentitySet id s
  | .miUnsupportedCommand => Sys2Proof.Machine.execMiUnsupportedCommand s
  | .mailboxDone c len => Sys2Proof.Machine.execMailboxDone c len s
  | .mailboxTimeout => Sys2Proof.Machine.execMailboxTimeout s
  | .unitStateDisagree u => Sys2Proof.Machine.execUnitStateDisagree u s
  | .fleetSyncMark ns => Sys2Proof.Machine.execFleetSyncMark ns s
  | .fleetSyncFrame chars => Sys2Proof.Machine.execFleetSyncFrame chars s
  | .timeSlewStep => Sys2Proof.Machine.execTimeSlewStep s
  | .timeLockLoss => Sys2Proof.Machine.execTimeLockLoss s

end Sys2Proof.Machine
end

