-- ==== Sys2Proof/Safety.lean ====
section
/-! DEFINITION. The terms in which claims about the machine are stated: how a command ends, what it leaves alone, the canonical
form of the memories, and the commands that are accesses of a register. -/

namespace Sys2Proof.Machine

/-! ## How a command ends -/

/-- Command `i` completes at `s`: a next state, the waiting commands as they were, and the part as `P` says. -/
def Ends (i : Instr) (s : State) (P : Dev → Prop) : Prop :=
  ∃ t, exec i s = .next t ∧ t.pending = s.pending ∧ P t.dev

/-- The power domain of the register at `a` is on, so that a core's access of it has its effect (R391). -/
abbrev Dev.powered (d : Dev) (a : Nat) : Prop := d.plat.on (domainOf a) = true

/-- Every register of `p` reads the same in `q`, but those listed. -/
def Plat.keeps (p q : Plat) (xs : List Nat) : Prop := ∀ a, a ∉ xs → q.rd a = p.rd a

/-- The registers that a bus error may change (R392): SYS_CNT1, SYS_EVT and the record. -/
def berrRegs : List Nat := [Reg.SYS_CNT_LO 1, Reg.SYS_CNT_LO 1 + 4, Reg.SYS_EVT, Reg.SYS_BERR_LO, Reg.SYS_BERR_HI]

/-- The registers that the posting of an event may change (R26, R448): POSTQ, the count of lost events, FRZ_EVT. -/
def postRegs : List Nat := [Reg.FRZ_STATUS, Reg.FRZ_LOST_LO, Reg.FRZ_LOST_LO + 4, Reg.FRZ_EVT]

/-- The registers that a key command on slot `k` may change (R426): its status, SEC_EVT, the slot's LOADED bit, the staging words. -/
def keyRegs (k : Nat) : List Nat :=
  [Reg.SEC_KEY_STAT, Reg.SEC_EVT, Reg.SEC_SLOTST (k / 32)] ++ (List.range 18).map Reg.SEC_KEYSTG

/-- Event `e` waits last in the Frieze's queues of `q`, which hold what those of `p` hold before it; or its source's queue held four
and the event is lost (R26, R448). -/
def Plat.posted (p q : Plat) (src typ : Nat) (payload : List Byte) : Prop :=
  if p.frz.waiting src < 4 then q.frz.queue = p.frz.queue ++ [⟨p.time, src, typ, false, payload⟩]
  else q.frz.queue = p.frz.queue ∧ q.frz.lostN = p.frz.lostN + 1

/-- The fault path of actuator `n`'s task with `cause`, from `d` to `e` (R112, R125): the task has left the registers with a STAT that
carries TSQ_FAULT, FORCED and the cause, the Track Sequencer is halted, TSQ_FAULT names the cause and the word's address. -/
def Dev.faultedBy (d e : Dev) (n : ActNo) (cause : Nat) : Prop :=
  let a : Ac := d.acWith n (d.serving n)
  (∃ ws, (e.act n).link.up = a.l.up ++ [UpPkt.stat a.tag a.tnum ws] ++ a.l.owed ∧ bits (ws.getD 0 0) 63 48 = 0x5100 + cause ∧
    (ws.getD 0 0).testBit 36 = true) ∧
  e.plat.bit (Reg.TSQ_STATUS a.t) Fld.TSQ_STATUS_BUSY = false ∧ e.plat.bit (Reg.TSQ_STATUS a.t) Fld.TSQ_STATUS_HALTED = true ∧
  e.plat.fld (Reg.TSQ_FAULT a.t) Fld.TSQ_FAULT_CAUSE = cause ∧ e.plat.fld (Reg.TSQ_FAULT a.t) Fld.TSQ_FAULT_ADDR = a.pc ∧
  (e.tsq (d.serving n)).running = false

/-- The completion entry of tag `t`'s command is posted from `d` to `e` with Dwords 0 and 1 and a status: where its queues exist, no
deletion of its submission queue waits, and its completion queue has room and nothing waiting, the entry is the last posted there
(R273, R293). -/
def Dev.posts (d e : Dev) (t dw0 dw1 status : Nat) : Prop :=
  ∀ s c, d.hif.sq (d.plat.ct t Ct.cntl) (d.plat.ct t Ct.sqid) = some s → s.stop = none →
    d.hif.cq (d.plat.ct t Ct.cntl) s.cq = some c → c.waiting = [] → c.posted.length + 1 < c.size →
    ∃ c', e.hif.cq (d.plat.ct t Ct.cntl) s.cq = some c' ∧
      c'.posted = c.posted ++ [⟨dw0, dw1, s.head, d.plat.ct t Ct.sqid, d.hif.cid t, status, c.phase⟩]

/-- The command of tag `t` has completed from `d` to `e` with Dword 0 and a status: its entry is posted and its tag is FREE. -/
def Dev.completes (d e : Dev) (t dw0 status : Nat) : Prop := e.plat.tagState t = 0 ∧ d.posts e t dw0 0 status

/-- `data` goes to the host for tag `t`'s command from `d` to `e` (R291): it stands in the buffer from page `pg`, and the transfer
that the completion with Dword 0 waits for has begun; where the buffer does not take it, the command completes with Internal
Error; where there is none, it completes. -/
def Dev.sends (d e : Dev) (t pg dw0 : Nat) (data : List Byte) : Prop :=
  let w := bufPut d.plat d.buf (.core 0) (data.length / 4096 + 1) pg data
  (w.2.2 = true → data ≠ [] → e.plat.tagState t = 1 ∧ e.plat.ct t Ct.xfer = 1 ∧ e.plat.ct t Ct.xout = 1 ∧
    e.plat.ct t Ct.bufPage = pg ∧ e.plat.ct t Ct.xlen = data.length ∧ e.plat.ct t Ct.dw0 = dw0 ∧ e.plat.ct t Ct.status = 0 ∧
    e.sec.xfers = d.sec.xfers ++ [⟨t, true, []⟩] ∧ e.buf = w.2.1) ∧
  (w.2.2 = true → data = [] → d.completes e t dw0 0) ∧
  (w.2.2 = false → d.completes e t 0 0x06)

/-- Tag `t` holds an admin command of opcode `op` with PSDT 0 that firmware has not begun. -/
def Dev.holdsAdmin (d : Dev) (t op : Nat) : Prop := d.fe.isAdmin t op = true ∧ d.hif.psdt t = 0

/-- Tag `t` holds an I/O command of opcode `op` that passes the checks every I/O command passes, on namespace `n`: PSDT 0, the
namespace attached to its controller and of the kind that takes the opcode, no deferred error to report (R276, R277, R312). -/
def Dev.holdsIo (d : Dev) (t op : Nat) (n : Ns) : Prop :=
  d.fe.isIoCmd t op [1] = true ∧ d.hif.psdt t = 0 ∧ d.hif.ns (d.hif.nsid t) = some n ∧
  n.attached.testBit (d.plat.ct t Ct.cntl) = true ∧ (isZnsOp op = true → n.zoned = true) ∧
  (op = 0x08 ∨ op = 0x09 → n.zoned = false) ∧ d.hif.deferred.any (d.fe.reports t) = false

/-! ## The parts of the machine -/

/-- A part of the machine, as State holds it: what every block shares (the registers among it), a block's own state, an actuator,
a Track Sequencer. -/
inductive Part where
  | plat
  | sys
  | thm
  | mgt
  | buf
  | sec
  | bcl
  | hif
  | cmd
  | keep
  | spl
  | act (n : Fin 4)
  | tsq (t : Fin 5)
  deriving DecidableEq, Repr

/-- The part is the same in `d` and `e`. -/
def Part.same (x : Part) (d e : Dev) : Prop :=
  match x with
  | .plat => e.plat = d.plat
  | .sys => e.sys = d.sys
  | .thm => e.thm = d.thm
  | .mgt => e.mgt = d.mgt
  | .buf => e.buf = d.buf
  | .sec => e.sec = d.sec
  | .bcl => e.bcl = d.bcl
  | .hif => e.hif = d.hif
  | .cmd => e.cmd = d.cmd
  | .keep => e.keep = d.keep
  | .spl => e.spl = d.spl
  | .act n => e.act n = d.act n
  | .tsq t => e.tsq t = d.tsq t

/-- Every part. -/
def allParts : List Part :=
  [.plat, .sys, .thm, .mgt, .buf, .sec, .bcl, .hif, .cmd, .keep, .spl, .act 0, .act 1, .act 2, .act 3, .tsq 0, .tsq 1, .tsq 2,
    .tsq 3, .tsq 4]

end Sys2Proof.Machine

namespace Sys2Proof
open Machine

/-- The parts that a command may change in machine `d`, by the blocks that its row acts on. Every part where the command is a
reset, a power switch, a start of the part, or a write to any address. -/
def Instr.parts (i : Instr) (d : Dev) : List Part :=
  match i with
  | .sqTailDoorbell _ _ _ => [.plat, .hif, .cmd, .buf, .sec]
  | .cqHeadDoorbell _ _ _ => [.plat, .hif, .cmd, .buf, .sec]
  | .shadowDoorbellPoll _ _ _ _ => [.plat, .hif, .cmd, .buf, .sec]
  | .commandFetch _ _ _ => [.plat, .hif, .cmd, .buf, .sec, .sys]
  | .configRequest _ _ => [.plat, .hif]
  | .linkTrainingStart _ => [.plat, .hif]
  | .linkDown _ _ => [.plat, .hif, .cmd, .buf, .sec]
  | .functionLevelReset _ => [.plat, .hif, .cmd, .buf, .sec]
  | .controllerEnableClear _ => [.plat, .hif, .cmd, .buf, .sec]
  | .nvmSubsystemReset => [.plat, .hif, .cmd, .buf, .sec]
  | .shutdownNotification _ _ => [.plat, .hif, .cmd, .buf, .sec]
  | .vfConfigWrite _ _ _ => [.plat, .hif]
  | .ptmDialogue _ _ => [.plat, .mgt]
  | .hifFnResWrite _ _ _ => [.plat]
  | .hifFnTagWrite _ _ _ => [.plat]
  | .hifLinkCfgWrite _ _ => [.plat]
  | .hifSriovWrite _ _ => [.plat]
  | .linkUp _ _ _ => [.plat, .hif]
  | .pcieUncorrectableError => [.plat]
  | .controllerEnable _ _ _ => [.plat, .hif, .cmd, .buf, .sec]
  | .interruptCoalescingTimeout _ _ => [.plat, .hif]
  | .deleteIoSq _ => [.plat, .hif, .cmd, .buf, .sec]
  | .createIoSq _ => [.plat, .hif, .cmd, .buf, .sec]
  | .deleteIoCq _ => [.plat, .hif, .cmd, .buf, .sec]
  | .createIoCq _ => [.plat, .hif, .cmd, .buf, .sec]
  | .getLogPage _ _ _ => [.plat, .hif, .cmd, .buf, .sec]
  | .identify _ _ _ => [.plat, .hif, .cmd, .buf, .sec]
  | .abortCommand _ => [.plat, .hif, .cmd, .buf, .sec, .act 0, .act 1, .act 2, .act 3]
  | .setFeatures _ _ => [.plat, .hif, .cmd, .buf, .sec]
  | .getFeatures _ _ => [.plat, .hif, .cmd, .buf, .sec]
  | .asyncEventRequest _ => [.plat, .hif, .cmd, .buf, .sec]
  | .namespaceManagement _ _ _ _ => [.plat, .hif, .cmd, .buf, .sec]
  | .namespaceAttachment _ _ => [.plat, .hif, .cmd, .buf, .sec]
  | .firmwareCommit _ => [.plat, .hif, .cmd, .buf, .sec]
  | .fwActivationTimeout => [.plat, .hif, .cmd, .buf, .sec]
  | .firmwareImageDownload _ _ => [.plat, .hif, .cmd, .buf, .sec]
  | .deviceSelfTest _ _ => [.plat, .hif, .cmd, .buf, .sec]
  | .virtualizationManagement _ => [.plat, .hif, .cmd, .buf, .sec]
  | .nvmeMiSend _ _ => [.plat, .hif, .cmd, .buf, .sec, .mgt]
  | .nvmeMiReceive _ _ => [.plat, .hif, .cmd, .buf, .sec]
  | .doorbellBufferConfig _ => [.plat, .hif, .cmd, .buf, .sec]
  | .formatNvm _ _ => [.plat, .hif, .cmd, .buf, .sec]
  | .securitySend _ _ => [.plat, .hif, .cmd, .buf, .sec]
  | .securityReceive _ _ _ => [.plat, .hif, .cmd, .buf, .sec]
  | .sanitize _ => [.plat, .hif, .cmd, .buf, .sec]
  | .unsupportedOpcode _ => [.plat, .hif, .cmd, .buf, .sec]
  | .flush _ => [.plat, .hif, .cmd, .buf, .sec]
  | .write _ _ => [.plat, .hif, .cmd, .buf, .sec]
  | .read _ _ _ => [.plat, .hif, .cmd, .buf, .sec]
  | .writeZeroes _ _ => [.plat, .hif, .cmd, .buf, .sec]
  | .datasetManagement _ => [.plat, .hif, .cmd, .buf, .sec]
  | .verify _ _ => [.plat, .hif, .cmd, .buf, .sec]
  | .zoneClose _ => [.plat, .hif, .cmd, .buf, .sec]
  | .zoneFinish _ => [.plat, .hif, .cmd, .buf, .sec]
  | .zoneOpen _ => [.plat, .hif, .cmd, .buf, .sec]
  | .zoneReset _ _ _ => [.plat, .hif, .cmd, .buf, .sec]
  | .zoneOffline _ => [.plat, .hif, .cmd, .buf, .sec]
  | .reportZones _ _ => [.plat, .hif, .cmd, .buf, .sec]
  | .zoneAppend _ _ => [.plat, .hif, .cmd, .buf, .sec]
  | .zoneAudit _ _ _ _ => [.plat, .hif, .cmd, .buf, .sec]
  | .admitOp _ _ _ => [.plat, .hif, .cmd, .buf, .sec]
  | .xferIn _ _ _ => [.plat, .hif, .cmd, .buf, .sec]
  | .xferInComplete _ _ _ => [.plat, .hif, .cmd, .buf, .sec]
  | .ack _ _ _ => [.plat, .hif, .cmd, .buf, .sec]
  | .post _ _ _ => [.plat, .hif, .cmd, .buf, .sec]
  | .postTransferComplete _ _ => [.plat, .hif, .cmd, .buf, .sec]
  | .abortOp _ _ _ => [.plat, .hif, .cmd, .buf, .sec, .act 0, .act 1, .act 2, .act 3]
  | .release _ _ _ => [.plat, .hif, .cmd, .buf, .sec]
  | .cmdEvqRead _ => [.plat, .cmd]
  | .fetchHoldWrite _ _ => [.plat]
  | .dqTailWrite _ _ _ => [.plat, .cmd]
  | .taskSend n => [.plat, .hif, .cmd, .buf, .sec, .act n]
  | .descriptorCloseUnsent _ => [.plat, .hif, .cmd, .buf, .sec]
  | .statReceive n _ => [.plat, .hif, .cmd, .buf, .sec, .act n]
  | .linkReset _ n _ => [.plat, .hif, .cmd, .buf, .sec, .act n, .tsq (d.serving n)]
  | .xrdyReceive n _ => [.plat, .hif, .cmd, .buf, .sec, .act n]
  | .dataDownSend n => [.plat, .hif, .cmd, .buf, .sec, .act n]
  | .dataUpReceive n _ => [.plat, .hif, .cmd, .buf, .sec, .act n]
  | .taskPacketReceive n _ => [.plat, .act n, .tsq (d.serving n)]
  | .taskEnter n => [.plat, .act n, .tsq (d.serving n)]
  | .dataDownReceive n _ => [.plat, .act n, .tsq (d.serving n)]
  | .abrtReceive n _ => [.plat, .act n, .tsq (d.serving n)]
  | .waitTimeout n => [.plat, .act n, .tsq (d.serving n)]
  | .safeGap n => [.plat, .act n, .tsq (d.serving n)]
  | .endTimeout n => [.plat, .act n, .tsq (d.serving n)]
  | .mqStoreParityError n => [.plat, .act n, .tsq (d.serving n)]
  | .timelineHit n => [.plat, .act n, .tsq (d.serving n)]
  | .parityReady n => [.plat, .act n, .tsq (d.serving n)]
  | .rebuildEnd n => [.plat, .act n, .tsq (d.serving n)]
  | .tsqRunWrite _ _ _ => [.plat]
  | .tsqResume _ _ => [.plat]
  | .csCheck _ _ => [.plat]
  | .csCheckEnd _ => [.plat]
  | .controlStoreWrite _ t _ _ => [.plat, .tsq t]
  | .tsqAttach _ _ _ => [.plat, .tsq 4]
  | .tsqEnvWrite _ t _ => [.plat, .tsq t]
  | .microwordIssue n _ => [.plat, .act n, .tsq (d.serving n)]
  | .gateIdle n => [.plat, .act n, .tsq (d.serving n)]
  | .gateRead n => [.plat, .act n, .tsq (d.serving n)]
  | .gateWrite n => [.plat, .act n, .tsq (d.serving n)]
  | .wgArm n _ => [.plat, .act n, .tsq (d.serving n)]
  | .wgDrop n _ => [.plat, .act n, .tsq (d.serving n)]
  | .rgArm n _ => [.plat, .act n, .tsq (d.serving n)]
  | .rgDrop n _ => [.plat, .act n, .tsq (d.serving n)]
  | .gateDropAll n => [.plat, .act n, .tsq (d.serving n)]
  | .rowOpen n => [.plat, .act n, .tsq (d.serving n)]
  | .rowClose n => [.plat, .act n, .tsq (d.serving n)]
  | .xrdySend n _ => [.plat, .act n, .tsq (d.serving n)]
  | .dataUpSend n _ => [.plat, .act n, .tsq (d.serving n)]
  | .statSend n => [.plat, .act n, .tsq (d.serving n)]
  | .parityForm n => [.plat, .act n, .tsq (d.serving n)]
  | .tbufRelease n => [.plat, .act n, .tsq (d.serving n)]
  | .chnArm n _ => [.plat, .act n, .tsq (d.serving n)]
  | .chnCollect n => [.plat, .act n, .tsq (d.serving n)]
  | .chnRebuild n => [.plat, .act n, .tsq (d.serving n)]
  | .chnLadderStep n => [.plat, .act n, .tsq (d.serving n)]
  | .srvSetpoint n => [.plat, .act n, .tsq (d.serving n)]
  | .srvSplit n _ => [.plat, .act n, .tsq (d.serving n)]
  | .srvRecentre n => [.plat, .act n, .tsq (d.serving n)]
  | .wrpCodes n _ => [.plat, .act n, .tsq (d.serving n)]
  | .wrpAssistOff n => [.plat, .act n, .tsq (d.serving n)]
  | .tlnWindow n _ => [.plat, .act n, .tsq (d.serving n)]
  | .tlnWedge n _ _ => [.plat, .act n, .tsq (d.serving n)]
  | .tlnNow n _ => [.plat, .act n, .tsq (d.serving n)]
  | .tlnDisarm n => [.plat, .act n, .tsq (d.serving n)]
  | .aluAdd n _ _ _ => [.plat, .act n, .tsq (d.serving n)]
  | .aluSub n _ _ _ => [.plat, .act n, .tsq (d.serving n)]
  | .aluAnd n _ _ _ => [.plat, .act n, .tsq (d.serving n)]
  | .aluOr n _ _ _ => [.plat, .act n, .tsq (d.serving n)]
  | .aluXor n _ _ _ => [.plat, .act n, .tsq (d.serving n)]
  | .aluShiftLeft n _ _ _ => [.plat, .act n, .tsq (d.serving n)]
  | .aluShiftRight n _ _ _ => [.plat, .act n, .tsq (d.serving n)]
  | .aluImmediate n _ _ => [.plat, .act n, .tsq (d.serving n)]
  | .aluAddImmediate n _ _ _ => [.plat, .act n, .tsq (d.serving n)]
  | .aluTaskField n _ _ => [.plat, .act n, .tsq (d.serving n)]
  | .aluNextExtension n _ => [.plat, .act n, .tsq (d.serving n)]
  | .aluPositionValue n _ _ => [.plat, .act n, .tsq (d.serving n)]
  | .aluCompare n _ _ => [.plat, .act n, .tsq (d.serving n)]
  | .aluCompareImmediate n _ _ => [.plat, .act n, .tsq (d.serving n)]
  | .cntLoadImmediate n _ _ => [.plat, .act n, .tsq (d.serving n)]
  | .cntDecrement n _ => [.plat, .act n, .tsq (d.serving n)]
  | .cntLoadRegister n _ _ => [.plat, .act n, .tsq (d.serving n)]
  | .setCode n _ => [.plat, .act n, .tsq (d.serving n)]
  | .setReason n _ => [.plat, .act n, .tsq (d.serving n)]
  | .call n _ => [.plat, .act n, .tsq (d.serving n)]
  | .ret n => [.plat, .act n, .tsq (d.serving n)]
  | .windowOpening n => [.plat, .act n, .tsq (d.serving n)]
  | .windowEnd n => [.plat, .act n, .tsq (d.serving n)]
  | .servoWindowStart n _ => [.plat, .act n, .tsq (d.serving n)]
  | .servoWindowEnd n => [.plat, .act n, .tsq (d.serving n)]
  | .turnaroundEnd n => [.plat, .act n, .tsq (d.serving n)]
  | .writeGateRise n _ => [.plat, .act n, .tsq (d.serving n)]
  | .writeGateFall n _ => [.plat, .act n, .tsq (d.serving n)]
  | .sideFrameSend n _ => [.plat, .act n, .tsq (d.serving n)]
  | .writeInhibitDrop n _ => [.plat, .act n, .tsq (d.serving n)]
  | .underrun n _ => [.plat, .act n, .tsq (d.serving n)]
  | .hsiPcmdWrite _ _ _ => [.plat]
  | .preampTransactionStart n => [.plat, .act n, .tsq (d.serving n)]
  | .preampTransactionEnd n _ _ _ => [.plat, .act n, .tsq (d.serving n)]
  | .telemetryFrameReceive n _ _ _ _ _ _ _ => [.plat, .act n, .tsq (d.serving n)]
  | .monMissing n _ => [.plat, .act n, .tsq (d.serving n)]
  | .faultNLow n => [.plat, .act n, .tsq (d.serving n)]
  | .asafeLow n => [.plat, .act n, .tsq (d.serving n)]
  | .wrpModWrite _ _ _ _ => [.plat]
  | .wrpFamilyWrite _ _ _ => [.plat]
  | .readGateRise n _ => [.plat, .act n, .tsq (d.serving n)]
  | .readGateFall n _ _ => [.plat, .act n, .tsq (d.serving n)]
  | .acquisitionEnd n _ _ => [.plat, .act n, .tsq (d.serving n)]
  | .taAssert n _ => [.plat, .act n, .tsq (d.serving n)]
  | .taRelease n _ _ _ => [.plat, .act n, .tsq (d.serving n)]
  | .taHoldLimit n _ => [.plat, .act n, .tsq (d.serving n)]
  | .framingDecision n _ _ _ => [.plat, .act n, .tsq (d.serving n)]
  | .rfeSpareWrite _ n _ _ => [.plat, .act n, .tsq (d.serving n)]
  | .spareSettleEnd n => [.plat, .act n, .tsq (d.serving n)]
  | .amplitudeDrop n _ _ _ => [.plat, .act n, .tsq (d.serving n)]
  | .decodeEnd n _ _ _ _ _ _ => [.plat, .act n, .tsq (d.serving n)]
  | .detSpareWrite _ n _ => [.plat, .act n, .tsq (d.serving n)]
  | .adcTrimStep _ _ => [.plat]
  | .servoFieldDemod n _ _ _ _ _ _ _ _ _ => [.plat, .act n, .tsq (d.serving n)]
  | .ffRecordQueue n => [.plat, .act n, .tsq (d.serving n)]
  | .wedgeEvaluation n _ _ => [.plat, .act n, .tsq (d.serving n)]
  | .shockHoldEnd n => [.plat, .act n, .tsq (d.serving n)]
  | .satTimeout n => [.plat, .act n, .tsq (d.serving n)]
  | .headLost n _ => [.plat, .act n, .tsq (d.serving n)]
  | .servoLost n => [.plat, .act n, .tsq (d.serving n)]
  | .loadAcquired n => [.plat, .act n, .tsq (d.serving n)]
  | .loadTimeout n => [.plat, .act n, .tsq (d.serving n)]
  | .settleComplete n => [.plat, .act n, .tsq (d.serving n)]
  | .armCmdOff _ n => [.plat, .act n, .tsq (d.serving n)]
  | .armCmdLoad _ n => [.plat, .act n, .tsq (d.serving n)]
  | .armCmdRetract _ n => [.plat, .act n, .tsq (d.serving n)]
  | .armCmdDirect _ n => [.plat, .act n, .tsq (d.serving n)]
  | .sdlFrameSend n _ => [.plat, .act n, .tsq (d.serving n)]
  | .sdlStatusReceive n _ => [.plat, .act n, .tsq (d.serving n)]
  | .splFrameSend _ => [.plat, .spl]
  | .splStatusReceive _ => [.plat]
  | .splModeWrite _ _ => [.plat, .spl]
  | .timelineLock n _ => [.plat, .act n, .tsq (d.serving n)]
  | .bufferRequest _ _ _ _ _ _ => [.plat, .buf]
  | .writeBackIssue => [.plat, .buf]
  | .writeBackComplete => [.plat, .buf]
  | .stRerun _ => [.plat]
  | .checkerSelftestEnd _ _ => [.plat]
  | .bufInit _ => [.plat]
  | .trainingEnd _ _ _ => [.plat]
  | .bufZero _ => [.plat]
  | .fillEnd => [.plat, .buf]
  | .scrubPage _ => [.plat, .buf]
  | .bufRetWrite _ _ _ => [.plat]
  | .bufBankRetWrite _ _ _ => [.plat]
  | .bufInjWrite _ _ => [.plat]
  | .stcEnableWrite _ _ => [.plat]
  | .cleanAll _ => [.plat, .buf]
  | .invalidateAll _ => [.plat, .buf]
  | .cleanInvAll _ => [.plat, .buf]
  | .cleanRange _ => [.plat, .buf]
  | .cleanInvRange _ => [.plat, .buf]
  | .cleanInvWay _ _ => [.plat, .buf]
  | .stcOpComplete => [.plat, .buf]
  | .stcFenceWrite _ _ => [.plat, .buf]
  | .dramTemperaturePoll _ => [.buf]
  | .program _ => [.plat, .keep]
  | .erase _ => [.plat, .keep]
  | .info _ => [.plat, .keep]
  | .remap _ => [.plat, .keep]
  | .defineRegion _ _ => [.plat, .keep]
  | .setPassword _ _ => [.plat, .keep]
  | .unlock _ _ => [.plat, .keep]
  | .lock _ _ => [.plat, .keep]
  | .keepPulseEnd _ _ => [.plat, .keep]
  | .keepCommandEnd _ => [.plat, .keep]
  | .keepWindowRead _ _ _ => [.plat]
  | .streamStart _ => [.plat, .keep]
  | .streamStop _ _ => [.plat, .keep]
  | .streamEnd => [.plat, .buf, .sys, .keep]
  | .powerOnReset => allParts
  | .pinReset => allParts
  | .resetRelease _ => allParts
  | .bootRomStart => allParts
  | .bootHandoff => allParts
  | .recoveryWrite _ _ => allParts
  | .recoveryBoot => allParts
  | .pwrRequestWrite _ _ _ => [.plat]
  | .domainSwitchOn _ => allParts
  | .domainSwitchOff _ => allParts
  | .standbyEnter _ _ => allParts
  | .pclReportReceive _ _ => allParts
  | .pclStatusReceive _ _ => allParts
  | .pclReportTimeout => [.plat]
  | .brownoutAssert => allParts
  | .brownoutClear => allParts
  | .tripFrameSend => [.thm]
  | .sensorSample _ _ _ => [.plat, .thm]
  | .refTrimApply _ => [.plat, .thm]
  | .modelUpdate => [.plat, .thm]
  | .throttleDwellStep => [.plat, .thm]
  | .throttleHoldEnd => [.plat]
  | .powerCapTick => [.plat, .thm]
  | .thermalTrip => allParts
  | .coreStart _ _ _ => [.plat, .sys]
  | .hubClaim _ _ => [.plat, .sys]
  | .hubComplete _ _ _ => [.plat]
  | .hubSrcWrite _ _ _ => [.plat]
  | .swiSet _ _ => [.plat]
  | .swiClear _ _ => [.plat]
  | .machineTimer _ => [.plat, .sys]
  | .accessTimeout _ _ _ _ _ => allParts
  | .registerWrite _ _ _ _ => allParts
  | .counterSatClear _ _ => allParts
  | .counterLoRead _ _ => [.plat]
  | .snapshotGo _ _ => [.plat]
  | .snapshotCapture => [.plat]
  | .watchdogKick _ _ => [.plat, .sys]
  | .wdtWarn => [.plat, .sys]
  | .watchdogReset => allParts
  | .wdtCtrlWrite _ _ => [.plat, .sys]
  | .consoleWrite _ _ => [.plat, .sys]
  | .consoleCharSend => [.plat, .sys]
  | .keyLoad _ _ => [.plat, .sec]
  | .keyGen _ _ => [.plat, .sec]
  | .keyWrap _ _ => [.plat, .sec]
  | .keyUnwrap _ _ => [.plat, .sec]
  | .keyErase _ _ => [.plat, .sec]
  | .keyCommandRun => [.plat, .sec]
  | .katEnd _ => [.plat]
  | .rngHealthFail => [.plat, .sec]
  | .rngRead _ => [.plat]
  | .memoryTestGo _ => [.plat, .bcl]
  | .memoryTestEnd _ _ => allParts
  | .loopbackGo _ _ => [.plat, .bcl, .act 0, .act 1, .act 2, .act 3, .tsq 0, .tsq 1, .tsq 2, .tsq 3, .tsq 4]
  | .loopbackEnd _ => [.plat, .bcl, .act 0, .act 1, .act 2, .act 3, .tsq 0, .tsq 1, .tsq 2, .tsq 3, .tsq 4]
  | .refCheckGo _ _ => [.plat]
  | .refCheckEnd _ _ => [.plat]
  | .friezeRecordWrite => [.plat]
  | .frzPost _ _ => [.plat]
  | .frzClear _ => [.plat]
  | .frzFreezeFw _ _ => [.plat]
  | .traceMessageSend _ => [.plat]
  | .traceSync => [.plat]
  | .trcFwWrite _ _ => [.plat]
  | .traceMessageOut => [.plat]
  | .miReadDataStructure _ _ => [.plat, .mgt]
  | .miSubsystemHealthPoll => [.plat, .mgt]
  | .miConfigurationGet => [.plat, .mgt]
  | .miConfigurationSet _ _ => [.plat, .mgt]
  | .miControllerHealthPoll _ => [.plat, .mgt]
  | .miVpdRead _ => [.plat, .mgt]
  | .miVpdWrite _ => [.plat, .mgt]
  | .miReset _ => [.plat, .mgt]
  | .miAdminTunnel _ => [.plat, .mgt]
  | .unitStateGet => [.plat, .mgt]
  | .unitStateSet _ _ => [.plat, .mgt]
  | .friezeRead _ _ => [.plat, .mgt]
  | .friezeFreeze _ => [.plat, .mgt]
  | .fleetBudget _ _ => [.plat, .mgt]
  | .fleetIdentitySet _ => [.plat, .mgt]
  | .miUnsupportedCommand => [.plat, .mgt]
  | .mailboxDone _ _ => [.plat, .mgt]
  | .mailboxTimeout => [.plat, .mgt]
  | .unitStateDisagree _ => [.plat]
  | .fleetSyncMark _ => [.plat, .mgt]
  | .fleetSyncFrame _ => [.plat, .mgt]
  | .timeSlewStep => [.plat, .sys, .mgt, .tsq 0, .tsq 1, .tsq 2, .tsq 3, .tsq 4]
  | .timeLockLoss => [.plat, .mgt]

/-- The commands that are one access of one register by a core: the core, the register's address, and whether it is a write. -/
def Instr.access (i : Instr) : Option (CoreNo × Nat × Bool) :=
  match i with
  | .hifFnResWrite c n _ => some (c, (Reg.HIF_FN_RES n), true)
  | .hifFnTagWrite c n _ => some (c, (Reg.HIF_FN_TAG n), true)
  | .hifLinkCfgWrite c _ => some (c, Reg.HIF_LINK_CFG, true)
  | .hifSriovWrite c _ => some (c, Reg.HIF_SRIOV, true)
  | .admitOp c _ _ => some (c, Reg.CMD_OP, true)
  | .xferIn c _ _ => some (c, Reg.CMD_OP, true)
  | .ack c _ _ => some (c, Reg.CMD_OP, true)
  | .post c _ _ => some (c, Reg.CMD_OP, true)
  | .abortOp c _ _ => some (c, Reg.CMD_OP, true)
  | .release c _ _ => some (c, Reg.CMD_OP, true)
  | .cmdEvqRead c => some (c, Reg.CMD_EVQ, false)
  | .fetchHoldWrite c _ => some (c, Reg.CMD_CTRL, true)
  | .dqTailWrite c n _ => some (c, (Reg.CMD_DQ_TAIL n), true)
  | .linkReset c n _ => some (c, (Reg.LNK_CTRL n), true)
  | .tsqRunWrite c t _ => some (c, (Reg.TSQ_CTRL t), true)
  | .tsqResume c t => some (c, (Reg.TSQ_CTRL t), true)
  | .csCheck c t => some (c, (Reg.TSQ_CTRL t), true)
  | .controlStoreWrite c t i _ => some (c, (csAddr t (4 * i)), true)
  | .tsqAttach c _ _ => some (c, (Reg.TSQ_CTRL 4), true)
  | .tsqEnvWrite c t _ => some (c, (Reg.TSQ_ENV t), true)
  | .hsiPcmdWrite c n _ => some (c, (Reg.HSI_PCMD n), true)
  | .wrpModWrite c n h _ => some (c, (Reg.WRP_MOD n h), true)
  | .wrpFamilyWrite c n _ => some (c, (Reg.WRP_CFG n), true)
  | .rfeSpareWrite c n k _ => some (c, (Reg.RFE_SPARE n k), true)
  | .detSpareWrite c n _ => some (c, (Reg.DET_SPARE n), true)
  | .armCmdOff c n => some (c, (Reg.ARM_CTRL n), true)
  | .armCmdLoad c n => some (c, (Reg.ARM_CTRL n), true)
  | .armCmdRetract c n => some (c, (Reg.ARM_CTRL n), true)
  | .armCmdDirect c n => some (c, (Reg.ARM_CTRL n), true)
  | .splModeWrite c _ => some (c, Reg.SPL_CTRL, true)
  | .stRerun c => some (c, Reg.BUF_CTRL, true)
  | .bufInit c => some (c, Reg.BUF_CTRL, true)
  | .bufZero c => some (c, Reg.BUF_CTRL, true)
  | .bufRetWrite c n _ => some (c, (Reg.BUF_RET n), true)
  | .bufBankRetWrite c r _ => some (c, (Reg.BUF_BANK_RET r), true)
  | .bufInjWrite c _ => some (c, Reg.BUF_INJ, true)
  | .stcEnableWrite c _ => some (c, Reg.STC_CTRL, true)
  | .cleanAll c => some (c, Reg.STC_OP, true)
  | .invalidateAll c => some (c, Reg.STC_OP, true)
  | .cleanInvAll c => some (c, Reg.STC_OP, true)
  | .cleanRange c => some (c, Reg.STC_OP, true)
  | .cleanInvRange c => some (c, Reg.STC_OP, true)
  | .cleanInvWay c _ => some (c, Reg.STC_OP, true)
  | .stcFenceWrite c _ => some (c, Reg.STC_FENCE, true)
  | .program c => some (c, Reg.KEEP_CMD, true)
  | .erase c => some (c, Reg.KEEP_CMD, true)
  | .info c => some (c, Reg.KEEP_CMD, true)
  | .remap c => some (c, Reg.KEEP_CMD, true)
  | .defineRegion c _ => some (c, Reg.KEEP_CMD, true)
  | .setPassword c _ => some (c, Reg.KEEP_CMD, true)
  | .unlock c _ => some (c, Reg.KEEP_CMD, true)
  | .lock c _ => some (c, Reg.KEEP_CMD, true)
  | .streamStart c => some (c, Reg.KEEP_STR_CTRL, true)
  | .streamStop c _ => some (c, Reg.KEEP_STR_CTRL, true)
  | .pwrRequestWrite c hi _ => some (c, (if hi then Reg.PWR_REQ_HI else Reg.PWR_REQ_LO), true)
  | .standbyEnter c _ => some (c, Reg.PWR_STBY, true)
  | .coreStart c _ _ => some (c, Reg.SYS_CORE_START, true)
  | .hubClaim c k => some (c, (Reg.HUB_CLAIM k), false)
  | .hubComplete c k _ => some (c, (Reg.HUB_COMPLETE k), true)
  | .hubSrcWrite c i _ => some (c, (Reg.HUB_SRC i), true)
  | .swiSet c _ => some (c, Reg.HUB_SWI_SET, true)
  | .swiClear c _ => some (c, Reg.HUB_SWI_CLR, true)
  | .counterSatClear c a => some (c, a, true)
  | .snapshotGo c _ => some (c, Reg.TRC_SNAP, true)
  | .watchdogKick c _ => some (c, Reg.SYS_WDT_KICK, true)
  | .wdtCtrlWrite c _ => some (c, Reg.SYS_WDT_CTRL, true)
  | .consoleWrite c _ => some (c, Reg.SYS_CON_TX, true)
  | .keyLoad c _ => some (c, Reg.SEC_KEY_CMD, true)
  | .keyGen c _ => some (c, Reg.SEC_KEY_CMD, true)
  | .keyWrap c _ => some (c, Reg.SEC_KEY_CMD, true)
  | .keyUnwrap c _ => some (c, Reg.SEC_KEY_CMD, true)
  | .keyErase c _ => some (c, Reg.SEC_KEY_CMD, true)
  | .rngRead c => some (c, Reg.SEC_RNG, false)
  | .memoryTestGo c => some (c, Reg.BCL_MB_CTRL, true)
  | .loopbackGo c _ => some (c, Reg.BCL_LB_CTRL, true)
  | .refCheckGo c _ => some (c, Reg.BCL_REF_CTRL, true)
  | .frzPost c _ => some (c, Reg.FRZ_POST, true)
  | .frzClear c => some (c, Reg.FRZ_CTRL, true)
  | .frzFreezeFw c _ => some (c, Reg.FRZ_CTRL, true)
  | .trcFwWrite c _ => some (c, Reg.TRC_FW, true)
  | .mailboxDone c _ => some (c, Reg.MGT_MBOX, true)
  | _ => none

end Sys2Proof

namespace Sys2Proof.Machine

/-! ## Memories -/

/-- The canonical form of a memory: addresses strictly rising, no entry equal to what an unlisted address reads as. -/
abbrev Memory.wf (m : SMap Byte) : Prop := SMap.wf zeroByte m

/-- Every memory of bytes is in canonical form: the control SRAM, the mailbox areas, the buffer DRAM, the Frieze log, the maquette
stores of the Track Sequencers, the Keep's cells. -/
def State.MemoriesCanonical (s : State) : Prop :=
  Memory.wf s.dev.sys.sram ∧ Memory.wf s.dev.mgt.mbox ∧ Memory.wf s.dev.buf.dram ∧ Memory.wf s.dev.plat.frz.log ∧
  (∀ t : Fin 5, Memory.wf (s.dev.tsq t).store) ∧ SMap.wf erasedByte s.dev.keep.cells

/-- The register file, the queues, the stage cache's lines and the track buffers are in canonical form. -/
def State.TablesCanonical (s : State) : Prop :=
  SMap.wf resetWord s.dev.plat.regs ∧ SMap.wf (fun _ => none) s.dev.hif.sqs ∧ SMap.wf (fun _ => none) s.dev.hif.cqs ∧
  SMap.wf (fun _ => none) s.dev.buf.lines ∧ ∀ t : Fin 5, SMap.wf (fun _ => none) (s.dev.tsq t).tbuf

end Sys2Proof.Machine
end

