-- ==== Sys2Proof/WellFormed.lean ====
section
/-! DEFINITION. Which commands are well-formed: the ranges that the types of the operands do not say already. -/

namespace Sys2Proof

/-- A bus access of 1, 2, 4 or 8 bytes in the 40-bit map. -/
def busAccess (a n : Nat) : Bool := (n == 1 || n == 2 || n == 4 || n == 8) && decide (a + n ≤ 2 ^ 40)

/-- A range of one page of the buffer. -/
def pageRange (a n : Nat) : Bool := decide (1 ≤ n) && decide (a % 4096 + n ≤ 4096) && decide (a + n ≤ 2 ^ 35)

/-- The data of a write has its length. -/
def dataFits (n : Nat) : Option Bytes → Bool
  | none => true
  | some bs => bs.length == n

/-- A TOFS: 22 bits, signed. -/
def tofsFits (v : Int) : Bool := decide (-2097152 ≤ v) && decide (v ≤ 2097151)

/-- Whether a command is well-formed. -/
def Instr.wf (i : Instr) : Bool :=
  match i with
  | .sqTailDoorbell _ _ _ => true
  | .cqHeadDoorbell _ _ _ => true
  | .shadowDoorbellPoll _ _ _ _ => true
  | .commandFetch _ _ entry => decide (entry.length = 64)
  | .configRequest _ _ => true
  | .linkTrainingStart _ => true
  | .linkDown _ _ => true
  | .functionLevelReset _ => true
  | .controllerEnableClear _ => true
  | .nvmSubsystemReset => true
  | .shutdownNotification _ _ => true
  | .vfConfigWrite _ _ _ => true
  | .ptmDialogue _ _ => true
  | .hifFnResWrite _ _ _ => true
  | .hifFnTagWrite _ _ _ => true
  | .hifLinkCfgWrite _ _ => true
  | .hifSriovWrite _ _ => true
  | .linkUp _ speed width => decide (1 ≤ speed) && decide (1 ≤ width)
  | .pcieUncorrectableError => true
  | .controllerEnable _ _ _ => true
  | .interruptCoalescingTimeout _ v => decide (v < 2048)
  | .deleteIoSq _ => true
  | .createIoSq _ => true
  | .deleteIoCq _ => true
  | .createIoCq _ => true
  | .getLogPage _ _ _ => true
  | .identify _ _ _ => true
  | .abortCommand _ => true
  | .setFeatures _ _ => true
  | .getFeatures _ _ => true
  | .asyncEventRequest _ => true
  | .namespaceManagement _ _ _ _ => true
  | .namespaceAttachment _ _ => true
  | .firmwareCommit _ => true
  | .fwActivationTimeout => true
  | .firmwareImageDownload _ data => decide (data.length % 4 = 0)
  | .deviceSelfTest _ _ => true
  | .virtualizationManagement _ => true
  | .nvmeMiSend _ _ => true
  | .nvmeMiReceive _ _ => true
  | .doorbellBufferConfig _ => true
  | .formatNvm _ _ => true
  | .securitySend _ _ => true
  | .securityReceive _ _ _ => true
  | .sanitize _ => true
  | .unsupportedOpcode _ => true
  | .flush _ => true
  | .write _ _ => true
  | .read _ _ _ => true
  | .writeZeroes _ _ => true
  | .datasetManagement _ => true
  | .verify _ _ => true
  | .zoneClose _ => true
  | .zoneFinish _ => true
  | .zoneOpen _ => true
  | .zoneReset _ _ _ => true
  | .zoneOffline _ => true
  | .reportZones _ _ => true
  | .zoneAppend _ _ => true
  | .zoneAudit _ _ _ _ => true
  | .admitOp _ _ _ => true
  | .xferIn _ _ _ => true
  | .xferInComplete _ data _ => decide (data.length % 4096 = 0)
  | .ack _ _ _ => true
  | .post _ _ _ => true
  | .postTransferComplete _ _ => true
  | .abortOp _ _ _ => true
  | .release _ _ _ => true
  | .cmdEvqRead _ => true
  | .fetchHoldWrite _ _ => true
  | .dqTailWrite _ _ _ => true
  | .taskSend _ => true
  | .descriptorCloseUnsent _ => true
  | .statReceive _ _ => true
  | .linkReset _ _ _ => true
  | .xrdyReceive _ _ => true
  | .dataDownSend _ => true
  | .dataUpReceive _ _ => true
  | .taskPacketReceive _ _ => true
  | .taskEnter _ => true
  | .dataDownReceive _ _ => true
  | .abrtReceive _ _ => true
  | .waitTimeout _ => true
  | .safeGap _ => true
  | .endTimeout _ => true
  | .mqStoreParityError _ => true
  | .timelineHit _ => true
  | .parityReady _ => true
  | .rebuildEnd _ => true
  | .tsqRunWrite _ _ _ => true
  | .tsqResume _ _ => true
  | .csCheck _ _ => true
  | .csCheckEnd _ => true
  | .controlStoreWrite _ _ _ _ => true
  | .tsqAttach _ _ _ => true
  | .tsqEnvWrite _ _ _ => true
  | .microwordIssue _ _ => true
  | .gateIdle _ => true
  | .gateRead _ => true
  | .gateWrite _ => true
  | .wgArm _ _ => true
  | .wgDrop _ _ => true
  | .rgArm _ _ => true
  | .rgDrop _ _ => true
  | .gateDropAll _ => true
  | .rowOpen _ => true
  | .rowClose _ => true
  | .xrdySend _ _ => true
  | .dataUpSend _ _ => true
  | .statSend _ => true
  | .parityForm _ => true
  | .tbufRelease _ => true
  | .chnArm _ _ => true
  | .chnCollect _ => true
  | .chnRebuild _ => true
  | .chnLadderStep _ => true
  | .srvSetpoint _ => true
  | .srvSplit _ _ => true
  | .srvRecentre _ => true
  | .wrpCodes _ _ => true
  | .wrpAssistOff _ => true
  | .tlnWindow _ tofs => tofsFits tofs
  | .tlnWedge _ _ tofs => tofsFits tofs
  | .tlnNow _ tofs => tofsFits tofs
  | .tlnDisarm _ => true
  | .aluAdd _ _ _ _ => true
  | .aluSub _ _ _ _ => true
  | .aluAnd _ _ _ _ => true
  | .aluOr _ _ _ _ => true
  | .aluXor _ _ _ _ => true
  | .aluShiftLeft _ _ _ _ => true
  | .aluShiftRight _ _ _ _ => true
  | .aluImmediate _ _ _ => true
  | .aluAddImmediate _ _ _ _ => true
  | .aluTaskField _ _ _ => true
  | .aluNextExtension _ _ => true
  | .aluPositionValue _ _ _ => true
  | .aluCompare _ _ _ => true
  | .aluCompareImmediate _ _ _ => true
  | .cntLoadImmediate _ _ _ => true
  | .cntDecrement _ _ => true
  | .cntLoadRegister _ _ _ => true
  | .setCode _ _ => true
  | .setReason _ _ => true
  | .call _ _ => true
  | .ret _ => true
  | .windowOpening _ => true
  | .windowEnd _ => true
  | .servoWindowStart _ _ => true
  | .servoWindowEnd _ => true
  | .turnaroundEnd _ => true
  | .writeGateRise _ _ => true
  | .writeGateFall _ _ => true
  | .sideFrameSend _ _ => true
  | .writeInhibitDrop _ _ => true
  | .underrun _ _ => true
  | .hsiPcmdWrite _ _ _ => true
  | .preampTransactionStart _ => true
  | .preampTransactionEnd _ _ _ _ => true
  | .telemetryFrameReceive _ _ _ _ _ _ _ _ => true
  | .monMissing _ _ => true
  | .faultNLow _ => true
  | .asafeLow _ => true
  | .wrpModWrite _ _ _ _ => true
  | .wrpFamilyWrite _ _ _ => true
  | .readGateRise _ _ => true
  | .readGateFall _ _ _ => true
  | .acquisitionEnd _ _ _ => true
  | .taAssert _ _ => true
  | .taRelease _ _ _ _ => true
  | .taHoldLimit _ _ => true
  | .framingDecision _ _ _ _ => true
  | .rfeSpareWrite _ _ _ _ => true
  | .spareSettleEnd _ => true
  | .amplitudeDrop _ _ _ _ => true
  | .decodeEnd _ _ hard parity _ _ _ => decide (hard.length = 4116) && decide (parity < 2 ^ 4116)
  | .detSpareWrite _ _ _ => true
  | .adcTrimStep _ _ => true
  | .servoFieldDemod _ _ wid _ _ gray _ _ _ _ => decide (wid < 1024) && decide (gray < 2 ^ 24)
  | .ffRecordQueue _ => true
  | .wedgeEvaluation _ _ _ => true
  | .shockHoldEnd _ => true
  | .satTimeout _ => true
  | .headLost _ _ => true
  | .servoLost _ => true
  | .loadAcquired _ => true
  | .loadTimeout _ => true
  | .settleComplete _ => true
  | .armCmdOff _ _ => true
  | .armCmdLoad _ _ => true
  | .armCmdRetract _ _ => true
  | .armCmdDirect _ _ => true
  | .sdlFrameSend _ _ => true
  | .sdlStatusReceive _ _ => true
  | .splFrameSend _ => true
  | .splStatusReceive _ => true
  | .splModeWrite _ _ => true
  | .timelineLock _ _ => true
  | .bufferRequest _ a n data _ _ => pageRange a n && dataFits n data
  | .writeBackIssue => true
  | .writeBackComplete => true
  | .stRerun _ => true
  | .checkerSelftestEnd _ _ => true
  | .bufInit _ => true
  | .trainingEnd size ranks _ => decide (size < 8) && decide (ranks < 2)
  | .bufZero _ => true
  | .fillEnd => true
  | .scrubPage _ => true
  | .bufRetWrite _ _ _ => true
  | .bufBankRetWrite _ _ _ => true
  | .bufInjWrite _ _ => true
  | .stcEnableWrite _ _ => true
  | .cleanAll _ => true
  | .invalidateAll _ => true
  | .cleanInvAll _ => true
  | .cleanRange _ => true
  | .cleanInvRange _ => true
  | .cleanInvWay _ _ => true
  | .stcOpComplete => true
  | .stcFenceWrite _ _ => true
  | .dramTemperaturePoll _ => true
  | .program _ => true
  | .erase _ => true
  | .info _ => true
  | .remap _ => true
  | .defineRegion _ _ => true
  | .setPassword _ _ => true
  | .unlock _ _ => true
  | .lock _ _ => true
  | .keepPulseEnd _ _ => true
  | .keepCommandEnd _ => true
  | .keepWindowRead _ o n => busAccess o n && decide (o + n ≤ 0x8000000)
  | .streamStart _ => true
  | .streamStop _ n => decide (n % 32 = 0)
  | .streamEnd => true
  | .powerOnReset => true
  | .pinReset => true
  | .resetRelease _ => true
  | .bootRomStart => true
  | .bootHandoff => true
  | .recoveryWrite _ _ => true
  | .recoveryBoot => true
  | .pwrRequestWrite _ _ _ => true
  | .domainSwitchOn _ => true
  | .domainSwitchOff _ => true
  | .standbyEnter _ _ => true
  | .pclReportReceive _ _ => true
  | .pclStatusReceive _ _ => true
  | .pclReportTimeout => true
  | .brownoutAssert => true
  | .brownoutClear => true
  | .tripFrameSend => true
  | .sensorSample _ _ _ => true
  | .refTrimApply _ => true
  | .modelUpdate => true
  | .throttleDwellStep => true
  | .throttleHoldEnd => true
  | .powerCapTick => true
  | .thermalTrip => true
  | .coreStart _ _ addr => decide (addr < 0x400000) && decide (addr % 4 = 0)
  | .hubClaim _ _ => true
  | .hubComplete _ _ _ => true
  | .hubSrcWrite _ _ _ => true
  | .swiSet _ _ => true
  | .swiClear _ _ => true
  | .machineTimer _ => true
  | .accessTimeout _ _ a n v => busAccess a n && decide (v < 256 ^ n)
  | .registerWrite _ a n v => busAccess a n && decide (v < 256 ^ n)
  | .counterSatClear _ a => busAccess a 4 && decide (a % 8 = 4)
  | .counterLoRead _ a => busAccess a 4 && decide (a % 8 = 0)
  | .snapshotGo _ _ => true
  | .snapshotCapture => true
  | .watchdogKick _ _ => true
  | .wdtWarn => true
  | .watchdogReset => true
  | .wdtCtrlWrite _ _ => true
  | .consoleWrite _ _ => true
  | .consoleCharSend => true
  | .keyLoad _ _ => true
  | .keyGen _ _ => true
  | .keyWrap _ _ => true
  | .keyUnwrap _ _ => true
  | .keyErase _ _ => true
  | .keyCommandRun => true
  | .katEnd _ => true
  | .rngHealthFail => true
  | .rngRead _ => true
  | .memoryTestGo _ => true
  | .memoryTestEnd _ _ => true
  | .loopbackGo _ _ => true
  | .loopbackEnd xs => xs.all (fun x => decide (x.1 < 26))
  | .refCheckGo _ _ => true
  | .refCheckEnd _ _ => true
  | .friezeRecordWrite => true
  | .frzPost _ _ => true
  | .frzClear _ => true
  | .frzFreezeFw _ _ => true
  | .traceMessageSend _ => true
  | .traceSync => true
  | .trcFwWrite _ _ => true
  | .traceMessageOut => true
  | .miReadDataStructure _ _ => true
  | .miSubsystemHealthPoll => true
  | .miConfigurationGet => true
  | .miConfigurationSet _ _ => true
  | .miControllerHealthPoll req => decide (req.length ≤ 2048)
  | .miVpdRead req => decide (req.length ≤ 2048)
  | .miVpdWrite req => decide (req.length ≤ 2048)
  | .miReset req => decide (req.length ≤ 2048)
  | .miAdminTunnel req => decide (req.length ≤ 2048)
  | .unitStateGet => true
  | .unitStateSet u code => decide (u < 256) && decide (code < 256)
  | .friezeRead _ _ => true
  | .friezeFreeze _ => true
  | .fleetBudget _ _ => true
  | .fleetIdentitySet _ => true
  | .miUnsupportedCommand => true
  | .mailboxDone _ _ => true
  | .mailboxTimeout => true
  | .unitStateDisagree _ => true
  | .fleetSyncMark _ => true
  | .fleetSyncFrame _ => true
  | .timeSlewStep => true
  | .timeLockLoss => true

end Sys2Proof
end

