-- ==== Sys2Proof/Certificates/Slice0/Obligations.lean ====
section
/-! DEFINITION. The statements for the provers: what each command does and leaves, what every step keeps, what reset leaves.
`Ends i s P` says that running command `i` at state `s` answers a next state with the same waiting commands and a machine that
meets `P`: a command that does not complete makes it false. -/

open Sys2Proof Sys2Proof.Machine

/-- R456, R457, R463, R467, R450, Table FRZ-5: what each out-of-band management command answers and changes, and the mailbox
that holds one command for firmware. The encoding of CTEMP, the SMBus frequency codes and the offset operand of Read MI Data
Structure rest on log entry 33. -/
def Obligations.ManagementCommandsAndMailbox : Prop :=
  (∀ (q : List Instr) (d : Dev) (off len v : Nat) (unit freeze : Bool) (assist : Byte) (seek : SeekNo) (id : NodeNo),
     let said (st : MiStatus) (data : List Byte) (e : Dev) : Prop := e.mgt.answer = ⟨st, data⟩ ∧ e.mgt.answers = d.mgt.answers + 1
     let quiet (e : Dev) : Prop := e.plat = d.plat ∧ e.mgt.mbox = d.mgt.mbox ∧ e.mgt.held = d.mgt.held
     (d.plat.miOn = false → ∀ i ∈ [Instr.miReadDataStructure off len, .miSubsystemHealthPoll, .miConfigurationGet,
         .miConfigurationSet unit v, .unitStateGet, .friezeRead off len, .friezeFreeze freeze, .fleetBudget assist seek,
         .fleetIdentitySet id, .miUnsupportedCommand], Ends i ⟨q, d⟩ (fun e => e = d)) ∧
     (d.plat.miOn = true →
       (off + len ≤ 0x1000 → Ends (.miReadDataStructure off len) ⟨q, d⟩ (fun e =>
         said .success (SMap.bytes zeroByte d.mgt.mbox (0x1000 + off % 0x1000) (min len (0x1000 - off % 0x1000))) e ∧ quiet e)) ∧
       (d.plat.standby = false → Ends .miSubsystemHealthPoll ⟨q, d⟩ (fun e =>
         said .success [BitVec.ofNat 8 (d.plat.fld Reg.MGT_HEALTH Fld.MGT_HEALTH_NSS),
           BitVec.ofNat 8 (d.plat.fld Reg.MGT_HEALTH Fld.MGT_HEALTH_CWARN), d.plat.ctemp,
           BitVec.ofNat 8 (d.plat.fld Reg.MGT_HEALTH Fld.MGT_HEALTH_PDLU)] e ∧ quiet e)) ∧
       Ends .miConfigurationGet ⟨q, d⟩ (fun e => said .success (le2 d.mgt.smbFreq ++ le2 d.mgt.mctpUnit) e ∧ quiet e) ∧
       Ends (.miConfigurationSet unit v) ⟨q, d⟩ (fun e => quiet e ∧
         (unit = true → v = 64 → said .success [] e ∧ e.mgt.mctpUnit = 64 ∧ e.mgt.smbFreq = d.mgt.smbFreq) ∧
         (unit = false → 1 ≤ v → v ≤ 3 → said .success [] e ∧ e.mgt.smbFreq = v ∧ e.mgt.mctpUnit = d.mgt.mctpUnit) ∧
         (¬ (if unit then v = 64 else 1 ≤ v ∧ v ≤ 3) →
           said .invalidParameter [] e ∧ e.mgt.smbFreq = d.mgt.smbFreq ∧ e.mgt.mctpUnit = d.mgt.mctpUnit)) ∧
       Ends .unitStateGet ⟨q, d⟩ (fun e =>
         said .success ((List.range 36).flatMap (fun u => le4 (d.plat.rd (Reg.MGT_US u)).toNat)) e ∧ quiet e) ∧
       Ends (.friezeRead off len) ⟨q, d⟩ (fun e => quiet e ∧ e.mgt.answer.status = .success ∧
         e.mgt.answer.data.length = min len 0x80000 ∧
         ∀ i, i < min len 0x80000 → e.mgt.answer.data[i]? =
           some (if off + i < d.plat.wptr then SMap.get zeroByte d.plat.frz.log (off + i) else 0)) ∧
       Ends (.friezeFreeze freeze) ⟨q, d⟩ (fun e => said .success [] e ∧
         e.plat.bit Reg.FRZ_CTRL Fld.FRZ_CTRL_FREEZE_MI = freeze ∧
         e.plat.bit Reg.FRZ_CTRL Fld.FRZ_CTRL_FREEZE_FW = d.plat.bit Reg.FRZ_CTRL Fld.FRZ_CTRL_FREEZE_FW ∧
         e.plat.frozen = (d.plat.bit Reg.FRZ_CTRL Fld.FRZ_CTRL_FREEZE_FW || freeze) ∧
         d.plat.keeps e.plat [Reg.FRZ_CTRL, Reg.FRZ_STATUS]) ∧
       Ends (.fleetBudget assist seek) ⟨q, d⟩ (fun e => said .success [] e ∧
         e.plat.fld Reg.MGT_BUDGET Fld.MGT_BUDGET_ASSIST = assist.toNat ∧ e.plat.fld Reg.MGT_BUDGET Fld.MGT_BUDGET_SEEK = seek ∧
         e.plat.bit Reg.MGT_EVT Fld.MGT_EVT_BUDGET = true ∧ d.plat.keeps e.plat [Reg.MGT_BUDGET, Reg.MGT_EVT]) ∧
       Ends (.fleetIdentitySet id) ⟨q, d⟩ (fun e => said .success [] e ∧
         e.plat.fld Reg.MGT_NODE Fld.MGT_NODE_ID = id ∧ d.plat.keeps e.plat [Reg.MGT_NODE]) ∧
       Ends .miUnsupportedCommand ⟨q, d⟩ (fun e => said .invalidOpcode [] e ∧ quiet e))) ∧
  (∀ (q : List Instr) (d : Dev) (c : CoreNo) (req : Bytes) (len : RspLen),
     let cmds : List Instr := [.miControllerHealthPoll req, .miVpdRead req, .miVpdWrite req, .miReset req, .miAdminTunnel req]
     let answered (st : MiStatus) (data : List Byte) (e : Dev) : Prop :=
       e.mgt.answer = ⟨st, data⟩ ∧ e.mgt.answers = d.mgt.answers + 1 ∧
       (d.mgt.waiting = [] → e.mgt.held = false ∧ e.plat.asserted 117 = false) ∧
       (∀ r rs, d.mgt.waiting = r :: rs → r ≠ [] → r.length ≤ 2048 →
         e.mgt.held = true ∧ e.mgt.waiting = rs ∧ SMap.bytes zeroByte e.mgt.mbox 0x1000 r.length = r ∧
         e.plat.fld Reg.MGT_MBOX Fld.MGT_MBOX_REQ_LEN = r.length) ∧
       d.plat.keeps e.plat [Reg.MGT_MBOX]
     (d.plat.miOn = true → d.plat.standby = false → d.inRecovery = false → ∀ i ∈ cmds, i.wf = true →
       (d.mgt.held = false → Ends i ⟨q, d⟩ (fun e =>
         e.mgt.held = true ∧ e.mgt.answers = d.mgt.answers ∧ e.plat.fld Reg.MGT_MBOX Fld.MGT_MBOX_REQ_LEN = req.length ∧
         SMap.bytes zeroByte e.mgt.mbox 0x1000 req.length = req ∧
         (∀ o, o < 0x1000 ∨ 0x1000 + req.length ≤ o → SMap.get zeroByte e.mgt.mbox o = SMap.get zeroByte d.mgt.mbox o) ∧
         (req ≠ [] → e.plat.asserted 117 = true) ∧ d.plat.keeps e.plat [Reg.MGT_MBOX])) ∧
       (d.mgt.held = true → Ends i ⟨q, d⟩ (fun e => e = { d with mgt := { d.mgt with waiting := d.mgt.waiting ++ [req] } }))) ∧
     (d.plat.miOn = true → d.plat.standby = true ∨ d.inRecovery = true → ∀ i ∈ cmds, Ends i ⟨q, d⟩ (fun e =>
       e.mgt.answer = ⟨.internalError, []⟩ ∧ e.mgt.answers = d.mgt.answers + 1 ∧ e.plat = d.plat ∧ e.mgt.mbox = d.mgt.mbox)) ∧
     (d.mgt.held = true → d.powered Reg.MGT_MBOX → Ends (.mailboxDone c len) ⟨q, d⟩
       (answered .success (SMap.bytes zeroByte d.mgt.mbox 0x1800 (min len 2048)))) ∧
     (d.mgt.held = true → Ends .mailboxTimeout ⟨q, d⟩ (answered .internalError [])) ∧
     (d.mgt.held = false → d.powered Reg.MGT_MBOX → Ends (.mailboxDone c len) ⟨q, d⟩ (fun e => e = d)))

/-- R460, with R462: a Unit State Set that Table FRZ-6 does not permit, an accepted one, the requested field at and after
every reset, and the disagreement of a unit whose fields differ. -/
def Obligations.UnitStateRequestsAndSurvival : Prop :=
  ∀ (q : List Instr) (d : Dev) (u : UnitNo) (code : Nat) (c : CtlNo),
    (d.plat.miOn = true → unitCodeOk u code = false → Ends (.unitStateSet u code) ⟨q, d⟩ (fun e =>
      e = { d with mgt := { d.mgt with answer := ⟨.invalidParameter, []⟩, answers := d.mgt.answers + 1 } })) ∧
    (d.plat.miOn = true → unitCodeOk u code = true → Ends (.unitStateSet u code) ⟨q, d⟩ (fun e =>
      e.mgt.answer = ⟨.success, []⟩ ∧ e.plat.fld (Reg.MGT_US u) Fld.MGT_US_REQ = code ∧
      e.plat.fld (Reg.MGT_US u) Fld.MGT_US_EFF = d.plat.fld (Reg.MGT_US u) Fld.MGT_US_EFF ∧
      e.plat.bit Reg.MGT_EVT Fld.MGT_EVT_REQ = true ∧
      d.plat.posted e.plat 112 0x000C [BitVec.ofNat 8 u, BitVec.ofNat 8 code,
        BitVec.ofNat 8 (d.plat.fld (Reg.MGT_US u) Fld.MGT_US_EFF), 0] ∧
      d.plat.keeps e.plat ([Reg.MGT_US u, Reg.MGT_EVT] ++ postRegs))) ∧
    State.reset.dev.plat.fld (Reg.MGT_US u) Fld.MGT_US_REQ = 1 ∧
    Ends .powerOnReset ⟨q, d⟩ (fun e => e.plat.fld (Reg.MGT_US u) Fld.MGT_US_REQ = 1) ∧
    (∀ i ∈ [Instr.pinReset, .nvmSubsystemReset, .functionLevelReset c, .controllerEnableClear c], Ends i ⟨q, d⟩ (fun e =>
      e.plat.fld (Reg.MGT_US u) Fld.MGT_US_REQ = d.plat.fld (Reg.MGT_US u) Fld.MGT_US_REQ)) ∧
    (d.plat.bit Reg.SYS_WDT_CTRL Fld.SYS_WDT_CTRL_EN = true → d.plat.fld Reg.SYS_WDT_STAT Fld.SYS_WDT_STAT_STAGE = 2 →
      Ends .watchdogReset ⟨q, d⟩ (fun e =>
        e.plat.fld (Reg.MGT_US u) Fld.MGT_US_REQ = d.plat.fld (Reg.MGT_US u) Fld.MGT_US_REQ)) ∧
    (d.plat.bit Reg.MGT_US_CFG Fld.MGT_US_CFG_ARM = true → d.plat.bit (Reg.MGT_US u) Fld.MGT_US_DIS = false →
      d.plat.fld (Reg.MGT_US u) Fld.MGT_US_REQ ≠ d.plat.fld (Reg.MGT_US u) Fld.MGT_US_EFF →
      Ends (.unitStateDisagree u) ⟨q, d⟩ (fun e =>
        e.plat.bit (Reg.MGT_US u) Fld.MGT_US_DIS = true ∧ e.plat.bit Reg.MGT_EVT Fld.MGT_EVT_DISAGREE = true ∧
        d.plat.posted e.plat 114 0x000C [BitVec.ofNat 8 u, BitVec.ofNat 8 (d.plat.fld (Reg.MGT_US u) Fld.MGT_US_REQ),
          BitVec.ofNat 8 (d.plat.fld (Reg.MGT_US u) Fld.MGT_US_EFF), 1] ∧
        d.plat.keeps e.plat ([Reg.MGT_US u, Reg.MGT_EVT] ++ postRegs)))

/-- R464, R465, R466: the sync mark, the frame that follows it, the PTM dialogue, the step or slew they cause, each slew
step, the loss of lock. -/
def Obligations.FleetTimeStepsAndSlews : Prop :=
  ∀ (q : List Instr) (d : Dev) (ns w l m : Nat) (chars : Bytes),
    let step : Int := (d.plat.fld Reg.MGT_TIME_CFG Fld.MGT_TIME_CFG_STEP : Int) * 100000
    let applied (w l : Nat) (e : Dev) : Prop :=
      e.plat.bit Reg.MGT_TIME_STAT Fld.MGT_TIME_STAT_LOCKED = true ∧
      (step < (w : Int) - l → e.plat.time = d.plat.time + BitVec.ofInt 64 ((w : Int) - l) ∧ e.mgt.rem = 0 ∧
        e.plat.bit Reg.MGT_EVT Fld.MGT_EVT_TIME = true ∧ d.plat.keeps e.plat ([Reg.MGT_TIME_STAT, Reg.MGT_EVT] ++ postRegs)) ∧
      ((w : Int) - l ≤ step → e.plat.time = d.plat.time ∧ e.mgt.rem = (w : Int) - l ∧
        d.plat.keeps e.plat [Reg.MGT_TIME_STAT])
    (8000 ≤ ns → ns ≤ 12000 → Ends (.fleetSyncMark ns) ⟨q, d⟩ (fun e =>
      e = { d with mgt := { d.mgt with prevMark := d.mgt.mark, mark := some d.plat.time.toNat } })) ∧
    (¬ (8000 ≤ ns ∧ ns ≤ 12000) → Ends (.fleetSyncMark ns) ⟨q, d⟩ (fun e =>
      e.plat.fld Reg.MGT_TIME_STAT Fld.MGT_TIME_STAT_BAD = min 127 (d.plat.fld Reg.MGT_TIME_STAT Fld.MGT_TIME_STAT_BAD + 1) ∧
      d.plat.keeps e.plat [Reg.MGT_TIME_STAT] ∧ e.mgt = d.mgt)) ∧
    (d.plat.fld Reg.MGT_TIME_CFG Fld.MGT_TIME_CFG_SRC = 1 → d.mgt.mark = some l → d.mgt.prevMark = some m → l - m ≤ 1001000000 →
      (999000000 ≤ l - m → chars.length = 9 → crc8 (chars.take 8) = leNat (chars.drop 8) → leNat (chars.take 8) = w →
        Ends (.fleetSyncFrame chars) ⟨q, d⟩ (applied w l)) ∧
      (l - m < 999000000 ∨ chars.length ≠ 9 ∨ crc8 (chars.take 8) ≠ leNat (chars.drop 8) →
        Ends (.fleetSyncFrame chars) ⟨q, d⟩ (fun e =>
          e.plat.fld Reg.MGT_TIME_STAT Fld.MGT_TIME_STAT_BAD = min 127 (d.plat.fld Reg.MGT_TIME_STAT Fld.MGT_TIME_STAT_BAD + 1) ∧
          e.mgt = d.mgt ∧ d.plat.keeps e.plat [Reg.MGT_TIME_STAT] ∧ e.plat.time = d.plat.time))) ∧
    (d.plat.fld Reg.MGT_TIME_CFG Fld.MGT_TIME_CFG_SRC = 2 → d.plat.bit (Reg.HIF_LINK_STAT 0) Fld.HIF_LINK_STAT_DL_UP = true →
      Ends (.ptmDialogue w l) ⟨q, d⟩ (applied w l)) ∧
    (0 < d.mgt.rem → Ends .timeSlewStep ⟨q, d⟩ (fun e =>
      e.plat.time = d.plat.time + 41 ∧ e.mgt = { d.mgt with rem := d.mgt.rem - 1 })) ∧
    (d.mgt.rem < 0 → Ends .timeSlewStep ⟨q, d⟩ (fun e =>
      e.plat.time = d.plat.time + 39 ∧ e.mgt = { d.mgt with rem := d.mgt.rem + 1 })) ∧
    (d.mgt.rem = 0 → Ends .timeSlewStep ⟨q, d⟩ (fun e => e = d)) ∧
    (d.plat.bit Reg.MGT_TIME_STAT Fld.MGT_TIME_STAT_LOCKED = true → Ends .timeLockLoss ⟨q, d⟩ (fun e =>
      e.plat.bit Reg.MGT_TIME_STAT Fld.MGT_TIME_STAT_LOCKED = false ∧ e.plat.bit Reg.MGT_EVT Fld.MGT_EVT_TIME = true ∧
      e.mgt = { d.mgt with rem := 0 } ∧ d.plat.keeps e.plat [Reg.MGT_TIME_STAT, Reg.MGT_EVT] ∧ e.plat.time = d.plat.time))

/-- R426, Tables SEC-1 and SEC-2; with it R427, R429 and R430. GEN draws its key from the free value of the machine: log
entry 4. -/
def Obligations.KeyCommandsEndWithResult : Prop :=
  (∀ (s : State) (c : CoreNo) (k : SlotNo),
     s.dev.plat.on (domainOf Reg.SEC_KEY_CMD) = true →
     s.dev.plat.bit Reg.SEC_KEY_STAT Fld.SEC_KEY_STAT_BUSY = false →
     s.dev.sec.inUse k = false →
     let d := s.dev
     let ended (res : Nat) (e : Dev) : Prop :=
       e.plat.fld Reg.SEC_KEY_STAT Fld.SEC_KEY_STAT_RESULT = res ∧ e.plat.bit Reg.SEC_KEY_STAT Fld.SEC_KEY_STAT_BUSY = false ∧
       e.plat.bit Reg.SEC_EVT Fld.SEC_EVT_KEY_DONE = true ∧ d.plat.keeps e.plat (keyRegs k) ∧
       (∀ j : SlotNo, j ≠ k → e.sec.key j = d.sec.key j ∧ e.plat.slotLoaded j = d.plat.slotLoaded j)
     let holds (key : Nat) (e : Dev) : Prop := e.sec.key k = key ∧ e.plat.slotLoaded k = true
     let unchanged (e : Dev) : Prop := e.sec.key k = d.sec.key k ∧ e.plat.slotLoaded k = d.plat.slotLoaded k
     let staged : Nat := numOf (d.plat.stgBytes 16)
     let equal (key : Nat) : Prop := key % 2 ^ 256 = key / 2 ^ 256 % 2 ^ 256
     Ends (.keyLoad c k) s (fun e =>
       (equal staged → ended 1 e ∧ unchanged e) ∧ (¬ equal staged → ended 0 e ∧ holds staged e)) ∧
     Ends (.keyGen c k) s (fun e =>
       (d.sec.rngFail = true → ended 3 e ∧ unchanged e) ∧
       (d.sec.rngFail = false → ended 0 e ∧ holds (d.plat.freeVal % 2 ^ 512) e)) ∧
     Ends (.keyWrap c k) s (fun e =>
       unchanged e ∧ (d.plat.slotLoaded k = false → ended 4 e) ∧
       (d.plat.slotLoaded k = true → ended 0 e ∧ ∀ w, w < 18 →
         e.plat.rd (Reg.SEC_KEYSTG w) =
           BitVec.ofNat 32 (numOf (((kwWrap rootKey (leNats 64 (d.sec.key k))).drop (4 * w)).take 4)))) ∧
     Ends (.keyUnwrap c k) s (fun e =>
       match kwUnwrap rootKey (d.plat.stgBytes 18) with
       | none => ended 2 e ∧ unchanged e
       | some bs => (equal (numOf bs) → ended 1 e ∧ unchanged e) ∧ (¬ equal (numOf bs) → ended 0 e ∧ holds (numOf bs) e)) ∧
     (∀ i ∈ [Instr.keyLoad c k, .keyGen c k, .keyUnwrap c k, .keyErase c k], Ends i s (fun e =>
       ∀ w, w < 18 → e.plat.rd (Reg.SEC_KEYSTG w) = 0)) ∧
     Ends (.keyErase c k) s (fun e => ended 0 e ∧ e.sec.key k = 0 ∧ e.plat.slotLoaded k = false)) ∧
  (∀ (q : List Instr) (d : Dev) (c : CoreNo) (k : SlotNo),
     let cmds : List (Nat × Instr) := [(1, .keyLoad c k), (2, .keyGen c k), (3, .keyWrap c k), (4, .keyUnwrap c k), (5, .keyErase c k)]
     let runs (op : Nat) (e : Dev) : Prop :=
       e.plat.bit Reg.SEC_KEY_STAT Fld.SEC_KEY_STAT_BUSY = false ∧ e.plat.bit Reg.SEC_EVT Fld.SEC_EVT_KEY_DONE = true ∧ e.sec.wait = none ∧
         e.sec.xfers = d.sec.xfers ∧ d.plat.keeps e.plat (keyRegs k) ∧
         (op = 5 → e.sec.key k = 0 ∧ e.plat.slotLoaded k = false)
     (d.powered Reg.SEC_KEY_CMD → ∀ x ∈ cmds,
       (d.plat.bit Reg.SEC_KEY_STAT Fld.SEC_KEY_STAT_BUSY = true →
         Ends x.2 ⟨q, d⟩ (fun e => e = { d with plat := d.plat.setFlag Reg.SEC_EVT Fld.SEC_EVT_KEY_REFUSED })) ∧
       (d.plat.bit Reg.SEC_KEY_STAT Fld.SEC_KEY_STAT_BUSY = false → d.sec.inUse k = true →
         Ends x.2 ⟨q, d⟩ (fun e => e.plat.bit Reg.SEC_KEY_STAT Fld.SEC_KEY_STAT_BUSY = true ∧ e.sec = { d.sec with wait := some (x.1, k.val) } ∧
           d.plat.keeps e.plat [Reg.SEC_KEY_STAT]))) ∧
     (∀ op, d.sec.wait = some (op, k.val) →
       (d.sec.inUse k = false → Ends .keyCommandRun ⟨q, d⟩ (runs op)) ∧ (d.sec.inUse k = true → Ends .keyCommandRun ⟨q, d⟩ (fun e => e = d))) ∧
     Ends .rngHealthFail ⟨q, d⟩ (fun e =>
       e.plat.bit Reg.SEC_EVT Fld.SEC_EVT_RNG_FAIL = true ∧ e.plat.bit Reg.SEC_RNG_STAT Fld.SEC_RNG_STAT_VALID = false ∧
       e.sec = { d.sec with rngFail := true } ∧ d.plat.keeps e.plat [Reg.SEC_EVT, Reg.SEC_RNG_STAT]) ∧
     (∀ failed : Bool, Ends (.katEnd failed) ⟨q, d⟩ (fun e =>
       e.plat.bit Reg.SEC_STATUS Fld.SEC_STATUS_READY = true ∧ e.plat.bit Reg.SEC_RNG_STAT Fld.SEC_RNG_STAT_VALID = !d.sec.rngFail ∧
       e.plat.bit Reg.SEC_STATUS Fld.SEC_STATUS_KAT_FAIL = (failed || d.plat.bit Reg.SEC_STATUS Fld.SEC_STATUS_KAT_FAIL) ∧
       e.plat.bit Reg.SEC_EVT Fld.SEC_EVT_KAT_FAIL = (failed || d.plat.bit Reg.SEC_EVT Fld.SEC_EVT_KAT_FAIL) ∧
       d.plat.keeps e.plat [Reg.SEC_STATUS, Reg.SEC_RNG_STAT, Reg.SEC_EVT])) ∧
     (d.powered Reg.SEC_RNG → Ends (.rngRead c) ⟨q, d⟩ (fun e =>
       (d.sec.rngFail = true → e = { d with plat := { d.plat with resp := 0 } }) ∧
       (d.sec.rngFail = false →
         e = { d with plat := { d.plat with resp := BitVec.ofNat 32 (Config.freeBits d.plat.free), free := d.plat.free + 1 } }))))

/-- R382, R383, R384, R385, R386, R387: the start of a core, the Interrupt Hub's claim, completion and source registers, the
software interrupt bits, the machine timer. -/
def Obligations.CoresStartAndHubServesSources : Prop :=
  (∀ (q : List Instr) (d : Dev) (c k : CoreNo) (i : SourceNo) (addr : Nat) (v : Word),
     (d.powered Reg.SYS_CORE_START → (Instr.coreStart c k addr).wf = true →
       (k ≠ 0 → (d.plat.fld Reg.SYS_CORE_STAT Fld.SYS_CORE_STAT_RUNNING).testBit k = false →
         Ends (.coreStart c k addr) ⟨q, d⟩ (fun e =>
           (e.plat.fld Reg.SYS_CORE_STAT Fld.SYS_CORE_STAT_RUNNING).testBit k = true ∧
           e.sys.core k = { d.sys.core k with
             pc := BitVec.ofNat 40 (0x20000000 + addr), mmode := true, a0 := BitVec.ofNat 64 k, a1 := (d.sys.core 0).a1,
             a2 := (d.sys.core 0).a2 } ∧
           (∀ j, j ≠ k.val → e.sys.core j = d.sys.core j) ∧ d.plat.keeps e.plat [Reg.SYS_CORE_STAT])) ∧
       (k = 0 ∨ (d.plat.fld Reg.SYS_CORE_STAT Fld.SYS_CORE_STAT_RUNNING).testBit k = true →
         Ends (.coreStart c k addr) ⟨q, d⟩ (fun e => e = { d with plat := d.plat.setFlag Reg.SYS_EVT Fld.SYS_EVT_START_REFUSED }))) ∧
     (d.powered (Reg.HUB_COMPLETE k) →
       (d.plat.bit (Reg.HUB_SRC i) Fld.HUB_SRC_INSVC = true ∧ SMap.get (fun _ => 0) d.sys.claimant i = k.val →
         Ends (.hubComplete c k i) ⟨q, d⟩ (fun e =>
           e.plat.bit (Reg.HUB_SRC i) Fld.HUB_SRC_INSVC = false ∧ e.plat.pendingSrc i = e.plat.asserted i ∧
           e.plat.bit (Reg.HUB_SRC i) Fld.HUB_SRC_EN = d.plat.bit (Reg.HUB_SRC i) Fld.HUB_SRC_EN ∧
           d.plat.keeps e.plat [Reg.HUB_SRC i])) ∧
       (¬ (d.plat.bit (Reg.HUB_SRC i) Fld.HUB_SRC_INSVC = true ∧ SMap.get (fun _ => 0) d.sys.claimant i = k.val) →
         Ends (.hubComplete c k i) ⟨q, d⟩ (fun e => e = d))) ∧
     (d.powered (Reg.HUB_SRC i) → Ends (.hubSrcWrite c i v) ⟨q, d⟩ (fun e =>
       e.plat.fld (Reg.HUB_SRC i) Fld.HUB_SRC_EN = Fld.get Fld.HUB_SRC_EN v ∧
       e.plat.fld (Reg.HUB_SRC i) Fld.HUB_SRC_PRIO = Fld.get Fld.HUB_SRC_PRIO v ∧
       e.plat.fld (Reg.HUB_SRC i) Fld.HUB_SRC_TARGET = Fld.get Fld.HUB_SRC_TARGET v ∧
       e.plat.fld (Reg.HUB_SRC i) Fld.HUB_SRC_INSVC = d.plat.fld (Reg.HUB_SRC i) Fld.HUB_SRC_INSVC ∧
       d.plat.keeps e.plat [Reg.HUB_SRC i])) ∧
     Ends (.machineTimer k) ⟨q, d⟩ (fun e =>
       (e.sys.core k).mtip = decide (d.plat.mtimecmp k ≤ d.plat.time.toNat) ∧ (e.sys.core k).pc = (d.sys.core k).pc ∧
       (∀ j, j ≠ k.val → e.sys.core j = d.sys.core j) ∧ e.plat = d.plat)) ∧
  (∀ (q : List Instr) (d : Dev) (c : CoreNo) (v : Word) (j : Fin 32),
     (d.powered Reg.HUB_SWI_SET → Ends (.swiSet c v) ⟨q, d⟩ (fun e =>
       e.plat.asserted (224 + j) = (d.plat.asserted (224 + j) || v.getLsbD j) ∧ d.plat.keeps e.plat [Reg.HUB_SWI])) ∧
     (d.powered Reg.HUB_SWI_CLR → Ends (.swiClear c v) ⟨q, d⟩ (fun e =>
       e.plat.asserted (224 + j) = (d.plat.asserted (224 + j) && !v.getLsbD j) ∧ d.plat.keeps e.plat [Reg.HUB_SWI]))) ∧
  (∀ (q : List Instr) (d : Dev) (c k : CoreNo), d.powered (Reg.HUB_CLAIM k) →
     ((∀ i : SourceNo, d.plat.qualifies k i = false) →
       Ends (.hubClaim c k) ⟨q, d⟩ (fun e => e = { d with plat := { d.plat with resp := 0 } })) ∧
     ((∃ i : SourceNo, d.plat.qualifies k i = true) → ∃ i : SourceNo,
       d.plat.qualifies k i = true ∧
       (∀ j : SourceNo, d.plat.qualifies k j = true →
         d.plat.fld (Reg.HUB_SRC j) Fld.HUB_SRC_PRIO < d.plat.fld (Reg.HUB_SRC i) Fld.HUB_SRC_PRIO ∨
         (d.plat.fld (Reg.HUB_SRC j) Fld.HUB_SRC_PRIO = d.plat.fld (Reg.HUB_SRC i) Fld.HUB_SRC_PRIO ∧ i ≤ j)) ∧
       Ends (.hubClaim c k) ⟨q, d⟩ (fun e =>
         e.plat.resp = BitVec.ofNat 32 (2 ^ 31 + i) ∧ e.plat.bit (Reg.HUB_SRC i) Fld.HUB_SRC_INSVC = true ∧
         e.plat.pendingSrc i = false ∧ SMap.get (fun _ => 0) e.sys.claimant i = k.val ∧ d.plat.keeps e.plat [Reg.HUB_SRC i])))

/-- R394, R395, R396, R397, R398, R399, R514: the watchdog's kick, warning, reset and control, the console FIFO, the
counters' reads and clears, the snapshot. A key of SYS_WDT_KICK is an operand. -/
def Obligations.WatchdogConsoleAndCounters : Prop :=
  (∀ (q : List Instr) (d : Dev) (c : CoreNo) (key : HalfWord) (v : Word) (ch : Byte),
     let t1 : Nat := atLeast1 (d.plat.fld Reg.SYS_WDT_CTRL Fld.SYS_WDT_CTRL_T1)
     (d.powered Reg.SYS_WDT_KICK →
       (key.val = 0xC3A5 → d.plat.bit Reg.SYS_WDT_CTRL Fld.SYS_WDT_CTRL_EN = true → Ends (.watchdogKick c key) ⟨q, d⟩ (fun e =>
         e.plat.fld Reg.SYS_WDT_STAT Fld.SYS_WDT_STAT_STAGE = 1 ∧ e.plat.fld Reg.SYS_WDT_STAT Fld.SYS_WDT_STAT_REMAIN = t1 ∧
         e.plat.fld Reg.SYS_WDT_STAT Fld.SYS_WDT_STAT_WARN = d.plat.fld Reg.SYS_WDT_STAT Fld.SYS_WDT_STAT_WARN ∧
         e.sys.wdtT1 = t1 ∧ e.sys.wdtNs = 0 ∧ d.plat.keeps e.plat [Reg.SYS_WDT_STAT])) ∧
       (key.val ≠ 0xC3A5 → Ends (.watchdogKick c key) ⟨q, d⟩ (fun e =>
         e = { d with plat := d.plat.setFlag Reg.SYS_WDT_STAT Fld.SYS_WDT_STAT_BADKEY }))) ∧
     (d.plat.bit Reg.SYS_WDT_CTRL Fld.SYS_WDT_CTRL_EN = true → d.plat.fld Reg.SYS_WDT_STAT Fld.SYS_WDT_STAT_STAGE = 1 →
       Ends .wdtWarn ⟨q, d⟩ (fun e =>
         e.plat.bit Reg.SYS_WDT_STAT Fld.SYS_WDT_STAT_WARN = true ∧ e.plat.asserted 0 = true ∧
         e.plat.fld Reg.SYS_WDT_STAT Fld.SYS_WDT_STAT_STAGE = 2 ∧ d.plat.posted e.plat 0 0x0009 [] ∧
         d.plat.keeps e.plat (Reg.SYS_WDT_STAT :: postRegs))) ∧
     (d.plat.bit Reg.SYS_WDT_CTRL Fld.SYS_WDT_CTRL_EN = true → d.plat.fld Reg.SYS_WDT_STAT Fld.SYS_WDT_STAT_STAGE = 2 →
       Ends .watchdogReset ⟨q, d⟩ (fun e =>
         e.plat.bit Reg.SYS_RST_CAUSE Fld.SYS_RST_CAUSE_WDT = true ∧ e.sys.boot = .inReset false ∧ e.keep.cells = d.keep.cells)) ∧
     (d.powered Reg.SYS_WDT_CTRL →
       (d.plat.bit Reg.SYS_WDT_CTRL Fld.SYS_WDT_CTRL_LOCK = true → Ends (.wdtCtrlWrite c v) ⟨q, d⟩ (fun e => e = d)) ∧
       (d.plat.bit Reg.SYS_WDT_CTRL Fld.SYS_WDT_CTRL_LOCK = false → Ends (.wdtCtrlWrite c v) ⟨q, d⟩ (fun e =>
         e.plat.fld Reg.SYS_WDT_CTRL Fld.SYS_WDT_CTRL_T1 = Fld.get Fld.SYS_WDT_CTRL_T1 v ∧
         e.plat.fld Reg.SYS_WDT_CTRL Fld.SYS_WDT_CTRL_T2 = Fld.get Fld.SYS_WDT_CTRL_T2 v ∧
         e.plat.fld Reg.SYS_WDT_CTRL Fld.SYS_WDT_CTRL_EN = Fld.get Fld.SYS_WDT_CTRL_EN v ∧
         (Fld.get Fld.SYS_WDT_CTRL_EN v = 0 → e.plat.fld Reg.SYS_WDT_STAT Fld.SYS_WDT_STAT_STAGE = 0) ∧
         d.plat.keeps e.plat [Reg.SYS_WDT_CTRL, Reg.SYS_WDT_STAT]))) ∧
     (d.powered Reg.SYS_CON_TX →
       (d.sys.console.length < 64 → Ends (.consoleWrite c ch) ⟨q, d⟩ (fun e =>
         e.sys = { d.sys with console := d.sys.console ++ [ch] } ∧
         e.plat.fld Reg.SYS_CON_STAT Fld.SYS_CON_STAT_LEVEL = d.sys.console.length + 1 ∧
         d.plat.keeps e.plat [Reg.SYS_CON_STAT])) ∧
       (64 ≤ d.sys.console.length → Ends (.consoleWrite c ch) ⟨q, d⟩ (fun e =>
         e = { d with plat := d.plat.setFlag Reg.SYS_CON_STAT Fld.SYS_CON_STAT_DROP }))) ∧
     (∀ cs : List Byte, d.sys.console = ch :: cs → cs.length < 64 → Ends .consoleCharSend ⟨q, d⟩ (fun e =>
       e.sys = { d.sys with console := cs, conOut := d.sys.conOut ++ [ch] } ∧
       e.plat.fld Reg.SYS_CON_STAT Fld.SYS_CON_STAT_LEVEL = cs.length ∧ d.plat.keeps e.plat [Reg.SYS_CON_STAT]))) ∧
  (∀ (q : List Instr) (d : Dev) (c : CoreNo) (a : Nat) (r : RegDesc) (hold : Bool), regDesc a = some r →
     (r.cnt = 2 → d.powered a → Ends (.counterSatClear c a) ⟨q, d⟩ (fun e =>
       e.plat.count (a - 4) = 0 ∧ e.plat.bit a satFld = false ∧ d.plat.keeps e.plat [a - 4, a] ∧ e = { d with plat := e.plat })) ∧
     (r.cnt = 1 → d.powered a → Ends (.counterLoRead c a) ⟨q, d⟩ (fun e =>
       e.plat.resp = (if d.plat.bit Reg.TRC_SNAP Fld.TRC_SNAP_HOLD then SMap.get (fun _ => 0) d.plat.hold a else d.plat.rd a) ∧
       (∀ r2, regDesc (a + 4) = some r2 → r2.cnt = 2 → d.powered (a + 4) → e.plat.peek (a + 4) =
         (if d.plat.bit Reg.TRC_SNAP Fld.TRC_SNAP_HOLD then SMap.get (fun _ => 0) d.plat.hold (a + 4) else d.plat.rd (a + 4))) ∧
       e.plat.regs = d.plat.regs ∧ e = { d with plat := e.plat })) ∧
     (d.powered Reg.SYS_TIME_LO → Ends (.counterLoRead c Reg.SYS_TIME_LO) ⟨q, d⟩ (fun e =>
       e.plat.resp = BitVec.ofNat 32 d.plat.time.toNat ∧
       e.plat.peek Reg.SYS_TIME_HI = BitVec.ofNat 32 (d.plat.time.toNat / 2 ^ 32) ∧ e.plat.regs = d.plat.regs)) ∧
     (d.powered Reg.TRC_SNAP → Ends (.snapshotGo c hold) ⟨q, d⟩ (fun e =>
       e.plat.bit Reg.TRC_SNAP Fld.TRC_SNAP_HOLD = hold ∧ e.plat.bit Reg.TRC_SNAP_STAT Fld.TRC_SNAP_STAT_BUSY = true ∧
       (d.plat.bit Reg.TRC_SNAP_STAT Fld.TRC_SNAP_STAT_BUSY = false →
         e.plat.rd Reg.TRC_SNAP_TIME_LO = BitVec.ofNat 32 (d.plat.time + 5000).toNat ∧
         e.plat.rd Reg.TRC_SNAP_TIME_HI = BitVec.ofNat 32 ((d.plat.time + 5000).toNat / 2 ^ 32)) ∧
       (d.plat.bit Reg.TRC_SNAP_STAT Fld.TRC_SNAP_STAT_BUSY = true → d.plat.keeps e.plat [Reg.TRC_SNAP]) ∧
       d.plat.keeps e.plat [Reg.TRC_SNAP, Reg.TRC_SNAP_STAT, Reg.TRC_SNAP_TIME_LO, Reg.TRC_SNAP_TIME_HI])) ∧
     (d.plat.bit Reg.TRC_SNAP_STAT Fld.TRC_SNAP_STAT_BUSY = true → Ends .snapshotCapture ⟨q, d⟩ (fun e =>
       e.plat.bit Reg.TRC_SNAP_STAT Fld.TRC_SNAP_STAT_BUSY = false ∧ e.plat.bit Reg.TRC_SNAP_STAT Fld.TRC_SNAP_STAT_DONE = true ∧
       (r.cnt ≠ 0 → SMap.get (fun _ => 0) e.plat.hold a = if d.plat.on (domainOf a) then d.plat.rd a else 0) ∧
       ((∃ k ∈ counterDomains, d.plat.on k = false) → e.plat.bit Reg.TRC_SNAP_STAT Fld.TRC_SNAP_STAT_MISSED = true) ∧
       d.plat.keeps e.plat [Reg.TRC_SNAP_STAT] ∧ e = { d with plat := e.plat })))

/-- R30, R388, R391, R392, R393: what a core's write to any address does, the record of a bus error, and every register
access whose power domain is off. Whether a timed-out store still has its effect is a free bit (log entry 13). -/
def Obligations.BusAccessesAndTheirErrors : Prop :=
  (∀ (q : List Instr) (d : Dev) (c : CoreNo) (a n v : Nat),
     let recorded (p : Plat) (kind : Nat) (w : Bool) (e : Plat) : Prop :=
       (p.bit Reg.SYS_BERR_HI Fld.SYS_BERR_HI_VALID = false →
         e.rd Reg.SYS_BERR_LO = BitVec.ofNat 32 a ∧ e.fld Reg.SYS_BERR_HI Fld.SYS_BERR_HI_ADDR_HI = a / 2 ^ 32 ∧
         e.bit Reg.SYS_BERR_HI Fld.SYS_BERR_HI_VALID = true ∧ e.bit Reg.SYS_BERR_HI Fld.SYS_BERR_HI_OVER = false ∧
         e.fld Reg.SYS_BERR_HI Fld.SYS_BERR_HI_CORE = c ∧ e.bit Reg.SYS_BERR_HI Fld.SYS_BERR_HI_WRITE = w ∧
         e.fld Reg.SYS_BERR_HI Fld.SYS_BERR_HI_KIND = kind) ∧
       (p.bit Reg.SYS_BERR_HI Fld.SYS_BERR_HI_VALID = true →
         e.rd Reg.SYS_BERR_LO = p.rd Reg.SYS_BERR_LO ∧ e.bit Reg.SYS_BERR_HI Fld.SYS_BERR_HI_OVER = true ∧
         e.fld Reg.SYS_BERR_HI Fld.SYS_BERR_HI_KIND = p.fld Reg.SYS_BERR_HI Fld.SYS_BERR_HI_KIND) ∧
       (p.bit (Reg.SYS_CNT_LO 1 + 4) satFld = false → p.count (Reg.SYS_CNT_LO 1) + 1 < 2 ^ 48 - 1 →
         e.count (Reg.SYS_CNT_LO 1) = p.count (Reg.SYS_CNT_LO 1) + 1) ∧
       p.keeps e berrRegs ∧ e.frz = p.frz ∧ e.time = p.time
     (Instr.registerWrite c a n v).wf = true →
     (0x20000000 ≤ a → a + n ≤ 0x20400000 → Ends (.registerWrite c a n v) ⟨q, d⟩ (fun e =>
       SMap.bytes zeroByte e.sys.sram (a - 0x20000000) n = leBytes n v ∧
       (∀ o, o < a - 0x20000000 ∨ a - 0x20000000 + n ≤ o → SMap.get zeroByte e.sys.sram o = SMap.get zeroByte d.sys.sram o) ∧
       e = { d with sys := { d.sys with sram := e.sys.sram } })) ∧
     (a < 0x40000 → Ends (.registerWrite c a n v) ⟨q, d⟩ (fun e => recorded d.plat 2 true e.plat ∧ e = { d with plat := e.plat })) ∧
     (inWindows a = true → n ≠ 4 ∨ a % 4 ≠ 0 → Ends (.registerWrite c a n v) ⟨q, d⟩ (fun e =>
       recorded d.plat 3 true e.plat ∧ e = { d with plat := e.plat })) ∧
     (inWindows a = true → n = 4 → a % 4 = 0 → regMapped a = false → Ends (.registerWrite c a n v) ⟨q, d⟩ (fun e =>
       recorded d.plat 1 true e.plat ∧ e = { d with plat := e.plat })) ∧
     (inWindows a = true → n = 4 → a % 4 = 0 → regMapped a = true → d.plat.on (domainOf a) = false →
       Ends (.registerWrite c a n v) ⟨q, d⟩ (fun e => recorded d.plat 4 true e.plat ∧ e = { d with plat := e.plat })) ∧
     (∀ k : CoreNo, a = Reg.HUB_THR k → n = 4 → d.powered a → Ends (.registerWrite c a n v) ⟨q, d⟩ (fun e =>
       e.plat.fld a Fld.HUB_THR_THR = v % 8 ∧ d.plat.keeps e.plat [a] ∧ e = { d with plat := e.plat })) ∧
     Ends (.accessTimeout c false a n v) ⟨q, d⟩ (fun e =>
       recorded d.plat 5 false e.plat ∧ e.plat.resp = 0xFFFFFFFF ∧ e = { d with plat := e.plat }) ∧
     (inWindows a = false → Ends (.accessTimeout c true a n v) ⟨q, d⟩ (fun e =>
       recorded d.plat 5 true e.plat ∧ e = { d with plat := e.plat })) ∧
     Ends (.accessTimeout c true a n v) ⟨q, d⟩ (fun e => ∃ b : Dev, recorded b.plat 5 true e.plat ∧ e = { b with plat := e.plat } ∧
       (b = { d with plat := d.plat.useFree } ∨
         b = ({ d with plat := d.plat.useFree }).regWrite c a (fun d => d.regEffect c a (BitVec.ofNat 32 v))))) ∧
  (∀ (i : Instr) (q : List Instr) (d : Dev) (c : CoreNo) (a : Nat) (w : Bool),
     i.wf = true → i.access = some (c, a, w) → ¬ d.powered a → Ends i ⟨q, d⟩ (fun e =>
       e = { d with plat := e.plat } ∧ d.plat.keeps e.plat berrRegs ∧ (w = false → e.plat.resp = 0xFFFFFFFF) ∧
       (d.plat.bit Reg.SYS_BERR_HI Fld.SYS_BERR_HI_VALID = false →
         e.plat.rd Reg.SYS_BERR_LO = BitVec.ofNat 32 a ∧ e.plat.fld Reg.SYS_BERR_HI Fld.SYS_BERR_HI_ADDR_HI = a / 2 ^ 32 ∧
         e.plat.bit Reg.SYS_BERR_HI Fld.SYS_BERR_HI_VALID = true ∧ e.plat.fld Reg.SYS_BERR_HI Fld.SYS_BERR_HI_CORE = c ∧
         e.plat.bit Reg.SYS_BERR_HI Fld.SYS_BERR_HI_WRITE = w ∧ e.plat.fld Reg.SYS_BERR_HI Fld.SYS_BERR_HI_KIND = 4) ∧
       (d.plat.bit Reg.SYS_BERR_HI Fld.SYS_BERR_HI_VALID = true →
         e.plat.rd Reg.SYS_BERR_LO = d.plat.rd Reg.SYS_BERR_LO ∧ e.plat.bit Reg.SYS_BERR_HI Fld.SYS_BERR_HI_OVER = true)))

/-- R431, R432, R433, R434, R435, R437, Table SEC-3: the memory test, the loop-back test and the reference check. The
failing words, the slices' results and the measured differences are operands (log entry 2). -/
def Obligations.SelfTestsStartAndEnd : Prop :=
  ∀ (q : List Instr) (d : Dev) (c : CoreNo) (v : Word) (bad : Nats) (bit : Nat) (xs : Slices) (diff : Int) (dev : Ints),
    let test : MbTest := ⟨d.plat.fld Reg.BCL_MB_CFG Fld.BCL_MB_CFG_MEM, d.plat.fld Reg.BCL_MB_CFG Fld.BCL_MB_CFG_UNIT,
      d.plat.fld Reg.BCL_MB_ADDR Fld.BCL_MB_ADDR_BYTES, d.plat.fld Reg.BCL_MB_LEN Fld.BCL_MB_LEN_BYTES, false⟩
    (d.powered Reg.BCL_MB_CTRL → d.plat.bit Reg.BCL_MB_STAT Fld.BCL_MB_STAT_BUSY = false →
      (test.addr % 32 ≠ 0 ∨ test.len % 32 ≠ 0 ∨ test.len < 32 ∨ 65536 < test.len ∨ (mbShape test.mem).2 < test.addr + test.len ∨
          mbReady d.plat d.buf test.mem test.unit = false →
        Ends (.memoryTestGo c) ⟨q, d⟩ (fun e =>
          e.plat.fld Reg.BCL_MB_STAT Fld.BCL_MB_STAT_RESULT = 3 ∧ e.plat.bit Reg.BCL_MB_STAT Fld.BCL_MB_STAT_BUSY = false ∧
          d.plat.keeps e.plat [Reg.BCL_MB_STAT] ∧ e.bcl = d.bcl)) ∧
      (mbMayStart d.plat d.buf test = true → Ends (.memoryTestGo c) ⟨q, d⟩ (fun e =>
        e.plat.bit Reg.BCL_MB_STAT Fld.BCL_MB_STAT_BUSY = true ∧ e.bcl = { d.bcl with mb := some test } ∧
        d.plat.keeps e.plat [Reg.BCL_MB_STAT]))) ∧
    (∀ t : MbTest, d.bcl.mb = some t → Ends (.memoryTestEnd bad bit) ⟨q, d⟩ (fun e =>
      e.bcl.mb = none ∧ e.plat.bit Reg.BCL_EVT Fld.BCL_EVT_MB_DONE = true ∧
      e.plat.bit Reg.BCL_MB_STAT Fld.BCL_MB_STAT_BUSY = false ∧
      e.plat.fld Reg.BCL_MB_STAT Fld.BCL_MB_STAT_RESULT = (if t.stopped then 4 else if bad = [] then 1 else 2) ∧
      d.plat.keeps e.plat [Reg.BCL_MB_STAT, Reg.BCL_MB_FAIL, Reg.BCL_EVT])) ∧
    (d.powered Reg.BCL_LB_CTRL → d.bcl.lb = none → lbAllowed d.plat (Fld.get Fld.BCL_LB_CTRL_ACT v) = false →
      Ends (.loopbackGo c v) ⟨q, d⟩ (fun e =>
        e.plat.bit Reg.BCL_EVT Fld.BCL_EVT_REFUSED = true ∧ e.bcl = d.bcl ∧
        d.plat.keeps e.plat [Reg.BCL_LB_CTRL, Reg.BCL_EVT])) ∧
    (d.powered Reg.BCL_LB_CTRL → d.bcl.lb = none → lbAllowed d.plat (Fld.get Fld.BCL_LB_CTRL_ACT v) = true →
      Ends (.loopbackGo c v) ⟨q, d⟩ (fun e =>
        e.plat.bit Reg.BCL_LB_CTRL Fld.BCL_LB_CTRL_BUSY = true ∧
        e.bcl.lb = some (Fld.get Fld.BCL_LB_CTRL_ACT v, Fld.get Fld.BCL_LB_CTRL_HEAD v, Fld.get Fld.BCL_LB_CTRL_AMP v,
          atLeast1 (Fld.get Fld.BCL_LB_CTRL_LEN v), d.plat.fld Reg.BCL_LB_CFG Fld.BCL_LB_CFG_SLICES) ∧
        (e.act (Fin.ofNat 4 (Fld.get Fld.BCL_LB_CTRL_ACT v))).gate.still = true)) ∧
    (d.bcl.lb ≠ none → Ends (.loopbackEnd xs) ⟨q, d⟩ (fun e =>
      e.bcl = { d.bcl with lb := none } ∧ e.plat.bit Reg.BCL_LB_CTRL Fld.BCL_LB_CTRL_BUSY = false ∧
      e.plat.bit Reg.BCL_EVT Fld.BCL_EVT_LB_DONE = true)) ∧
    (d.powered Reg.BCL_REF_CTRL → Ends (.refCheckGo c v) ⟨q, d⟩ (fun e =>
      e.plat.bit Reg.BCL_REF_STAT Fld.BCL_REF_STAT_BUSY = true ∧
      e.plat.fld Reg.BCL_REF_CTRL Fld.BCL_REF_CTRL_TOL_BG = Fld.get Fld.BCL_REF_CTRL_TOL_BG v ∧
      d.plat.keeps e.plat [Reg.BCL_REF_CTRL, Reg.BCL_REF_STAT] ∧ e = { d with plat := e.plat })) ∧
    (d.plat.bit Reg.BCL_REF_STAT Fld.BCL_REF_STAT_BUSY = true → Ends (.refCheckEnd diff dev) ⟨q, d⟩ (fun e =>
      e.plat.bit Reg.BCL_REF_STAT Fld.BCL_REF_STAT_BG_FAIL =
        decide (d.plat.fld Reg.BCL_REF_CTRL Fld.BCL_REF_CTRL_TOL_BG < diff.natAbs) ∧
      (d.plat.fld Reg.BCL_REF_CTRL Fld.BCL_REF_CTRL_TOL_BG < diff.natAbs →
        e.plat.bit Reg.BCL_EVT Fld.BCL_EVT_REF_FAIL = true) ∧
      e.plat.bit Reg.BCL_REF_STAT Fld.BCL_REF_STAT_BUSY = false ∧
      d.plat.keeps e.plat [Reg.BCL_REF_STAT, Reg.BCL_EVT] ∧ e = { d with plat := e.plat }))

/-- R409, R410, R412, R413, R439: a sensor sample with its trim step, the tests that fail a sensor, the value substituted,
the demand with its hysteresis. That no supervision runs while domain 31 is off rests on log entry 23. -/
def Obligations.SensorSamplesSetDemands : Prop :=
  ∀ (q : List Instr) (d : Dev) (i : SensorNo) (raw : Int) (fault : Bool),
    let a : Int := d.plat.sfld (Reg.THM_SNSTRIM i) Fld.THM_SNSTRIM_APPLIED
    let goal : Int := d.plat.sfld (Reg.THM_SNSTRIM i) Fld.THM_SNSTRIM_TARGET
    let t : Int := raw + (if a < goal then a + 1 else if goal < a then a - 1 else a)
    let est : Int := d.plat.sfld (Reg.THM_TEMP i) Fld.THM_TEMP_EST
    let off : Nat := if 80 < t - est ∨ t - est < -80 then min 16 (SMap.get (fun _ => 0) d.thm.mism i + 1) else 0
    let formula (x : Int) : Nat :=
      let level : Int := d.plat.sfld (Reg.THM_LIM i) Fld.THM_LIM_LEVEL
      if x < level then 0 else min 7 (1 + ((x - level) / (atLeast1 (d.plat.fld Reg.THM_TCFG Fld.THM_TCFG_STEP) : Int)).toNat)
    let hyst : Int := d.plat.fld Reg.THM_TCFG Fld.THM_TCFG_HYST
    let taken (x : Int) (e : Dev) : Prop :=
      e.plat.sfld (Reg.THM_TEMP i) Fld.THM_TEMP_VALUE = x ∧
      e.thm.dem i = (if d.thm.dem i < formula x then formula x
        else if formula (x + hyst) < d.thm.dem i then formula (x + hyst) else d.thm.dem i) ∧
      (∀ j, j ≠ i.val → e.thm.dem j = d.thm.dem j) ∧
      (d.thm.dem i = 0 → formula x ≠ 0 → e.plat.bit Reg.THM_EVT Fld.THM_EVT_LEVEL = true) ∧
      ((throttleWant e.plat e.thm).1 ≤ 7 → e.plat.level = max d.plat.level (throttleWant e.plat e.thm).1)
    let failed : Bool := d.plat.bit (Reg.THM_TEMP i) Fld.THM_TEMP_FAILED
    let bad : Prop := fault = true ∨ t < -160 ∨ 600 < t ∨ off = 16
    (d.plat.thmOn = true → failed = false → ¬ bad → Ends (.sensorSample i raw fault) ⟨q, d⟩ (fun e =>
      taken t e ∧ e.thm.lastValid i = t ∧ e.plat.bit (Reg.THM_TEMP i) Fld.THM_TEMP_FAILED = false ∧
      e.plat.bit (Reg.THM_TEMP i) Fld.THM_TEMP_SUB = false)) ∧
    (d.plat.thmOn = true → failed = false → bad → est ≤ 2027 → Ends (.sensorSample i raw fault) ⟨q, d⟩ (fun e =>
      taken (est + 20) e ∧ e.thm.lastValid i = d.thm.lastValid i ∧ e.plat.bit (Reg.THM_TEMP i) Fld.THM_TEMP_FAILED = true ∧
      e.plat.bit (Reg.THM_TEMP i) Fld.THM_TEMP_SUB = true ∧ e.plat.bit Reg.THM_EVT Fld.THM_EVT_SENS_FAIL = true ∧
      d.plat.posted e.plat 98 0x000A ([BitVec.ofNat 8 i, 0] ++ le2 (bitsOf 16 t) ++ le2 (bitsOf 16 est) ++ [0, 0]))) ∧
    (d.plat.thmOn = true → failed = true → est ≤ 2027 → Ends (.sensorSample i raw fault) ⟨q, d⟩ (fun e =>
      taken (est + 20) e ∧ e.thm.lastValid i = d.thm.lastValid i)) ∧
    (d.plat.thmOn = false → Ends (.sensorSample i raw fault) ⟨q, d⟩ (fun e =>
      e.plat.level = 0 ∧ e.thm = d.thm ∧ d.plat.keeps e.plat [Reg.THM_STATUS, Reg.THM_EVT]))

/-- R411, R412, R413, R414, R416, R439, R512: the model's update, the throttle's dwell and hold, the power cap, a reference
trim that waits, the trip. The mean of a millisecond uses the reports of it (log entry 24). -/
def Obligations.ModelThrottleCapAndTrip : Prop :=
  ∀ (q : List Instr) (d : Dev) (n : ActNo),
    let ended : Thm := { d.thm with rateOn := false }
    let mean : Nat := if d.thm.capN = 0 then d.thm.total else d.thm.capSum / d.thm.capN
    let cap : Nat := 10 * d.plat.fld Reg.THM_PCAP Fld.THM_PCAP_CAP
    (d.plat.thmOn = true → Ends .modelUpdate ⟨q, d⟩ (fun e =>
      (∀ j : Fin 8, d.thm.rail j < 65536 →
        (e.plat.fld (Reg.THM_RAIL j) Fld.THM_RAIL_PF : Int) = d.plat.fld (Reg.THM_RAIL j) Fld.THM_RAIL_PF +
          ((d.thm.rail j : Int) - d.plat.fld (Reg.THM_RAIL j) Fld.THM_RAIL_PF).tdiv
            ((2 ^ d.plat.fld (Reg.THM_RAIL j) Fld.THM_RAIL_TAU : Nat) : Int)) ∧
      (∀ i : Fin 32, e.plat.fld (Reg.THM_TEMP i) Fld.THM_TEMP_EST = bitsOf 12 (tref d.plat d.thm +
        ((List.range 8).foldl (fun (s : Int) j => s + (d.plat.coeff i j : Int) * e.plat.fld (Reg.THM_RAIL j) Fld.THM_RAIL_PF)
          0).tdiv 4000)) ∧
      (∀ i : Fin 32, 24 ≤ i.val → e.plat.fld (Reg.THM_TEMP i) Fld.THM_TEMP_VALUE = e.plat.fld (Reg.THM_TEMP i) Fld.THM_TEMP_EST) ∧
      (∀ i : SensorNo, d.plat.bit (Reg.THM_TEMP i) Fld.THM_TEMP_FAILED = false →
        e.plat.fld (Reg.THM_TEMP i) Fld.THM_TEMP_VALUE = d.plat.fld (Reg.THM_TEMP i) Fld.THM_TEMP_VALUE ∧
        e.thm.dem i = d.thm.dem i) ∧ e.thm.railP = d.thm.railP)) ∧
    (d.plat.bit Reg.THM_STATUS Fld.THM_STATUS_HOLD = false → (throttleWant d.plat ended).1 < d.plat.level →
      Ends .throttleDwellStep ⟨q, d⟩ (fun e =>
        e.plat.level = d.plat.level - 1 ∧ e.plat.bit Reg.THM_EVT Fld.THM_EVT_CHANGE = true ∧ e.thm = ended ∧
        d.plat.keeps e.plat [Reg.THM_STATUS, Reg.THM_EVT])) ∧
    (d.plat.bit Reg.THM_STATUS Fld.THM_STATUS_HOLD = true ∨ d.plat.level ≤ (throttleWant d.plat ended).1 →
      Ends .throttleDwellStep ⟨q, d⟩ (fun e => e = { d with thm := ended })) ∧
    (d.plat.bit Reg.THM_STATUS Fld.THM_STATUS_HOLD = true → Ends .throttleHoldEnd ⟨q, d⟩ (fun e =>
      e.plat.bit Reg.THM_STATUS Fld.THM_STATUS_HOLD = false ∧ e.thm = d.thm ∧
      e.plat.level = (if (throttleWant d.plat d.thm).1 < d.plat.level then d.plat.level - 1 else d.plat.level) ∧
      d.plat.keeps e.plat [Reg.THM_STATUS, Reg.THM_EVT])) ∧
    (d.plat.on 31 = true → Ends .powerCapTick ⟨q, d⟩ (fun e =>
      e.thm.capSum = 0 ∧ e.thm.capN = 0 ∧ e.thm.demand = d.thm.demand ∧
      (d.plat.bit Reg.THM_PCAP Fld.THM_PCAP_EN = false → e.thm.pDemand = 0) ∧
      (d.plat.bit Reg.THM_PCAP Fld.THM_PCAP_EN = true →
        (cap < mean → e.thm.pDemand = min 7 (d.thm.pDemand + 1)) ∧
        (16 * mean < 15 * cap → e.thm.pDemand = d.thm.pDemand - 1) ∧
        (mean ≤ cap → 15 * cap ≤ 16 * mean → e.thm.pDemand = d.thm.pDemand)) ∧
      (0 < d.plat.level → d.plat.bit (Reg.THM_CNT_LO 2 + 4) satFld = false → d.plat.count (Reg.THM_CNT_LO 2) + 1 < 2 ^ 48 - 1 →
        e.plat.count (Reg.THM_CNT_LO 2) = d.plat.count (Reg.THM_CNT_LO 2) + 1))) ∧
    (∀ r, SMap.get (fun _ => none) d.thm.refWait n = some r →
      ((d.act n).gate.rg = 0 → (d.act n).gate.servo = false → d.plat.on (4 * n) = true → Ends (.refTrimApply n) ⟨q, d⟩ (fun e =>
        SMap.get (fun _ => 0) e.thm.refTrim n = r ∧ SMap.get (fun _ => none) e.thm.refWait n = none ∧ e.plat = d.plat)) ∧
      ((d.act n).gate.rg ≠ 0 ∨ (d.act n).gate.servo = true ∨ d.plat.on (4 * n) = false →
        Ends (.refTrimApply n) ⟨q, d⟩ (fun e => e = d))) ∧
    (∀ i : Fin 32, d.plat.thmOn = true → d.thm.tripped = none →
      atLeast1 (d.plat.fld Reg.THM_TRIP Fld.THM_TRIP_COUNT) ≤ SMap.get (fun _ => 0) d.thm.tripCnt i →
      (∀ j : Fin 32, j < i → SMap.get (fun _ => 0) d.thm.tripCnt j < atLeast1 (d.plat.fld Reg.THM_TRIP Fld.THM_TRIP_COUNT)) →
      Ends .thermalTrip ⟨q, d⟩ (fun e =>
        e.thm.tripped = some i.val ∧ e.plat.bit Reg.THM_EVT Fld.THM_EVT_TRIP = true ∧
        (∀ k : DomainNo, e.plat.on k = (if k.val = 30 ∨ k.val = 31 then d.plat.on k else false)) ∧
        e.thm.pclTx = d.thm.pclTx ++ [[0x54, BitVec.ofNat 8 i] ++ [BitVec.ofNat 8 (crc8 [0x54, BitVec.ofNat 8 i])]] ∧
        e.mgt = d.mgt ∧ e.plat.time = d.plat.time)) ∧
    (d.plat.thmOn = false ∨ d.thm.tripped ≠ none → Ends .thermalTrip ⟨q, d⟩ (fun e => e = d))

/-- R402, R404, R405, R406, R407, Table PWR-1: a request for domains, the switching of one domain, standby. No domain
switches in standby or after a trip (log entry 17). -/
def Obligations.DomainsSwitchOneAtATime : Prop :=
  ∀ (q : List Instr) (d : Dev) (c : CoreNo) (k : DomainNo) (hi thmOn : Bool) (v : Word),
    let want : Nat := if hi then d.plat.reqSet % 2 ^ 32 + 2 ^ 32 * (v.toNat % 16) else v.toNat + 2 ^ 32 * (d.plat.reqSet / 2 ^ 32)
    let settled (e : Dev) : Prop := e.plat.statSet = e.plat.reqSet → e.plat.bit Reg.PWR_EVT Fld.PWR_EVT_DONE = true
    (d.powered Reg.PWR_REQ_LO →
      (want.testBit 25 = true → want.testBit 27 = true → want.testBit 34 = true →
        (∀ j : DomainNo, want.testBit j = true → ∀ r ∈ requires j, want.testBit r = true) →
        Ends (.pwrRequestWrite c hi v) ⟨q, d⟩ (fun e =>
          e.plat.reqSet = want ∧ e.plat.statSet = d.plat.statSet ∧ settled e ∧
          e.plat.bit Reg.PWR_EVT Fld.PWR_EVT_SEQ_REFUSED = d.plat.bit Reg.PWR_EVT Fld.PWR_EVT_SEQ_REFUSED ∧
          d.plat.keeps e.plat [Reg.PWR_REQ_LO, Reg.PWR_REQ_HI, Reg.PWR_STAT_HI, Reg.PWR_EVT])) ∧
      (∀ j ∈ [25, 27, 34], d.plat.statSet.testBit j = true → want.testBit j = false →
        Ends (.pwrRequestWrite c hi v) ⟨q, d⟩ (fun e =>
          e.plat.reqSet.testBit j = true ∧ e.plat.bit Reg.PWR_EVT Fld.PWR_EVT_SEQ_REFUSED = true ∧
          e.plat.statSet = d.plat.statSet ∧
          d.plat.keeps e.plat [Reg.PWR_REQ_LO, Reg.PWR_REQ_HI, Reg.PWR_STAT_HI, Reg.PWR_EVT]))) ∧
    (d.plat.standby = false → d.thm.tripped = none → k.val ≠ 29 →
      (d.plat.reqSet.testBit k = true → d.plat.on k = false → (∀ r ∈ requires k, d.plat.on r = true) →
        Ends (.domainSwitchOn k) ⟨q, d⟩ (fun e =>
          e.plat.on k = true ∧ (∀ j : DomainNo, j ≠ k → e.plat.on j = d.plat.on j) ∧ e.plat.reqSet = d.plat.reqSet ∧
          (∀ a, inDomain k a = true → e.plat.rd a = resetWord a) ∧ settled e)) ∧
      (d.plat.reqSet.testBit k = false → d.plat.on k = true → (∀ j : DomainNo, d.plat.on j = true → k.val ∉ requires j) →
        Ends (.domainSwitchOff k) ⟨q, d⟩ (fun e =>
          e.plat.on k = false ∧ (∀ j : DomainNo, j ≠ k → e.plat.on j = d.plat.on j) ∧ e.plat.reqSet = d.plat.reqSet ∧
          (∀ a, inDomain k a = true → e.plat.rd a = resetWord a) ∧ settled e))) ∧
    ((∃ j : DomainNo, d.plat.on j = true ∧ k.val ∈ requires j) → Ends (.domainSwitchOff k) ⟨q, d⟩ (fun e => e = d)) ∧
    ((∃ r ∈ requires k, d.plat.on r = false) → Ends (.domainSwitchOn k) ⟨q, d⟩ (fun e => e = d)) ∧
    (d.powered Reg.PWR_STBY → Ends (.standbyEnter c thmOn) ⟨q, d⟩ (fun e =>
      e.plat.standby = true ∧ e.plat.bit Reg.PWR_STBY Fld.PWR_STBY_THM_ON = thmOn ∧
      (∀ j : DomainNo, e.plat.on j = (if j.val = 30 then d.plat.on 30 else if j.val = 31 then d.plat.on 31 && thmOn else false)) ∧
      e.mgt = d.mgt ∧ e.keep.cells = d.keep.cells ∧ e.plat.time = d.plat.time))

/-- R315, R361, R403, R479, R509, R510, R511, R512: STATUS and REPORT frames of the Power Control Link, its time-out,
brown-out and its end, the TRIP frame. A rise of WAKE against the last valid frame, brown-out as the detector or the frame's
bit, and a short REPORT taken as cut rest on log entry 18. -/
def Obligations.PowerLinkFramesAndBrownOut : Prop :=
  ∀ (q : List Instr) (d : Dev) (bs : Bytes) (framing : Bool),
    let discarded (e : Dev) : Prop := e = { d with plat := d.plat.setFlag Reg.SYS_PL_EVT Fld.SYS_PL_EVT_PCL_ERR }
    let status (st : Nat) (e : Dev) : Prop :=
      let woke : Prop := ∃ o, d.sys.status = some o ∧ o.testBit 3 = false ∧ st.testBit 3 = true
      e.sys.status = some (st % 32) ∧
      (¬ woke → e.plat.rd Reg.SYS_PL_PCL = BitVec.ofNat 32 (st % 32) ∧ e.keep.brown = (d.sys.detector || st.testBit 0) ∧
        (e.plat.bit (Reg.HIF_LINK_STAT 0) Fld.HIF_LINK_STAT_PERST = st.testBit 1)) ∧
      (woke → e.sys.boot = .inReset false ∧ e.plat.bit Reg.SYS_RST_CAUSE Fld.SYS_RST_CAUSE_PIN = true)
    (framing = true ∨ bs.length ≠ 3 ∨ bs.headD 0 ≠ 0x53 ∨ crcOk bs = false →
      Ends (.pclStatusReceive bs framing) ⟨q, d⟩ discarded) ∧
    (framing = false → bs.length = 3 → bs.headD 0 = 0x53 → crcOk bs = true →
      Ends (.pclStatusReceive bs framing) ⟨q, d⟩ (status (bs.getD 1 0).toNat)) ∧
    (framing = false → bs.length < 36 → bs.headD 0 = 0x52 → Ends (.pclReportReceive bs framing) ⟨q, d⟩ (fun e => e = d)) ∧
    (framing = true ∨ 36 < bs.length ∨ bs.headD 0 ≠ 0x52 ∨ (bs.length = 36 ∧ crcOk bs = false) →
      Ends (.pclReportReceive bs framing) ⟨q, d⟩ discarded) ∧
    (framing = false → bs.length = 36 → bs.headD 0 = 0x52 → crcOk bs = true →
      Ends (.pclReportReceive bs framing) ⟨q, d⟩ (fun e => status (bs.getD 34 0).toNat e ∧
        (e.sys.boot = d.sys.boot → d.sys.boot ≠ .inReset false →
          e.plat.bit Reg.SYS_PL_STAT Fld.SYS_PL_STAT_PCL_UP = true ∧
          ∀ j : Fin 8, e.thm.rail j = leNat ((bs.drop (2 + 4 * j)).take 2) * leNat ((bs.drop (4 + 4 * j)).take 2) / 1000))) ∧
    Ends .pclReportTimeout ⟨q, d⟩ (fun e =>
      e.plat.bit Reg.SYS_PL_STAT Fld.SYS_PL_STAT_PCL_UP = false ∧
      (d.plat.on 31 = true → e.plat.bit Reg.THM_EVT Fld.THM_EVT_PWR_STALE = true) ∧
      d.plat.keeps e.plat [Reg.SYS_PL_STAT, Reg.THM_EVT] ∧ e = { d with plat := e.plat }) ∧
    (d.keep.brown = false → Ends .brownoutAssert ⟨q, d⟩ (fun e =>
      e.cmd.hold = true ∧ e.keep.brown = true ∧ e.sys.detector = true ∧
      e.plat.bit Reg.SYS_PL_EVT Fld.SYS_PL_EVT_BROWNOUT = true ∧ e.plat.bit Reg.SYS_PL_STAT Fld.SYS_PL_STAT_BROWNOUT = true ∧
      (∀ b : BankNo, ∀ k, d.keep.running b = some k → k.result = none →
        e.keep.running b = none ∧ SMap.get (fun _ => 0) e.keep.lastRes b = 6 ∧ SMap.get (fun _ => 0) e.keep.lastOp b = k.op))) ∧
    (d.keep.brown = true → d.plat.bit Reg.SYS_PL_PCL Fld.SYS_PL_PCL_BROWNOUT = false → Ends .brownoutClear ⟨q, d⟩ (fun e =>
      e.cmd = { d.cmd with hold := false } ∧ e.keep = { d.keep with brown := false } ∧ e.sys.detector = false ∧
      e.plat.bit Reg.SYS_PL_STAT Fld.SYS_PL_STAT_BROWNOUT = false)) ∧
    (∀ i, d.thm.tripped = some i → Ends .tripFrameSend ⟨q, d⟩ (fun e =>
      e = { d with thm := { d.thm with pclTx := d.thm.pclTx ++ [[0x54, BitVec.ofNat 8 i] ++
        [BitVec.ofNat 8 (crc8 [0x54, BitVec.ofNat 8 i])]] } })) ∧
    (d.thm.tripped = none → Ends .tripFrameSend ⟨q, d⟩ (fun e => e = d))

/-- R366, R438, R453, R470, R471, R474, R476, R478, Tables SUW-1 to SUW-4: power-on and pin reset, the release of a reset,
the boot ROM, the hand-off, recovery. The boot ROM's delivery of the body, and the answers of recovery commands outside
Table FRZ-5's words rest on log entry 19. -/
def Obligations.ResetsSurvivalAndBoot : Prop :=
  (∀ (q : List Instr) (d : Dev),
     Ends .powerOnReset ⟨q, d⟩ (fun e =>
       (∀ a, e.plat.rd a = resetWord a) ∧ e.plat.bit Reg.SYS_RST_CAUSE Fld.SYS_RST_CAUSE_POR = true ∧ e.plat.time = 0 ∧
       e.sys.boot = .inReset true ∧ e.sec.keys = [] ∧ e.mgt = State.reset.dev.mgt ∧ e.buf = State.reset.dev.buf ∧
       (∀ n : ActNo, e.act n = State.reset.dev.act n) ∧ (∀ t : SeqNo, e.tsq t = State.reset.dev.tsq t) ∧
       e.keep.pwFail = 0 ∧ (∀ n : RegionNo, (e.keep.region n).latch = false ∧ (e.keep.region n).pw = (d.keep.region n).pw) ∧
       (d.keep.running 0 = none → d.keep.running 1 = none → e.keep.cells = d.keep.cells)) ∧
     Ends .pinReset ⟨q, d⟩ (fun e =>
       (∀ a, surviveMask a = 0 → a < 0x40600000 ∨ 0x40700000 ≤ a → e.plat.rd a = resetWord a) ∧
       e.plat.rd Reg.MGT_BUDGET = d.plat.rd Reg.MGT_BUDGET ∧ e.plat.wptr = d.plat.wptr ∧
       e.plat.bit Reg.SYS_RST_CAUSE Fld.SYS_RST_CAUSE_PIN = true ∧
       e.plat.bit Reg.SYS_RST_CAUSE Fld.SYS_RST_CAUSE_WDT = d.plat.bit Reg.SYS_RST_CAUSE Fld.SYS_RST_CAUSE_WDT ∧
       e.plat.time = d.plat.time ∧ e.sys.boot = .inReset false ∧ e.sec.keys = [] ∧ e.keep.cells = d.keep.cells ∧
       e.keep.cmd = d.keep.cmd ∧ (∀ n : RegionNo, (e.keep.region n).latch = false)) ∧
     (∀ testMode : Bool,
       (∀ por, d.sys.boot = .inReset por → (por = false ∨ testMode = false) → Ends (.resetRelease testMode) ⟨q, d⟩ (fun e =>
         e.sys.boot = .waiting [] ∧ e.sec = d.sec ∧ (por = true → e.keep.ready 0 = (d.keep.running 0).isNone ∧
           e.keep.ready 1 = (d.keep.running 1).isNone) ∧
         ∀ u : UnitNo, e.plat.fld (Reg.MGT_US u) Fld.MGT_US_EFF = d.plat.effUnit u)) ∧
       (testMode = true → d.sys.boot = .inReset true → Ends (.resetRelease testMode) ⟨q, d⟩ (fun e =>
         e.sys.boot = .scan ∧ e.sec.keys = [] ∧ (∀ o, SMap.get zeroByte e.plat.frz.log o = 0) ∧
         ∀ n : RegionNo, (e.keep.region n).latch = false)) ∧
       ((∀ por, d.sys.boot ≠ .inReset por) → Ends (.resetRelease testMode) ⟨q, d⟩ (fun e => e = d)))) ∧
  (∀ (q : List Instr) (d : Dev) (off : Nat) (bs : Bytes),
     let started (slot entry version cause : Nat) (e : Dev) : Prop :=
       e.sys.boot = .handedOff ∧ (e.sys.core 0).pc = BitVec.ofNat 40 (0x20000000 + entry % 0x400000) ∧ (e.sys.core 0).mmode = true ∧
       (e.sys.core 0).a0 = BitVec.ofNat 64 slot ∧ (e.sys.core 0).a1 = BitVec.ofNat 64 cause ∧
       (e.sys.core 0).a2 = BitVec.ofNat 64 version ∧ e.plat.bit Reg.SYS_WDT_CTRL Fld.SYS_WDT_CTRL_EN = true ∧
       e.plat.fld Reg.SYS_WDT_STAT Fld.SYS_WDT_STAT_STAGE = 1
     let cause : Nat := (d.plat.rd Reg.SYS_RST_CAUSE).toNat
     (d.sys.boot = .waiting [] →
       (d.keep.ready 0 = false ∨ d.keep.ready 1 = false → Ends .bootRomStart ⟨q, d⟩ (fun e => e = d)) ∧
       (d.keep.ready 0 = true → d.keep.ready 1 = true → d.plat.on 29 = true → d.keep.pending 0 = none → d.keep.pending 1 = none →
         (d.keep.chooseSlot = none → Ends .bootRomStart ⟨q, d⟩ (fun e =>
           e.sys = { d.sys with boot := .recovery } ∧ e.keep = d.keep ∧ d.plat.keeps e.plat postRegs)) ∧
         (∀ i x fell, d.keep.chooseSlot = some (i, x, fell) → Ends .bootRomStart ⟨q, d⟩ (fun e =>
           e.sys.boot = .ready i x.load x.len x.entry x.version ∧ e.keep = d.keep ∧ d.plat.keeps e.plat postRegs ∧
           SMap.bytes zeroByte e.sys.sram x.load x.len = d.keep.read (slotBase i + 64) x.len)))) ∧
     (∀ i load len entry version, d.sys.boot = .ready i load len entry version →
       Ends .bootHandoff ⟨q, d⟩ (fun e => started i entry version cause e ∧ e.sys.sram = d.sys.sram)) ∧
     (d.plat.miOn = true →
       (d.sys.boot ≠ .recovery → ∀ i ∈ [Instr.recoveryWrite off bs, .recoveryBoot], Ends i ⟨q, d⟩ (fun e =>
         e.mgt.answer = ⟨.invalidOpcode, []⟩ ∧ e.mgt.answers = d.mgt.answers + 1 ∧ e.plat = d.plat ∧ e.sys = d.sys)) ∧
       (d.sys.boot = .recovery →
         (bs.length ≤ 2032 → off + bs.length ≤ 0x3FF000 → Ends (.recoveryWrite off bs) ⟨q, d⟩ (fun e =>
           e.mgt.answer = ⟨.success, []⟩ ∧ e.mgt.answers = d.mgt.answers + 1 ∧ e.plat = d.plat ∧
           SMap.bytes zeroByte e.sys.sram off bs.length = bs ∧
           ∀ o, o < off ∨ off + bs.length ≤ o → SMap.get zeroByte e.sys.sram o = SMap.get zeroByte d.sys.sram o)) ∧
         (2032 < bs.length ∨ 0x3FF000 < off + bs.length → Ends (.recoveryWrite off bs) ⟨q, d⟩ (fun e =>
           e.mgt.answer = ⟨.invalidParameter, []⟩ ∧ e.plat = d.plat ∧ e.sys = d.sys)) ∧
         (imageHeader (SMap.bytes zeroByte d.sys.sram 0 64) = none → Ends .recoveryBoot ⟨q, d⟩ (fun e =>
           e.mgt.answer = ⟨.invalidParameter, []⟩ ∧ e.plat = d.plat ∧ e.sys = d.sys)) ∧
         (∀ x, imageHeader (SMap.bytes zeroByte d.sys.sram 0 64) = some x →
           x.ok (SMap.bytes zeroByte d.sys.sram 0 64) (SMap.bytes zeroByte d.sys.sram 64 x.len) = true →
           Ends .recoveryBoot ⟨q, d⟩ (fun e => started 0 x.entry x.version (cause + 2 ^ 31) e ∧
             e.mgt.answer = ⟨.success, []⟩ ∧
             SMap.bytes zeroByte e.sys.sram x.load x.len = SMap.bytes zeroByte d.sys.sram 64 x.len)))))

/-- R26, R444, R446, R447, R448, R449, R450, R454, R455: firmware's post, clear and freeze, the record written for the
earliest event, the log's end, the trace messages and their FIFO. A DROP message has no DELTA (log entry 29). -/
def Obligations.FriezePostsRecordsAndTraceMessages : Prop :=
  (∀ (q : List Instr) (d : Dev) (c : CoreNo) (v : Word) (freeze : Bool),
     let typ : Nat := Fld.get Fld.FRZ_POST_TYPE v
     let lenw : Nat := Fld.get Fld.FRZ_POST_LENW v
     (d.powered Reg.FRZ_POST →
       (lenw < 5 ∨ 64 < lenw ∨ typ < 0x8000 → Ends (.frzPost c v) ⟨q, d⟩ (fun e =>
         e = { d with plat := d.plat.setFlag Reg.FRZ_EVT Fld.FRZ_EVT_POST_REFUSED })) ∧
       (5 ≤ lenw → lenw ≤ 64 → 0x8000 ≤ typ → d.plat.frz.waiting 256 < 4 → Ends (.frzPost c v) ⟨q, d⟩ (fun e =>
         e.plat.frz.queue = d.plat.frz.queue ++ [⟨d.plat.time, 256, typ, true, d.plat.postData (lenw - 5)⟩] ∧
         e.plat.fld Reg.FRZ_STATUS Fld.FRZ_STATUS_POSTQ = d.plat.frz.waiting 256 + 1 ∧ e.plat.frz.log = d.plat.frz.log ∧
         d.plat.keeps e.plat [Reg.FRZ_STATUS])) ∧
       (5 ≤ lenw → lenw ≤ 64 → 0x8000 ≤ typ → 4 ≤ d.plat.frz.waiting 256 → Ends (.frzPost c v) ⟨q, d⟩ (fun e =>
         e.plat.frz.queue = d.plat.frz.queue ∧ e.plat.bit Reg.FRZ_EVT Fld.FRZ_EVT_LOST = true ∧
         (d.plat.bit (Reg.FRZ_LOST_LO + 4) satFld = false → d.plat.count Reg.FRZ_LOST_LO + 1 < 2 ^ 48 - 1 →
           e.plat.count Reg.FRZ_LOST_LO = d.plat.count Reg.FRZ_LOST_LO + 1) ∧
         d.plat.keeps e.plat postRegs))) ∧
     (d.powered Reg.FRZ_CTRL →
       (d.plat.bit Reg.FRZ_STATUS Fld.FRZ_STATUS_FROZEN = true → Ends (.frzClear c) ⟨q, d⟩ (fun e =>
         e.plat.wptr = 0 ∧ e.plat.bit Reg.FRZ_STATUS Fld.FRZ_STATUS_FULL = false ∧ (∀ o, SMap.get zeroByte e.plat.frz.log o = 0) ∧
         e.plat.frz.queue = d.plat.frz.queue ∧ d.plat.keeps e.plat [Reg.FRZ_STATUS, Reg.FRZ_CTRL])) ∧
       (d.plat.bit Reg.FRZ_STATUS Fld.FRZ_STATUS_FROZEN = false → Ends (.frzClear c) ⟨q, d⟩ (fun e =>
         e.plat.bit Reg.FRZ_EVT Fld.FRZ_EVT_POST_REFUSED = true ∧ e.plat.wptr = d.plat.wptr ∧ e.plat.frz = d.plat.frz ∧
         d.plat.keeps e.plat [Reg.FRZ_STATUS, Reg.FRZ_CTRL, Reg.FRZ_EVT])) ∧
       Ends (.frzFreezeFw c freeze) ⟨q, d⟩ (fun e =>
         e.plat.bit Reg.FRZ_CTRL Fld.FRZ_CTRL_FREEZE_FW = freeze ∧
         e.plat.bit Reg.FRZ_CTRL Fld.FRZ_CTRL_FREEZE_MI = d.plat.bit Reg.FRZ_CTRL Fld.FRZ_CTRL_FREEZE_MI ∧
         e.plat.bit Reg.FRZ_STATUS Fld.FRZ_STATUS_FROZEN = (freeze || d.plat.bit Reg.FRZ_CTRL Fld.FRZ_CTRL_FREEZE_MI) ∧
         e.plat.frz = d.plat.frz ∧ d.plat.keeps e.plat [Reg.FRZ_STATUS, Reg.FRZ_CTRL]))) ∧
  (∀ (q : List Instr) (d : Dev),
     (d.plat.frozen = true → Ends .friezeRecordWrite ⟨q, d⟩ (fun e => e = d)) ∧
     (d.plat.frozen = false → d.plat.frz.queue ≠ [] → ∃ f ∈ d.plat.frz.queue,
       (∀ g ∈ d.plat.frz.queue, f.time.toNat < g.time.toNat ∨ (f.time = g.time ∧ f.src ≤ g.src)) ∧
       let rec' := recordBytes (recFlags false f.fw) f.typ f.src (d.plat.fld Reg.MGT_NODE Fld.MGT_NODE_ID) 0 f.time f.payload
       (d.plat.bit Reg.FRZ_STATUS Fld.FRZ_STATUS_FULL = false → d.plat.bit Reg.FRZ_CTRL Fld.FRZ_CTRL_MODE = false →
         d.plat.frz.lostN = 0 → d.plat.isRepeat f = false → d.plat.wptr + rec'.length ≤ 0x80000 →
         Ends .friezeRecordWrite ⟨q, d⟩ (fun e =>
           SMap.bytes zeroByte e.plat.frz.log d.plat.wptr rec'.length = rec' ∧ e.plat.wptr = d.plat.wptr + rec'.length ∧
           (∀ o, o < d.plat.wptr ∨ d.plat.wptr + rec'.length ≤ o →
             SMap.get zeroByte e.plat.frz.log o = SMap.get zeroByte d.plat.frz.log o) ∧
           e.plat.frz.queue = d.plat.frz.queue.erase f ∧ d.plat.keeps e.plat [Reg.FRZ_STATUS, Reg.TRC_STAT])) ∧
       (d.plat.bit Reg.FRZ_STATUS Fld.FRZ_STATUS_FULL = false → d.plat.bit Reg.FRZ_CTRL Fld.FRZ_CTRL_MODE = false →
         d.plat.isRepeat f = false → 0x80000 < d.plat.wptr + rec'.length →
         Ends .friezeRecordWrite ⟨q, d⟩ (fun e =>
           e.plat.bit Reg.FRZ_STATUS Fld.FRZ_STATUS_FULL = true ∧ e.plat.bit Reg.FRZ_EVT Fld.FRZ_EVT_FULL = true ∧
           e.plat.bit Reg.FRZ_EVT Fld.FRZ_EVT_LOST = true ∧ e.plat.frz.log = d.plat.frz.log ∧ e.plat.wptr = d.plat.wptr)))) ∧
  (∀ (q : List Instr) (d : Dev) (c : CoreNo) (v : Word) (unit tag typ src : Nat),
     let delta : List Byte := le2 (d.plat.time - d.plat.trc.prev).toNat
     let queued (m : TrcMsg) (e : Dev) : Prop :=
       e.plat.trc.fifo = d.plat.trc.fifo ++ [m] ∧ e.plat.trc.prev = d.plat.time ∧ d.plat.keeps e.plat [Reg.TRC_STAT] ∧
       e.plat.fld Reg.TRC_STAT Fld.TRC_STAT_LEVEL = d.plat.trc.fifo.length + 1
     (d.plat.bit Reg.TRC_CFG Fld.TRC_CFG_EN = true → d.plat.trc.syncDue = false →
       (d.plat.time - d.plat.trc.prev).toNat ≤ 65535 →
       (d.plat.trc.fifo.length < 256 →
         ((d.plat.fld Reg.TRC_CFG Fld.TRC_CFG_TAG).testBit unit = true →
           Ends (.traceMessageSend (.tag unit tag)) ⟨q, d⟩ (queued ⟨2, [BitVec.ofNat 8 unit, BitVec.ofNat 8 tag] ++ delta⟩)) ∧
         (d.plat.bit Reg.TRC_CFG Fld.TRC_CFG_FW = true →
           Ends (.traceMessageSend (.fw c v)) ⟨q, d⟩ (queued ⟨3, BitVec.ofNat 8 c :: le4 v.toNat ++ delta⟩) ∧
           (d.powered Reg.TRC_FW → Ends (.trcFwWrite c v) ⟨q, d⟩ (queued ⟨3, BitVec.ofNat 8 c :: le4 v.toNat ++ delta⟩))) ∧
         (d.plat.bit Reg.TRC_CFG Fld.TRC_CFG_FRZ = true →
           Ends (.traceMessageSend (.frz typ src)) ⟨q, d⟩ (queued ⟨4, le2 typ ++ le2 src ++ delta⟩))) ∧
       (256 ≤ d.plat.trc.fifo.length → d.plat.bit Reg.TRC_CFG Fld.TRC_CFG_FW = true →
         Ends (.traceMessageSend (.fw c v)) ⟨q, d⟩ (fun e =>
           e.plat.trc.fifo = d.plat.trc.fifo ∧ e.plat.bit Reg.TRC_STAT Fld.TRC_STAT_DROP = true ∧
           d.plat.keeps e.plat [Reg.TRC_STAT]))) ∧
     (d.plat.bit Reg.TRC_CFG Fld.TRC_CFG_EN = true → d.plat.trc.fifo.length < 256 →
       Ends .traceSync ⟨q, d⟩ (queued ⟨1, le8 d.plat.time.toNat⟩)) ∧
     (∀ m ms, d.plat.bit Reg.TRC_CFG Fld.TRC_CFG_EN = true → d.plat.trc.fifo = m :: ms → ms.length < 256 → d.plat.trc.dropped = 0 →
       Ends .traceMessageOut ⟨q, d⟩ (fun e =>
         e.plat.trc.out = some m ∧ e.plat.trc.fifo = ms ∧ e.plat.fld Reg.TRC_STAT Fld.TRC_STAT_LEVEL = ms.length ∧
         d.plat.keeps e.plat [Reg.TRC_STAT])) ∧
     (d.plat.bit Reg.TRC_CFG Fld.TRC_CFG_EN = false → ∀ i ∈ [Instr.traceMessageSend (.fw c v), .traceSync, .traceMessageOut],
       Ends i ⟨q, d⟩ (fun e => e = d)))

/-- R274, R275, R287: doorbell writes, the polling of shadow doorbells, the coalescing time-out. How the idle count and
EventIdx are kept while polling rests on log entry 39, coalescing on log entry 40. -/
def Obligations.DoorbellsMoveQueuesOrAreInvalid : Prop :=
  ∀ (q : List Instr) (d : Dev) (n : CtlNo) (k : QueueNo) (v : HalfWord) (vec : Nat) (cq : Bool),
    let p : Plat := d.plat
    let c : Ctrl := d.hif.ctrl n
    let others (e : Dev) : Prop := ∀ m j, (m, j) ≠ (n.val, k.val) → e.hif.sq m j = d.hif.sq m j ∧ e.hif.cq m j = d.hif.cq m j
    let invalid (e : Dev) : Prop := e.plat.bit Reg.HIF_EVT Fld.HIF_EVT_DB_INVALID = true ∧
      (c.aers = [] → (e.hif.ctrl n).events = c.events ++ [0x010100] ∧ p.keeps e.plat [Reg.HIF_EVT] ∧ e.hif.sqs = d.hif.sqs ∧
        e.hif.cqs = d.hif.cqs) ∧
      (∀ u us, c.aers = u :: us → (e.hif.ctrl n).aers = us ∧ e.plat.tagState u = 0 ∧
        d.posts e u 0x010100 (p.ct u Ct.dw1) (p.ct u Ct.status))
    let tailOk (s : SubQ) : Prop := v.val < s.size ∧ ringDist s.size s.head s.tail ≤ ringDist s.size s.head v
    let headOk (s : CplQ) : Prop := v.val < s.size ∧ ringDist s.size s.head v ≤ s.posted.length
    let tailIs (s : SubQ) (x : Nat) (e : Dev) : Prop := ∃ s', e.hif.sq n k = some s' ∧ s'.tail = x ∧ s'.head = s.head ∧
      s'.size = s.size ∧ s'.cq = s.cq ∧ s'.stop = s.stop
    let released (s : CplQ) (e : Dev) : Prop := ∃ s', e.hif.cq n k = some s' ∧ s'.head = v ∧ s'.size = s.size ∧
      (s.posted.drop (ringDist s.size s.head v)) <+: s'.posted ∧ s'.waiting <:+ s.waiting ∧
      s'.posted.length + s'.waiting.length = s.posted.length - ringDist s.size s.head v + s.waiting.length ∧
      (s'.waiting ≠ [] → s'.size ≤ s'.posted.length + 1)
    let idle : Nat := atLeast1 (p.fld Reg.HIF_POLL Fld.HIF_POLL_IDLE)
    let polled (e : Dev) (x : Bool) (idx : Nat) : Prop :=
      if cq then ∃ s', e.hif.cq n k = some s' ∧ s'.shadow.polled = x ∧ s'.shadow.eventIdx = idx ∧ s'.shadow.last = v
      else ∃ s', e.hif.sq n k = some s' ∧ s'.shadow.polled = x ∧ s'.shadow.eventIdx = idx ∧ s'.shadow.last = v
    let shadow : Option Shadow := if cq then (d.hif.cq n k).map (fun s => s.shadow) else (d.hif.sq n k).map (fun s => s.shadow)
    let poll : Instr := .shadowDoorbellPoll n k cq v
    (d.hif.sq n k = none → Ends (.sqTailDoorbell n k v) ⟨q, d⟩ invalid) ∧
    (∀ s, d.hif.sq n k = some s → tailOk s → Ends (.sqTailDoorbell n k v) ⟨q, d⟩ (fun e =>
      tailIs s v e ∧ others e ∧ e.hif.cq n k = d.hif.cq n k ∧ e.plat = p ∧
      (c.dbbuf = true → ∃ s', e.hif.sq n k = some s' ∧ s'.shadow.polled = true))) ∧
    (∀ s, d.hif.sq n k = some s → ¬ tailOk s → Ends (.sqTailDoorbell n k v) ⟨q, d⟩ invalid) ∧
    (d.hif.cq n k = none → Ends (.cqHeadDoorbell n k v) ⟨q, d⟩ invalid) ∧
    (∀ s, d.hif.cq n k = some s → headOk s → Ends (.cqHeadDoorbell n k v) ⟨q, d⟩ (fun e =>
      released s e ∧ others e ∧ e.hif.sq n k = d.hif.sq n k ∧ e.plat = p ∧
      (c.dbbuf = true → ∃ s', e.hif.cq n k = some s' ∧ s'.shadow.polled = true))) ∧
    (∀ s, d.hif.cq n k = some s → ¬ headOk s → Ends (.cqHeadDoorbell n k v) ⟨q, d⟩ invalid) ∧
    (c.dbbuf = false ∨ shadow = none → Ends poll ⟨q, d⟩ (fun e => e = d)) ∧
    (∀ w, shadow = some w → w.polled = false → Ends poll ⟨q, d⟩ (fun e => e = d)) ∧
    (∀ w, c.dbbuf = true → shadow = some w → w.polled = true → v.val = w.last → w.same + 1 < idle →
      Ends poll ⟨q, d⟩ (fun e => polled e true ((v.val + 65535) % 65536) ∧ others e ∧ e.plat = p)) ∧
    (∀ w, c.dbbuf = true → shadow = some w → w.polled = true → v.val = w.last → idle ≤ w.same + 1 →
      Ends poll ⟨q, d⟩ (fun e => polled e false v ∧ others e ∧ e.plat = p)) ∧
    (∀ s, cq = false → c.dbbuf = true → d.hif.sq n k = some s → s.shadow.polled = true → v.val ≠ s.shadow.last → v.val ≠ s.tail →
      tailOk s → Ends poll ⟨q, d⟩ (fun e =>
        tailIs s v e ∧ polled e true ((v.val + 65535) % 65536) ∧ others e ∧ e.plat = p)) ∧
    (∀ s, cq = false → c.dbbuf = true → d.hif.sq n k = some s → s.shadow.polled = true → v.val ≠ s.shadow.last → v.val ≠ s.tail →
      ¬ tailOk s → Ends poll ⟨q, d⟩ (fun e => e.plat.bit Reg.HIF_EVT Fld.HIF_EVT_DB_INVALID = true ∧
        (c.aers = [] → tailIs s s.tail e ∧ polled e true ((v.val + 65535) % 65536)))) ∧
    (∀ s, cq = true → c.dbbuf = true → d.hif.cq n k = some s → s.shadow.polled = true → v.val ≠ s.shadow.last → v.val ≠ s.head →
      headOk s → Ends poll ⟨q, d⟩ (fun e =>
        released s e ∧ polled e true ((v.val + 65535) % 65536) ∧ others e ∧ e.plat = p)) ∧
    (∀ s, cq = true → c.dbbuf = true → d.hif.cq n k = some s → s.shadow.polled = true → v.val ≠ s.shadow.last → v.val ≠ s.head →
      ¬ headOk s → Ends poll ⟨q, d⟩ (fun e => e.plat.bit Reg.HIF_EVT Fld.HIF_EVT_DB_INVALID = true ∧
        (c.aers = [] → polled e true ((v.val + 65535) % 65536)))) ∧
    (let sent (h : Hif) : Nat := SMap.get (fun _ => 0) h.irqSent (2048 * n + vec)
     let held (h : Hif) : Nat := SMap.get (fun _ => 0) h.irqHeld (2048 * n + vec)
     (vec < 2048 → held d.hif ≠ 0 → Ends (.interruptCoalescingTimeout n vec) ⟨q, d⟩ (fun e =>
       held e.hif = 0 ∧ sent e.hif = sent d.hif + 1 ∧ e.plat = p ∧ e.hif.cqs = d.hif.cqs)) ∧
     (vec < 2048 → held d.hif = 0 → Ends (.interruptCoalescingTimeout n vec) ⟨q, d⟩ (fun e => e = d)))

/-- R264, R265, R268, R269, R272, R273, R289, R291, R292: the fetch of a submission entry, configuration requests, link
training, link up and down, an uncorrectable error. Which submission queue a fetch takes within a controller is an operand
(log entry 38). -/
def Obligations.FetchesLinksAndConfiguration : Prop :=
  ∀ (q : List Instr) (d : Dev) (t : TagNo) (sel : Nat) (entry : Bytes) (n : CtlNo) (port : PortNo) (speed width : Nat) (hot : Bool),
    let p : Plat := d.plat
    let open' : Prop := p.tagState t = 0 ∧ p.bit Reg.CMD_CTRL Fld.CMD_CTRL_FETCH_HOLD = false ∧ d.cmd.hold = false
    let ready : Bool := p.bit Reg.HIF_CFG Fld.HIF_CFG_CFG_READY
    let stat (e : Dev) (f : Fld) : Nat := e.plat.fld (Reg.HIF_LINK_STAT port) f
    let up : Bool := p.bit (Reg.HIF_LINK_STAT port) Fld.HIF_LINK_STAT_DL_UP
    let training (e : Dev) : Bool := SMap.get (fun _ => false) e.hif.training port
    let may : Prop := p.bit Reg.HIF_LINK_CFG (if port = 0 then Fld.HIF_LINK_CFG_LTSSM_A else Fld.HIF_LINK_CFG_LTSSM_B) = true ∧
      (port = 0 ∨ p.bit Reg.HIF_LINK_CFG Fld.HIF_LINK_CFG_MODE = true) ∧
      p.bit (Reg.HIF_LINK_STAT port) Fld.HIF_LINK_STAT_PERST = false ∧ p.on 16 = true ∧ p.on 17 = true ∧ up = false
    let items : List (ConfigItem × Nat) := [(.vendorDevice, if n.val < 2 then (p.rd Reg.HIF_ID0).toNat else 0xFFFFFFFF),
      (.revisionClass, 0x01080200 + p.fld Reg.HIF_ID2 Fld.HIF_ID2_REV), (.subsystem, (p.rd Reg.HIF_ID1).toNat),
      (.vfDeviceId, p.fld Reg.HIF_ID2 Fld.HIF_ID2_VFDID),
      (.totalVfs, p.fld Reg.HIF_SRIOV (if n.val = 1 then Fld.HIF_SRIOV_TOTALVF1 else Fld.HIF_SRIOV_TOTALVF0)),
      (.msixTableSize, atLeast1 (p.fld (Reg.HIF_FN_RES n) Fld.HIF_FN_RES_INTMAX) - 1), (.slotClockConfig, 0),
      (.clockPowerManagement, 0)]
    (∀ r s, open' → nextFetch p d.hif sel = some r → r.1 < 64 → d.hif.sq r.1 r.2.1 = some s → entry.length = 64 →
      s.head ≠ s.tail ∧ s.stop = none ∧ (p.tagsOf r.1).length < p.tagMax r.1 ∧ reserveOf p d.hif r.1 + 1 ≤ p.freeTags ∧
      Ends (.commandFetch t sel entry) ⟨q, d⟩ (fun e =>
        e.plat.tagState t = 1 ∧ e.plat.ct t Ct.cntl = r.1 ∧ e.plat.ct t Ct.sqid = r.2.1 ∧ e.plat.ct t Ct.slot = s.head % 4096 ∧
        e.plat.tFetch t = p.time.toNat ∧ e.plat.ct t Ct.tref = 0 ∧ e.plat.ct t Ct.posted = 0 ∧
        (∃ s', e.hif.sq r.1 r.2.1 = some s' ∧ s'.head = (if s.head + 1 = s.size then 0 else s.head + 1) ∧ s'.tail = s.tail) ∧
        SMap.bytes zeroByte e.sys.sram (p.sqeCopy t) 64 = entry ∧ (1, t.val) ∈ e.cmd.evq ∧ e.hif.cqs = d.hif.cqs)) ∧
    (¬ open' ∨ nextFetch p d.hif sel = none → Ends (.commandFetch t sel entry) ⟨q, d⟩ (fun e => e = d)) ∧
    (∀ i ∈ ConfigItem.other :: items.map (fun x => x.1), ready = false → Ends (.configRequest n i) ⟨q, d⟩ (fun e =>
      e.hif = { d.hif with cfgAns := some none } ∧ e.plat.regs = p.regs)) ∧
    (∀ x ∈ items, ready = true → Ends (.configRequest n x.1) ⟨q, d⟩ (fun e =>
      e.hif = { d.hif with cfgAns := some (some x.2) } ∧ e.plat = p)) ∧
    (may → Ends (.linkTrainingStart port) ⟨q, d⟩ (fun e =>
      stat e Fld.HIF_LINK_STAT_LTSSM = 1 ∧ training e = true ∧ p.keeps e.plat [Reg.HIF_LINK_STAT port] ∧
      SMap.get (fun _ => 0) e.hif.linkCfg (1 + port) = (p.rd Reg.HIF_LINK_CFG).toNat)) ∧
    (¬ may → Ends (.linkTrainingStart port) ⟨q, d⟩ (fun e => e = d)) ∧
    (training d = true ∨ up = true → Ends (.linkUp port speed width) ⟨q, d⟩ (fun e =>
      stat e Fld.HIF_LINK_STAT_DL_UP = 1 ∧ stat e Fld.HIF_LINK_STAT_LTSSM = 3 ∧
      stat e Fld.HIF_LINK_STAT_SPEED = min (atLeast1 speed) (speedCap p port) ∧
      (width = 1 ∨ width = 2 ∨ width = 4 ∨ width = 8 → stat e Fld.HIF_LINK_STAT_WIDTH = min width (widthCap p)) ∧
      training e = false ∧ e.plat.bit Reg.HIF_EVT (linkFlag port) = true ∧
      p.keeps e.plat [Reg.HIF_LINK_STAT port, Reg.HIF_EVT])) ∧
    (training d = false → up = false → Ends (.linkUp port speed width) ⟨q, d⟩ (fun e => e = d)) ∧
    Ends (.linkDown port hot) ⟨q, d⟩ (fun e =>
      stat e Fld.HIF_LINK_STAT_DL_UP = 0 ∧ stat e Fld.HIF_LINK_STAT_SPEED = 0 ∧ stat e Fld.HIF_LINK_STAT_WIDTH = 0 ∧
      stat e Fld.HIF_LINK_STAT_LTSSM = (if hot then 7 else 0) ∧ e.plat.bit Reg.HIF_EVT (linkFlag port) = true ∧ training e = false ∧
      ∀ m : CtlNo, (portOf p d.hif m = port → (e.hif.ctrl m).en = false ∧ ∀ k, e.hif.sq m k = none ∧ e.hif.cq m k = none) ∧
        (portOf p d.hif m ≠ port → (e.hif.ctrl m).en = (d.hif.ctrl m).en ∧ ∀ k, e.hif.sq m k = d.hif.sq m k)) ∧
    Ends .pcieUncorrectableError ⟨q, d⟩ (fun e =>
      e.plat.bit Reg.HIF_EVT Fld.HIF_EVT_AER_UNCORR = true ∧ p.keeps e.plat [Reg.HIF_EVT] ∧ e.hif = d.hif)

/-- R269, R271, R272, R264, R306, R307, R308, Table HIF-3: register writes that the Host Interface checks, VF configuration,
the controller resets, shutdown, enabling. QMAX above 1,024 and INTMAX above 1,025 refused: log entry 37. A feature's reset
value 0 but for the write cache: log entry 36. -/
def Obligations.ControllersResetAndTheirResources : Prop :=
  ∀ (q : List Instr) (d : Dev) (c : CoreNo) (n : CtlNo) (pf : PortNo) (v : Word) (num : HalfWord) (en recorded : Bool) (asqs acqs : Nat),
    let p : Plat := d.plat
    let k : Ctrl := d.hif.ctrl n
    let sum (reg : Nat → Nat) (f : Fld) (g : Nat → Nat) (x : Nat) : Nat :=
      (((List.range 64).filter (fun m => m != n.val)).map (fun m => g (p.fld (reg m) f))).sum + g x
    let qmax : Nat := Fld.get Fld.HIF_FN_RES_QMAX v
    let imax : Nat := Fld.get Fld.HIF_FN_RES_INTMAX v
    let resOk : Prop := k.en = false ∧ qmax ≤ 1024 ∧ imax ≤ 1025 ∧ sum Reg.HIF_FN_RES Fld.HIF_FN_RES_QMAX id qmax ≤ 2048 ∧
      sum Reg.HIF_FN_RES Fld.HIF_FN_RES_INTMAX atLeast1 imax ≤ 2112
    let tagOk : Prop := sum Reg.HIF_FN_TAG Fld.HIF_FN_TAG_TAG_MIN id (Fld.get Fld.HIF_FN_TAG_TAG_MIN v) ≤ 8192
    let modeOk : Prop := Fld.get Fld.HIF_LINK_CFG_MODE v = p.fld Reg.HIF_LINK_CFG Fld.HIF_LINK_CFG_MODE ∨
      p.bit Reg.HIF_LINK_CFG Fld.HIF_LINK_CFG_LTSSM_A = false ∧ p.bit Reg.HIF_LINK_CFG Fld.HIF_LINK_CFG_LTSSM_B = false
    let vfOk : Prop := p.bit Reg.HIF_CFG Fld.HIF_CFG_CFG_READY = false ∧
      Fld.get Fld.HIF_SRIOV_TOTALVF0 v + Fld.get Fld.HIF_SRIOV_TOTALVF1 v ≤ 62
    let writes : List (Instr × Nat × List Fld × Prop) :=
      [(.hifFnResWrite c n v, Reg.HIF_FN_RES n, [Fld.HIF_FN_RES_QMAX, Fld.HIF_FN_RES_INTMAX], resOk),
       (.hifFnTagWrite c n v, Reg.HIF_FN_TAG n, [Fld.HIF_FN_TAG_TAG_MIN, Fld.HIF_FN_TAG_TAG_MAX], tagOk),
       (.hifLinkCfgWrite c v, Reg.HIF_LINK_CFG, [Fld.HIF_LINK_CFG_MODE, Fld.HIF_LINK_CFG_LTSSM_A, Fld.HIF_LINK_CFG_LTSSM_B], modeOk),
       (.hifSriovWrite c v, Reg.HIF_SRIOV, [Fld.HIF_SRIOV_TOTALVF0, Fld.HIF_SRIOV_TOTALVF1], vfOk)]
    let wasReset (m : CtlNo) (e : Dev) : Prop := (e.hif.ctrl m).en = false ∧ (e.hif.ctrl m).features = [(6, 1)] ∧
      (∀ j, e.hif.sq m j = none ∧ e.hif.cq m j = none) ∧
      ∀ t : TagNo, p.ct t Ct.cntl = m → (let s : Nat := p.tagState t
        let ends : Prop := s = 1 ∨ s = 2 ∧ p.ct t Ct.tref = 0 ∨ s = 5
        (ends → e.plat.tagState t = 0) ∧ (¬ ends → e.plat.tagState t = s))
    let drained (m : CtlNo) : Prop := SMap.wf resetWord p.regs ∧ ∀ t : TagNo, p.ct t Ct.cntl = m →
      p.tagState t ≠ 3 ∧ (p.tagState t = 2 → p.ct t Ct.tref = 0)
    let enOk : Prop := k.en = false ∧ k.resetting = false ∧ 2 ≤ asqs ∧ asqs ≤ 4096 ∧ 2 ≤ acqs ∧ acqs ≤ 4096
    (∀ w ∈ writes, d.powered w.2.1 → w.2.2.2 → Ends w.1 ⟨q, d⟩ (fun e =>
      (∀ f ∈ w.2.2.1, e.plat.fld w.2.1 f = Fld.get f v) ∧ p.keeps e.plat [w.2.1] ∧ e.hif = d.hif)) ∧
    (∀ w ∈ writes, d.powered w.2.1 → ¬ w.2.2.2 → Ends w.1 ⟨q, d⟩ (fun e =>
      e.plat.bit Reg.HIF_EVT Fld.HIF_EVT_CFG_REFUSED = true ∧ p.keeps e.plat [Reg.HIF_EVT] ∧ e.hif = d.hif)) ∧
    Ends (.vfConfigWrite pf num en) ⟨q, d⟩ (fun e =>
      e.plat.bit Reg.HIF_EVT Fld.HIF_EVT_VF_CFG = true ∧ p.keeps e.plat [Reg.HIF_EVT] ∧
      SMap.get (fun _ => 0) e.hif.numVfs pf = num ∧ SMap.get (fun _ => false) e.hif.vfEn pf = en) ∧
    Ends (.functionLevelReset n) ⟨q, d⟩ (fun e =>
      wasReset n e ∧ e.plat.bit Reg.HIF_EVT Fld.HIF_EVT_FLR = true ∧ (drained n → (e.hif.ctrl n).rdy = false)) ∧
    Ends (.controllerEnableClear n) ⟨q, d⟩ (fun e =>
      wasReset n e ∧ (drained n → (e.hif.ctrl n).rdy = false) ∧ (∀ m : CtlNo, m ≠ n → e.hif.ctrl m = d.hif.ctrl m)) ∧
    Ends .nvmSubsystemReset ⟨q, d⟩ (fun e => ∀ m : CtlNo, wasReset m e ∧ (drained m → (e.hif.ctrl m).rdy = false)) ∧
    Ends (.shutdownNotification n recorded) ⟨q, d⟩ (fun e =>
      e.hif.ctrl n = { k with shn := true, shst := (e.hif.ctrl n).shst } ∧ e.plat = p ∧
      ((e.hif.ctrl n).shst = 2 ∨ (e.hif.ctrl n).shst = 1) ∧
      (recorded = false → (e.hif.ctrl n).shst = 1) ∧ ((∃ t : TagNo, p.tagState t = 4) → (e.hif.ctrl n).shst = 1) ∧
      (recorded = true → SMap.wf resetWord p.regs → (∀ t : TagNo, p.tagState t ≠ 4) → (e.hif.ctrl n).shst = 2)) ∧
    (enOk → Ends (.controllerEnable n asqs acqs) ⟨q, d⟩ (fun e =>
      e.hif.ctrl n = { k with en := true, rdy := true } ∧ e.plat = p ∧
      e.hif.sq n 0 = some ⟨asqs, 0, 0, 0, none, ⟨false, 0, 0, 0⟩⟩ ∧
      e.hif.cq n 0 = some ⟨acqs, true, 0, 0, 0, true, [], [], ⟨false, 0, 0, 0⟩⟩)) ∧
    (¬ enOk → Ends (.controllerEnable n asqs acqs) ⟨q, d⟩ (fun e => e = d))

/-- R276, R277, R278, R302, Tables HIF-4 and HIF-5: the admin commands for queues, features and asynchronous events. The
status codes and field layouts of the NVM Express specifications rest on log entry 20; feature reset values on log entry 36.
-/
def Obligations.QueueFeatureAndEventCommands : Prop :=
  ∀ (q : List Instr) (d : Dev) (t : TagNo) (pg : PageNo) (data fw : Bytes) (a b : Nat) (ok : Bool) (mi : MiCmd),
    let p : Plat := d.plat
    let n : Nat := p.ct t Ct.cntl
    let k : Ctrl := d.hif.ctrl n
    let dw (j : Nat) : Nat := d.hif.dw t j
    let qid : Nat := dw 10 % 2 ^ 16
    let size : Nat := dw 10 / 2 ^ 16 + 1
    let qmax : Nat := p.fld (Reg.HIF_FN_RES n) Fld.HIF_FN_RES_QMAX
    let alone : Prop := ∀ s, d.hif.sq n 0 = some s → s.stop = none ∧ s.cq = 0
    let is (op : Nat) : Prop := d.holdsAdmin t op
    let done (i : Instr) (dw0 status : Nat) : Prop := Ends i ⟨q, d⟩ (fun e => d.completes e t dw0 status)
    let used : Prop := ∃ j : Fin 2048, ∃ s ∈ d.hif.sq n j, s.cq = qid
    let all : List (Instr × Nat) := [(.deleteIoSq t, 0x00), (.createIoSq t, 0x01), (.getLogPage t pg fw, 0x02), (.deleteIoCq t, 0x04),
      (.createIoCq t, 0x05), (.identify t pg fw, 0x06), (.setFeatures t data, 0x09), (.getFeatures t pg, 0x0A),
      (.asyncEventRequest t, 0x0C), (.namespaceManagement t data a b, 0x0D), (.firmwareCommit t, 0x10),
      (.firmwareImageDownload t data, 0x11), (.deviceSelfTest t none, 0x14), (.namespaceAttachment t data, 0x15),
      (.virtualizationManagement t, 0x1C), (.nvmeMiSend t mi, 0x1D), (.nvmeMiReceive t pg, 0x1E), (.doorbellBufferConfig t, 0x7C),
      (.formatNvm t ok, 0x80), (.securitySend t ok, 0x81), (.securityReceive t pg data, 0x82), (.sanitize t, 0x84)]
    let gone (u : TagNo) : Prop := (p.tagState u = 1 ∨ p.tagState u = 2) ∧ p.ct u Ct.tref = 0 ∧
      ¬ (p.ct u Ct.xfer = 1 ∧ ∃ y ∈ d.sec.xfers, y.tag = u.val ∧ y.out = true)
    let ofQueue (u : TagNo) : Prop := p.ct u Ct.cntl = n ∧ p.ct u Ct.sqid = qid
    let remains : Prop := ∃ u : TagNo, ofQueue u ∧ 1 ≤ p.tagState u ∧ p.tagState u ≤ 3 ∧ ¬ gone u
    let f : Nat := dw 10 % 256
    let d11 : Nat := dw 11
    let val (e : Dev) (j : Nat) : Nat := e.hif.feature n j
    let sel : Nat := dw 10 / 256 % 8
    let ms : Nat := p.time.toNat / 1000000
    (∀ x ∈ all, d.fe.isAdmin t x.2 = true → d.hif.psdt t ≠ 0 → done x.1 0 0x02) ∧
    (∀ x ∈ all, d.fe.isAdmin t x.2 = false → Ends x.1 ⟨q, d⟩ (fun e => e = d)) ∧
    (is 0x05 → (qid = 0 ∨ qmax < qid ∨ d.hif.cq n qid ≠ none → done (.createIoCq t) 0 0x101) ∧
      (¬ (qid = 0 ∨ qmax < qid ∨ d.hif.cq n qid ≠ none) →
        (size < 2 ∨ 4096 < size → done (.createIoCq t) 0 0x102) ∧
        (2 ≤ size → size ≤ 4096 → (d11 % 2 = 0 → done (.createIoCq t) 0 0x02) ∧
          (d11 % 2 = 1 → atLeast1 (p.fld (Reg.HIF_FN_RES n) Fld.HIF_FN_RES_INTMAX) ≤ d11 / 2 ^ 16 → done (.createIoCq t) 0 0x108) ∧
          (d11 % 2 = 1 → d11 / 2 ^ 16 < atLeast1 (p.fld (Reg.HIF_FN_RES n) Fld.HIF_FN_RES_INTMAX) → alone →
            Ends (.createIoCq t) ⟨q, d⟩ (fun e => d.completes e t 0 0 ∧
              e.hif.cq n qid = some ⟨size, d11.testBit 1, d11 / 2 ^ 16, 0, 0, true, [], [], ⟨k.dbbuf, 0, 0, 0⟩⟩))))) ∧
    (is 0x01 → (qid = 0 ∨ qmax < qid ∨ d.hif.sq n qid ≠ none → done (.createIoSq t) 0 0x101) ∧
      (¬ (qid = 0 ∨ qmax < qid ∨ d.hif.sq n qid ≠ none) →
        (size < 2 ∨ 4096 < size → done (.createIoSq t) 0 0x102) ∧
        (2 ≤ size → size ≤ 4096 →
          (d11 / 2 ^ 16 = 0 ∨ d.hif.cq n (d11 / 2 ^ 16) = none → done (.createIoSq t) 0 0x100) ∧
          (d11 / 2 ^ 16 ≠ 0 → d.hif.cq n (d11 / 2 ^ 16) ≠ none → d11 % 2 = 0 → done (.createIoSq t) 0 0x02) ∧
          (d11 / 2 ^ 16 ≠ 0 → d.hif.cq n (d11 / 2 ^ 16) ≠ none → d11 % 2 = 1 → alone →
            Ends (.createIoSq t) ⟨q, d⟩ (fun e => d.completes e t 0 0 ∧
              e.hif.sq n qid = some ⟨size, d11 / 2 ^ 16, 0, 0, none, ⟨k.dbbuf, 0, 0, 0⟩⟩))))) ∧
    (is 0x04 → (qid = 0 ∨ d.hif.cq n qid = none → done (.deleteIoCq t) 0 0x101) ∧
      (qid ≠ 0 → d.hif.cq n qid ≠ none → used → done (.deleteIoCq t) 0 0x10C) ∧
      (qid ≠ 0 → d.hif.cq n qid ≠ none → ¬ used → SMap.wf (fun _ => none) d.hif.sqs → alone →
        Ends (.deleteIoCq t) ⟨q, d⟩ (fun e => d.completes e t 0 0 ∧ e.hif.cq n qid = none))) ∧
    (is 0x00 → (qid = 0 ∨ d.hif.sq n qid = none → done (.deleteIoSq t) 0 0x101) ∧
      (∀ s, qid ≠ 0 → d.hif.sq n qid = some s → SMap.wf resetWord p.regs → Ends (.deleteIoSq t) ⟨q, d⟩ (fun e =>
        (∀ u : TagNo, ofQueue u → gone u → e.plat.tagState u = 0) ∧
        (remains → e.hif.sq n qid = some { s with stop := some t.val } ∧ e.plat.tagState t = 1) ∧
        (¬ remains → e.hif.sq n qid = none ∧ e.plat.tagState t = 0) ∧
        (¬ remains → (∀ u : TagNo, ofQueue u → ¬ gone u) → alone →
          d.posts e t (p.ct t Ct.dw0) (p.ct t Ct.dw1) (p.ct t Ct.status))))) ∧
    (is 0x09 → (featureListed f = false → done (.setFeatures t data) 0 0x02) ∧
      (f ∈ [0x01, 0x04, 0x06, 0x08, 0x09, 0x0B] → Ends (.setFeatures t data) ⟨q, d⟩ (fun e =>
        d.completes e t 0 0 ∧ val e (featureKey f d11) = d11 ∧
        ∀ j, j ≠ featureKey f d11 → val e j = val d j)) ∧
      (f = 0x07 → d11 % 2 ^ 16 = 0xFFFF ∨ d11 / 2 ^ 16 = 0xFFFF → done (.setFeatures t data) 0 0x02) ∧
      (f = 0x07 → d11 % 2 ^ 16 ≠ 0xFFFF → d11 / 2 ^ 16 ≠ 0xFFFF →
        done (.setFeatures t data) (min (d11 % 2 ^ 16) (qmax - 1) + 2 ^ 16 * min (d11 / 2 ^ 16) (qmax - 1)) 0) ∧
      (f = 0x02 → 3 < d11 % 32 → done (.setFeatures t data) 0 0x02) ∧
      (f = 0x02 → d11 % 32 ≤ 3 → Ends (.setFeatures t data) ⟨q, d⟩ (fun e => d.completes e t 0 0 ∧ val e 0x02 = d11 ∧
        (p.on 31 = true → e.plat.fld Reg.THM_PCAP Fld.THM_PCAP_CAP = [2700, 1800, 1100, 250].getD (d11 % 32) 0))) ∧
      (f = 0x0E → Ends (.setFeatures t data) ⟨q, d⟩ (fun e => d.completes e t 0 0 ∧
        e.hif.tsOffset + ms = leNat (data.take 6)))) ∧
    (is 0x0A → (featureListed f = false ∨ 3 < sel → done (.getFeatures t pg) 0 0x02) ∧
      (featureListed f = true → sel = 3 → done (.getFeatures t pg) 4 0) ∧
      (featureListed f = true → f ≠ 0x0E → sel = 0 → done (.getFeatures t pg) (val d (featureKey f d11) % 2 ^ 32) 0) ∧
      (featureListed f = true → f ≠ 0x0E → sel = 1 ∨ sel = 2 → done (.getFeatures t pg) (if f = 0x06 then 1 else 0) 0) ∧
      (f = 0x0E → sel = 0 → Ends (.getFeatures t pg) ⟨q, d⟩ (fun e =>
        d.sends e t pg 0 (leBytes 6 (bitsOf 48 (d.hif.tsOffset + ms)) ++ [if d.hif.tsOffset = 0 then 0 else 2, 0])))) ∧
    (is 0x0C → (t.val ∈ k.aers → Ends (.asyncEventRequest t) ⟨q, d⟩ (fun e => e = d)) ∧
      (t.val ∉ k.aers → 16 ≤ k.aers.length → done (.asyncEventRequest t) 0 0x105) ∧
      (t.val ∉ k.aers → k.aers.length < 16 → k.events = [] → Ends (.asyncEventRequest t) ⟨q, d⟩ (fun e =>
        (e.hif.ctrl n).aers = k.aers ++ [t.val] ∧ e.plat = p)) ∧
      (∀ x xs, t.val ∉ k.aers → k.aers.length < 16 → k.events = x :: xs → Ends (.asyncEventRequest t) ⟨q, d⟩ (fun e =>
        d.completes e t (x % 2 ^ 32) 0 ∧ (e.hif.ctrl n).events = xs)))

/-- R276, R277, R301, R302, R303, R309, Table CMD-5: Abort, Namespace Management and Attachment, Firmware Image Download and
Commit. Status codes and layouts: log entry 20. That firmware slot 1 is active first: log entry 45. -/
def Obligations.AbortNamespaceAndFirmwareCommands : Prop :=
  ∀ (q : List Instr) (d : Dev) (t : TagNo) (data : Bytes) (zcap share : Nat),
    let p : Plat := d.plat
    let n : Nat := p.ct t Ct.cntl
    let dw (j : Nat) : Nat := d.hif.dw t j
    let is (op : Nat) : Prop := d.holdsAdmin t op
    let done (i : Instr) (dw0 status : Nat) : Prop := Ends i ⟨q, d⟩ (fun e => d.completes e t dw0 status)
    let sqid : Nat := dw 10 % 2 ^ 16
    let abort : Instr := .abortCommand t
    let early : Prop := d.fe.abortsWaiting n t < 4
    let apart (u : Nat) : Prop := ∀ x y, d.hif.sq n 0 = some x → d.hif.sq (p.ct u Ct.cntl) (p.ct u Ct.sqid) = some y →
      x.stop = none ∧ y.stop = none ∧ (p.ct u Ct.cntl = n → x.cq ≠ y.cq)
    let caught (u : Nat) (e : Dev) : Prop := e.plat.tagState u = 0 ∧ e.plat.tagState t = 0 ∧
      (apart u → d.posts e u 0 0 0x07 ∧ d.posts e t 0 0 0)
    let waits (e : Dev) : Prop := e.plat.tagState t = 2
    let mgmt : Instr := .namespaceManagement t data zcap share
    let sel : Nat := dw 10 % 16
    let csi : Nat := dw 11 / 2 ^ 24
    let i : Nat := d.hif.nsid t
    let size : Nat := leNat (data.take 8)
    let badNs : Prop := (csi ≠ 0 ∧ csi ≠ 2) ∨ size = 0 ∨ (csi = 2 ∧ (size % zoneSize ≠ 0 ∨ share = 0))
    let tooBig : Prop := 2 ^ 35 < d.hif.totals.1 + size ∨ (csi = 2 ∧ 1024 < d.hif.totals.2 + share)
    let quiet (mask : Nat) : Prop := ∀ m : CtlNo, mask.testBit m = true → (d.hif.ctrl m).aers = []
    let cs : List Nat := ctrlList data
    let m : Nat := cs.foldl (fun m c => m ||| 2 ^ c) 0
    let att : Instr := .namespaceAttachment t data
    let fw (e : Dev) : FwImages := e.hif.fw
    let ca : Nat := dw 10 / 8 % 8
    let fs : Nat := dw 10 % 8
    let slot : Nat := if fs = 0 then (if (fw d).active = 1 then 2 else 1) else fs
    let commit : Instr := .firmwareCommit t
    let hold (e : Dev) : Bool := e.plat.bit Reg.CMD_CTRL Fld.CMD_CTRL_FETCH_HOLD
    let fresh : Prop := (fw d).pending ≠ some (t.val, slot)
    let source : Prop := if ca ≤ 1 then (fw d).image ≠ [] else (fw d).present.testBit slot = true
    let stored (e : Dev) : Prop := ca ≤ 1 → SMap.get (fun _ => []) (fw e).slots slot = (fw d).image ∧ (fw e).image = [] ∧
      (fw e).present.testBit slot = true
    (is 0x08 → ¬ early → done abort 0 0x103) ∧
    (is 0x08 → early → d.fe.findTag n sqid (dw 10 / 2 ^ 16) = none → done abort 1 0) ∧
    (∀ u : TagNo, is 0x08 → early → d.fe.findTag n sqid (dw 10 / 2 ^ 16) = some u.val → sqid = 0 ∨ p.tagState u = 4 →
      done abort 1 0) ∧
    (∀ u : TagNo, is 0x08 → early → d.fe.findTag n sqid (dw 10 / 2 ^ 16) = some u.val → sqid ≠ 0 →
      p.tagState u = 1 ∨ p.tagState u = 2 ∧ p.ct u Ct.tref = 0 →
        (p.ct u Ct.xfer = 0 → Ends abort ⟨q, d⟩ (caught u)) ∧
        (p.ct u Ct.xfer = 1 → Ends abort ⟨q, d⟩ (fun e => waits e ∧ e.plat.tagState u = p.tagState u))) ∧
    (∀ u : TagNo, is 0x08 → early → d.fe.findTag n sqid (dw 10 / 2 ^ 16) = some u.val → sqid ≠ 0 →
      p.tagState u = 2 ∧ p.ct u Ct.tref ≠ 0 ∨ p.tagState u = 3 → d.fe.movingOut u = false → Ends abort ⟨q, d⟩ (fun e =>
        waits e ∧ e.plat.tagState u = p.tagState u ∧ e.plat.ct u Ct.abrt = 1 ∧
        (p.ct u Ct.abrt = 0 → ∀ (j : ActNo) y, y ∈ d.cmd.posts j → y.carries u = true → { y with abort := true } ∈ e.cmd.posts j))) ∧
    (∀ u : TagNo, p.tagState t = 2 → p.ct t Ct.sqid = 0 → d.hif.opcode t = 0x08 → d.hif.psdt t = 0 →
      d.fe.findTag n sqid (dw 10 / 2 ^ 16) = some u.val → sqid ≠ 0 → p.tagState u = 5 → p.ct u Ct.abrt = 1 → p.ct u Ct.abrtLate = 0 →
      SMap.get (fun _ => 0) d.cmd.others u = 0 → Ends abort ⟨q, d⟩ (caught u)) ∧
    (is 0x0D → sel = 0 → (badNs → done mgmt 0 0x02) ∧ (¬ badNs → tooBig → done mgmt 0 0x115) ∧
      (¬ badNs → ¬ tooBig → (∀ k : Fin 64, d.hif.ns (k + 1) ≠ none) → done mgmt 0 0x116) ∧
      (∀ k : Fin 64, ¬ badNs → ¬ tooBig → d.hif.ns (k + 1) = none → (∀ j : Fin 64, j < k → d.hif.ns (j + 1) ≠ none) →
        Ends mgmt ⟨q, d⟩ (fun e => d.completes e t (k + 1) 0 ∧
          e.hif.ns (k + 1) = some ⟨csi = 2, size, min zcap zoneSize, share, 0⟩ ∧ ∀ j, j ≠ k.val + 1 → e.hif.ns j = d.hif.ns j))) ∧
    (is 0x0D → sel = 1 → (i = 0xFFFFFFFF → Ends mgmt ⟨q, d⟩ (fun e =>
        d.completes e t 0 0 ∧ ∀ k : Fin 64, e.hif.ns (k + 1) = none)) ∧
      (i ≠ 0xFFFFFFFF → d.hif.ns i = none → done mgmt 0 0x0B) ∧
      (∀ x, i ≠ 0xFFFFFFFF → d.hif.ns i = some x → Ends mgmt ⟨q, d⟩ (fun e =>
        e.hif.ns i = none ∧ (∀ j, j ≠ i → e.hif.ns j = d.hif.ns j) ∧ e.plat.tagState t = 0 ∧ i ∈ e.hif.changedNs ∧
        (quiet x.attached → d.completes e t 0 0)))) ∧
    (is 0x0D → 1 < sel → done mgmt 0 0x02) ∧
    (is 0x15 → (d.hif.ns i = none → done att 0 0x0B) ∧
      (∀ x, d.hif.ns i = some x → (1 < sel → done att 0 0x02) ∧
        (sel ≤ 1 → cs = [] ∨ (∃ c ∈ cs, 64 ≤ c) → done att 0 0x11C) ∧
        (sel ≤ 1 → cs ≠ [] → (∀ c ∈ cs, c < 64) →
          (sel = 0 → (∃ c ∈ cs, x.attached.testBit c = true) → done att 0 0x118) ∧
          (sel = 1 → (∃ c ∈ cs, x.attached.testBit c = false) → done att 0 0x11A) ∧
          (∀ on : Bool, sel = (if on then 0 else 1) → (∀ c ∈ cs, x.attached.testBit c = !on) → Ends att ⟨q, d⟩ (fun e =>
            (∃ y, e.hif.ns i = some y ∧ y.size = x.size ∧ y.zoned = x.zoned ∧
              ∀ c, y.attached.testBit c = if cs.contains c then on else x.attached.testBit c) ∧
            e.plat.tagState t = 0 ∧ (quiet m → d.completes e t 0 0)))))) ∧
    (is 0x11 → Ends (.firmwareImageDownload t data) ⟨q, d⟩ (fun e => d.completes e t 0 0 ∧
      ∀ j, SMap.get zeroByte (fw e).image j = (let o := 4 * dw 11
        if o ≤ j ∧ j < o + min data.length (4 * (dw 10 + 1)) then data.getD (j - o) 0 else SMap.get zeroByte (fw d).image j))) ∧
    (is 0x10 → fresh → (3 < ca → done commit 0 0x02) ∧ (ca ≤ 3 → 2 < slot → done commit 0 0x106) ∧
      (ca ≤ 3 → slot ≤ 2 → ¬ source → done commit 0 0x107) ∧
      (ca ≤ 2 → slot ≤ 2 → source → Ends commit ⟨q, d⟩ (fun e => d.completes e t 0 0 ∧ stored e ∧
        (fw e).active = (fw d).active ∧ (ca = 0 → (fw e).next = (fw d).next) ∧ (1 ≤ ca → (fw e).next = slot))) ∧
      (ca = 3 → slot ≤ 2 → source → d.fe.drained t = true → Ends commit ⟨q, d⟩ (fun e => d.completes e t 0 0 ∧
        (fw e).active = slot ∧ (fw e).next = slot ∧ (fw e).pending = none ∧ hold e = false)) ∧
      (ca = 3 → slot ≤ 2 → source → d.fe.drained t = false → Ends commit ⟨q, d⟩ (fun e =>
        (fw e).active = (fw d).active ∧ (fw e).pending = some (t.val, slot) ∧ hold e = true ∧ p.keeps e.plat [Reg.CMD_CTRL] ∧
        (d.hif.selfTest = 2 → e.hif.selfTest = 0)))) ∧
    (is 0x10 → ¬ fresh → (d.fe.drained t = true → Ends commit ⟨q, d⟩ (fun e => d.completes e t 0 0 ∧
        (fw e).active = slot ∧ (fw e).pending = none ∧ hold e = false)) ∧
      (d.fe.drained t = false → Ends commit ⟨q, d⟩ (fun e => e = d))) ∧
    ((fw d).pending = none → Ends .fwActivationTimeout ⟨q, d⟩ (fun e => e = d)) ∧
    (∀ r, (fw d).pending = some r → Ends .fwActivationTimeout ⟨q, d⟩ (fun e => d.completes e r.1 0 0x112 ∧
      (fw e).active = (fw d).active ∧ (fw e).next = (fw d).active ∧ (fw e).pending = none ∧ hold e = false))

/-- R269, R276, R277, R279, R285, R286, R310, R426, R428, R456, Tables HIF-4, HIF-6, HIF-7: Identify, logs, self-test,
virtualisation, NVMe-MI in band, shadow doorbells, Format, Security, Sanitize. Status codes and layouts: log entry 20. New
keys are free values: log entry 4. -/
def Obligations.InformationAndSecurityCommands : Prop :=
  ∀ (q : List Instr) (d : Dev) (t : TagNo) (pg : PageNo) (fw data : Bytes) (ok : Bool) (mi : MiCmd) (r : Nat),
    let p : Plat := d.plat
    let h : Hif := d.hif
    let n : Nat := p.ct t Ct.cntl
    let dw (j : Nat) : Nat := h.dw t j
    let i : Nat := h.nsid t
    let is (op : Nat) : Prop := d.holdsAdmin t op
    let done (x : Instr) (dw0 status : Nat) : Prop := Ends x ⟨q, d⟩ (fun e => d.completes e t dw0 status)
    let sends (x : Instr) (bytes : List Byte) : Prop := Ends x ⟨q, d⟩ (fun e => d.sends e t pg 0 bytes)
    let zeros : List Byte := List.replicate 4096 0
    let cns : Nat := dw 10 % 256
    let csi : Nat := dw 11 / 2 ^ 24
    let ident : Instr := .identify t pg fw
    let own (x : Ns) : Bool := x.attached.testBit n && (x.zoned == (csi == 2))
    let named : List (Nat × (Ns → List Byte)) := [(0x00, identifyNamespace), (0x11, identifyNamespace),
      (0x03, fun x => structOf 4096 [(0, [4, 1, 0, 0, if x.zoned then 2 else 0])])]
    let lid : Nat := dw 10 % 256
    let len : Nat := 4 * (dw 10 / 2 ^ 16 + 2 ^ 16 * (dw 11 % 2 ^ 16) + 1)
    let off : Nat := dw 12 + 2 ^ 32 * dw 13
    let log : Instr := .getLogPage t pg fw
    let shown : Hif := if lid = 0xBF then { h with changedZones := h.changedZones.filter (fun x => x.1 == i) } else h
    let stc : Nat := dw 10 % 16
    let test (x : Option Nat) : Instr := .deviceSelfTest t x
    let m : Nat := dw 10 / 2 ^ 16
    let act : Nat := dw 10 % 16
    let nr : Nat := dw 11 % 2 ^ 16
    let virt : Instr := .virtualizationManagement t
    let field : Fld := if dw 10 / 256 % 8 = 0 then Fld.HIF_FN_RES_QMAX else Fld.HIF_FN_RES_INTMAX
    let asked : Word := Fld.put field (p.rd (Reg.HIF_FN_RES m)) nr
    let took : Plat := fnResWrite p h m asked
    let answered : Plat × Mgt := miRun p d.mgt mi
    let ses : Nat := dw 10 / 2 ^ 9 % 8
    let format (swept : Bool) : Instr := .formatNvm t swept
    let formatOk : Prop := dw 10 % 16 = 0 ∧ (ses = 0 ∨ ses = 2)
    let renewed (uses : Nat → Bool) (e : Dev) : Prop := ∀ k : SlotNo, e.plat.slotLoaded k = p.slotLoaded k ∧
      (uses k = false ∨ p.slotLoaded k = false → e.sec.key k = d.sec.key k) ∧
      (uses k = true → p.slotLoaded k = true → d.sec.rngFail = false →
        ∃ j, p.free ≤ j ∧ j < e.plat.free ∧ e.sec.key k = Config.freeBits j % 2 ^ 512) ∧
      (d.sec.rngFail = true → e.sec.key k = d.sec.key k)
    let genStatus (uses : Nat → Bool) : Nat :=
      if d.sec.rngFail = true ∧ (List.range 128).any (fun k => uses k && p.slotLoaded k) = true then 0x06 else 0
    (is 0x06 → (cns = 0x01 → sends ident (identifyController p h n fw)) ∧
      (cns = 0x02 → sends ident (idList 4 (h.nsList i (fun x => x.attached.testBit n)))) ∧
      (cns = 0x07 → sends ident (idList 4 (h.nsList i own))) ∧ (cns = 0x10 → sends ident (idList 4 (h.nsList i (fun _ => true)))) ∧
      (cns = 0x1C → sends ident (structOf 4096 [(0, le8 5)])) ∧
      (cns ∈ [0x00, 0x03, 0x11, 0x12] ∨ cns = 0x05 ∧ (csi = 0 ∨ csi = 2) → h.ns i = none → done ident 0 0x0B) ∧
      (∀ x, h.ns i = some x →
        (∀ y ∈ named, cns = y.1 → sends ident (if y.1 = 0x11 ∨ x.attached.testBit n = true then y.2 x else zeros)) ∧
        (cns = 0x05 → csi = 2 → sends ident (if own x then identifyZns x else zeros)) ∧
        (cns = 0x05 → csi = 0 → sends ident zeros) ∧
        (cns = 0x12 → sends ident (let cs := (List.range 64).filter (fun c => x.attached.testBit c && decide (dw 10 / 2 ^ 16 ≤ c))
          idList 2 (cs.length :: cs)))) ∧
      (cns = 0x06 → csi = 2 → sends ident (structOf 4096 [(0, [5])])) ∧ (cns = 0x06 → csi = 0 → sends ident zeros) ∧
      (cns = 0x13 → sends ident (let cs := (List.range (2 + p.fld Reg.HIF_SRIOV Fld.HIF_SRIOV_TOTALVF0 +
        p.fld Reg.HIF_SRIOV Fld.HIF_SRIOV_TOTALVF1)).filter (fun c => decide (dw 10 / 2 ^ 16 ≤ c)); idList 2 (cs.length :: cs))) ∧
      (cns = 0x05 ∨ cns = 0x06 → csi ≠ 0 → csi ≠ 2 → done ident 0 0x02) ∧
      (cns ∉ [0x00, 0x01, 0x02, 0x03, 0x05, 0x06, 0x07, 0x10, 0x11, 0x12, 0x13, 0x1C] → done ident 0 0x02)) ∧
    (is 0x02 → (lid ∉ [0x01, 0x02, 0x03, 0x04, 0x05, 0x06, 0x07, 0x08, 0xBF, 0xC0, 0xC1, 0xC2] → done log 0 0x109) ∧
      (∀ page, logPage p shown lid fw = some page → 2 ^ 21 < len → done log 0 0x02) ∧
      (∀ page, logPage p shown lid fw = some page → len ≤ 2 ^ 21 → Ends log ⟨q, d⟩ (fun e =>
        d.sends e t pg 0 ((page.drop off ++ List.replicate len 0).take len) ∧
        e.hif.changedNs = (if (dw 10).testBit 15 = false ∧ lid = 0x04 then [] else h.changedNs) ∧
        e.hif.changedZones = (if (dw 10).testBit 15 = false ∧ lid = 0xBF then h.changedZones.filter (fun x => x.1 != i)
          else h.changedZones)))) ∧
    (is 0x14 → (stc = 1 ∨ stc = 2 → h.selfTest = 0 → Ends (test none) ⟨q, d⟩ (fun e =>
        d.completes e t 0 0 ∧ e.hif.selfTest = stc)) ∧
      (stc = 1 ∨ stc = 2 → h.selfTest ≠ 0 → done (test none) 0 0x11D) ∧
      (stc = 15 → Ends (test none) ⟨q, d⟩ (fun e => d.completes e t 0 0 ∧ e.hif.selfTest = 0 ∧
        (h.selfTest ≠ 0 → e.hif.testLog = ((16 * h.selfTest + 1) :: h.testLog).take 20))) ∧
      (stc ≠ 1 → stc ≠ 2 → stc ≠ 15 → done (test none) 0 0x02)) ∧
    (h.selfTest ≠ 0 → Ends (test (some r)) ⟨q, d⟩ (fun e =>
      e.hif.selfTest = 0 ∧ e.hif.testLog = ((16 * h.selfTest + r % 16) :: h.testLog).take 20 ∧ e.plat = p)) ∧
    (h.selfTest = 0 → Ends (test (some r)) ⟨q, d⟩ (fun e => e = d)) ∧
    (is 0x1C → (64 ≤ m → done virt 0 0x11F) ∧
      (m < 64 → act = 7 → m ≠ n → Ends virt ⟨q, d⟩ (fun e =>
        (e.hif.ctrl m).en = false ∧ (∀ k, e.hif.sq m k = none) ∧ e.plat.tagState t = 0)) ∧
      (m < 64 → act = 9 → done virt 0 0) ∧
      (m < 64 → act = 1 ∨ act = 8 → nr < 2048 → took.rd (Reg.HIF_FN_RES m) = asked → Ends virt ⟨q, d⟩ (fun e =>
        d.completes e t nr 0 ∧ e.plat.rd (Reg.HIF_FN_RES m) = asked)) ∧
      (m < 64 → act = 1 ∨ act = 8 → 2048 ≤ nr ∨ took.rd (Reg.HIF_FN_RES m) ≠ asked → done virt 0 0x121) ∧
      (m < 64 → act ∉ [1, 7, 8, 9] → done virt 0 0x02)) ∧
    (is 0x1D → Ends (.nvmeMiSend t mi) ⟨q, d⟩ (fun e =>
      d.completes e t answered.2.answer.status.code 0 ∧ e.mgt = answered.2)) ∧
    (is 0x1E → d.mgt.answer.data.length ≤ 2 ^ 21 → Ends (.nvmeMiReceive t pg) ⟨q, d⟩ (fun e =>
      d.sends e t pg d.mgt.answer.status.code
        (d.mgt.answer.data ++ List.replicate ((4 - d.mgt.answer.data.length % 4) % 4) 0))) ∧
    (is 0x7C → SMap.wf (fun _ => none) h.sqs → SMap.wf (fun _ => none) h.cqs → Ends (.doorbellBufferConfig t) ⟨q, d⟩ (fun e =>
      e.plat.tagState t = 0 ∧ (e.hif.ctrl n).dbbuf = true ∧
      (∀ k s, h.sq n k = some s → s.stop = none → ∃ s', e.hif.sq n k = some s' ∧ s'.shadow.polled = true ∧ s'.tail = s.tail) ∧
      (∀ k s, h.cq n k = some s → ∃ s', e.hif.cq n k = some s' ∧ s'.shadow.polled = true ∧ s'.head = s.head))) ∧
    (is 0x80 → (h.ns i = none → done (format ok) 0 0x0B) ∧
      (∀ x, h.ns i = some x → (dw 10 % 16 ≠ 0 → done (format ok) 0 0x10A) ∧
        (dw 10 % 16 = 0 → ses ≠ 0 → ses ≠ 2 → done (format ok) 0 0x02) ∧
        (formatOk → x.zoned = true → d.fe.anySweep i x = true → Ends (format false) ⟨q, d⟩ (fun e => e = d)) ∧
        (formatOk → x.zoned = true → ok = true ∨ d.fe.anySweep i x = false → Ends (format ok) ⟨q, d⟩ (fun e =>
          ∀ z, z < x.zoneCount → e.hif.zone i z =
            (let y := h.zone i z; if y.st = .offline then y else y.reset y.needsSweep))) ∧
        (formatOk → x.zoned = false ∨ ok = true ∨ d.fe.anySweep i x = false → Ends (format ok) ⟨q, d⟩ (fun e =>
          (ses = 0 → d.completes e t 0 0 ∧ e.sec = d.sec) ∧
          (ses = 2 → d.completes e t 0 (genStatus (p.slotOfNs i)) ∧ renewed (p.slotOfNs i) e))))) ∧
    (is 0x81 → done (.securitySend t ok) 0 (if ok then 0 else 0x02)) ∧
    (is 0x82 → 2 ^ 21 < dw 11 → done (.securityReceive t pg data) 0 0x02) ∧
    (is 0x82 → dw 11 ≤ 2 ^ 21 → sends (.securityReceive t pg data) ((data ++ List.replicate (dw 11) 0).take (dw 11 / 4 * 4))) ∧
    (is 0x84 → (dw 10 % 8 ≠ 4 → done (.sanitize t) 0 0x02) ∧
      (dw 10 % 8 = 4 → Ends (.sanitize t) ⟨q, d⟩ (fun e =>
        d.completes e t 0 (genStatus (fun _ => true)) ∧ renewed (fun _ => true) e ∧
        ∀ j z y, SMap.get (fun _ => none) h.zones (2 ^ 15 * j + z) = some y →
          SMap.get (fun _ => none) e.hif.zones (2 ^ 15 * j + z) = some { y.reset y.needsSweep with st := .empty }))) ∧
    (p.tagState t = 1 → (let admin : Bool := p.ct t Ct.sqid == 0
      ((supportedOps admin).contains (h.opcode t) = false → done (.unsupportedOpcode t) 0 0x01) ∧
      (admin = false → h.opcode t = 0x79 → dw 13 % 256 ∉ [1, 2, 3, 4, 5] → done (.unsupportedOpcode t) 0 0x02)))

/-- R276, R277, R280, R281, R282, R284, R298, R299, R305, R310, R311, R312, R420, R423: what every I/O command is checked
for, reads, writes, appends, Write Zeroes, Verify, Flush. Status codes: log entry 20. The write pointer moves at admission,
and the boundary check comes first: log entry 43; ordering by fetch order: log entry 42. -/
def Obligations.ReadsWritesAndFlushes : Prop :=
  ∀ (q : List Instr) (d : Dev) (t : TagNo) (pg : PageNo) (failed : Nats) (rows noHeads rebuilt : Nat) (cap : Option Nat) (n : Ns),
    let p : Plat := d.plat
    let h : Hif := d.hif
    let f : Fe := d.fe
    let i : Nat := h.nsid t
    let lba : Nat := h.slba t
    let nlb : Nat := h.nlb t
    let z : Nat := lba / zoneSize
    let x : Zone := h.zone i z
    let is (op : Nat) : Prop := d.holdsIo t op n
    let done (y : Instr) (status : Nat) : Prop := Ends y ⟨q, d⟩ (fun e => d.completes e t 0 status)
    let quiet : Prop := ∀ m : CtlNo, (h.ctrl m).aers = []
    let all : List (Instr × Nat) := [(.write t pg, 0x01), (.read t pg failed, 0x02), (.writeZeroes t pg, 0x08),
      (.datasetManagement t, 0x09), (.verify t failed, 0x0C), (.zoneClose t, 0x79), (.zoneFinish t, 0x79), (.zoneOpen t, 0x79),
      (.zoneReset t cap true, 0x79), (.zoneOffline t, 0x79), (.reportZones t pg, 0x7A), (.zoneAppend t pg, 0x7D),
      (.zoneAudit t rows noHeads rebuilt, 0x84)]
    let wrongKind (op : Nat) (y : Ns) : Prop := isZnsOp op = true ∧ y.zoned = false ∨ (op = 0x08 ∨ op = 0x09) ∧ y.zoned = true
    let waiting (op : Nat) : Prop := f.doneWaiting t op = true
    let auto (e : Dev) : Prop := e.plat.ct t Ct.auto = if (h.dw t 12).testBit 30 = true ∨ h.feature (p.ct t Ct.cntl) 6 % 2 = 0 then 1 else 0
    let admitted (at0 : Nat) (e : Dev) : Prop := e.plat.tagState t = 2 ∧ e.plat.ct t Ct.bufPage = pg ∧ e.plat.ct t Ct.status = 0 ∧ auto e ∧
      (∀ ks, p.resolve i at0 false nlb = .inl ks → e.plat.ct t Ct.xfer = 1 ∧ e.sec.xfers = d.sec.xfers ++ [⟨t, false, ks⟩]) ∧
      (∀ r, p.resolve i at0 false nlb = .inr r → e.plat.ct t Ct.xfer = 0 ∧ (4, t.val) ∈ e.cmd.evq ∧
        e.plat.bit Reg.SEC_EVT Fld.SEC_EVT_REFUSED = true)
    let opened : Nat := (h.zonesWhere i (fun y => y.st.isOpen)).length
    let active : Nat := (h.zonesWhere i (fun y => y.st.isActive)).length
    let mayOpen : Prop := x.st.isOpen = true ∨
      ¬ (n.share ≤ opened ∧ h.lruOpen i = none) ∧ (x.st.isActive = true ∨ active < n.share)
    let after (k : Nat) : ZState :=
      if x.cap ≤ x.wp + k then .full else if x.st = .explicitlyOpened then .explicitlyOpened else .implicitlyOpened
    let placed (k : Nat) (e : Dev) : Prop :=
      e.hif.zone i z = { x with wp := x.wp + k, used := p.time.toNat, st := after k } ∧
      (∀ v, x.st.isOpen = false → n.share ≤ opened → h.lruOpen i = some v → v ≠ z → (e.hif.zone i v).st = .closed)
    let fails (op : Nat) (k o : Nat) : Option Nat := match x.st with
      | .full => some 0x1B9
      | .readOnly => some 0x1BA
      | .offline => some 0x1BB
      | _ => if x.cap < (if op = 0x7D then x.wp else o) + k then some 0x1B8 else if op ≠ 0x7D ∧ o ≠ x.wp then some 0x1BC else none
    let bad (zoned : Bool) : List Nat := f.failedNow t zoned failed
    let status (zoned : Bool) : Nat :=
      if bad zoned = [] then 0 else if p.ct t Ct.firstCode = 0x41 ∨ p.ct t Ct.firstCode = 0x53 then 0x06 else 0x281
    let noted (zoned : Bool) (e : Dev) : Prop := (bad zoned = [] → e.hif.errLog = h.errLog) ∧ ∀ k ks, bad zoned = k :: ks →
      e.hif.errLog = (⟨p.ct t Ct.sqid, h.cid t, 0x281, lba + k, i, 0⟩ :: h.errLog).take 256
    let readBy (e : Dev) : Prop := e.plat.ct t Ct.xout = 1 ∧ e.plat.ct t Ct.bufPage = pg ∧ e.plat.ct t Ct.xlen = 4096 * nlb ∧
      e.plat.ct t Ct.status = status n.zoned ∧ noted n.zoned e ∧ e.plat.tagState t = p.tagState t ∧
      (nlb = 1 → f.source t lba = none → (n.zoned = true ∧ x.wp ≤ lba % zoneSize) ∨ 0 ∈ failed →
        e.buf = (bufWrite p d.buf (.core 0) (4096 * pg) (List.replicate 4096 0)).2.1) ∧
      (nlb = 1 → f.source t lba = none → ¬ (n.zoned = true ∧ x.wp ≤ lba % zoneSize) → 0 ∉ failed → e.buf = d.buf) ∧
      (∀ u, nlb = 1 → f.source t lba = some u →
        e.buf = (f.copyPage (p.ct u Ct.bufPage + (lba - f.firstLba u)) pg).b)
    let reads : Prop := f.isIoCmd t 0x02 [1] = true ∧ is 0x02 ∧ lba + nlb ≤ n.size ∨ waiting 0x02 ∧ h.ns i = some n
    let nsFlush : Prop := i = 0xFFFFFFFF ∨ h.isAttached i (p.ct t Ct.cntl) = true
    let covered (j : Nat) : Prop := i = 0xFFFFFFFF ∨ i = j
    let pending : Prop := p.tagsInUse.any (fun u => p.tagState u == 4 && f.writesData u && flushCovers i (h.nsid u) &&
      decide (p.tPost u ≤ p.tFetch t)) = true
    let owed (y : Deferred) : Prop := y.flushed = false ∧ covered y.nsid ∧ y.posted ≤ p.tFetch t
    (∀ y ∈ all, f.isIoCmd t y.2 [1] = true →
      (h.psdt t ≠ 0 → done y.1 0x02) ∧ (h.psdt t = 0 → h.isAttached i (p.ct t Ct.cntl) = false → done y.1 0x0B) ∧
      (h.psdt t = 0 → h.ns i = some n → n.attached.testBit (p.ct t Ct.cntl) = true →
        (wrongKind y.2 n → done y.1 0x01) ∧
        (¬ wrongKind y.2 n → h.deferred.any (f.reports t) = true → Ends y.1 ⟨q, d⟩ (fun e =>
          d.completes e t 0 0x2280 ∧ ∀ w ∈ h.deferred, f.reports t w = true → { w with reported := true } ∈ e.hif.deferred)))) ∧
    (∀ y ∈ all, f.isIoCmd t y.2 [1] = false → f.doneWaiting t y.2 = false → Ends y.1 ⟨q, d⟩ (fun e => e = d)) ∧
    (∀ y ∈ [(Instr.write t pg, 0x01), (.read t pg failed, 0x02), (.writeZeroes t pg, 0x08), (.verify t failed, 0x0C)], is y.2 →
      n.size < lba + nlb → done y.1 0x80) ∧
    (∀ y ∈ [(Instr.write t pg, 0x01), (.read t pg failed, 0x02)], is y.2 → lba + nlb ≤ n.size → 512 < nlb → done y.1 0x02) ∧
    (is 0x01 → lba + nlb ≤ n.size → nlb ≤ 512 → n.zoned = false → Ends (.write t pg) ⟨q, d⟩ (admitted lba)) ∧
    (is 0x01 → lba + nlb ≤ n.size → nlb ≤ 512 → n.zoned = true →
      (∀ s, fails 0x01 nlb (lba % zoneSize) = some s → done (.write t pg) s) ∧
      (fails 0x01 nlb (lba % zoneSize) = none → mayOpen → Ends (.write t pg) ⟨q, d⟩ (fun e => admitted lba e ∧ placed nlb e)) ∧
      (fails 0x01 nlb (lba % zoneSize) = none → x.st.isOpen = false → n.share ≤ opened → h.lruOpen i = none →
        done (.write t pg) 0x1BE)) ∧
    (is 0x7D → (32 < nlb → done (.zoneAppend t pg) 0x02) ∧ (nlb ≤ 32 → n.size ≤ lba → done (.zoneAppend t pg) 0x80) ∧
      (nlb ≤ 32 → lba < n.size → lba % zoneSize ≠ 0 → done (.zoneAppend t pg) 0x02) ∧
      (nlb ≤ 32 → lba < n.size → lba % zoneSize = 0 → (∀ s, fails 0x7D nlb 0 = some s → done (.zoneAppend t pg) s) ∧
        (fails 0x7D nlb 0 = none → mayOpen → lba + x.wp < 2 ^ 64 → Ends (.zoneAppend t pg) ⟨q, d⟩ (fun e =>
          admitted (lba + x.wp) e ∧ placed nlb e ∧
          e.plat.ct t Ct.dw0 = (lba + x.wp) % 2 ^ 32 ∧ e.plat.ct t Ct.dw1 = (lba + x.wp) / 2 ^ 32)))) ∧
    (is 0x08 → lba + nlb ≤ n.size → Ends (.writeZeroes t pg) ⟨q, d⟩ (fun e => e.plat.tagState t = 2 ∧
      e.plat.ct t Ct.bufPage = pg ∧ e.plat.ct t Ct.xfer = 1 ∧ auto e ∧ e.sec = d.sec ∧ e.hif = h)) ∧
    (∀ y ∈ [(Instr.write t pg, 0x01), (.zoneAppend t pg, 0x7D), (.writeZeroes t pg, 0x08)], waiting y.2 →
      (let c : Nat := p.ct t Ct.firstCode
       (c = 0 → Ends y.1 ⟨q, d⟩ (fun e => e.plat.tagState t = 0 ∧ d.posts e t (p.ct t Ct.dw0) (p.ct t Ct.dw1) (p.ct t Ct.status))) ∧
       (c ≠ 0 → quiet → Ends y.1 ⟨q, d⟩ (fun e => e.plat.tagState t = 0 ∧
         d.posts e t (p.ct t Ct.dw0) (p.ct t Ct.dw1) (if c = 0x41 ∨ c = 0x53 then 0x06 else 0x280) ∧
         (c ≠ 0x41 → c ≠ 0x53 → h.isZoned i = true → (e.hif.zone i (f.firstLba t / zoneSize)).st = .readOnly))))) ∧
    (is 0x02 → lba + nlb ≤ n.size → nlb ≤ 512 → f.touchesOffline t n = true → done (.read t pg failed) 0x1BB) ∧
    (reads → nlb ≤ 512 → f.touchesOffline t n = false → f.mustWait t = true → Ends (.read t pg failed) ⟨q, d⟩ (fun e => e = d)) ∧
    (reads → nlb ≤ 512 → f.touchesOffline t n = false → f.mustWait t = false → Ends (.read t pg failed) ⟨q, d⟩ (fun e => readBy e ∧
      (∀ ks, p.resolve i lba true nlb = .inl ks → e.plat.ct t Ct.xfer = 1 ∧ e.sec.xfers = d.sec.xfers ++ [⟨t, true, ks⟩]) ∧
      (∀ r, p.resolve i lba true nlb = .inr r → e.plat.ct t Ct.xfer = 0 ∧ (4, t.val) ∈ e.cmd.evq))) ∧
    (is 0x0C → lba + nlb ≤ n.size → f.touchesOffline t n = true → done (.verify t failed) 0x1BB) ∧
    (is 0x0C → lba + nlb ≤ n.size → f.touchesOffline t n = false → f.mustWait t = false → Ends (.verify t failed) ⟨q, d⟩ (fun e =>
      d.completes e t 0 (status n.zoned) ∧ noted n.zoned e ∧ e.buf = d.buf)) ∧
    (is 0x09 → Ends (.datasetManagement t) ⟨q, d⟩ (fun e => d.completes e t 0 0 ∧ e.hif.zones = h.zones ∧ e.buf = d.buf)) ∧
    (f.isIoCmd t 0x00 [1] = true → (h.psdt t ≠ 0 → done (.flush t) 0x02) ∧ (h.psdt t = 0 →
      (¬ nsFlush → done (.flush t) 0x0B) ∧ (nsFlush → pending → Ends (.flush t) ⟨q, d⟩ (fun e => e = d)) ∧
      (nsFlush → ¬ pending → (∃ y ∈ h.deferred, owed y) → Ends (.flush t) ⟨q, d⟩ (fun e => d.completes e t 0 0x280 ∧
        ∀ y ∈ h.deferred, owed y → { y with flushed := true } ∈ e.hif.deferred)) ∧
      (nsFlush → ¬ pending → (∀ y ∈ h.deferred, ¬ owed y) → Ends (.flush t) ⟨q, d⟩ (fun e =>
        d.completes e t 0 0 ∧ e.hif.deferred = h.deferred)))) ∧
    (f.isIoCmd t 0x00 [1] = false → Ends (.flush t) ⟨q, d⟩ (fun e => e = d))

/-- R58, R59, R60, R66, R229, R280, R282, R283: Zone Management Send and Receive, Zone Audit. Status codes and descriptor
layouts: log entry 20. The sweep is an operand (log entry 2); Reset Zone of a Read Only or Offline zone is Invalid Zone
State Transition: log entry 44. -/
def Obligations.ZonesFollowTheirCommands : Prop :=
  ∀ (q : List Instr) (d : Dev) (t : TagNo) (pg : PageNo) (cap : Option Nat) (swept : Bool) (rows noHeads rebuilt : Nat) (n : Ns),
    let p : Plat := d.plat
    let h : Hif := d.hif
    let i : Nat := h.nsid t
    let lba : Nat := h.slba t
    let z : Nat := lba / zoneSize
    let x : Zone := h.zone i z
    let dw (j : Nat) : Nat := h.dw t j
    let zsa : Nat := dw 13 % 256
    let selectAll : Bool := (dw 13).testBit 8
    let is (op : Nat) : Prop := d.holdsIo t op n
    let done (y : Instr) (status : Nat) : Prop := Ends y ⟨q, d⟩ (fun e => d.completes e t 0 status)
    let quiet : Prop := ∀ m : CtlNo, (h.ctrl m).aers = []
    let opened : Nat := (h.zonesWhere i (fun y => y.st.isOpen)).length
    let active : Nat := (h.zonesWhere i (fun y => y.st.isActive)).length
    let acts : List (Nat × Instr) := [(1, .zoneClose t), (2, .zoneFinish t), (3, .zoneOpen t), (4, .zoneReset t cap true), (5, .zoneOffline t)]
    let one (a : Nat) : Prop := is 0x79 ∧ zsa = a ∧ selectAll = false ∧ lba < n.size ∧ lba % zoneSize = 0
    let every (a : Nat) : Prop := is 0x79 ∧ zsa = a ∧ selectAll = true
    let moves (y : Instr) (w : Zone) : Prop := Ends y ⟨q, d⟩ (fun e => d.completes e t 0 0 ∧ e.hif.zone i z = w ∧
      ∀ j k, 2 ^ 15 * j + k ≠ 2 ^ 15 * i + z → e.hif.zone j k = h.zone j k)
    let allMove (y : Instr) (g : Zone → Zone) : Prop := Ends y ⟨q, d⟩ (fun e => d.completes e t 0 0 ∧
      ∀ k, k < n.zoneCount → e.hif.zone i k = g (h.zone i k))
    let zgen (w : Zone) : Nat := if w.zgen = 0xFFE then 0 else w.zgen + 1
    let resets (w : Zone) : Nat := if 4095 ≤ w.resets + 1 then 1 else w.resets + 1
    let emptied (w : Zone) (c : Nat) : Zone := ⟨.empty, 0, min c zoneSize, zgen w, resets w, false, false, false, w.used⟩
    let mayOpen : Prop := ¬ (n.share ≤ opened ∧ h.lruOpen i = none) ∧ (x.st = .closed ∨ active < n.share)
    let len : Nat := min (4 * (dw 12 + 1)) (2 ^ 21)
    let filter : Nat := dw 13 / 256 % 256
    let listed : List Nat := ((List.range (n.zoneCount - z)).map (fun k => z + k)).filter (fun k => reportFilter filter (h.zone i k).st)
    let fit : Nat := (len - 64) / 64
    let count : Nat := if (dw 13).testBit 16 = true then min listed.length fit else listed.length
    let audit : Instr := .zoneAudit t rows noHeads rebuilt
    let badFields : Prop := 1 < dw 12 ∨ dw 13 ≠ 0 ∨ dw 14 ≠ 0 ∨ dw 15 ≠ 0
    (∀ y ∈ acts, is 0x79 → zsa = y.1 → selectAll = false → (n.size ≤ lba → done y.2 0x80) ∧
      (lba < n.size → lba % zoneSize ≠ 0 → done y.2 0x02)) ∧
    (one 1 → (x.st.isOpen = true → moves (.zoneClose t) { x with st := if x.wp = 0 then .empty else .closed }) ∧
      (x.st = .closed → moves (.zoneClose t) x) ∧ (x.st.isActive = false → done (.zoneClose t) 0x1BF)) ∧
    (one 2 → (x.st.isActive = true → moves (.zoneFinish t) { x with st := .full }) ∧ (x.st = .full → moves (.zoneFinish t) x) ∧
      (x.st = .empty → active < n.share → moves (.zoneFinish t) { x with st := .full }) ∧
      (x.st = .empty → n.share ≤ active → done (.zoneFinish t) 0x1BD) ∧
      (x.st = .readOnly ∨ x.st = .offline → done (.zoneFinish t) 0x1BF)) ∧
    (one 3 → (x.st.isOpen = true → moves (.zoneOpen t) { x with st := .explicitlyOpened }) ∧
      (x.st = .empty ∨ x.st = .closed → opened < n.share → x.st = .closed ∨ active < n.share →
        moves (.zoneOpen t) { x with st := .explicitlyOpened }) ∧
      (∀ v, x.st = .empty ∨ x.st = .closed → n.share ≤ opened → mayOpen → h.lruOpen i = some v → v ≠ z →
        Ends (.zoneOpen t) ⟨q, d⟩ (fun e => d.completes e t 0 0 ∧ e.hif.zone i z = { x with st := .explicitlyOpened } ∧
          e.hif.zone i v = { h.zone i v with st := .closed })) ∧
      (x.st = .empty ∨ x.st = .closed → n.share ≤ opened → h.lruOpen i = none → done (.zoneOpen t) 0x1BE) ∧
      (x.st = .empty → ¬ (n.share ≤ opened ∧ h.lruOpen i = none) → n.share ≤ active → done (.zoneOpen t) 0x1BD) ∧
      (x.st = .full ∨ x.st = .readOnly ∨ x.st = .offline → done (.zoneOpen t) 0x1BF)) ∧
    (one 4 → x.st = .readOnly ∨ x.st = .offline → done (.zoneReset t cap swept) 0x1BF) ∧
    (one 4 → x.st ≠ .readOnly → x.st ≠ .offline → (4095 ≤ x.resets + 1 → Ends (.zoneReset t cap false) ⟨q, d⟩ (fun e =>
        e.plat = p ∧ e.hif.zone i z = { x with owed := true })) ∧
      (swept = true ∨ x.resets + 1 < 4095 →
        (∀ c, cap.getD x.cap = c → c ≠ 0 → min c zoneSize = x.cap → moves (.zoneReset t cap swept) (emptied x c)) ∧
        (∀ c, cap.getD x.cap = c → c ≠ 0 → min c zoneSize ≠ x.cap → quiet → Ends (.zoneReset t cap swept) ⟨q, d⟩ (fun e =>
          d.completes e t 0 0 ∧ e.hif.zone i z = emptied x c ∧ (i, z) ∈ e.hif.changedZones)) ∧
        (cap.getD x.cap = 0 → quiet → Ends (.zoneReset t cap swept) ⟨q, d⟩ (fun e =>
          d.completes e t 0 0x1BB ∧ (e.hif.zone i z).st = .offline ∧ (i, z) ∈ e.hif.changedZones)))) ∧
    (one 5 → (x.st = .readOnly ∨ x.st = .offline → moves (.zoneOffline t) { x with st := .offline }) ∧
      (x.st ≠ .readOnly → x.st ≠ .offline → done (.zoneOffline t) 0x1BF)) ∧
    (every 1 → allMove (.zoneClose t) (fun w => if w.st.isOpen then { w with st := if w.wp = 0 then .empty else .closed } else w)) ∧
    (every 2 → allMove (.zoneFinish t) (fun w => if w.st.isActive then { w with st := .full } else w)) ∧
    (every 5 → allMove (.zoneOffline t) (fun w => if w.st = .readOnly then { w with st := .offline } else w)) ∧
    (is 0x7A → dw 13 % 256 ≠ 0 ∨ 7 < filter → done (.reportZones t pg) 0x02) ∧
    (is 0x7A → dw 13 % 256 = 0 → filter ≤ 7 → (n.size ≤ lba → done (.reportZones t pg) 0x80) ∧
      (lba < n.size → Ends (.reportZones t pg) ⟨q, d⟩ (fun e => d.sends e t pg 0
        ((le8 count ++ List.replicate 56 0 ++ (listed.take fit).flatMap (fun k => zoneDescriptor k (h.zone i k)) ++
          List.replicate len 0).take len)))) ∧
    (is 0x84 → (n.size ≤ lba → done audit 0x80) ∧ (lba < n.size → badFields → done audit 0x02) ∧
      (lba < n.size → ¬ badFields → x.st = .offline → done audit 0x1BB) ∧
      (lba < n.size → ¬ badFields → x.st ≠ .offline → Ends audit ⟨q, d⟩ (fun e =>
        let none' : Bool := x.st == .empty
        let r : Nat := if none' then 0 else min rows (2 ^ 32 - 1)
        let a : Nat := if none' then 0 else min noHeads 0xFFFF
        let b : Nat := if none' then 0 else min rebuilt 0xFFFF
        e.plat.tagState t = 0 ∧ d.posts e t r (a * 2 ^ 16 + b) 0 ∧
        e.hif.auditLog = (⟨i, dw 12, z * zoneSize, p.time.toNat, r, a, b⟩ :: h.auditLog).take 256)))

/-- R22, R23, R290, R291, R293, R303, R307, R423, Table CMD-2: each operation of the Command Engine on a tag, and its
refusal. That POST too sets POSTED and T_POST rests on log entry 47. -/
def Obligations.TagOperationsMoveOrRefuse : Prop :=
  ∀ (q : List Instr) (d : Dev) (c : CoreNo) (t : TagNo) (x : StateNo),
    let p : Plat := d.plat
    let on : Prop := d.powered Reg.CMD_OP
    let ct (f : CtFld) : Nat := p.ct t f
    let idle : Bool := ct Ct.xfer == 0
    let free : Bool := idle && ct Ct.tref == 0 && ct Ct.posted == 0
    let moving : Bool := ct Ct.xfer == 1 && d.sec.xfers.any (fun y => y.tag == t.val && y.out)
    let op : Nat := d.hif.opcode t
    let may (from' : List Nat) (cond : Bool) : Prop := p.tagState t = x.val ∧ x.val ∈ from' ∧ cond = true
    let res (refused : Bool) (e : Dev) : Prop := e.plat.bit Reg.CMD_OP_RES Fld.CMD_OP_RES_REFUSED = refused ∧
      e.plat.fld Reg.CMD_OP_RES Fld.CMD_OP_RES_TAG = t ∧ e.plat.fld Reg.CMD_OP_RES Fld.CMD_OP_RES_STATE = e.plat.tagState t
    let ops : List (Instr × List Nat × Bool) := [(.admitOp c t x, [1], !moving),
      (.xferIn c t x, [1, 2], idle && ct Ct.din == 0 && d.fe.writesData t), (.ack c t x, [1, 2, 3], idle && ct Ct.din == 1),
      (.post c t x, [1, 2, 5], free), (.abortOp c t x, [2, 3], !moving), (.release c t x, [1, 2, 5], free)]
    let alone : Prop := ∀ s, d.hif.sq (ct Ct.cntl) (ct Ct.sqid) = some s → s.stop = none
    (∀ i from' cond, (i, from', cond) ∈ ops → on → ¬ may from' cond → Ends i ⟨q, d⟩ (fun e =>
      res true e ∧ p.keeps e.plat [Reg.CMD_OP_RES] ∧ e.hif = d.hif ∧ e.cmd = d.cmd ∧ e.sec = d.sec ∧ e.buf = d.buf)) ∧
    (on → may [1] (!moving) → d.hif.deferred.any (d.fe.reports t) = false → Ends (.admitOp c t x) ⟨q, d⟩ (fun e =>
      res false e ∧ e.plat.tagState t = 2 ∧ p.keeps e.plat [entryWord t 0, Reg.CMD_CNT 0, Reg.CMD_CNT 1, Reg.CMD_OP_RES] ∧
      e.hif = d.hif ∧ e.cmd = d.cmd)) ∧
    (on → may [1] (!moving) → d.hif.deferred.any (d.fe.reports t) = true → Ends (.admitOp c t x) ⟨q, d⟩ (fun e =>
      res false e ∧ d.completes e t 0 0x2280)) ∧
    (on → may [1, 2] (idle && ct Ct.din == 0 && d.fe.writesData t) → op = 0x08 → Ends (.xferIn c t x) ⟨q, d⟩ (fun e =>
      res false e ∧ e.plat.ct t Ct.xfer = 1 ∧ e.sec = d.sec ∧ p.keeps e.plat [entryWord t 0, Reg.CMD_OP_RES])) ∧
    (∀ ks, on → may [1, 2] (idle && ct Ct.din == 0 && d.fe.writesData t) → op ≠ 0x08 →
      p.resolve (d.hif.nsid t) (d.fe.firstLba t) false (d.hif.nlb t) = .inl ks → Ends (.xferIn c t x) ⟨q, d⟩ (fun e =>
        res false e ∧ e.plat.ct t Ct.xfer = 1 ∧ e.sec = { d.sec with xfers := d.sec.xfers ++ [⟨t, false, ks⟩] } ∧
        p.keeps e.plat [entryWord t 0, Reg.CMD_OP_RES])) ∧
    (∀ r, on → may [1, 2] (idle && ct Ct.din == 0 && d.fe.writesData t) → op ≠ 0x08 →
      p.resolve (d.hif.nsid t) (d.fe.firstLba t) false (d.hif.nlb t) = .inr r → Ends (.xferIn c t x) ⟨q, d⟩ (fun e =>
        res false e ∧ e.plat.ct t Ct.xfer = 0 ∧ (4, t.val) ∈ e.cmd.evq ∧ e.plat.bit Reg.SEC_EVT Fld.SEC_EVT_REFUSED = true ∧
        e.plat.fld Reg.SEC_REFUSE_LAST Fld.SEC_REFUSE_LAST_REASON = r.1 % 8 ∧
        e.plat.fld Reg.SEC_REFUSE_LAST Fld.SEC_REFUSE_LAST_TAG = t)) ∧
    (on → may [1, 2, 3] (idle && ct Ct.din == 1) → Ends (.ack c t x) ⟨q, d⟩ (fun e =>
      res false e ∧ (alone → e.plat.tagState t = 4 ∧ e.plat.ct t Ct.posted = 1 ∧
        e.plat.tPost t = p.time.toNat) ∧ d.posts e t (ct Ct.dw0) (ct Ct.dw1) (ct Ct.status))) ∧
    (on → may [1, 2, 5] free → ct Ct.xout = 0 ∨ ct Ct.xlen = 0 → Ends (.post c t x) ⟨q, d⟩ (fun e =>
      res false e ∧ e.plat.tagState t = 0 ∧ d.posts e t (ct Ct.dw0) (ct Ct.dw1) (ct Ct.status))) ∧
    (on → may [1, 2, 5] free → ct Ct.xout = 1 → ct Ct.xlen ≠ 0 → ct Ct.sqid = 0 ∨ op ≠ 0x02 → Ends (.post c t x) ⟨q, d⟩ (fun e =>
      res false e ∧ e.plat.tagState t = x ∧ e.plat.ct t Ct.xfer = 1 ∧
      e.sec = { d.sec with xfers := d.sec.xfers ++ [⟨t, true, []⟩] } ∧ e.hif = d.hif)) ∧
    (∀ ks, on → may [1, 2, 5] free → ct Ct.xout = 1 → ct Ct.xlen ≠ 0 → ct Ct.sqid ≠ 0 → op = 0x02 →
      p.resolve (d.hif.nsid t) (d.hif.slba t) true (ct Ct.xlen / 4096) = .inl ks → Ends (.post c t x) ⟨q, d⟩ (fun e =>
        res false e ∧ e.plat.tagState t = x ∧ e.plat.ct t Ct.xfer = 1 ∧
        e.sec = { d.sec with xfers := d.sec.xfers ++ [⟨t, true, ks⟩] } ∧ e.hif = d.hif)) ∧
    (on → may [2, 3] (!moving) → Ends (.abortOp c t x) ⟨q, d⟩ (fun e =>
      res false e ∧ e.plat.ct t Ct.abrt = 1 ∧ e.plat.tagState t = x ∧
      (∀ (n : ActNo) y, y ∈ d.cmd.posts n → y.carries t = true → { y with abort := true } ∈ e.cmd.posts n ∧
        (y.sent = true → y.abort = false → ∀ z ∈ (d.act n).link.hub, z.tnum = y.tnum →
          .abrt z.tag z.tnum ∈ (e.act n).link.down)) ∧
      (∀ n : ActNo, (∀ y ∈ d.cmd.posts n, y.carries t = false) → e.cmd.posts n = d.cmd.posts n ∧
        (e.act n).link = (d.act n).link))) ∧
    (on → may [1, 2, 5] free → Ends (.release c t x) ⟨q, d⟩ (fun e =>
      res false e ∧ e.plat.tagState t = 0 ∧ (alone → e.hif.cqs = d.hif.cqs ∧ e.plat.ct t Ct.posted = 0)))

/-- R291, R292, R293, R420, R421, R423, R425, R430: the end of a transfer in and of a transfer out. -/
def Obligations.TransfersEndWithTheirData : Prop :=
  ∀ (q : List Instr) (d : Dev) (t : TagNo) (data : Bytes) (err : Bool),
    let p : Plat := d.plat
    let f : Fe := d.fe
    let ct (x : CtFld) : Nat := p.ct t x
    let op : Nat := d.hif.opcode t
    let into : Prop := ct Ct.xfer = 1 ∧ ct Ct.din = 0 ∧ f.writesData t = true ∧ (p.tagState t = 1 ∨ p.tagState t = 2)
    let out : Prop := ct Ct.xfer = 1 ∧ ∃ y ∈ d.sec.xfers, y.tag = t.val ∧ y.out = true
    let n : Nat := d.hif.nlb t
    let lba : Nat := f.firstLba t
    let zeros : Plat × Buf × Bool := bufPut p d.buf .hif n (ct Ct.bufPage) (List.replicate (4096 * n) 0)
    let cipher : List Byte × Bool := d.sec.encryptAll (d.hif.nsid t) (d.sec.slotsOf t false) lba data
    let put : Plat × Buf × Bool := bufPut (p.secCount 0 (cipher.1.length / 4096)) d.buf .hif n (ct Ct.bufPage) cipher.1
    let len : Nat := ct Ct.xlen
    let took : Plat × Buf × Option (List Byte) := bufTake p d.buf .hif (len / 4096 + 1) (ct Ct.bufPage) len []
    let arrived (b : Buf) (e : Dev) : Prop := e.plat.ct t Ct.din = 1 ∧ e.plat.ct t Ct.xfer = 0 ∧ (2, t.val) ∈ e.cmd.evq ∧ e.buf = b ∧
      (∀ y ∈ e.sec.xfers, y.tag ≠ t.val)
    let failed (e : Dev) : Prop := e.plat.ct t Ct.din = ct Ct.din ∧ e.plat.ct t Ct.xfer = 0 ∧ (4, t.val) ∈ e.cmd.evq ∧
      e.plat.tagState t = p.tagState t ∧ (∀ y ∈ e.sec.xfers, y.tag ≠ t.val)
    (into → err = true → Ends (.xferInComplete t data err) ⟨q, d⟩ (fun e => failed e ∧ e.plat.ct t Ct.status = 0x04)) ∧
    (into → err = false → op = 0x08 → zeros.2.2 = true → Ends (.xferInComplete t data err) ⟨q, d⟩ (arrived zeros.2.1)) ∧
    (into → err = false → op = 0x08 → zeros.2.2 = false → Ends (.xferInComplete t data err) ⟨q, d⟩ failed) ∧
    (into → err = false → op ≠ 0x08 → cipher.2 = true → put.2.2 = true → Ends (.xferInComplete t data err) ⟨q, d⟩ (arrived put.2.1)) ∧
    (into → err = false → op ≠ 0x08 → cipher.2 = false → Ends (.xferInComplete t data err) ⟨q, d⟩ (fun e =>
      failed e ∧ e.plat.bit Reg.SEC_EVT Fld.SEC_EVT_REFUSED = true ∧
      e.plat.fld Reg.SEC_REFUSE_LAST Fld.SEC_REFUSE_LAST_REASON = 5)) ∧
    (¬ into → Ends (.xferInComplete t data err) ⟨q, d⟩ (fun e => e = d)) ∧
    (out → err = true → Ends (.postTransferComplete t err) ⟨q, d⟩ (fun e => failed e ∧ e.plat.ct t Ct.status = 0x04)) ∧
    (out → err = false → took.2.2 = none → Ends (.postTransferComplete t err) ⟨q, d⟩ failed) ∧
    (∀ b, out → err = false → took.2.2 = some b → Ends (.postTransferComplete t err) ⟨q, d⟩ (fun e =>
      e.plat.tagState t = 0 ∧ d.posts e t (ct Ct.dw0) (ct Ct.dw1) (ct Ct.status) ∧
      (ct Ct.sqid = 0 ∨ op ≠ 0x02 → e.hif.toHost = some (t.val, b)) ∧
      (ct Ct.sqid ≠ 0 → op = 0x02 → e.hif.toHost =
        some (t.val, d.sec.decryptAll (d.hif.nsid t) (d.sec.slotsOf t true) (d.hif.slba t) b)))) ∧
    (¬ out → Ends (.postTransferComplete t err) ⟨q, d⟩ (fun e => e = d))

/-- R93, R95, R96, R291, R292, R294, R295, R296, R297, R100, Table CMD-3: the event queue, the fetch hold, descriptors
posted, sent, closed unsent, closed by a STAT. How a bind is counted and a STAT that matches no task rest on log entry 48.
-/
def Obligations.EventsDescriptorsAndClosings : Prop :=
  ∀ (q : List Instr) (d : Dev) (c : CoreNo) (n : ActNo) (v : Word),
    let p : Plat := d.plat
    let l : Link := (d.act n).link
    let posts (e : Dev) : List Posted := e.cmd.posts n
    let link (e : Dev) : Link := (e.act n).link
    let tail : Nat := p.fld (Reg.CMD_DQ_TAIL n) Fld.CMD_DQ_TAIL_TAIL
    let goal : Nat := Fld.get Fld.CMD_DQ_TAIL_TAIL v
    let i : Nat := tail % 32
    let ok : Prop := descOk p d.cmd n i (p.desc n i 1 / 2 ^ 11 % 2 ^ 13) = true
    let tailNow (e : Dev) : Nat := e.plat.fld (Reg.CMD_DQ_TAIL n) Fld.CMD_DQ_TAIL_TAIL
    let up : Prop := p.linkUp n = true
    let closed (y : Posted) (code : Nat) (e : Dev) : Prop := posts e = (posts d).filter (fun z => z.slot != y.slot) ∧
      ∀ b, y.binds = [b] → (let u : Nat := b % 2 ^ 13
        e.plat.ct u Ct.lastCode = code % 256 ∧ e.plat.ct u Ct.ended = min 63 (p.ct u Ct.ended + 1) ∧
        e.plat.ct u Ct.tref = p.ct u Ct.tref - 1 ∧
        (1 < code % 256 → code < 256 → p.ct u Ct.firstCode = 0 → e.plat.ct u Ct.firstCode = code) ∧
        (p.tagState u = 3 → p.ct u Ct.tref = 1 → p.ct u Ct.lastSeen = 1 → p.ct u Ct.posted = 0 → 1 < code → code < 256 →
          e.plat.tagState u = 5 ∧ (3, u) ∈ e.cmd.evq))
    let word0 (w : Nat) : Nat := w - w / 2 ^ 16 % 2 ^ 16 * 2 ^ 16 + l.next * 2 ^ 16
    (d.powered Reg.CMD_EVQ → Ends (.cmdEvqRead c) ⟨q, d⟩ (fun e =>
      e.plat.resp = p.rd Reg.CMD_EVQ ∧ e.cmd = { d.cmd with evq := d.cmd.evq.drop 1 } ∧ p.keeps e.plat [Reg.CMD_EVQ] ∧
      (d.cmd.evq.length ≤ 1 → e.plat.rd Reg.CMD_EVQ = 0))) ∧
    (d.powered Reg.CMD_CTRL → Ends (.fetchHoldWrite c v) ⟨q, d⟩ (fun e =>
      e.plat.fld Reg.CMD_CTRL Fld.CMD_CTRL_FETCH_HOLD = Fld.get Fld.CMD_CTRL_FETCH_HOLD v ∧ p.keeps e.plat [Reg.CMD_CTRL])) ∧
    (d.powered (Reg.CMD_DQ_TAIL n) → goal = (tail + 1) % 64 → ok → Ends (.dqTailWrite c n v) ⟨q, d⟩ (fun e =>
      tailNow e = goal ∧ posts e = posts d ++ [⟨i, p.descBinds n i, false, false, 0, false⟩] ∧
      (∀ b, p.descBinds n i = [b] → e.plat.ct (b % 2 ^ 13) Ct.tref = p.ct (b % 2 ^ 13) Ct.tref + 1 ∧
        (b.testBit 13 = true → e.plat.ct (b % 2 ^ 13) Ct.lastSeen = 1)))) ∧
    (d.powered (Reg.CMD_DQ_TAIL n) → goal ≠ tail → ¬ ok → Ends (.dqTailWrite c n v) ⟨q, d⟩ (fun e =>
      tailNow e = tail ∧ posts e = posts d ∧ e.plat.bit Reg.CMD_EVT Fld.CMD_EVT_DQ_REFUSED = true ∧
      e.plat.fld (Reg.CMD_DQ_PTR n) Fld.CMD_DQ_PTR_ERR_SLOT = i)) ∧
    (∀ y, d.cmd.nextPost n = some y → y.abort = false →
      (let words : List Nat := word0 (p.descWord n y.slot 0) :: ((List.range 8).map (p.descWord n y.slot)).drop 1
       let w0 : Nat := p.descWord n y.slot 0
       mayTask p d.cmd l n d.activeCount words = true → Ends (.taskSend n) ⟨q, d⟩ (fun e =>
         (∃ exts, (link e).down = l.down ++ [.task (bits w0 55 43) l.next words exts] ∧ exts.length = min (bits w0 15 8) 24) ∧
         (link e).credit = l.credit - 1 ∧ (link e).next = (l.next + 1) % 65536 ∧ (link e).up = l.up ∧ (link e).queue = l.queue ∧
         (∃ z, (link e).hub = l.hub ++ [z] ∧ z.tag = bits w0 55 43 ∧ z.tnum = l.next ∧ z.slot = y.slot ∧ z.granted = 0 ∧ z.sent = 0) ∧
         (∀ b ∈ y.binds, p.tagState (b % 2 ^ 13) = 2 → e.plat.tagState (b % 2 ^ 13) = 3) ∧
         ({ y with sent := true, tnum := l.next } ∈ posts e)))) ∧
    (d.cmd.nextPost n = none ∨ d.cmd.hold = true ∨ ¬ up ∨ l.credit = 0 → Ends (.taskSend n) ⟨q, d⟩ (fun e =>
      link e = l ∧ e.cmd = d.cmd ∧ p.keeps e.plat [Reg.LNK_STATUS n])) ∧
    (∀ y, d.cmd.nextPost n = some y → y.abort = true → Ends (.descriptorCloseUnsent n) ⟨q, d⟩ (fun e =>
      closed y 0x40 e ∧ link e = l)) ∧
    (∀ y, d.cmd.nextPost n = some y → y.abort = false → Ends (.descriptorCloseUnsent n) ⟨q, d⟩ (fun e => e = d)) ∧
    (∀ tag tnum ws rest x y, l.up = .stat tag tnum ws :: rest → up → l.hub.find? (fun z => z.tnum == tnum) = some x →
      d.cmd.postOf n x = some y → Ends (.statReceive n .good) ⟨q, d⟩ (fun e =>
        closed y (if y.linkErr then 0x41 else bits (ws.headD 0) 63 56) e ∧ (link e).up = rest ∧
        (link e).hub = l.hub.filter (fun z => z.tnum != x.tnum) ∧ (link e).credit = l.credit + 1)) ∧
    (∀ tag tnum ws rest, l.up = .stat tag tnum ws :: rest → up → l.hub.find? (fun z => z.tnum == tnum) = none →
      Ends (.statReceive n .good) ⟨q, d⟩ (fun e => e.plat.bit Reg.CMD_EVT Fld.CMD_EVT_STAT_ORPHAN = true ∧ e.cmd = d.cmd ∧
        link e = { l with up := rest })) ∧
    (∀ tag tnum ws rest x xs y, l.up = .stat tag tnum ws :: rest → up → l.hub = x :: xs → d.cmd.postOf n x = some y →
      Ends (.statReceive n .uncorrectable) ⟨q, d⟩ (fun e => closed y 0x41 e ∧ (link e).up = rest ∧ (link e).credit = l.credit + 1))

/-- R91, R93, R95, R96, R97, R100, R195, R196: the hub's receipt of XRDY and DATA, the sending of DATA, the link's credits
and reset. A discarded packet marks the oldest open task (log entry 49); an upstream DATA of no task returns its credit (log
entry 48). -/
def Obligations.LinksCarryDataAndReset : Prop :=
  ∀ (q : List Instr) (d : Dev) (c : CoreNo) (n : ActNo) (enable : Bool),
    let p : Plat := d.plat
    let l : Link := (d.act n).link
    let link (e : Dev) : Link := (e.act n).link
    let up : Prop := p.linkUp n = true
    let a : Ac := d.acWith n (d.serving n)
    let st : Nat := Reg.TSQ_STATUS a.t
    let credit (e : Dev) : Nat := e.plat.fld (Reg.LNK_STATUS n) Fld.LNK_STATUS_UP_CREDIT
    let ready (x : HubTask) : Bool := decide (x.sent < min x.granted x.total)
    let len (x : HubTask) : Nat := if x.kind = 5 then
      min 4096 ((bits (p.descWord n x.slot 4) 31 0 + 7) / 8 * 8 - 4096 * x.sent) else 4096
    let got (x : HubTask) : Option (List Byte) := (bufRead p d.buf .hub (4096 * (p.descPage n x.slot + x.sent)) (len x) .good).2.2
    let sent (x : HubTask) (b : List Byte) (bad : Bool) : Prop := Ends (.dataDownSend n) ⟨q, d⟩ (fun e =>
      (link e).down = l.down ++ [.data x.tag x.tnum x.sent b bad] ∧ (link e).up = l.up ∧ (link e).credit = l.credit ∧
      (link e).hub = l.hub.map (fun y => if y.tnum = x.tnum then { y with sent := y.sent + 1 } else y) ∧ e.cmd = d.cmd)
    let marked (e : Dev) : Prop := ∀ x xs, l.hub = x :: xs → ∀ y ∈ d.cmd.posts n, y.sent = true → y.tnum = x.tnum →
      { y with linkErr := true } ∈ e.cmd.posts n
    (∀ tag tnum count rest, l.up = .xrdy tag tnum count :: rest → up →
      Ends (.xrdyReceive n .good) ⟨q, d⟩ (fun e =>
        link e = { l with up := rest, hub := l.hub.map (fun x => if x.tnum = tnum then { x with granted := x.granted + count } else x) } ∧
        e.cmd = d.cmd ∧ p.keeps e.plat [Reg.LNK_STATUS n]) ∧
      Ends (.xrdyReceive n .uncorrectable) ⟨q, d⟩ (fun e => link e = { l with up := rest } ∧ marked e)) ∧
    (∀ x b, l.hub.find? ready = some x → up → got x = some b → sent x b false) ∧
    (∀ x, l.hub.find? ready = some x → up → got x = none → sent x (List.replicate (len x) 0) true) ∧
    (l.hub.find? ready = none ∨ ¬ up → Ends (.dataDownSend n) ⟨q, d⟩ (fun e => link e = l ∧ e.buf = d.buf ∧
      p.keeps e.plat [Reg.LNK_STATUS n])) ∧
    (∀ tag tnum sidx bytes m0 m1 w rest x, l.up = .data tag tnum sidx bytes m0 m1 w :: rest → up →
      l.hub.find? (fun y => y.tnum == tnum) = some x → Ends (.dataUpReceive n .good) ⟨q, d⟩ (fun e =>
        link e = { l with up := rest } ∧ e.buf = (placeSector p d.buf n x.slot sidx bytes m0 m1 w).2 ∧ e.cmd = d.cmd ∧
        (p.fld (Reg.LNK_STATUS n) Fld.LNK_STATUS_UP_CREDIT < 255 →
          credit e = p.fld (Reg.LNK_STATUS n) Fld.LNK_STATUS_UP_CREDIT + 1))) ∧
    (∀ tag tnum sidx bytes m0 m1 w rest, l.up = .data tag tnum sidx bytes m0 m1 w :: rest → up →
      Ends (.dataUpReceive n .uncorrectable) ⟨q, d⟩ (fun e => link e = { l with up := rest } ∧ e.buf = d.buf ∧ marked e)) ∧
    (d.powered (Reg.LNK_CTRL n) → Ends (.linkReset c n enable) ⟨q, d⟩ (fun e =>
      link e = freshLink ∧ credit e = 16 ∧ e.plat.fld (Reg.LNK_STATUS n) Fld.LNK_STATUS_DN_GRANT = 0 ∧
      e.plat.bit (Reg.LNK_CTRL n) Fld.LNK_CTRL_ENABLE = enable ∧
      (a.busy = true → e.plat.bit st Fld.TSQ_STATUS_BUSY = false ∧ e.plat.bit st Fld.TSQ_STATUS_HALTED = true ∧
        e.plat.fld (Reg.TSQ_FAULT a.t) Fld.TSQ_FAULT_CAUSE = 8) ∧
      (∀ x y b, l.hub = [x] → d.cmd.postOf n x = some y → y.binds = [b] → e.plat.ct (b % 2 ^ 13) Ct.lastCode = 0x53 ∧
        e.cmd.posts n = (d.cmd.posts n).filter (fun z => z.slot != y.slot))))

/-- R93, R95, R100, R101, R102, R103, R104, R87, R88, Tables TSQ-4, TSQ-5, MAQ-4: the receipt of a TASK packet and the entry
of a task into the registers. Which header bytes are tested rests on log entry 51. -/
def Obligations.TasksEnterAndAreChecked : Prop :=
  ∀ (q : List Instr) (d : Dev) (n : ActNo) (f : LinkFault),
    let a : Ac := d.acWith n (d.serving n)
    let b (e : Dev) : Ac := e.acWith n (d.serving n)
    let held : Nat := a.l.queue.length + (if a.busy then 1 else 0)
    let err (x : Fld) (e : Dev) : Prop := e.plat.bit (Reg.LNK_ERR n) x = true ∧ (b e).l.queue = a.l.queue ∧
      (a.busy = true → e.plat.fld (Reg.TSQ_STATUS a.t) Fld.TSQ_STATUS_PEND = d.plat.fld (Reg.TSQ_STATUS a.t) Fld.TSQ_STATUS_PEND ||| 8) ∧
      (a.busy = true → a.locked = false → (b e).q.code = some 0x41)
    let i : Instr := .taskPacketReceive n f
    let ready : Prop := a.busy = false ∧ d.plat.bit (Reg.TSQ_CTRL a.t) Fld.TSQ_CTRL_RUN = true ∧
      d.plat.bit (Reg.TSQ_STATUS a.t) Fld.TSQ_STATUS_HALTED = false ∧ d.plat.on (4 * n.val + 2) = true
    (∀ tag tnum ws xs rest, a.l.down = .task tag tnum ws xs :: rest → a.linkOn = true →
      (held < 2 → f = .good ∨ f = .corrected → Ends i ⟨q, d⟩ (fun e =>
        (b e).l = { a.l with down := rest, queue := a.l.queue ++ [⟨tag, tnum, ws, xs⟩] } ∧
        e.plat.fld (Reg.LNK_STATUS n) Fld.LNK_STATUS_TASKS = held + 1 ∧
        e.plat.bit (Reg.LNK_ERR n) Fld.LNK_ERR_DN_CORR = (f == .corrected || d.plat.bit (Reg.LNK_ERR n) Fld.LNK_ERR_DN_CORR))) ∧
      (2 ≤ held → f = .good → Ends i ⟨q, d⟩ (fun e => (b e).l.down = rest ∧ err Fld.LNK_ERR_PROTO e)) ∧
      (f = .uncorrectable → Ends i ⟨q, d⟩ (fun e => (b e).l.down = rest ∧ err Fld.LNK_ERR_DN_UNCORR e)) ∧
      (f = .protocol → Ends i ⟨q, d⟩ (fun e => (b e).l.down = rest ∧ err Fld.LNK_ERR_PROTO e))) ∧
    (a.linkOn = false → Ends i ⟨q, d⟩ (fun e => e = d)) ∧
    (∀ x xs, a.l.queue = x :: xs → ready →
      let c : Ac := a.loadTask x
      let ended (code why : Nat) : Prop := Ends (.taskEnter n) ⟨q, d⟩ (fun e => ∃ ws,
        (b e).l.up = a.l.up ++ [.stat (x.tag % 2 ^ 13) (x.tnum % 2 ^ 16) ws] ++ a.l.owed ∧ (b e).l.queue = xs ∧
        bits (ws.getD 0 0) 63 56 = code ∧ bits (ws.getD 0 0) 55 48 = why ∧ ws.length = 3 ∧
        e.plat.bit (Reg.TSQ_STATUS a.t) Fld.TSQ_STATUS_BUSY = false ∧ (b e).q.running = false)
      let formed : Prop := c.wellFormed (d.plat.bit (Reg.TSQ_SCAN a.t) Fld.TSQ_SCAN_EN) = true
      (¬ formed → ended 0x50 0) ∧
      (formed → c.kind ≠ 5 → c.bindReason ≠ 0 → ended 0x11 c.bindReason) ∧
      (formed → c.kind ≠ 5 → c.bindReason = 0 → c.sample.staleReason ≠ 0 → ended 0x12 c.sample.staleReason) ∧
      (formed → c.kind = 5 ∨ c.bindReason = 0 ∧ c.sample.staleReason = 0 → Ends (.taskEnter n) ⟨q, d⟩ (fun e =>
        (b e).l.queue = xs ∧ (b e).l.up = a.l.up ∧ e.plat.bit (Reg.TSQ_STATUS a.t) Fld.TSQ_STATUS_BUSY = true ∧
        (b e).tag = x.tag % 2 ^ 13 ∧ (b e).tnum = x.tnum % 2 ^ 16 ∧ (b e).q.running = true ∧ (b e).q.code = none ∧
        (b e).pc = (d.plat.rd (Reg.TSQ_ENTRY a.t c.kind)).toNat % 8192 ∧ (b e).gap = 0 ∧
        (∀ k : Fin 8, k.val < x.words.length → (b e).word k = x.words.getD k 0 % 2 ^ 64) ∧
        (b e).q.pos.q = c.qFirst ∧ (b e).q.pos.lrow = c.lrowFirst ∧ (b e).q.pos.left = c.nrows ∧ (b e).q.pos.map = [] ∧
        (b e).q.pos.slack = (if c.kind = 1 then c.slack0 else 0) ∧ (b e).q.tbuf = [] ∧ (b e).q.w = a.q.w))) ∧
    (a.l.queue = [] ∨ ¬ ready → Ends (.taskEnter n) ⟨q, d⟩ (fun e => e = d))

/-- R81, R83, R96, R97, R98, R99, R100, R69, R70, Table TSQ-7: an ABRT by where its task stands, and DATA for the task in
the registers, the pieces of a maquette among it. Which tests a load makes rests on log entry 51. -/
def Obligations.AbortsAndDataReachTheTask : Prop :=
  ∀ (q : List Instr) (d : Dev) (n : ActNo) (tag tnum sidx : Nat) (bytes : List Byte) (bad : Bool) (rest : List DnPkt),
    let a : Ac := d.acWith n (d.serving n)
    let b (e : Dev) : Ac := e.acWith n (d.serving n)
    let i : Instr := .abrtReceive n .good
    let j : Instr := .dataDownReceive n .good
    let mine : Prop := a.busy = true ∧ a.tag = tag ∧ a.tnum = tnum
    let found (x : Queued) : Bool := x.tag == tag && x.tnum == tnum
    let left (x : Queued) : List Queued := a.l.queue.filter (fun y => y != x)
    let stat (x : Queued) : List UpPkt := [.stat tag tnum [0x40 * 2 ^ 56, bits (x.words.getD 3 0) 31 0 * 2 ^ 32,
      bits (x.words.getD 2 0) 39 20 * 2 ^ 44 + bits (x.words.getD 2 0) 63 40 * 2 ^ 20]]
    let pend : Nat := d.plat.fld (Reg.TSQ_STATUS a.t) Fld.TSQ_STATUS_PEND
    let pendNow (e : Dev) : Nat := e.plat.fld (Reg.TSQ_STATUS a.t) Fld.TSQ_STATUS_PEND
    let row : Nat := if a.isConv then a.ofs + sidx else a.lrowFirst + sidx / (a.k - 1)
    let refused (x : Fld) (e : Dev) : Prop := (b e).l.down = rest ∧ e.plat.bit (Reg.LNK_ERR n) x = true ∧ (b e).q.tbuf = a.q.tbuf ∧
      (a.busy = true → pendNow e = pend ||| 8)
    (a.l.down = .abrt tag tnum :: rest → a.linkOn = true →
      (∀ x, a.l.queue.find? found = some x → a.busy = false → Ends i ⟨q, d⟩ (fun e =>
        (b e).l = { a.l with down := rest, queue := left x, up := a.l.up ++ stat x } ∧ (b e).q = a.q)) ∧
      (∀ x, a.l.queue.find? found = some x → a.busy = true → Ends i ⟨q, d⟩ (fun e =>
        (b e).l = { a.l with down := rest, queue := left x, owed := a.l.owed ++ stat x } ∧ (b e).q = a.q)) ∧
      (a.l.queue.find? found = none → mine → a.q.ponr = true → Ends i ⟨q, d⟩ (fun e =>
        (b e).l = { a.l with down := rest } ∧ (b e).q = { a.q with late := true } ∧ pendNow e = pend)) ∧
      (a.l.queue.find? found = none → mine → a.q.ponr = false → Ends i ⟨q, d⟩ (fun e =>
        (b e).l = { a.l with down := rest } ∧ pendNow e = pend ||| 2 ∧
        (a.locked = false → (b e).q = { a.q with code := some 0x40, reason := 0 } ∧
          e.plat.bit (Reg.TSQ_STATUS a.t) Fld.TSQ_STATUS_LOCKED = true))) ∧
      (a.l.queue.find? found = none → ¬ mine → Ends i ⟨q, d⟩ (fun e =>
        (b e).l = { a.l with down := rest } ∧ (b e).q = a.q ∧ pendNow e = pend))) ∧
    (a.l.down = .data tag tnum sidx bytes bad :: rest → a.linkOn = true →
      (bad = true → Ends j ⟨q, d⟩ (refused Fld.LNK_ERR_DN_UNCORR)) ∧
      (bad = false → a.busy = false ∨ a.tnum ≠ tnum → Ends j ⟨q, d⟩ (fun e =>
        (b e).l = { a.l with down := rest } ∧ (b e).q = a.q ∧ d.plat.keeps e.plat [Reg.LNK_STATUS n])) ∧
      (bad = false → a.busy = true → a.tnum = tnum → a.grant = 0 → Ends j ⟨q, d⟩ (refused Fld.LNK_ERR_PROTO)) ∧
      (bad = false → a.busy = true → a.tnum = tnum → a.grant ≠ 0 → a.isLoad = false → Ends j ⟨q, d⟩ (fun e =>
        (b e).l = { a.l with down := rest } ∧ (b e).grant = a.grant - 1 ∧ (b e).q.tb (sidx % 64) = some ⟨row, sidx, bytes, 0, 0, 0⟩ ∧
        (∀ k, k < 64 → k ≠ sidx % 64 → (b e).q.tb k = a.q.tb k) ∧ (b e).q.pos = { a.q.pos with recv := a.q.pos.recv + 1 })) ∧
      (bad = false → a.isLoad = true → a.tnum = tnum → a.grant ≠ 0 → a.locked = true → Ends j ⟨q, d⟩ (fun e =>
        (b e).q = a.q ∧ (b e).grant = a.grant - 1)) ∧
      (bad = false → a.isLoad = true → a.tnum = tnum → a.grant ≠ 0 → a.locked = false → sidx < 16 → Ends j ⟨q, d⟩ (fun e =>
        let piece : List Byte := bytes.take (a.ofs - 4096 * sidx)
        let m : Img := (b e).q.img a.slot
        let got : Nat := 4096 * sidx + piece.length
        let why : Nat := m.loadReason d.plat n got a.ofs
        let st (x : Fld) : Nat := e.plat.fld (Reg.TSQ_MQ_ST a.t a.slot) x
        (b e).q.loaded = got ∧
        (∀ k, k < piece.length → m (4096 * sidx + k) = (piece.getD k 0).toNat) ∧
        (why ≠ 0 → (b e).q.code = some 0x10 ∧ (b e).q.reason = why ∧ st Fld.TSQ_MQ_ST_LOADING = 0) ∧
        (why = 0 → a.ofs ≤ got → st Fld.TSQ_MQ_ST_VALID = 1 ∧ st Fld.TSQ_MQ_ST_LOADING = 0 ∧
          e.plat.rd (Reg.TSQ_MQ_ID a.t a.slot) = BitVec.ofNat 32 m.mqId) ∧
        (why = 0 → got < a.ofs → sidx = 0 → st Fld.TSQ_MQ_ST_VALID = 0 ∧ st Fld.TSQ_MQ_ST_LOADING = 1)))) ∧
    (a.linkOn = false → ∀ x ∈ [i, j], Ends x ⟨q, d⟩ (fun e => e = d))

/-- R45, R46, R84, R112, R120, R122, R123, R125, R199, Table TSQ-15: the wait limit, the safe-point gap, the end limit, a
parity error in a maquette slot, the timeline compare, parity and rebuild ends. -/
def Obligations.TimeoutsParityErrorsAndTimedEvents : Prop :=
  ∀ (q : List Instr) (d : Dev) (n : ActNo),
    let a : Ac := d.acWith n (d.serving n)
    let b (e : Dev) : Ac := e.acWith n (d.serving n)
    let st : Nat := Reg.TSQ_STATUS a.t
    let limit (r : Nat) : Prop := (d.plat.rd r).toNat ≠ 0
    let waits : Prop := a.q.running = true ∧ a.q.held = true ∧ limit (Reg.TSQ_WAIT_LIMIT a.t)
    let gaps : Prop := a.q.running = true ∧ 64 ≤ a.gap
    let late : Prop := a.busy = true ∧ a.locked = true ∧ limit (Reg.TSQ_END_LIMIT a.t)
    let on : Prop := a.q.running = true ∧ a.busy = true
    let hit : Prop := Ends (.timelineHit n) ⟨q, d⟩ (fun e => (b e).q = { a.q with tlHit := true } ∧ e.plat = d.plat ∧ e.act n = d.act n)
    let formed : Prop := a.isZwrite = true ∧ ∃ y ∈ a.q.parity, y.1 = a.q.pos.lrow
    (waits → a.busy = true → Ends (.waitTimeout n) ⟨q, d⟩ (fun e => d.faultedBy e n 7)) ∧
    (¬ waits → Ends (.waitTimeout n) ⟨q, d⟩ (fun e => e = d)) ∧
    (gaps → a.busy = true → Ends (.safeGap n) ⟨q, d⟩ (fun e => d.faultedBy e n 5)) ∧
    (¬ gaps → Ends (.safeGap n) ⟨q, d⟩ (fun e => e = d)) ∧
    (late → a.q.pos.win = none → Ends (.endTimeout n) ⟨q, d⟩ (fun e => ∃ ws,
      (b e).l.up = a.l.up ++ [.stat a.tag a.tnum ws] ++ a.l.owed ∧ bits (ws.getD 0 0) 63 56 = a.q.code.getD 0 % 256 ∧
      bits (ws.getD 0 0) 55 48 = a.q.reason % 256 ∧ (ws.getD 0 0).testBit 36 = true ∧ e.plat.bit st Fld.TSQ_STATUS_BUSY = false ∧
      e.plat.bit st Fld.TSQ_STATUS_HALTED = true ∧ e.plat.fld (Reg.TSQ_FAULT a.t) Fld.TSQ_FAULT_CAUSE = 6)) ∧
    (¬ late → Ends (.endTimeout n) ⟨q, d⟩ (fun e => e = d)) ∧
    (a.busy = true → a.isLoad = false → a.q.pos.win = none → Ends (.mqStoreParityError n) ⟨q, d⟩ (fun e =>
      e.plat.bit (Reg.TSQ_MQ_ST a.t a.slot) Fld.TSQ_MQ_ST_VALID = false ∧
      e.plat.bit (Reg.TSQ_MQ_ST a.t a.slot) Fld.TSQ_MQ_ST_PAR_ERR = true ∧
      (a.locked = false → (b e).q.code = some 0x10 ∧ (b e).q.reason = 0x08 ∧ e.plat.bit st Fld.TSQ_STATUS_LOCKED = true) ∧
      d.plat.posted e.plat (if a.t = 4 then 192 else 128 + 16 * n.val) 0x0002
        ([BitVec.ofNat 8 a.slot, 0] ++ leBytes 2 a.tag ++ leBytes 4 a.mqId))) ∧
    (a.busy = false ∨ a.isLoad = true → Ends (.mqStoreParityError n) ⟨q, d⟩ (fun e => e = d)) ∧
    (∀ p o, on → a.q.cmp = .window p o → hit) ∧ (∀ o, on → a.q.cmp = .now o → hit) ∧
    (∀ w o, on → a.q.cmp = .wedge w o → w < a.img.wedges → hit) ∧
    (∀ w o, a.q.cmp = .wedge w o → a.img.wedges ≤ w → Ends (.timelineHit n) ⟨q, d⟩ (fun e => e = d)) ∧
    (a.q.cmp = .off → Ends (.timelineHit n) ⟨q, d⟩ (fun e => e = d)) ∧
    (formed → Ends (.parityReady n) ⟨q, d⟩ (fun e => (b e).q = { a.q with parReady := true } ∧ e.plat = d.plat)) ∧
    (¬ formed → Ends (.parityReady n) ⟨q, d⟩ (fun e => e = d)) ∧
    (∀ r rs s, a.g.rows = r :: rs → r.rebuild = some s → Ends (.rebuildEnd n) ⟨q, d⟩ (fun e =>
      (b e).q = { a.q with rebuilt := true } ∧ ∃ r', (b e).g.rows.head? = some r' ∧ r'.rebuild = none ∧ r'.lrow = r.lrow ∧
        (r'.slot s).st = 2 ∧ (r'.slot s).result = 2 ∧ (r'.slot s).data =
          (a.slots.filter (fun x => x != s)).foldl (fun y x => xorBytes y (r.slot x).data) (List.replicate 4096 0))) ∧
    (∀ r rs, a.g.rows = r :: rs → r.rebuild = none → Ends (.rebuildEnd n) ⟨q, d⟩ (fun e => e = d))

/-- R86, R126, R127, R128, R129, R392, R431, R461: RUN, RESUME, the control-store check, control-store writes, the spare's
attachment, TSQ_ENV. A refused write is a bus error of kind 8. -/
def Obligations.SequencerRegistersAndTheSpare : Prop :=
  ∀ (q : List Instr) (d : Dev) (c : CoreNo) (t : SeqNo) (run attach : Bool) (host : ActNo) (i : CsWordNo) (v : Word),
    let p : Plat := d.plat
    let st : Nat := Reg.TSQ_STATUS t
    let ctl : Nat := Reg.TSQ_CTRL t
    let on : Prop := d.powered ctl
    let m : ActNo := d.hostOf t
    let eff (k : ActNo) (e : Dev) : Prop := e.plat.fld (Reg.MGT_US (32 + k)) Fld.MGT_US_EFF = e.plat.effAct k
    let stops : Prop := p.bit ctl Fld.TSQ_CTRL_RUN = true ∧ run = false ∧ p.bit st Fld.TSQ_STATUS_BUSY = true
    let cs : Nat := 0x41020000 + 0x400000 * t.val + 4 * i.val
    let berr (e : Dev) : Prop := p.bit Reg.SYS_BERR_HI Fld.SYS_BERR_HI_VALID = false →
      e.plat.bit Reg.SYS_BERR_HI Fld.SYS_BERR_HI_VALID = true ∧ e.plat.fld Reg.SYS_BERR_HI Fld.SYS_BERR_HI_KIND = 8 ∧
      e.plat.rd Reg.SYS_BERR_LO = BitVec.ofNat 32 cs
    let testing : Prop := d.bcl.testing 2 t = true
    let write : Instr := .controlStoreWrite c t i v
    let was : Bool := p.bit (Reg.TSQ_CTRL 4) Fld.TSQ_CTRL_ATTACH
    let old : Nat := p.fld (Reg.TSQ_CTRL 4) Fld.TSQ_CTRL_HOST
    let idle (k : Nat) : Prop := p.bit (Reg.TSQ_CTRL k) Fld.TSQ_CTRL_RUN = false ∧ p.bit (Reg.TSQ_STATUS k) Fld.TSQ_STATUS_BUSY = false
    let free : Prop := idle 4 ∧ (attach = true → idle host) ∧ (was = true → idle old)
    let same : Prop := was = attach ∧ old = host
    let spare : Instr := .tsqAttach c attach host
    (on → p.bit st Fld.TSQ_STATUS_DETACHED = true → Ends (.tsqRunWrite c t run) ⟨q, d⟩ (fun e => e = d)) ∧
    (on → p.bit st Fld.TSQ_STATUS_DETACHED = false → Ends (.tsqRunWrite c t run) ⟨q, d⟩ (fun e =>
      e.plat.bit ctl Fld.TSQ_CTRL_RUN = run ∧ eff m e ∧
      e.plat.fld st Fld.TSQ_STATUS_PEND = (if stops then p.fld st Fld.TSQ_STATUS_PEND ||| 1 else p.fld st Fld.TSQ_STATUS_PEND))) ∧
    (on → Ends (.tsqResume c t) ⟨q, d⟩ (fun e =>
      e.plat.bit st Fld.TSQ_STATUS_HALTED = false ∧ e.plat.rd (Reg.TSQ_FAULT t) = 0 ∧ p.keeps e.plat [st, Reg.TSQ_FAULT t])) ∧
    (on → Ends (.csCheck c t) ⟨q, d⟩ (fun e => e.plat.bit st Fld.TSQ_STATUS_CS_BUSY = true ∧ p.keeps e.plat [st])) ∧
    (p.bit st Fld.TSQ_STATUS_CS_BUSY = true → Ends (.csCheckEnd t) ⟨q, d⟩ (fun e =>
      e.plat.rd (Reg.TSQ_CS_CRC t) = BitVec.ofNat 32 (crc32 (d.tsq t).csBytes) ∧ e.plat.bit st Fld.TSQ_STATUS_CS_BUSY = false ∧
      e.plat.bit st Fld.TSQ_STATUS_CS_VALID = true ∧ p.keeps e.plat [st, Reg.TSQ_CS_CRC t])) ∧
    (p.bit st Fld.TSQ_STATUS_CS_BUSY = false → Ends (.csCheckEnd t) ⟨q, d⟩ (fun e => e = d)) ∧
    (d.powered cs → ¬ testing → idle t → p.bit st Fld.TSQ_STATUS_CS_BUSY = false → Ends write ⟨q, d⟩ (fun e =>
      e.plat.bit st Fld.TSQ_STATUS_CS_VALID = false ∧ p.keeps e.plat [st] ∧
      (i.val % 8 < 5 → SMap.get (fun _ => 0) (e.tsq t).cs i = v.toNat ∧
        ∀ k, k ≠ i.val → SMap.get (fun _ => 0) (e.tsq t).cs k = SMap.get (fun _ => 0) (d.tsq t).cs k) ∧
      (5 ≤ i.val % 8 → e.tsq t = d.tsq t))) ∧
    (d.powered cs → testing ∨ ¬ idle t ∨ p.bit st Fld.TSQ_STATUS_CS_BUSY = true → Ends write ⟨q, d⟩ (fun e =>
      berr e ∧ p.keeps e.plat berrRegs ∧ e.tsq t = d.tsq t)) ∧
    (d.powered (Reg.TSQ_CTRL 4) → same → Ends spare ⟨q, d⟩ (fun e => e = d)) ∧
    (d.powered (Reg.TSQ_CTRL 4) → ¬ same → ¬ free → Ends spare ⟨q, d⟩ (fun e =>
      e.plat.bit (Reg.TSQ_STATUS 4) Fld.TSQ_STATUS_ATTACH_REFUSED = true ∧ p.keeps e.plat [Reg.TSQ_STATUS 4] ∧ e.tsq4 = d.tsq4)) ∧
    (d.powered (Reg.TSQ_CTRL 4) → ¬ same → free → Ends spare ⟨q, d⟩ (fun e =>
      e.plat.bit (Reg.TSQ_CTRL 4) Fld.TSQ_CTRL_ATTACH = attach ∧ e.plat.fld (Reg.TSQ_CTRL 4) Fld.TSQ_CTRL_HOST = host ∧ eff host e ∧
      (attach = true → e.plat.bit (Reg.TSQ_STATUS host) Fld.TSQ_STATUS_DETACHED = true ∧ e.serving host = 4 ∧
        e.plat.fld (Reg.TSQ_ENV_AGE 4) Fld.TSQ_ENV_AGE_AGE = 0xFFFF ∧
        (∀ k : Fin 8, e.plat.bit (Reg.TSQ_MQ_ST 4 k) Fld.TSQ_MQ_ST_VALID = false)) ∧
      (attach = false → e.serving host = host.castSucc) ∧
      (was = true → attach = false ∨ old ≠ host.val → e.plat.bit (Reg.TSQ_STATUS old) Fld.TSQ_STATUS_DETACHED = false))) ∧
    (d.powered (Reg.TSQ_ENV t) → Ends (.tsqEnvWrite c t v) ⟨q, d⟩ (fun e =>
      e.plat.fld (Reg.TSQ_ENV t) Fld.TSQ_ENV_TEMP = Fld.get Fld.TSQ_ENV_TEMP v ∧
      e.plat.fld (Reg.TSQ_ENV_AGE t) Fld.TSQ_ENV_AGE_AGE = 0 ∧ (e.tsq t) = { d.tsq t with envNs := some 0 } ∧
      p.keeps e.plat [Reg.TSQ_ENV t, Reg.TSQ_ENV_AGE t]))

/-- R320, R329, R318, Tables BUF-1 and BUF-2: the checker self-test, training and the fill, and what each needs. What a
temperature poll stores rests on log entry 62. -/
def Obligations.BufferOpensAfterItsThreeSteps : Prop :=
  ∀ (q : List Instr) (d : Dev) (c : CoreNo) (size ranks : Nat) (conv wc pc : Bool) (code : Byte),
    let st (f : Fld) : Bool := d.plat.bit Reg.BUF_STATUS f
    let refused (e : Dev) : Prop := e = { d with plat := d.plat.setFlag Reg.BUF_EVT Fld.BUF_EVT_CFG_REFUSED }
    let opened : Bool := st Fld.BUF_STATUS_OPEN
    let busy : Bool := st Fld.BUF_STATUS_BUSY
    let now (e : Dev) (f : Fld) : Bool := e.plat.bit Reg.BUF_STATUS f
    let s : Nat := d.plat.fld Reg.BUF_DCFG Fld.BUF_DCFG_SIZE
    let r : Nat := d.plat.fld Reg.BUF_DCFG Fld.BUF_DCFG_RANKS
    let passed : Bool := !st Fld.BUF_STATUS_ST_BUSY && !st Fld.BUF_STATUS_WC_FAIL && !st Fld.BUF_STATUS_PC_FAIL
    let listed : Prop := (s = 0 ∧ r = 0) ∨ s = 1 ∨ (s = 2 ∧ r = 1) ∨ (s = 3 ∧ r = 1)
    (d.powered Reg.BUF_CTRL →
      (opened = true ∨ busy = true ∨ st Fld.BUF_STATUS_ST_BUSY = true → Ends (.stRerun c) ⟨q, d⟩ refused) ∧
      (opened = false → busy = false → st Fld.BUF_STATUS_ST_BUSY = false → Ends (.stRerun c) ⟨q, d⟩ (fun e =>
        now e Fld.BUF_STATUS_ST_BUSY = true ∧ d.plat.keeps e.plat [Reg.BUF_STATUS] ∧ e.buf = d.buf)) ∧
      (opened = true ∨ busy = true ∨ passed = false → Ends (.bufInit c) ⟨q, d⟩ refused) ∧
      (opened = false → busy = false → passed = true → Ends (.bufInit c) ⟨q, d⟩ (fun e =>
        now e Fld.BUF_STATUS_BUSY = true ∧ now e Fld.BUF_STATUS_TRAINED = false ∧ now e Fld.BUF_STATUS_TRAIN_FAIL = false ∧
        now e Fld.BUF_STATUS_FILLED = false ∧ d.plat.keeps e.plat [Reg.BUF_STATUS])) ∧
      (opened = true ∨ busy = true ∨ st Fld.BUF_STATUS_TRAINED = false → Ends (.bufZero c) ⟨q, d⟩ refused) ∧
      (opened = false → busy = false → st Fld.BUF_STATUS_TRAINED = true → Ends (.bufZero c) ⟨q, d⟩ (fun e =>
        now e Fld.BUF_STATUS_BUSY = true ∧ d.plat.keeps e.plat [Reg.BUF_STATUS] ∧ e.buf = d.buf))) ∧
    (st Fld.BUF_STATUS_ST_BUSY = true → Ends (.checkerSelftestEnd wc pc) ⟨q, d⟩ (fun e =>
      now e Fld.BUF_STATUS_ST_BUSY = false ∧ now e Fld.BUF_STATUS_WC_FAIL = wc ∧ now e Fld.BUF_STATUS_PC_FAIL = pc ∧
      e.plat.bit Reg.BUF_EVT Fld.BUF_EVT_DONE = true ∧
      now e Fld.BUF_STATUS_OPEN = (opened || (!wc && !pc && st Fld.BUF_STATUS_TRAINED && st Fld.BUF_STATUS_FILLED)) ∧
      d.plat.keeps e.plat [Reg.BUF_STATUS, Reg.BUF_EVT])) ∧
    (busy = true → st Fld.BUF_STATUS_TRAINED = false →
      (listed ∧ s = size ∧ r = ranks ∧ conv = true → Ends (.trainingEnd size ranks conv) ⟨q, d⟩ (fun e =>
        now e Fld.BUF_STATUS_TRAINED = true ∧ now e Fld.BUF_STATUS_BUSY = false ∧ e.plat.bit Reg.BUF_EVT Fld.BUF_EVT_DONE = true ∧
        e.plat.fld Reg.BUF_USABLE Fld.BUF_USABLE_PAGES =
          (if s = 0 then 1933312 else if s = 1 then 3866624 else if s = 2 then 5799936 else 7733248) ∧
        d.plat.keeps e.plat [Reg.BUF_STATUS, Reg.BUF_EVT, Reg.BUF_USABLE])) ∧
      (¬ (listed ∧ s = size ∧ r = ranks ∧ conv = true) → Ends (.trainingEnd size ranks conv) ⟨q, d⟩ (fun e =>
        now e Fld.BUF_STATUS_TRAIN_FAIL = true ∧ now e Fld.BUF_STATUS_TRAINED = false ∧ now e Fld.BUF_STATUS_BUSY = false ∧
        e.plat.bit Reg.BUF_EVT Fld.BUF_EVT_DONE = true ∧ d.plat.keeps e.plat [Reg.BUF_STATUS, Reg.BUF_EVT]))) ∧
    (busy = true → st Fld.BUF_STATUS_TRAINED = true → Ends .fillEnd ⟨q, d⟩ (fun e =>
      now e Fld.BUF_STATUS_FILLED = true ∧ now e Fld.BUF_STATUS_BUSY = false ∧ e.plat.bit Reg.BUF_EVT Fld.BUF_EVT_DONE = true ∧
      now e Fld.BUF_STATUS_OPEN = (opened || passed) ∧ (∀ o, SMap.get zeroByte e.buf.dram o = 0 ∧ e.buf.mark o = 0) ∧
      d.plat.keeps e.plat [Reg.BUF_STATUS, Reg.BUF_EVT])) ∧
    (d.plat.on 20 = true → st Fld.BUF_STATUS_TRAINED = true → Ends (.dramTemperaturePoll code) ⟨q, d⟩ (fun e =>
      e = { d with buf := { d.buf with derate := code.toNat } }))

/-- R321, R322, R325, R327, R332, R333, R334, R335, R336, R344, R348, R392, Table BUF-4: a request to the Buffer DRAM range.
That requests are served whole, in one step, rests on log entry 6. -/
def Obligations.BufferServesOrRefusesRequests : Prop :=
  ∀ (q : List Instr) (d : Dev) (r : Requester) (c : CoreNo) (a n w : Nat) (bs : Bytes) (chk : ArrayCheck),
    (Instr.bufferRequest r a n none chk []).wf = true → 0 < n → bs.length = n →
    let pages : Nat := d.plat.fld Reg.BUF_USABLE Fld.BUF_USABLE_PAGES
    let opened : Bool := d.plat.bit Reg.BUF_STATUS Fld.BUF_STATUS_OPEN
    let reported (kind : Nat) (e : Dev) : Prop :=
      e.plat.fld Reg.BUF_ERR_ADDR_HI Fld.BUF_ERR_ADDR_HI_KIND = kind ∧
      e.plat.fld Reg.BUF_ERR_ADDR_HI Fld.BUF_ERR_ADDR_HI_SOURCE = r.code ∧
      e.plat.rd Reg.BUF_ERR_ADDR_LO = BitVec.ofNat 32 (a / 32 * 32 % 2 ^ 32) ∧
      e.plat.bit Reg.BUF_EVT Fld.BUF_EVT_RET_ACCESS = true ∧ e.buf = d.buf ∧
      d.plat.keeps e.plat ([Reg.BUF_ERR_ADDR_LO, Reg.BUF_ERR_ADDR_HI, Reg.BUF_EVT] ++ postRegs ++ berrRegs) ∧
      (∀ k, r = .core k → d.plat.bit Reg.SYS_BERR_HI Fld.SYS_BERR_HI_VALID = false →
        e.plat.fld Reg.SYS_BERR_HI Fld.SYS_BERR_HI_KIND = 7)
    let clean : Prop := d.buf.wbuf = [] ∧ (∀ x ∈ pageWords (a / 4096), d.buf.mark x = 0) ∧
      SMap.get (fun _ => 0) d.buf.perr (a / 4096) = 0 ∧ d.plat.bit Reg.BUF_INJ Fld.BUF_INJ_ARM = false
    let data : Word := BitVec.ofNat 32 (leNat (SMap.bytes zeroByte d.buf.dram a n))
    (opened = false ∨ pages ≤ a / 4096 →
      Ends (.bufferRequest r a n none chk []) ⟨q, d⟩ (reported 5) ∧
      Ends (.bufferRequest r a n (some bs) chk []) ⟨q, d⟩ (reported 6)) ∧
    (opened = true → a / 4096 < pages → d.plat.retired (a / 4096) = true →
      Ends (.bufferRequest r a n none chk []) ⟨q, d⟩ (reported 3) ∧
      Ends (.bufferRequest r a n (some bs) chk []) ⟨q, d⟩ (reported 4)) ∧
    (opened = true → a / 4096 < pages → d.plat.retired (a / 4096) = false →
      (d.plat.bit Reg.STC_CTRL Fld.STC_CTRL_EN = false → clean →
        Ends (.bufferRequest (.core c) a n none chk []) ⟨q, d⟩ (fun e => e = { d with plat := { d.plat with resp := data } }) ∧
        Ends (.bufferRequest r a n (some bs) chk []) ⟨q, d⟩ (fun e =>
          SMap.bytes zeroByte e.buf.dram a n = bs ∧
          (∀ o, o < a ∨ a + n ≤ o → SMap.get zeroByte e.buf.dram o = SMap.get zeroByte d.buf.dram o) ∧
          e.buf.lines = d.buf.lines ∧ d.plat.keeps e.plat [Reg.STC_VICTIM]) ∧
        (w ∈ wordsOf a n →
          Ends (.bufferRequest (.core c) a n none chk [(w, false)]) ⟨q, d⟩ (fun e =>
            e.plat.resp = data ∧ e.plat.bit Reg.BUF_EVT Fld.BUF_EVT_WC_CORR = true ∧
            (d.plat.bit (Reg.BUF_CNT_LO 0 + 4) satFld = false → d.plat.count (Reg.BUF_CNT_LO 0) + 1 < 2 ^ 48 - 1 →
              e.plat.count (Reg.BUF_CNT_LO 0) = d.plat.count (Reg.BUF_CNT_LO 0) + 1)) ∧
          Ends (.bufferRequest (.core c) a n none chk [(w, true)]) ⟨q, d⟩ (fun e =>
            e.plat.resp = data ∧ e.plat.bit Reg.BUF_EVT Fld.BUF_EVT_PC_CORR = true ∧ e.buf.mark w = 0 ∧
            e.buf.dram = d.buf.dram))) ∧
      (∀ way x, d.plat.bit Reg.STC_CTRL Fld.STC_CTRL_EN = true → a % 128 + n ≤ 128 → d.buf.find d.plat (a / 128) = some way →
        d.buf.line (lineSet (a / 128)) way = some x →
        Ends (.bufferRequest (.core c) a n none .good []) ⟨q, d⟩ (fun e =>
          e.plat.resp = BitVec.ofNat 32 (leNat ((x.data.drop (a % 128)).take n)) ∧ e.buf.lines = d.buf.lines ∧
          e.buf.dram = d.buf.dram ∧ d.plat.keeps e.plat [Reg.STC_CNT_LO 0, Reg.STC_CNT_LO 0 + 4, Reg.STC_EVT]) ∧
        Ends (.bufferRequest r a n (some bs) .good []) ⟨q, d⟩ (fun e =>
          e.buf.line (lineSet (a / 128)) way =
            some { x with dirty := true, data := x.data.take (a % 128) ++ bs ++ x.data.drop (a % 128 + n) } ∧
          e.buf.dram = d.buf.dram)))

/-- R325, R330, R331, R333, R334, R337, R338, R340, R341, R343, R345, R346, R350, Table STC-1: write-backs, the scrubber,
the retirement lists, error injection, the stage cache's operations, enable and fence. That the scrub of a retired page
moves on rests on log entry 63. -/
def Obligations.BufferMaintenanceAndStageCache : Prop :=
  (∀ (q : List Instr) (d : Dev) (c : CoreNo) (n : RetNo) (r : PairNo) (v : Word) (xs ys : List WriteBack) (w : WriteBack),
     let page : Nat := d.plat.fld Reg.BUF_SCRUB_POS Fld.BUF_SCRUB_POS_PAGE
     let pages : Nat := d.plat.fld Reg.BUF_USABLE Fld.BUF_USABLE_PAGES
     let passes : Nat := d.plat.fld Reg.BUF_SCRUB_POS Fld.BUF_SCRUB_POS_PASSES
     let moved (e : Dev) : Prop :=
       e.plat.fld Reg.BUF_SCRUB_POS Fld.BUF_SCRUB_POS_PAGE = (if page + 1 < pages then page + 1 else 0) ∧
       e.plat.fld Reg.BUF_SCRUB_POS Fld.BUF_SCRUB_POS_PASSES = (if page + 1 < pages then passes else (passes + 1) % 256) ∧
       e.buf.dram = d.buf.dram
     (d.buf.wbuf = xs ++ w :: ys → (∀ x ∈ xs, x.issued = true) → w.issued = false → Ends .writeBackIssue ⟨q, d⟩ (fun e =>
       e.buf.wbuf = xs ++ { w with issued := true } :: ys ∧ (∀ x ∈ e.buf.victims, x.line = w.line → x.dirty = false) ∧
       (d.plat.bit (Reg.STC_CNT_LO 4 + 4) satFld = false → d.plat.count (Reg.STC_CNT_LO 4) + 1 < 2 ^ 48 - 1 →
         e.plat.count (Reg.STC_CNT_LO 4) = d.plat.count (Reg.STC_CNT_LO 4) + 1) ∧ e.buf.dram = d.buf.dram)) ∧
     (d.buf.wbuf = xs ++ w :: ys → (∀ x ∈ xs, x.issued = false) → w.issued = true → w.data.length = 128 →
       (∀ x ∈ wordsOf (128 * w.line) 128, d.buf.mark x = 0) → d.plat.bit Reg.BUF_INJ Fld.BUF_INJ_ARM = false →
       Ends .writeBackComplete ⟨q, d⟩ (fun e =>
         e.buf.wbuf = xs ++ ys ∧ SMap.bytes zeroByte e.buf.dram (128 * w.line) 128 = w.data ∧
         (∀ o, o < 128 * w.line ∨ 128 * w.line + 128 ≤ o → SMap.get zeroByte e.buf.dram o = SMap.get zeroByte d.buf.dram o) ∧
         d.plat.keeps e.plat [Reg.STC_VICTIM])) ∧
     (d.plat.bit Reg.BUF_SCRUB Fld.BUF_SCRUB_EN = true → d.plat.bit Reg.BUF_STATUS Fld.BUF_STATUS_OPEN = true →
       (d.plat.retired page = true → Ends (.scrubPage []) ⟨q, d⟩ (fun e => moved e ∧ d.plat.keeps e.plat [Reg.BUF_SCRUB_POS])) ∧
       (d.plat.retired page = false → (∀ x ∈ pageWords page, d.buf.mark x = 0) → Ends (.scrubPage []) ⟨q, d⟩ (fun e =>
         moved e ∧ (d.plat.bit (Reg.BUF_CNT_LO 3 + 4) satFld = false → d.plat.count (Reg.BUF_CNT_LO 3) + 1 < 2 ^ 48 - 1 →
           e.plat.count (Reg.BUF_CNT_LO 3) = d.plat.count (Reg.BUF_CNT_LO 3) + 1))) ∧
       (∀ x ∈ pageWords page, d.plat.retired page = false → (∀ y ∈ pageWords page, d.buf.mark y = 0) →
         Ends (.scrubPage [(x, false)]) ⟨q, d⟩ (fun e =>
           moved e ∧ e.buf.mark x = 0 ∧ e.plat.bit Reg.BUF_EVT Fld.BUF_EVT_WC_CORR = true))) ∧
     (d.plat.bit Reg.BUF_SCRUB Fld.BUF_SCRUB_EN = false → Ends (.scrubPage []) ⟨q, d⟩ (fun e => e = d)) ∧
     (d.powered (Reg.BUF_RET n) → Ends (.bufRetWrite c n v) ⟨q, d⟩ (fun e =>
       e.plat.fld (Reg.BUF_RET n) Fld.BUF_RET_VALID = Fld.get Fld.BUF_RET_VALID v ∧
       e.plat.fld (Reg.BUF_RET n) Fld.BUF_RET_PAGE = Fld.get Fld.BUF_RET_PAGE v ∧
       (Fld.get Fld.BUF_RET_VALID v = 1 → e.plat.retired (Fld.get Fld.BUF_RET_PAGE v) = true) ∧
       d.plat.keeps e.plat [Reg.BUF_RET n])) ∧
     (d.powered (Reg.BUF_BANK_RET r) → Ends (.bufBankRetWrite c r v) ⟨q, d⟩ (fun e =>
       e.plat.rd (Reg.BUF_BANK_RET r) = v ∧ d.plat.keeps e.plat [Reg.BUF_BANK_RET r])) ∧
     (d.powered Reg.BUF_INJ → Ends (.bufInjWrite c v) ⟨q, d⟩ (fun e =>
       e.plat.fld Reg.BUF_INJ Fld.BUF_INJ_ARM = Fld.get Fld.BUF_INJ_ARM v ∧
       e.plat.fld Reg.BUF_INJ Fld.BUF_INJ_DOUBLE = Fld.get Fld.BUF_INJ_DOUBLE v ∧
       e.plat.fld Reg.BUF_INJ Fld.BUF_INJ_BIT1 = Fld.get Fld.BUF_INJ_BIT1 v ∧
       e.plat.fld Reg.BUF_INJ Fld.BUF_INJ_BIT2 = Fld.get Fld.BUF_INJ_BIT2 v ∧ d.plat.keeps e.plat [Reg.BUF_INJ]))) ∧
  (∀ (q : List Instr) (d : Dev) (c : CoreNo) (way : WayNo) (v : Word),
     let st (f : Fld) : Bool := d.plat.bit Reg.STC_STATUS f
     let en : Bool := d.plat.bit Reg.STC_CTRL Fld.STC_CTRL_EN
     let ops : List (Nat × Nat × Instr) := [(1, 0, .cleanAll c), (2, 0, .invalidateAll c), (3, 0, .cleanInvAll c),
       (4, 0, .cleanRange c), (5, 0, .cleanInvRange c), (6, way.val, .cleanInvWay c way)]
     (d.powered Reg.STC_OP → ∀ op w i, (op, w, i) ∈ ops →
       (st Fld.STC_STATUS_BUSY = true ∨ (op = 2 ∧ en = true) → Ends i ⟨q, d⟩ (fun e =>
         e = { d with plat := d.plat.setFlag Reg.STC_STATUS Fld.STC_STATUS_OP_REFUSED })) ∧
       (st Fld.STC_STATUS_BUSY = false → ¬ (op = 2 ∧ en = true) → Ends i ⟨q, d⟩ (fun e => ∃ o : StcOp,
         e.buf = { d.buf with op := some o } ∧ o.op = op ∧ o.way = w ∧ o.enOff = !en ∧
         o.base = d.plat.fld Reg.STC_OP_BASE Fld.STC_OP_BASE_LINE ∧ o.len = d.plat.fld Reg.STC_OP_LEN Fld.STC_OP_LEN_LINE ∧
         (∀ k, k ∈ o.dirty ↔ ∃ x, (k, some x) ∈ d.buf.lines ∧ x.dirty = true ∧ o.scope k x = true) ∧
         e.plat.bit Reg.STC_STATUS Fld.STC_STATUS_BUSY = true ∧ d.plat.keeps e.plat [Reg.STC_STATUS]))) ∧
     (∀ o, d.buf.op = some o → Ends .stcOpComplete ⟨q, d⟩ (fun e =>
       e.buf.op = none ∧ e.plat.bit Reg.STC_STATUS Fld.STC_STATUS_BUSY = false ∧
       e.plat.bit Reg.STC_STATUS Fld.STC_STATUS_OP_DONE = true ∧
       e.plat.bit Reg.STC_STATUS Fld.STC_STATUS_INV_DONE =
         (st Fld.STC_STATUS_INV_DONE || (o.enOff && (o.op == 2 || o.op == 3))) ∧
       (SMap.wf (fun _ => none) d.buf.lines → ∀ k ∈ o.dirty, ∀ x, SMap.get (fun _ => none) e.buf.lines k = some x → x.dirty = false) ∧
       (o.op = 2 → e.buf.lines = [] ∧ e.buf.victims = [] ∧ e.buf.dram = d.buf.dram) ∧
       (o.op = 6 → o.way < 16 → e.buf.wayClean.testBit o.way = true))) ∧
     (d.buf.op = none → Ends .stcOpComplete ⟨q, d⟩ (fun e => e = d)) ∧
     (d.powered Reg.STC_CTRL → Ends (.stcEnableWrite c v) ⟨q, d⟩ (fun e =>
       e.plat.fld Reg.STC_CTRL Fld.STC_CTRL_ALLOC_CORE = Fld.get Fld.STC_CTRL_ALLOC_CORE v ∧
       e.plat.fld Reg.STC_CTRL Fld.STC_CTRL_ALLOC_HIF = Fld.get Fld.STC_CTRL_ALLOC_HIF v ∧
       e.plat.fld Reg.STC_CTRL Fld.STC_CTRL_ALLOC_HUB = Fld.get Fld.STC_CTRL_ALLOC_HUB v ∧
       (Fld.get Fld.STC_CTRL_EN v = 1 → en = false →
         (st Fld.STC_STATUS_INV_DONE = true ∧ st Fld.STC_STATUS_BUSY = false →
           e.plat.bit Reg.STC_CTRL Fld.STC_CTRL_EN = true ∧ e.plat.rd Reg.STC_STATUS = d.plat.rd Reg.STC_STATUS) ∧
         (¬ (st Fld.STC_STATUS_INV_DONE = true ∧ st Fld.STC_STATUS_BUSY = false) →
           e.plat.bit Reg.STC_CTRL Fld.STC_CTRL_EN = false ∧ e.plat.bit Reg.STC_STATUS Fld.STC_STATUS_EN_REFUSED = true)) ∧
       (Fld.get Fld.STC_CTRL_EN v = 0 → en = true →
         e.plat.bit Reg.STC_CTRL Fld.STC_CTRL_EN = false ∧ e.plat.bit Reg.STC_STATUS Fld.STC_STATUS_INV_DONE = false) ∧
       e.buf = d.buf ∧ d.plat.keeps e.plat [Reg.STC_CTRL, Reg.STC_STATUS])) ∧
     (d.powered Reg.STC_FENCE →
       (Fld.get Fld.STC_FENCE_WAYS v = 0xFFFF → Ends (.stcFenceWrite c v) ⟨q, d⟩ (fun e =>
         e = { d with plat := d.plat.setFlag Reg.STC_STATUS Fld.STC_STATUS_OP_REFUSED })) ∧
       (Fld.get Fld.STC_FENCE_WAYS v ≠ 0xFFFF → Ends (.stcFenceWrite c v) ⟨q, d⟩ (fun e =>
         e.plat.fld Reg.STC_FENCE Fld.STC_FENCE_WAYS = Fld.get Fld.STC_FENCE_WAYS v ∧ e.buf.lines = d.buf.lines ∧
         d.plat.keeps e.plat [Reg.STC_FENCE]))))

/-- R354, R356, R357, R358, R359, R360, R361, R364, R365, R367, Table KEP-1: the issue of a Keep command, and each program
or erase pulse. The order of the checks and the content after a failed erase rest on log entry 65. -/
def Obligations.KeepCommandsIssueAndPulse : Prop :=
  (∀ (q : List Instr) (d : Dev) (c : CoreNo) (r : RegionNo), d.powered Reg.KEEP_CMD →
     let addr : Nat := d.plat.fld Reg.KEEP_ADDR Fld.KEEP_ADDR_OFS
     let bank : Nat := bankOf (addr / 4096)
     let cmds : List (Nat × Nat × Nat × Instr) := [(1, bank, 0, .program c), (2, bank, 0, .erase c), (3, bank, 0, .info c),
       (4, bank, 0, .remap c), (5, 0, r.val, .defineRegion c r), (6, 0, r.val, .setPassword c r), (7, 0, r.val, .unlock c r),
       (8, 0, r.val, .lock c r)]
     let limit : Nat × Nat := d.plat.wearLimits
     ∀ op b reg i, (op, b, reg, i) ∈ cmds →
       (d.keep.ready b = false ∨ d.keep.streams b = true → Ends i ⟨q, d⟩ (fun e =>
         e = { d with plat := d.plat.setFlag Reg.KEEP_EVT Fld.KEEP_EVT_CMD_REFUSED })) ∧
       (d.keep.ready b = true → d.keep.streams b = false → d.keep.brown = true → Ends i ⟨q, d⟩ (fun e =>
         SMap.get (fun _ => 0) e.keep.lastRes b = 6 ∧ SMap.get (fun _ => 0) e.keep.lastOp b = op ∧ e.keep.running b = none ∧
         e.plat.bit Reg.KEEP_EVT Fld.KEEP_EVT_DONE = true ∧ e.plat.bit Reg.KEEP_EVT Fld.KEEP_EVT_BROWNOUT = true ∧
         e.keep.cells = d.keep.cells)) ∧
       (d.keep.ready b = true → d.keep.streams b = false → d.keep.brown = false → Ends i ⟨q, d⟩ (fun e => ∃ k : KCmd,
         e.keep.running b = some k ∧ k.op = op ∧ k.addr = addr ∧ k.region = reg ∧ k.latch = d.plat.pageBuf ∧ k.pulses = 0 ∧
         k.page = 0 ∧ k.soft = limit.1 ∧ k.hard = limit.2 ∧ e.keep.ready b = false ∧ e.keep.cells = d.keep.cells ∧
         e.keep.info = d.keep.info ∧ e.keep.regions = d.keep.regions ∧ e.keep.lastRes = d.keep.lastRes ∧
         e.plat.bit Reg.KEEP_EVT Fld.KEEP_EVT_DONE = d.plat.bit Reg.KEEP_EVT Fld.KEEP_EVT_DONE ∧
         (∀ s, d.keep.pending b = some s → s.sector = addr / 4096 → op = 1 → addr % 256 = 0 → k.result = some 0xA) ∧
         (∀ s, d.keep.pending b = some s → s.sector ≠ addr / 4096 → op = 2 ∨ op = 4 → addr % 4096 = 0 → k.result = some 0xA) ∧
         (op = 1 → addr % 256 ≠ 0 → k.result = some 2) ∧ (op = 2 ∨ op = 4 → addr % 4096 ≠ 0 → k.result = some 2) ∧
         (d.keep.pending b = none →
           (op = 1 → addr % 256 = 0 →
             (d.keep.isProtected (addr / 4096) = true → k.result = some 1) ∧
             (d.keep.isProtected (addr / 4096) = false →
               k.result = if needsErase (d.keep.bytes addr 256) d.plat.pageBuf then some 3 else none)) ∧
           (op = 2 → addr % 4096 = 0 → k.result = if d.keep.isProtected (addr / 4096) then some 1 else none) ∧
           (op = 4 → addr % 4096 = 0 → k.result = if d.keep.isProtected (addr / 4096) then some 1
             else if 64 ≤ SMap.get (fun _ => 0) d.keep.used b then some 9 else none))))) ∧
  (∀ (q : List Instr) (d : Dev) (b : BankNo) (stuck : Bytes) (k : KCmd), d.keep.running b = some k → k.result = none →
     let s : Nat := k.addr / 4096
     let cell : Nat := d.keep.base s + k.addr % 4096
     let verified : Bool := stuck.all (fun x => x == 0)
     let others (lo n : Nat) (e : Dev) : Prop :=
       ∀ o, o < lo ∨ lo + n ≤ o → SMap.get erasedByte e.keep.cells o = SMap.get erasedByte d.keep.cells o
     (k.op = 1 → k.latch.length = 256 → Ends (.keepPulseEnd b stuck) ⟨q, d⟩ (fun e =>
       let old : List Byte := SMap.bytes erasedByte d.keep.cells cell 256
       let new : List Byte := SMap.bytes erasedByte e.keep.cells cell 256
       new = programBytes old k.latch stuck ∧ others cell 256 e ∧ ∃ k2, e.keep.running b = some k2 ∧ k2.pulses = k.pulses + 1 ∧
         k2.result = (if new = wantBytes old k.latch then some 0 else if 24 ≤ k.pulses + 1 then some 4 else none))) ∧
     (k.op = 2 → verified = true → Ends (.keepPulseEnd b stuck) ⟨q, d⟩ (fun e =>
       SMap.bytes erasedByte e.keep.cells (d.keep.base s) 4096 = List.replicate 4096 0xFF ∧ others (d.keep.base s) 4096 e ∧
       SMap.get infoReset e.keep.info (d.keep.infoKey s) =
         ⟨min 0xFFFFFF (k.count + 1), k.pulses + 1, k.warn || decide (k.soft < k.pulses + 1)⟩ ∧
       e.keep.pending b = none ∧ (∃ k2, e.keep.running b = some k2 ∧ k2.result = some 0) ∧
       (k.soft < k.pulses + 1 → d.plat.on 29 = true → e.plat.bit Reg.KEEP_EVT Fld.KEEP_EVT_WEAR_WARN = true))) ∧
     (k.op = 2 → verified = false → k.pulses + 1 < k.hard → Ends (.keepPulseEnd b stuck) ⟨q, d⟩ (fun e =>
       e.keep.cells = d.keep.cells ∧ e.keep.info = d.keep.info ∧ e.keep.running b = some { k with pulses := k.pulses + 1 })) ∧
     (k.op = 2 → verified = false → k.hard ≤ k.pulses + 1 → Ends (.keepPulseEnd b stuck) ⟨q, d⟩ (fun e =>
       others (d.keep.base s) 4096 e ∧ e.keep.pending b = none ∧ (∃ k2, e.keep.running b = some k2 ∧ k2.result = some 5) ∧
       (SMap.get infoReset e.keep.info (d.keep.infoKey s)).warn = true)) ∧
     (k.op = 4 → k.page = 16 → k.latch.length = 256 →
       programBytes (SMap.bytes erasedByte d.keep.cells (spareCell b k.spare 3840) 256) k.latch stuck =
         wantBytes (SMap.bytes erasedByte d.keep.cells (spareCell b k.spare 3840) 256) k.latch →
       Ends (.keepPulseEnd b stuck) ⟨q, d⟩ (fun e =>
         e.keep.base s = spareCell (bankOf s) k.spare 0 ∧ (∃ k2, e.keep.running b = some k2 ∧ k2.result = some 0) ∧
         SMap.get (fun _ => 0) e.keep.used b = SMap.get (fun _ => 0) d.keep.used b + 1 ∧ others (spareCell b k.spare 3840) 256 e)))

/-- R356, R359, R361, R367, Table KEP-1: the end of each Keep command. The eighth wrong password ends 8, an UNLOCK of a
region without a password compares with all ones, and when a region is locked: log entry 66. -/
def Obligations.KeepCommandsEndWithResult : Prop :=
  ∀ (q : List Instr) (d : Dev) (b : BankNo) (k : KCmd), d.keep.running b = some k →
    let reg : KRegion := d.keep.region k.region
    let info : KInfo := SMap.get infoReset d.keep.info (d.keep.infoKey (k.addr / 4096))
    let ended (res : Nat) (e : Dev) : Prop :=
      SMap.get (fun _ => 0) e.keep.lastRes b = res ∧ SMap.get (fun _ => 0) e.keep.lastOp b = k.op ∧ e.keep.running b = none ∧
      (d.plat.on 29 = true → e.plat.bit Reg.KEEP_EVT Fld.KEEP_EVT_DONE = true) ∧ e.keep.cells = d.keep.cells
    let same (e : Dev) : Prop := e.keep.regions = d.keep.regions ∧ e.keep.info = d.keep.info
    let put (x : KRegion) (e : Dev) : Prop :=
      e.keep.region k.region = x ∧ (∀ n, n ≠ k.region → e.keep.region n = d.keep.region n) ∧ e.keep.info = d.keep.info
    (k.op = 1 ∨ k.op = 2 ∨ k.op = 4 →
      (∀ r, k.result = some r → Ends (.keepCommandEnd b) ⟨q, d⟩ (fun e => ended r e ∧ same e)) ∧
      (k.result = none → Ends (.keepCommandEnd b) ⟨q, d⟩ (fun e => e = d))) ∧
    (k.op = 3 → k.addr % 4096 = 0 → d.keep.pending (bankOf (k.addr / 4096)) = none → Ends (.keepCommandEnd b) ⟨q, d⟩ (fun e =>
      ended 0 e ∧ same e ∧ e.keep.infoLo = info.pulses * 2 ^ 24 + info.count ∧
      (d.plat.on 29 = true → e.plat.rd Reg.KEEP_INFO_LO = BitVec.ofNat 32 (info.pulses * 2 ^ 24 + info.count) ∧
        (SMap.get (fun _ => 0) d.keep.remap (k.addr / 4096) = 0 →
          e.plat.bit Reg.KEEP_INFO_HI Fld.KEEP_INFO_HI_WARN = info.warn ∧
          e.plat.bit Reg.KEEP_INFO_HI Fld.KEEP_INFO_HI_REMAPPED = false)))) ∧
    (k.op = 3 ∨ k.op = 5 → k.addr % 4096 ≠ 0 → Ends (.keepCommandEnd b) ⟨q, d⟩ (fun e => ended 2 e ∧ same e)) ∧
    (k.op = 5 → k.addr % 4096 = 0 →
      (32768 < k.addr / 4096 + k.arg → Ends (.keepCommandEnd b) ⟨q, d⟩ (fun e => ended 2 e ∧ same e)) ∧
      (k.addr / 4096 + k.arg ≤ 32768 → reg.locked = true → Ends (.keepCommandEnd b) ⟨q, d⟩ (fun e => ended 7 e ∧ same e)) ∧
      (k.addr / 4096 + k.arg ≤ 32768 → reg.locked = false → Ends (.keepCommandEnd b) ⟨q, d⟩ (fun e =>
        ended 0 e ∧ put { reg with start := k.addr / 4096, count := k.arg, latch := true } e))) ∧
    (k.op = 6 →
      (reg.locked = true → Ends (.keepCommandEnd b) ⟨q, d⟩ (fun e => ended 7 e ∧ same e)) ∧
      (reg.locked = false → Ends (.keepCommandEnd b) ⟨q, d⟩ (fun e => ended 0 e ∧
        put { reg with pw := if k.pw = 2 ^ 64 - 1 then none else some k.pw, latch := true } e))) ∧
    (k.op = 7 →
      (8 ≤ d.keep.pwFail → Ends (.keepCommandEnd b) ⟨q, d⟩ (fun e => ended 8 e ∧ same e ∧ e.keep.pwFail = d.keep.pwFail)) ∧
      (d.keep.pwFail < 8 → reg.pw = some k.pw → Ends (.keepCommandEnd b) ⟨q, d⟩ (fun e =>
        ended 0 e ∧ put { reg with latch := true } e ∧ e.keep.pwFail = d.keep.pwFail)) ∧
      (d.keep.pwFail < 7 → (∃ x, reg.pw = some x ∧ x ≠ k.pw) → Ends (.keepCommandEnd b) ⟨q, d⟩ (fun e =>
        ended 7 e ∧ same e ∧ e.keep.pwFail = d.keep.pwFail + 1)) ∧
      (d.keep.pwFail = 7 → (∃ x, reg.pw = some x ∧ x ≠ k.pw) → Ends (.keepCommandEnd b) ⟨q, d⟩ (fun e =>
        ended 8 e ∧ same e ∧ e.keep.pwFail = 8 ∧ (d.plat.on 29 = true → e.plat.bit Reg.KEEP_EVT Fld.KEEP_EVT_PW_LOCKOUT = true)))) ∧
    (k.op = 8 → Ends (.keepCommandEnd b) ⟨q, d⟩ (fun e =>
      ended 0 e ∧ put { reg with latch := false } e ∧ (reg.pw ≠ none → (e.keep.region k.region).locked = true)))

/-- R355, R365, R372, R373: window reads, the start, stop and end of a stream. Window reads of at most 32 bits, the
STREAM_ERR of ERR 1 and the delivered count as an operand rest on log entry 67. -/
def Obligations.KeepReadsAndStreams : Prop :=
  ∀ (q : List Instr) (d : Dev) (c : CoreNo) (o n : Nat),
    let src : Nat := d.plat.fld Reg.KEEP_STR_SRC Fld.KEEP_STR_SRC_SRC
    let len : Nat := d.plat.fld Reg.KEEP_STR_LEN Fld.KEEP_STR_LEN_LEN
    let dst : Nat := d.plat.strDst
    let fits : Prop := src % 32 = 0 ∧ dst % 32 = 0 ∧ len % 32 = 0 ∧ len ≠ 0 ∧ len ≤ 0x1000000 ∧ src + len ≤ 0x8000000 ∧
      d.plat.strDstOk dst len = true
    let free : Prop := ∀ b : BankNo, src < (b.val + 1) * 2 ^ 26 → b.val * 2 ^ 26 < src + len → d.keep.running b = none
    let failed (err : Nat) (e : Dev) : Prop :=
      e.plat.fld Reg.KEEP_STR_STAT Fld.KEEP_STR_STAT_ERR = err ∧ e.plat.fld Reg.KEEP_STR_STAT Fld.KEEP_STR_STAT_BYTES = 0 ∧
      e.plat.bit Reg.KEEP_EVT Fld.KEEP_EVT_STREAM_ERR = true ∧ e.keep = d.keep ∧
      d.plat.keeps e.plat [Reg.KEEP_STR_STAT, Reg.KEEP_EVT]
    (d.plat.on 29 = true → d.keep.running (bankOf (o / 4096)) = none → n = 1 ∨ n = 2 ∨ n = 4 → Ends (.keepWindowRead c o n) ⟨q, d⟩ (fun e =>
      e.plat.resp = BitVec.ofNat 32 (leNat (d.keep.read o n)) ∧ e.plat.regs = d.plat.regs ∧ e.keep = d.keep)) ∧
    (d.plat.on 29 = true → d.keep.running (bankOf (o / 4096)) ≠ none → Ends (.keepWindowRead c o n) ⟨q, d⟩ (fun e =>
      e.plat.bit Reg.KEEP_EVT Fld.KEEP_EVT_BUSY_READ = true ∧ e.plat.resp = 0xFFFFFFFF ∧
      d.plat.keeps e.plat (Reg.KEEP_EVT :: berrRegs) ∧ e.keep = d.keep)) ∧
    (d.powered Reg.KEEP_STR_CTRL →
      (d.keep.stream ≠ none → Ends (.streamStart c) ⟨q, d⟩ (fun e =>
        e = { d with plat := d.plat.setFlag Reg.KEEP_EVT Fld.KEEP_EVT_CMD_REFUSED })) ∧
      (d.keep.stream = none → ¬ fits → Ends (.streamStart c) ⟨q, d⟩ (failed 4)) ∧
      (d.keep.stream = none → fits → ¬ free → Ends (.streamStart c) ⟨q, d⟩ (failed 1)) ∧
      (d.keep.stream = none → fits → free → Ends (.streamStart c) ⟨q, d⟩ (fun e =>
        e.keep = { d.keep with stream := some (src, dst, len, none) } ∧
        e.plat.bit Reg.KEEP_STR_STAT Fld.KEEP_STR_STAT_BUSY = true ∧ d.plat.keeps e.plat [Reg.KEEP_STR_STAT])) ∧
      (∀ a t m, d.keep.stream = some (a, t, m, none) → Ends (.streamStop c n) ⟨q, d⟩ (fun e =>
        e.plat = d.plat ∧ e.keep = { d.keep with stream := some (a, t, m, some (min m (n / 32 * 32))) })) ∧
      (d.keep.stream = none → Ends (.streamStop c n) ⟨q, d⟩ (fun e => e = d))) ∧
    (∀ a t m stop, d.keep.stream = some (a, t, m, stop) → 0x20000000 ≤ t → t + m ≤ 0x20400000 → stop.getD m < 2 ^ 25 →
      Ends .streamEnd ⟨q, d⟩ (fun e =>
        e.keep = { d.keep with stream := none } ∧ e.plat.bit Reg.KEEP_STR_STAT Fld.KEEP_STR_STAT_BUSY = false ∧
        e.plat.fld Reg.KEEP_STR_STAT Fld.KEEP_STR_STAT_BYTES = stop.getD m ∧
        e.plat.fld Reg.KEEP_STR_STAT Fld.KEEP_STR_STAT_ERR = (if stop = none then 0 else 3) ∧
        e.plat.bit Reg.KEEP_EVT (if stop = none then Fld.KEEP_EVT_STREAM_DONE else Fld.KEEP_EVT_STREAM_ERR) = true ∧
        SMap.bytes zeroByte e.sys.sram (t - 0x20000000) (stop.getD m) = d.keep.read a (stop.getD m) ∧
        d.plat.keeps e.plat [Reg.KEEP_STR_STAT, Reg.KEEP_EVT] ∧ e.buf = d.buf))

/-- R117, R118, R102, Table TSQ-11: the ALU and CNT operations on the work registers, flags and loop counters. A stand-alone
operation leaves pc and GAP: log entry 12. -/
def Obligations.WorkRegistersFlagsAndCounters : Prop :=
  (∀ (q : List Instr) (d : Dev) (n : ActNo) (sa sb dst : WorkReg) (imm : Word),
     let a : Ac := d.acWith n (d.serving n)
     let t (e : Dev) : Tsq := e.tsq (d.serving n)
     let r (e : Dev) (i : WorkReg) : BitVec 64 := BitVec.ofNat 64 ((t e).reg i)
     let x : BitVec 64 := r d sa
     let y : BitVec 64 := r d sb
     let s : Nat := y.toNat % 64
     let j : BitVec 64 := imm.signExtend 64
     let on : Prop := a.q.running = true ∧ a.busy = true
     let wrote (v : BitVec 64) (e : Dev) : Prop := r e dst = v ∧ ∀ i, i ≠ dst → r e i = r d i
     let flags (v : BitVec 64) (c o : Bool) (e : Dev) : Prop :=
       (t e).z = decide (v = 0) ∧ (t e).n = v.msb ∧ (t e).c = c ∧ (t e).v = o
     let keeps (e : Dev) : Prop := e.plat = d.plat ∧ e.act n = d.act n ∧
       t e = { t d with w := (t e).w, z := (t e).z, n := (t e).n, c := (t e).c, v := (t e).v }
     let sum (u w : BitVec 64) (e : Dev) : Prop :=
       flags (u + w) (decide (2 ^ 64 ≤ u.toNat + w.toNat)) (decide (u.toInt + w.toInt ≠ (u + w).toInt)) e ∧ keeps e
     let diff (u w : BitVec 64) (e : Dev) : Prop :=
       flags (u - w) (decide (u < w)) (decide (u.toInt - w.toInt ≠ (u - w).toInt)) e ∧ keeps e
     let logic (v : BitVec 64) (e : Dev) : Prop := wrote v e ∧ flags v false false e ∧ keeps e
     (on →
       Ends (.aluAdd n sa sb dst) ⟨q, d⟩ (fun e => wrote (x + y) e ∧ sum x y e) ∧
       Ends (.aluSub n sa sb dst) ⟨q, d⟩ (fun e => wrote (x - y) e ∧ diff x y e) ∧
       Ends (.aluAnd n sa sb dst) ⟨q, d⟩ (logic (x &&& y)) ∧ Ends (.aluOr n sa sb dst) ⟨q, d⟩ (logic (x ||| y)) ∧
       Ends (.aluXor n sa sb dst) ⟨q, d⟩ (logic (x ^^^ y)) ∧
       Ends (.aluShiftLeft n sa sb dst) ⟨q, d⟩ (fun e => wrote (x <<< s) e ∧
         flags (x <<< s) (decide (s ≠ 0) && x.getLsbD (64 - s)) false e ∧ keeps e) ∧
       Ends (.aluShiftRight n sa sb dst) ⟨q, d⟩ (fun e => wrote (x >>> s) e ∧
         flags (x >>> s) (decide (s ≠ 0) && x.getLsbD (s - 1)) false e ∧ keeps e) ∧
       Ends (.aluAddImmediate n sa dst imm) ⟨q, d⟩ (fun e => wrote (x + j) e ∧ sum x j e) ∧
       Ends (.aluCompare n sa sb) ⟨q, d⟩ (fun e => (∀ i, r e i = r d i) ∧ diff x y e) ∧
       Ends (.aluCompareImmediate n sa imm) ⟨q, d⟩ (fun e => (∀ i, r e i = r d i) ∧ diff x j e)) ∧
     (¬ on → ∀ i ∈ [Instr.aluAdd n sa sb dst, .aluSub n sa sb dst, .aluAnd n sa sb dst, .aluOr n sa sb dst, .aluXor n sa sb dst,
         .aluShiftLeft n sa sb dst, .aluShiftRight n sa sb dst, .aluAddImmediate n sa dst imm, .aluCompare n sa sb,
         .aluCompareImmediate n sa imm], Ends i ⟨q, d⟩ (fun e => e = d))) ∧
  (∀ (q : List Instr) (d : Dev) (n : ActNo) (sa dst : WorkReg) (sel : LoopReg) (imm : Word),
     let a : Ac := d.acWith n (d.serving n)
     let t (e : Dev) : Tsq := e.tsq (d.serving n)
     let r (e : Dev) (i : WorkReg) : BitVec 64 := BitVec.ofNat 64 ((t e).reg i)
     let on : Prop := a.q.running = true ∧ a.busy = true
     let same (e : Dev) : Prop := e.plat = d.plat ∧ e.act n = d.act n
     let wrote (v : BitVec 64) (e : Dev) : Prop := r e dst = v ∧ (∀ i, i ≠ dst → r e i = r d i) ∧ same e ∧
       t e = { t d with w := (t e).w, ext := (t e).ext }
     let field : BitVec 64 := BitVec.ofNat 64 (a.word (imm.toNat % 8)) >>> (imm.toNat / 2 ^ 8 % 64)
     let width : Nat := imm.toNat / 2 ^ 16 % 64
     let l (e : Dev) (i : LoopReg) : Nat := (t e).cnt i
     let counts (v : Nat) (e : Dev) : Prop := l e sel = v ∧ (∀ i, i ≠ sel → l e i = l d i) ∧ same e ∧ t e = { t d with l := (t e).l }
     (on →
       Ends (.aluImmediate n dst imm) ⟨q, d⟩ (fun e => wrote (imm.zeroExtend 64) e ∧ (t e).ext = (t d).ext) ∧
       Ends (.aluTaskField n dst imm) ⟨q, d⟩ (fun e =>
         wrote (if width = 0 then field else field &&& (BitVec.allOnes 64 >>> (64 - width))) e ∧ (t e).ext = (t d).ext) ∧
       (a.q.ext < a.elen → Ends (.aluNextExtension n dst) ⟨q, d⟩ (fun e =>
         wrote (BitVec.ofNat 64 (a.extWord a.q.ext)) e ∧ (t e).ext = (t d).ext + 1)) ∧
       (a.elen ≤ a.q.ext → Ends (.aluNextExtension n dst) ⟨q, d⟩ (fun e => wrote 0 e ∧ (t e).ext = (t d).ext)) ∧
       Ends (.aluPositionValue n dst imm) ⟨q, d⟩ (fun e => (t e).ext = (t d).ext ∧
         wrote (BitVec.ofNat 64 (if imm.toNat % 4 = 0 then a.q.pos.q else if imm.toNat % 4 = 1 then a.q.pos.lrow
           else if imm.toNat % 4 = 2 then a.q.pos.slack else a.q.pos.abn)) e) ∧
       Ends (.cntLoadImmediate n sel imm) ⟨q, d⟩ (counts (imm.toNat % 2 ^ 16)) ∧
       Ends (.cntDecrement n sel) ⟨q, d⟩ (counts (l d sel - 1)) ∧
       Ends (.cntLoadRegister n sel sa) ⟨q, d⟩ (counts ((r d sa).toNat % 2 ^ 16))) ∧
     (¬ on → ∀ i ∈ [Instr.aluImmediate n dst imm, .aluTaskField n dst imm, .aluNextExtension n dst, .aluPositionValue n dst imm,
         .cntLoadImmediate n sel imm, .cntDecrement n sel, .cntLoadRegister n sel sa], Ends i ⟨q, d⟩ (fun e => e = d)))

/-- R108, R109, R118, R136, R228, Table TSQ-11: the GATE operations. -/
def Obligations.GateOperationsSetPhaseAndArms : Prop :=
  ∀ (q : List Instr) (d : Dev) (n : ActNo) (m : MaskNo) (h : HeadNo),
    let a : Ac := d.acWith n (d.serving n)
    let g (e : Dev) : Gate := (e.act n).gate
    let code (e : Dev) : Nat := e.plat.fld (Reg.HSI_BUS n) Fld.HSI_BUS_PHASE
    let on : Prop := a.q.running = true ∧ a.busy = true ∧ a.isLoad = false
    let bit (k : Nat) : Prop := k.testBit h = true
    let phases : List (Nat × Instr) := [(0, .gateIdle n), (1, .gateRead n), (2, .gateWrite n)]
    let ops : List (Nat × Nat × Nat × Instr) := [(1, 0, 0, .gateIdle n), (2, 0, 0, .gateRead n), (3, 0, 0, .gateWrite n),
      (4, m, 0, .wgArm n m), (5, m, 0, .wgDrop n m), (6, 0, m, .rgArm n m), (7, 0, m, .rgDrop n m), (8, 0, 0, .gateDropAll n)]
    (on → (g d).gap = true → ∀ op wgm rgm i, (op, wgm, rgm, i) ∈ ops → Ends i ⟨q, d⟩ (fun e =>
      g e = { g d with held := (g d).held ++ [(op, wgm, rgm)] } ∧ e.plat = d.plat ∧ e.tsq (d.serving n) = d.tsq (d.serving n))) ∧
    (on → (g d).gap = false →
      (∀ c i, (c, i) ∈ phases →
        ((g d).servo = true → Ends i ⟨q, d⟩ (fun e => g e = { g d with phase := c } ∧ e.plat = d.plat)) ∧
        ((g d).servo = false → (g d).still = false → code d ≠ c → Ends i ⟨q, d⟩ (fun e =>
          (g e).phase = c ∧ code e = c ∧ (g e).gap = true ∧ (g e).wgArm = (g d).wgArm ∧ (g e).rgArm = (g d).rgArm ∧
          (c ≠ 2 → code d = 2 → ∀ k : HeadNo, (g e).wg.testBit k = false) ∧
          (c = 2 → e.plat.bit (Reg.HSI_BUS n) Fld.HSI_BUS_WQ_HELD = false))) ∧
        ((g d).servo = false → code d = c → Ends i ⟨q, d⟩ (fun e => g e = { g d with phase := c } ∧ e.plat = d.plat))) ∧
      Ends (.wgArm n m) ⟨q, d⟩ (fun e => (bit (g e).wgArm ↔ bit (g d).wgArm ∨ bit m) ∧ g e = { g d with wgArm := (g e).wgArm }) ∧
      Ends (.wgDrop n m) ⟨q, d⟩ (fun e => (bit (g e).wgArm ↔ bit (g d).wgArm ∧ ¬ bit m) ∧ (bit (g e).wg ↔ bit (g d).wg ∧ ¬ bit m) ∧
        g e = { g d with wgArm := (g e).wgArm, wg := (g e).wg }) ∧
      (a.isWrite = false → Ends (.rgArm n m) ⟨q, d⟩ (fun e => (bit (g e).rgArm ↔ bit (g d).rgArm ∨ bit m) ∧
        g e = { g d with rgArm := (g e).rgArm } ∧ e.plat = d.plat)) ∧
      (a.isWrite = true → Ends (.rgArm n m) ⟨q, d⟩ (fun e => e = d)) ∧
      Ends (.rgDrop n m) ⟨q, d⟩ (fun e => (bit (g e).rgArm ↔ bit (g d).rgArm ∧ ¬ bit m) ∧ (bit (g e).rg ↔ bit (g d).rg ∧ ¬ bit m) ∧
        (g e).wgArm = (g d).wgArm ∧ (g e).wg = (g d).wg ∧ (g e).phase = (g d).phase) ∧
      ((g d).servo = false → (g d).still = false → Ends (.gateDropAll n) ⟨q, d⟩ (fun e =>
        (g e).wgArm = 0 ∧ (g e).rgArm = 0 ∧ (g e).wg = 0 ∧ ¬ bit (g e).rg ∧ (g e).phase = 0 ∧ code e = 0 ∧
        e.plat.bit (Reg.HSI_BUS n) Fld.HSI_BUS_WQ_HELD = true))) ∧
    (¬ on → ∀ op wgm rgm i, (op, wgm, rgm, i) ∈ ops → Ends i ⟨q, d⟩ (fun e => e = d))

/-- R110, R111, R119, R120, R121, R125, Tables TSQ-7, TSQ-12, TSQ-15: the timeline compare, SETCODE and SETREASON, CALL and
RET. -/
def Obligations.TimelineCodesAndCalls : Prop :=
  ∀ (q : List Instr) (d : Dev) (n : ActNo) (sa : WorkReg) (tofs : Int) (v : Byte) (addr : MicroAddr),
    let a : Ac := d.acWith n (d.serving n)
    let t (e : Dev) : Tsq := e.tsq (d.serving n)
    let st : Nat := Reg.TSQ_STATUS a.t
    let on : Prop := a.q.running = true ∧ a.busy = true
    let compare (i : Instr) (c : Cmp) : Prop := Ends i ⟨q, d⟩ (fun e =>
      t e = { t d with cmp := c, tlHit := false } ∧ e.plat = d.plat ∧ e.act n = d.act n)
    let allowed : Prop := v = 0 ∨ v = 1 ∨ v = 0x30 ∨ 0x80 ≤ v.toNat
    (on →
      (∀ p, a.q.pos.last = some p → compare (.tlnWindow n tofs) (.window p.1 tofs)) ∧
      (a.q.pos.last = none → compare (.tlnWindow n tofs) .off) ∧ compare (.tlnWedge n sa tofs) (.wedge ((t d).reg sa % 1024) tofs) ∧
      compare (.tlnNow n tofs) (.now tofs) ∧ compare (.tlnDisarm n) .off ∧
      (allowed → a.locked = false → Ends (.setCode n v) ⟨q, d⟩ (fun e =>
        e.plat.fld st Fld.TSQ_STATUS_CODE = v.toNat ∧ t e = { t d with code := some v.toNat } ∧ d.plat.keeps e.plat [st])) ∧
      (allowed → a.locked = true → Ends (.setCode n v) ⟨q, d⟩ (fun e => e = d)) ∧
      (¬ allowed → Ends (.setCode n v) ⟨q, d⟩ (fun e => d.faultedBy e n 1)) ∧
      (a.locked = false → Ends (.setReason n v) ⟨q, d⟩ (fun e => t e = { t d with reason := v.toNat } ∧ e.plat = d.plat)) ∧
      (a.locked = true → Ends (.setReason n v) ⟨q, d⟩ (fun e => e = d)) ∧
      (a.q.stack.length < 8 → Ends (.call n addr) ⟨q, d⟩ (fun e =>
        (t e).stack = (a.pc + 1, false) :: a.q.stack ∧ e.plat.fld (Reg.TSQ_PC a.t) Fld.TSQ_PC_PC = addr ∧
        e.plat.fld st Fld.TSQ_STATUS_DEPTH = a.q.stack.length + 1)) ∧
      (8 ≤ a.q.stack.length → Ends (.call n addr) ⟨q, d⟩ (fun e => d.faultedBy e n 3)) ∧
      (∀ pc f s, a.q.stack = (pc, f) :: s → s.length < 16 → Ends (.ret n) ⟨q, d⟩ (fun e =>
        (t e).stack = s ∧ e.plat.fld (Reg.TSQ_PC a.t) Fld.TSQ_PC_PC = pc % 8192 ∧ e.plat.fld st Fld.TSQ_STATUS_DEPTH = s.length ∧
        e.plat.bit st Fld.TSQ_STATUS_FAULT_ACTIVE = (!f && d.plat.bit st Fld.TSQ_STATUS_FAULT_ACTIVE))) ∧
      (a.q.stack = [] → Ends (.ret n) ⟨q, d⟩ (fun e => d.faultedBy e n 4))) ∧
    (a.q.running = false → ∀ i ∈ [Instr.tlnWindow n tofs, .tlnWedge n sa tofs, .tlnNow n tofs, .tlnDisarm n, .setCode n v,
        .setReason n v, .call n addr, .ret n], Ends i ⟨q, d⟩ (fun e => e = d))

/-- R115, R116, R117, R119, R120, R121, R122, R123, R124, R125, Tables TSQ-10 to TSQ-15: the issue of one microword. -/
def Obligations.MicrowordsIssueInOrder : Prop :=
  ∀ (q : List Instr) (d : Dev) (n : ActNo),
    let a : Ac := d.acWith n (d.serving n)
    let t (e : Dev) : Tsq := e.tsq (d.serving n)
    let st : Nat := Reg.TSQ_STATUS a.t
    let pc (e : Dev) : Nat := e.plat.fld (Reg.TSQ_PC a.t) Fld.TSQ_PC_PC
    let gap (e : Dev) : Nat := e.plat.fld (Reg.TSQ_PC a.t) Fld.TSQ_PC_GAP
    let mw : Nat := a.q.microword a.pc
    let na : Nat := bits mw 159 157
    let addr : Nat := bits mw 155 143
    let safe : Prop := bits mw 156 156 = 1
    let live : Prop := a.q.running = true ∧ a.busy = true ∧ a.gap < 64
    let whole : Prop := live ∧ a.q.held = false ∧ a.wordFault mw = 0 ∧ a.ready mw = true
    let pend : Nat := d.plat.fld st Fld.TSQ_STATUS_PEND
    let quiet : Prop := mw % 2 ^ 132 = 0 ∧ na = 1
    (whole → bits mw 107 105 ≠ 3 → ¬ safe → a.q.stack.length ≤ 8 →
      (na = 0 → Ends (.microwordIssue n false) ⟨q, d⟩ (fun e => pc e = a.pc + 1 ∧ (t e).stack = a.q.stack ∧ gap e = a.gap + 1)) ∧
      (na = 1 → Ends (.microwordIssue n false) ⟨q, d⟩ (fun e => pc e = addr ∧ (t e).stack = a.q.stack ∧ gap e = a.gap + 1)) ∧
      (na = 2 → Ends (.microwordIssue n false) ⟨q, d⟩ (fun e =>
        pc e = (addr ||| a.group (bits mw 142 138)) % 8192 ∧ (t e).stack = a.q.stack ∧ gap e = a.gap + 1)) ∧
      (na = 3 → Ends (.microwordIssue n false) ⟨q, d⟩ (fun e =>
        pc e = addr ∧ (t e).stack = (a.pc + 1, false) :: a.q.stack ∧ gap e = a.gap + 1)) ∧
      (∀ x s, na = 4 → a.q.stack = x :: s → Ends (.microwordIssue n false) ⟨q, d⟩ (fun e =>
        pc e = x.1 % 8192 ∧ (t e).stack = s ∧ gap e = a.gap + 1)) ∧
      (na = 5 → a.cond (bits mw 137 132) = true → Ends (.microwordIssue n false) ⟨q, d⟩ (fun e =>
        pc e = a.pc + 1 ∧ (t e).stack = a.q.stack ∧ gap e = a.gap + 1))) ∧
    (whole → mw % 2 ^ 132 = 0 → na = 5 → a.cond (bits mw 137 132) = false → pend = 0 →
      Ends (.microwordIssue n false) ⟨q, d⟩ (fun e => gap e = 0 ∧ pc e = a.pc ∧ (t e).held = true ∧ (t e).stack = a.q.stack)) ∧
    (whole → quiet → safe → a.q.stack.length ≤ 8 →
      (pend = 0 → Ends (.microwordIssue n false) ⟨q, d⟩ (fun e => pc e = addr ∧ gap e = 0 ∧ (t e).stack = a.q.stack)) ∧
      (∀ b v, topRequest pend = some (b, v) → d.plat.bit st Fld.TSQ_STATUS_FAULT_ACTIVE = false →
        a.q.stack.length < 8 → Ends (.microwordIssue n false) ⟨q, d⟩ (fun e =>
          pc e = (d.plat.rd (Reg.TSQ_VEC a.t v)).toNat % 8192 ∧ (t e).stack = (addr, true) :: a.q.stack ∧
          e.plat.bit st Fld.TSQ_STATUS_FAULT_ACTIVE = true ∧ e.plat.fld st Fld.TSQ_STATUS_PEND = pend - b))) ∧
    (live → a.q.held = false → Ends (.microwordIssue n true) ⟨q, d⟩ (fun e => d.faultedBy e n 2)) ∧
    (live → a.q.held = false → a.wordFault mw ≠ 0 → Ends (.microwordIssue n false) ⟨q, d⟩ (fun e => d.faultedBy e n (a.wordFault mw))) ∧
    (live → a.q.held = false → a.wordFault mw = 0 → a.ready mw = false → Ends (.microwordIssue n false) ⟨q, d⟩ (fun e => e = d)) ∧
    (¬ live → ∀ x : Bool, Ends (.microwordIssue n x) ⟨q, d⟩ (fun e => e = d))

/-- R45, R53, R55, R94, R95, R96, R113, R118, Tables TSQ-8, TSQ-11: XRDY, DATA upstream, STAT, parity, and the release of
the track buffer. XOR outside a ZWRITE without effect, and what is counted, rest on log entry 54. -/
def Obligations.MicrocodeMovesSectors : Prop :=
  ∀ (q : List Instr) (d : Dev) (n : ActNo) (sa : WorkReg),
    let a : Ac := d.acWith n (d.serving n)
    let b (e : Dev) : Ac := e.acWith n (d.serving n)
    let on : Prop := a.q.running = true ∧ a.busy = true
    let c : Nat := a.q.reg sa % 256
    let i : Nat := a.q.reg sa % 64
    let may : Prop := 1 ≤ c ∧ c ≤ (if a.isLoad then 16 else 64)
    let space : Prop := a.isLoad = true ∨ c ≤ 64 - a.q.tbuf.length - a.grant
    let st : Nat := Reg.TSQ_STATUS a.t
    let s : Pos := a.q.pos
    let xors (l : List Nat) : List Byte := l.foldl (fun x j =>
      match a.q.tb ((s.done + j) % 64) with | some y => xorBytes x y.data | none => x) (List.replicate 4096 0)
    (on → ¬ may → Ends (.xrdySend n sa) ⟨q, d⟩ (fun e => d.faultedBy e n 1)) ∧
    (on → may → a.locked = true ∨ ¬ space → Ends (.xrdySend n sa) ⟨q, d⟩ (fun e => e = d)) ∧
    (on → may → a.locked = false → space → a.grant + c < 256 → Ends (.xrdySend n sa) ⟨q, d⟩ (fun e =>
      (b e).l = { a.l with up := a.l.up ++ [.xrdy a.tag a.tnum c] } ∧ (b e).grant = a.grant + c ∧
      (b e).q = { a.q with ponr := a.q.ponr || a.isWrite || a.isLoad } ∧ d.plat.keeps e.plat [Reg.LNK_STATUS n])) ∧
    (on → a.q.tb i = none → Ends (.dataUpSend n sa) ⟨q, d⟩ (fun e => d.faultedBy e n 9)) ∧
    (on → a.q.tb i ≠ none → a.upCredit = 0 → Ends (.dataUpSend n sa) ⟨q, d⟩ (fun e => e = d)) ∧
    (∀ x, on → a.q.tb i = some x → a.upCredit ≠ 0 → Ends (.dataUpSend n sa) ⟨q, d⟩ (fun e =>
      (b e).l = { a.l with up := a.l.up ++ [.data a.tag a.tnum x.sidx x.data x.m0 x.m1 x.st] } ∧ (b e).upCredit = a.upCredit - 1 ∧
      (b e).q.tb i = none ∧ (∀ j, j < 64 → j ≠ i → (b e).q.tb j = a.q.tb j) ∧ (b e).q.pos = { s with sent := s.sent + 1 } ∧
      d.plat.keeps e.plat [Reg.LNK_STATUS n])) ∧
    (on → s.win = none → Ends (.statSend n) ⟨q, d⟩ (fun e => ∃ ws,
      (b e).l.up = a.l.up ++ [.stat a.tag a.tnum ws] ++ a.l.owed ∧ (b e).l.owed = [] ∧ ws.length = 3 + s.map.length ∧
      bits (ws.getD 0 0) 63 56 = a.q.code.getD 0 % 256 ∧ bits (ws.getD 0 0) 55 48 = a.q.reason % 256 ∧ ws.drop 3 = s.map.reverse ∧
      e.plat.bit st Fld.TSQ_STATUS_BUSY = false ∧ e.plat.fld st Fld.TSQ_STATUS_PEND = 0 ∧ (b e).q.running = false ∧
      (b e).q.stack = [] ∧ (b e).q.tbuf = [] ∧ (b e).q.w = a.q.w ∧ (b e).g.rows = [] ∧ (b e).g.phase = a.g.phase ∧
      (b e).g.wgArm = 0 ∧ (b e).g.rgArm = 0)) ∧
    (on → a.isZwrite = true → a.rowDataReady = true → Ends (.parityForm n) ⟨q, d⟩ (fun e =>
      (b e).q.parity.head? = some (s.lrow, xors (List.range (a.ndata s.done))) ∧ (b e).q.parity.length ≤ 2 ∧
      (b e).q.parReady = false ∧ (b e).q.tbuf = a.q.tbuf ∧ (b e).q.pos = s ∧ e.plat = d.plat ∧ e.act n = d.act n)) ∧
    (on → a.isZwrite = true → a.rowDataReady = false → Ends (.parityForm n) ⟨q, d⟩ (fun e => d.faultedBy e n 9)) ∧
    (on → a.isZwrite = false → Ends (.parityForm n) ⟨q, d⟩ (fun e => e = d)) ∧
    (∀ r, on → s.lastWritten = some r → SMap.wf (fun _ => none) a.q.tbuf → Ends (.tbufRelease n) ⟨q, d⟩ (fun e =>
      (∀ j x, a.q.tb j = some x → (b e).q.tb j = if x.lrow = r then none else some x) ∧
      (∀ j, a.q.tb j = none → (b e).q.tb j = none) ∧ (b e).q.pos = s ∧ e.plat = d.plat ∧ e.act n = d.act n)) ∧
    (s.lastWritten = none → Ends (.tbufRelease n) ⟨q, d⟩ (fun e => e = d)) ∧
    (¬ on → ∀ i ∈ [Instr.xrdySend n sa, .dataUpSend n sa, .statSend n, .parityForm n, .tbufRelease n],
      Ends i ⟨q, d⟩ (fun e => e = d))

/-- R46, R195, R196, R197, R198, R199, R200, R201, R202, R203, Table TSQ-11: the CHN operations on the row store. The scope
of a ladder step and a suppressed slot rest on log entry 58. -/
def Obligations.RowStoreArmsCollectsAndRebuilds : Prop :=
  ∀ (q : List Instr) (d : Dev) (n : ActNo) (m : MaskNo) (h : HeadNo),
    let a : Ac := d.acWith n (d.serving n)
    let b (e : Dev) : Ac := e.acWith n (d.serving n)
    let on : Prop := a.q.running = true ∧ a.isRead = true
    let armed (e : Dev) : Prop := (b e).g.chn.testBit h = true
    let asked : Prop := a.useHeads.testBit h = true ∧ m.val.testBit h = true ∧ a.q.pos.splits.testBit h = false ∧
      a.heldHeads.testBit h = false
    let size : Nat := if a.isConv then 1 else if a.q.scan then a.k else a.k - 1
    let room : Prop := size ≤ 64 - a.q.tbuf.length - a.grant ∨ a.kind = 6
    let done (r : RRow) : Prop := (∀ s ∈ a.slots, (r.slot s).st = 2) ∧ r.rebuild = none
    (∀ w, on → a.q.pos.win = some w → a.findRow w.lrow = none → a.g.rows.length < 4 → Ends (.chnArm n m) ⟨q, d⟩ (fun e =>
      (armed e ↔ asked) ∧ (∃ r, (b e).g.rows = a.g.rows ++ [r] ∧ r.lrow = w.lrow ∧ r.q = w.q ∧ r.step = 0 ∧ r.pend = false ∧
        (a.isConv = false → ∀ s ∈ a.slots, a.suppress.testBit (a.headOf s) = true → (r.slot s).st = 2 ∧ (r.slot s).result = 0xC) ∧
        ((a.isConv = true ∨ a.suppress = 0) → ∀ s, (r.slot s).st = 0)) ∧ d.plat.keeps e.plat [Reg.DET_ROWS n])) ∧
    (∀ w r, on → a.q.pos.win = some w → a.findRow w.lrow = some r → Ends (.chnArm n m) ⟨q, d⟩ (fun e =>
      (armed e ↔ asked ∧ ((r.slot (a.slotNo h)).st = 0 ∨
        (r.slot (a.slotNo h)).failing = true ∧ r.pend = true ∧ (r.slot (a.slotNo h)).final = false)) ∧
      (b e).g.rows = a.g.rows ∧ e.plat = d.plat)) ∧
    (∀ w, a.q.pos.win = some w → a.findRow w.lrow = none → 4 ≤ a.g.rows.length → Ends (.chnArm n m) ⟨q, d⟩ (fun e => e = d)) ∧
    (∀ r rs, on → a.g.rows = r :: rs → done r → room → Ends (.chnCollect n) ⟨q, d⟩ (fun e =>
      (b e).g.rows = rs ∧
      (∀ s i, s ∈ a.slots → a.kind ≠ 6 → a.sidxOf r.lrow s false = some i → ∃ x, (b e).q.tb (i % 64) = some x ∧ x.lrow = r.lrow ∧
        x.sidx = i ∧ x.st = (r.slot s).word ∧ ((r.slot s).good = true → x.data = (r.slot s).data ∧ x.m0 = (r.slot s).m0) ∧
        ((r.slot s).good = false → x.data = List.replicate 4096 0 ∧ x.m0 = 0 ∧ x.m1 = 0)) ∧
      (b e).q.pos.map = (if ∃ s ∈ a.slots, a.counts r.lrow s = true ∧ ((r.slot s).good = false ∨ (r.slot s).result = 2)
        then mapEntry 0 (if a.isConv then 0 else r.lrow) r.q (maskOf (a.slots.filter (fun s => a.counts r.lrow s && (r.slot s).good &&
          (r.slot s).result == 2))) 0 :: a.q.pos.map else a.q.pos.map))) ∧
    (∀ r rs, a.g.rows = r :: rs → ¬ done r ∨ ¬ room → Ends (.chnCollect n) ⟨q, d⟩ (fun e => e = d)) ∧
    (∀ r rs s, on → a.g.rows = r :: rs → a.canRebuild r = true → r.rebuild = none → a.notGood r = [s] →
      Ends (.chnRebuild n) ⟨q, d⟩ (fun e => (b e).g.rows.head? = some { r with rebuild := some s } ∧ (b e).q = a.q)) ∧
    (∀ r rs, a.g.rows = r :: rs → a.canRebuild r = false ∨ r.rebuild ≠ none → Ends (.chnRebuild n) ⟨q, d⟩ (fun e => e = d)) ∧
    (∀ r rs i, on → a.g.rows = r :: rs → a.permitted r i = true → i < 32 → (∀ j, j < i → a.permitted r j = false) →
      Ends (.chnLadderStep n) ⟨q, d⟩ (fun e => ∃ r', (b e).g.rows.head? = some r' ∧ r'.step = i ∧ r'.lrow = r.lrow ∧
        r'.pend = (r.pend || (3 ≤ ladderClass (d.plat.rd (Reg.DET_LADDER n i)) && ladderClass (d.plat.rd (Reg.DET_LADDER n i)) ≤ 5)) ∧
        (∀ s, ladderClass (d.plat.rd (Reg.DET_LADDER n i)) ≤ 2 →
          s ∈ a.targets r (ladderClass (d.plat.rd (Reg.DET_LADDER n i))) → (r'.slot s).st = 1))) ∧
    (∀ r rs, a.g.rows = r :: rs → (∀ i, i < 32 → a.permitted r i = false) → Ends (.chnLadderStep n) ⟨q, d⟩ (fun e => e = d)) ∧
    (¬ on → ∀ i ∈ [Instr.chnArm n m, .chnCollect n, .chnRebuild n, .chnLadderStep n], Ends i ⟨q, d⟩ (fun e => e = d))

/-- R202, R211, R213, R214, R215, R237, R238, R239, Table TSQ-11: the SRV and WRP operations. Assist above its limit is sent
clipped with assist off: log entry 54. -/
def Obligations.SetpointsAndCodesAreQueued : Prop :=
  ∀ (q : List Instr) (d : Dev) (n : ActNo) (m : MaskNo) (h : HeadNo),
    let a : Ac := d.acWith n (d.serving n)
    let b (e : Dev) : Ac := e.acWith n (d.serving n)
    let s : Pos := a.q.pos
    let on : Prop := a.q.running = true ∧ a.busy = true
    let mode : Nat := d.plat.fld (Reg.ARM_STATUS n) Fld.ARM_STATUS_MODE
    let loops : Prop := 2 ≤ mode ∧ mode ≤ 4
    let last : Nat := Reg.TSQ_SPF_LAST a.t
    let shown (r : SpRec) (e : Dev) : Prop := e.plat.fld last Fld.TSQ_SPF_LAST_HOLD = r.hold % 256 ∧
      e.plat.fld last Fld.TSQ_SPF_LAST_ACTIVE = r.active % 256 ∧ (b e).q.pos.fed = true
    let next : Nat := if a.q.rseq = 15 then 1 else a.q.rseq + 1
    let recentres (i : Instr) (split : Option Nat) : Prop := ∀ p lrow, on → s.last = some (p, lrow) → loops →
      Ends i ⟨q, d⟩ (fun e => ∃ r, (b e).m.inbox = a.m.inbox ++ [some r] ∧ r.recentre = true ∧ r.rseq = next ∧ r.write = a.isWrite ∧
        shown r e ∧ (b e).q.rseq = next ∧ (b e).q.rseqFor = next ∧ (b e).q.recentred = false ∧
        (b e).q.pos.split = split.map (fun x => (lrow, x)) ∧ d.plat.keeps e.plat [last])
    let sp : Nat := m.val &&& s.gsplits
    (∀ w r, on → s.win = some w → s.sp = some r → a.findRow w.lrow = none → loops → Ends (.srvSetpoint n) ⟨q, d⟩ (fun e =>
      (b e).m = { a.m with inbox := a.m.inbox ++ [some r] } ∧ shown r e ∧ d.plat.keeps e.plat [last])) ∧
    (∀ w r, on → s.win = some w → s.sp = some r → a.findRow w.lrow = none → ¬ loops → d.plat.on (4 * n.val + 3) = true →
      Ends (.srvSetpoint n) ⟨q, d⟩ (fun e => (b e).m = a.m ∧ shown r e ∧
        e.plat.bit (Reg.ARM_EVT n) Fld.ARM_EVT_REC_DROP = true ∧ d.plat.keeps e.plat [last, Reg.ARM_EVT n])) ∧
    (s.win = none → Ends (.srvSetpoint n) ⟨q, d⟩ (fun e => e = d)) ∧
    recentres (.srvSplit n m) (some (if sp = 0 then m.val &&& maskDiff a.useHeads a.faulted else sp)) ∧
    recentres (.srvRecentre n) none ∧
    (s.last = none → Ends (.srvSplit n m) ⟨q, d⟩ (fun e => e = d) ∧ Ends (.srvRecentre n) ⟨q, d⟩ (fun e => e = d)) ∧
    (∀ t, on → a.winTrack = some t → m.val.testBit h = true → a.useHeads.testBit h = true → Ends (.wrpCodes n m) ⟨q, d⟩ (fun e =>
      let c : Nat × Nat := a.img.codes h t (d.plat.sfld (Reg.TSQ_ENV a.t) Fld.TSQ_ENV_TEMP)
      let x : WHead := (b e).g.head h
      let pre (i : Nat) : Nat := a.img.precomp h i
      x.codes = some c ∧ x.sent = false ∧ x.due = some (codesFrame (min c.1 1023) c.2
        (d.plat.bit (Reg.WRP_CFG n) Fld.WRP_CFG_ASSIST_EN && decide (c.1 ≤ a.img.assistMax h)), true) ∧
      e.plat.rd (Reg.WRP_PRECOMP n h) = BitVec.ofNat 32 (pre 0 + 2 ^ 8 * pre 1 + 2 ^ 16 * pre 2 + 2 ^ 24 * pre 3))) ∧
    (on → m.val.testBit h = false ∨ a.useHeads.testBit h = false → Ends (.wrpCodes n m) ⟨q, d⟩ (fun e =>
      (b e).g.head h = a.g.head h ∧ e.plat.rd (Reg.WRP_PRECOMP n h) = d.plat.rd (Reg.WRP_PRECOMP n h))) ∧
    (on → Ends (.wrpAssistOff n) ⟨q, d⟩ (fun e => (b e).g.asafe = true ∧
      ((b e).g.head h).due = some (codesFrame (d.plat.fld (Reg.WRP_SENT n h) Fld.WRP_SENT_ASSIST)
        (d.plat.fld (Reg.WRP_SENT n h) Fld.WRP_SENT_HEATER) false, false) ∧
      (a.code = 2 → e.plat.bit (Reg.HSI_BUS n) Fld.HSI_BUS_PIN3 = false) ∧
      d.plat.keeps e.plat [Reg.HSI_BUS n, Reg.TSQ_STATUS a.t])) ∧
    (¬ on → ∀ i ∈ [Instr.srvSetpoint n, .srvSplit n m, .srvRecentre n, .wrpCodes n m, .wrpAssistOff n],
      Ends i ⟨q, d⟩ (fun e => e = d))

/-- R34, R35, R87, R88, R89, R106, R109, R207, R208, R212: the opening of a granted window with its check point, its end,
the rise and fall of a write gate. A code locked before the opening makes the window stale: log entry 52. -/
def Obligations.WindowsOpenEndAndGatesRise : Prop :=
  ∀ (q : List Instr) (d : Dev) (n : ActNo) (h : HeadNo) (w : Win),
    let a : Ac := d.acWith n (d.serving n)
    let b (e : Dev) : Ac := e.acWith n (d.serving n)
    let t : Nat := a.img.track a.member w.q
    let temp : Nat := d.plat.fld (Reg.TSQ_ENV a.t) Fld.TSQ_ENV_TEMP
    let c : Ac := a.sample
    let on : Prop := a.q.pos.win = some w
    let dead : Prop := a.deadline ≠ 0 ∧ a.deadline < d.plat.time.toNat
    let tests : Prop := on ∧ w.st = .granted ∧ a.locked = false ∧ ¬ dead
    let heat : Prop := a.isWrite = true ∧ a.img.assistOk a.headset t (signed 16 temp) = false
    let reason : Nat := if c.staleReason ≠ 0 then c.staleReason else if heat then 0x15 else 0
    let late : Prop := a.isWrite = true ∧ ∃ k : HeadNo, a.useHeads.testBit k = true ∧ c.armedWrite t k = false
    let opened (x : Win) (e : Dev) : Prop := (b e).q.pos.win = some x
    let stale (code why : Nat) (e : Dev) : Prop := opened { w with st := .stale, heads := 0, nwHeads := 0, nwCause := 0 } e ∧
      (b e).q.code = some code ∧ (b e).q.reason = why ∧ e.plat.bit (Reg.TSQ_STATUS a.t) Fld.TSQ_STATUS_LOCKED = true
    let i : Instr := .windowOpening n
    let rises : Prop := on ∧ a.isWrite = true ∧ w.st = .proceeding ∧ w.ended = false ∧ w.heads.testBit h = true ∧ w.begun.testBit h = false
    let may : Prop := a.inhibit.testBit h = false ∧ a.code = 2 ∧ a.g.gap = false ∧ a.g.wgArm.testBit h = true ∧ (a.g.head h).mon = 0 ∧
      a.wqHeld = false ∧ w.dropped.testBit h = false
    (tests → a.busy = true → reason ≠ 0 → Ends i ⟨q, d⟩ (stale 0x12 reason)) ∧
    (on → w.st = .granted → a.busy = true → a.locked = false → dead → Ends i ⟨q, d⟩ (stale 0x23 0)) ∧
    (on → w.st = .granted → a.locked = true → Ends i ⟨q, d⟩ (fun e =>
      opened { w with st := .stale, heads := 0, nwHeads := 0, nwCause := 0 } e ∧ e.plat = d.plat)) ∧
    (tests → reason = 0 → a.isZwrite = true → a.inhibit ≠ 0 → Ends i ⟨q, d⟩ (fun e =>
      opened { w with st := .notWritten, heads := 0, nwHeads := a.inhibit, nwCause := 0x01 } e ∧ e.plat = d.plat)) ∧
    (tests → reason = 0 → (a.isZwrite = true → a.inhibit = 0) → late → Ends i ⟨q, d⟩ (fun e =>
      (∃ m, opened { w with st := .notWritten, heads := 0, nwHeads := m, nwCause := 0x04 } e ∧
        (m.testBit h = true ↔ a.useHeads.testBit h = true ∧ c.armedWrite t h = false)) ∧ e.plat = d.plat)) ∧
    (tests → reason = 0 → (a.isZwrite = true → a.inhibit = 0) → ¬ late → Ends i ⟨q, d⟩ (fun e =>
      opened { w with st := .proceeding, heads := a.useHeads, nwHeads := 0, nwCause := 0 } e ∧ (b e).q.sTemp = temp ∧
      (b e).q.sEpoch = d.plat.fld (Reg.TSQ_CAL_EPOCH a.t) Fld.TSQ_CAL_EPOCH_EPOCH ∧ e.plat = d.plat ∧ e.act n = d.act n)) ∧
    (a.q.pos.win = none ∨ on ∧ w.st ≠ .granted → Ends i ⟨q, d⟩ (fun e => e = d)) ∧
    (on → w.st ≠ .granted → a.inFrame = 0 → Ends (.windowEnd n) ⟨q, d⟩ (fun e =>
      opened { w with ended := true } e ∧ e.plat = d.plat ∧ e.act n = d.act n)) ∧
    (on → w.st = .granted ∨ a.inFrame ≠ 0 → Ends (.windowEnd n) ⟨q, d⟩ (fun e => e = d)) ∧
    (∀ u, rises → may → a.userOf h = some u → Ends (.writeGateRise n h) ⟨q, d⟩ (fun e =>
      (b e).g.wg.testBit h = true ∧ opened { w with begun := w.begun ||| 2 ^ h.val } e ∧
      (∃ f, ((b e).g.head h).frame = some f ∧ f.user = u ∧ f.crc = crc32 (u ++ f.info) ∧
        f.parity = ldpcParity (u ++ f.info ++ leBytes 4 f.crc) ∧ f.info.length = 16) ∧ (b e).g.wgArm = a.g.wgArm)) ∧
    (rises → may → a.userOf h = none → Ends (.writeGateRise n h) ⟨q, d⟩ (fun e =>
      (b e).g.wg.testBit h = false ∧ e.plat.bit (Reg.WRP_EVT n) Fld.WRP_EVT_UNDERRUN = true ∧
      ((w.heads.testBit h = true ∧ w.whole.testBit h = false) → ∃ x, opened x e ∧ x.dropped.testBit h = true ∧ x.begun.testBit h = true))) ∧
    (a.q.pos.win = none ∨ on ∧ ¬ rises → Ends (.writeGateRise n h) ⟨q, d⟩ (fun e => e = d)) ∧
    (on → a.g.wg.testBit h = true → Ends (.writeGateFall n h) ⟨q, d⟩ (fun e =>
      (b e).g.wg.testBit h = false ∧ opened { w with whole := w.whole ||| 2 ^ h.val } e ∧ e.plat = d.plat)) ∧
    (a.g.wg.testBit h = false → Ends (.writeGateFall n h) ⟨q, d⟩ (fun e => e = d))

/-- R48, R109, R124, R159, R220, R221, R224, R226, Table WRA-3: what drops a write gate, its cause and its record. Faults
checked before a word's operations: log entry 52. -/
def Obligations.WriteGatesDropWithTheirCause : Prop :=
  ∀ (q : List Instr) (d : Dev) (n : ActNo) (h : HeadNo) (w : Win),
    let a : Ac := d.acWith n (d.serving n)
    let b (e : Dev) : Ac := e.acWith n (d.serving n)
    let writing : Prop := a.q.pos.win = some w ∧ a.isWrite = true ∧ w.st = .proceeding ∧ w.ended = false ∧
      w.heads.testBit h = true ∧ w.whole.testBit h = false ∧ w.dropped.testBit h = false
    let dropped (cause : Nat) (e : Dev) : Prop := (b e).g.wg.testBit h = false ∧ (b e).g.wgArm = a.g.wgArm ∧
      (writing → (b e).q.pos.win = some { w with dropped := w.dropped ||| 2 ^ h.val, cause := if w.cause = 0 then cause else w.cause } ∧
        e.plat.fld (Reg.WRP_DROP_LAST_LO n) Fld.WRP_DROP_LAST_LO_Q = w.q % 2 ^ 24 ∧
        e.plat.fld (Reg.WRP_DROP_LAST_HI n) Fld.WRP_DROP_LAST_HI_CAUSE = cause ∧
        e.plat.fld (Reg.WRP_DROP_LAST_HI n) Fld.WRP_DROP_LAST_HI_HEAD = h ∧
        (let cnt : Nat := Reg.WRP_CNT_LO n (causeIdx cause)
         d.plat.bit (cnt + 4) satFld = false → d.plat.count cnt + 1 < 2 ^ 48 - 1 → e.plat.count cnt = d.plat.count cnt + 1))
    let evt (f : Fld) (e : Dev) : Prop := e.plat.bit (Reg.WRP_EVT n) f = true
    let lim : Nat := d.plat.fld (Reg.WRP_CFG n) Fld.WRP_CFG_MON_MISS
    let missing : Prop := lim ≠ 0 ∧ lim ≤ (a.g.head h).miss ∧ (a.g.wgArm &&& a.laneHeads).testBit h = true
    let posted (e : Dev) : Prop := e.plat.fld (Reg.TSQ_STATUS a.t) Fld.TSQ_STATUS_PEND =
        d.plat.fld (Reg.TSQ_STATUS a.t) Fld.TSQ_STATUS_PEND ||| 4 ∧ e.plat.bit (Reg.HSI_BUS n) Fld.HSI_BUS_WQ_HELD = true ∧
      (∀ k : HeadNo, (b e).g.wg.testBit k = false) ∧ (a.locked = false → (b e).q.code = some 0x42)
    let on : Prop := d.plat.on (4 * n.val + 2) = true
    let low : Prop := (a.code = 1 ∨ a.code = 3) ∧ a.g.gap = false ∧ on
    let asafe : Prop := a.code = 2 ∧ a.g.gap = false ∧ a.pullsAsafe = false ∧ on
    (a.inhibit.testBit h = true → Ends (.writeInhibitDrop n h) ⟨q, d⟩ (dropped 0x01)) ∧
    (a.inhibit.testBit h = false → Ends (.writeInhibitDrop n h) ⟨q, d⟩ (fun e => e = d)) ∧
    (a.g.wg.testBit h = true → Ends (.underrun n h) ⟨q, d⟩ (fun e => dropped 0x14 e ∧ evt Fld.WRP_EVT_UNDERRUN e)) ∧
    (a.g.wg.testBit h = false → Ends (.underrun n h) ⟨q, d⟩ (fun e => e = d)) ∧
    (missing → Ends (.monMissing n h) ⟨q, d⟩ (fun e => dropped 0x13 e ∧ evt Fld.WRP_EVT_MON_MISSING e ∧
      ((b e).g.head h).mon = (a.g.head h).mon ||| 4)) ∧
    (¬ missing → Ends (.monMissing n h) ⟨q, d⟩ (fun e => e = d)) ∧
    (low → Ends (.faultNLow n) ⟨q, d⟩ (fun e =>
      e.plat.bit (Reg.HSI_FLT n) Fld.HSI_FLT_PIN = true ∧ (a.busy = true → posted e) ∧ (a.busy = false → (b e).g = a.g ∧
        d.plat.keeps e.plat [Reg.HSI_FLT n, Reg.HSI_BUS n]))) ∧
    (¬ low → Ends (.faultNLow n) ⟨q, d⟩ (fun e => e = d)) ∧
    (asafe → Ends (.asafeLow n) ⟨q, d⟩ (fun e =>
      e.plat.bit (Reg.HSI_FLT n) Fld.HSI_FLT_ASAFE = true ∧ (a.busy = true → posted e) ∧ (a.busy = false → (b e).g = a.g ∧
        d.plat.keeps e.plat [Reg.HSI_FLT n]))) ∧
    (¬ asafe → Ends (.asafeLow n) ⟨q, d⟩ (fun e => e = d))

/-- R135, R136, R137, R144, R145, R211, R217, R224: servo windows, the end of a turnaround gap, side frames. -/
def Obligations.ServoWindowsGapsAndSideFrames : Prop :=
  ∀ (q : List Instr) (d : Dev) (n : ActNo) (h : HeadNo) (w : WedgeNo),
    let a : Ac := d.acWith n (d.serving n)
    let g (e : Dev) : Gate := (e.act n).gate
    let code (e : Dev) : Nat := e.plat.fld (Reg.HSI_BUS n) Fld.HSI_BUS_PHASE
    let on : Prop := d.plat.on (4 * n.val + 2) = true
    let sent : Nat := Reg.WRP_SENT n h
    let lane : Prop := a.code = 2 ∧ (g d).gap = false ∧ a.laneHeads.testBit h = true
    let x : WHead := (g d).head h
    let frame (f : Nat) (e : Dev) : Prop := ((g e).head h).side % 2 ^ 24 = f % 2 ^ 24 ∧ ((g e).head h).side = withCheck f ∧ (g e).asafe = false
    (on → (g d).servo = false → Ends (.servoWindowStart n w) ⟨q, d⟩ (fun e =>
      (g e).servo = true ∧ (g e).wedge = w ∧ (g e).fromW = decide (code d = 2) ∧ (g e).phase = (g d).phase ∧
      ((g e).head h).seen = false ∧ ((g d).still = false → code e = 3 ∧ (code d ≠ 3 → (g e).gap = true)))) ∧
    (¬ on ∨ (g d).servo = true → Ends (.servoWindowStart n w) ⟨q, d⟩ (fun e => e = d)) ∧
    ((g d).servo = true → (g d).phase < 4 → Ends (.servoWindowEnd n) ⟨q, d⟩ (fun e =>
      (g e).servo = false ∧ (g e).phase = (g d).phase ∧ ((g d).still = false → code e = (g d).phase) ∧
      ((g d).fromW = true → ((g d).wgArm &&& a.laneHeads).testBit h = true →
        ((g e).head h).miss = if x.seen then 0 else x.miss + 1) ∧
      ((g d).phase = 2 → a.laneHeads.testBit h = true → ((g e).head h).due.isSome = true ∧
        ((g e).head h).modDue = some (2 + 4 * d.plat.fld (Reg.WRP_MOD n h) Fld.WRP_MOD_MODE +
          64 * d.plat.fld (Reg.WRP_MOD n h) Fld.WRP_MOD_PARAM)))) ∧
    ((g d).servo = false → Ends (.servoWindowEnd n) ⟨q, d⟩ (fun e => e = d)) ∧
    ((g d).gap = true → (g d).held = [] → Ends (.turnaroundEnd n) ⟨q, d⟩ (fun e =>
      g e = { g d with gap := false } ∧ code e = code d ∧ e.plat.bit (Reg.HSI_BUS n) Fld.HSI_BUS_GAP = false)) ∧
    (∀ c : Fin 3, (g d).gap = true → (g d).servo = false → (g d).still = false → code d ≠ c.val → (g d).held = [(c.val + 1, 0, 0)] →
      Ends (.turnaroundEnd n) ⟨q, d⟩ (fun e => (g e).phase = c.val ∧ code e = c.val ∧ (g e).gap = true ∧ (g e).held = [])) ∧
    ((g d).gap = false → Ends (.turnaroundEnd n) ⟨q, d⟩ (fun e => e = d)) ∧
    (∀ f z, lane → x.due = some (f, z) → Ends (.sideFrameSend n h) ⟨q, d⟩ (fun e =>
      frame f e ∧ ((g e).head h).due = none ∧ ((g e).head h).sent = (x.sent || z) ∧
      e.plat.fld sent Fld.WRP_SENT_ASSIST = f / 4 % 1024 ∧ e.plat.fld sent Fld.WRP_SENT_HEATER = f / 2 ^ 12 % 256 ∧
      e.plat.fld sent Fld.WRP_SENT_ASSIST_ON = f / 2 ^ 20 % 2)) ∧
    (∀ f, lane → x.due = none → x.modDue = some f → Ends (.sideFrameSend n h) ⟨q, d⟩ (fun e =>
      frame f e ∧ ((g e).head h).modDue = none ∧ e.plat.rd sent = d.plat.rd sent)) ∧
    (lane → x.due = none → x.modDue = none → Ends (.sideFrameSend n h) ⟨q, d⟩ (fun e =>
      frame 0 e ∧ e.plat.rd sent = d.plat.rd sent)) ∧
    (¬ lane → Ends (.sideFrameSend n h) ⟨q, d⟩ (fun e => e = d))

/-- R149, R150, R151, R152, R153, R154, R155, R157, R159, R161, R216, R217, R218, R222, R223, R224: register transactions,
telemetry, and the write path's mode and family registers. Source 139 as a level: log entry 30. -/
def Obligations.PreampTransactionsTelemetryAndModes : Prop :=
  ∀ (q : List Instr) (d : Dev) (c : CoreNo) (n : ActNo) (h : HeadNo) (v : Word) (ack chk : Byte) (rdata : HalfBits)
    (c0 c1 c2 c3 c4 : Byte) (cut : Bool),
    let a : Ac := d.acWith n (d.serving n)
    let b (e : Dev) : Ac := e.acWith n (d.serving n)
    let stat : Nat := Reg.HSI_PSTAT n
    let busy : Bool := d.plat.bit stat Fld.HSI_PSTAT_BUSY
    let start : Prop := a.code = 0 ∧ a.g.gap = false ∧ d.plat.bit (Reg.HSI_PCFG n) Fld.HSI_PCFG_EN = true ∧ busy = true ∧
      d.plat.on (4 * n.val + 2) = true
    let good : Prop := crc8 [ack, BitVec.ofNat 8 (rdata.toNat / 256), BitVec.ofNat 8 rdata.toNat] = chk.toNat
    let tt : Nat := c0.toNat / 16
    let listens : Prop := d.plat.on (4 * n.val + 2) = true ∧ a.code ≠ 2
    let heard : Prop := cut = false ∧ crc8 [c0, c1, c2, c3] = c4.toNat ∧ (tt = 1 ∨ tt = 2 ∨ 8 ≤ tt)
    let word : Word := BitVec.ofNat 32 (c0.toNat * 2 ^ 24 + c3.toNat * 2 ^ 16 + (c1.toNat + 256 * c2.toNat))
    let value : Nat := c1.toNat + 256 * c2.toNat
    let watched : Prop := a.busy = true ∧ a.g.servo = true ∧ a.g.fromW = true ∧ (a.g.wgArm &&& a.laneHeads).testBit h = true
    let cfg (f : Fld) : Prop := d.plat.bit (Reg.WRP_CFG n) f = true
    let mon (f : Fld) : Nat := d.plat.fld (Reg.WRP_MON n h) f
    let inside : Prop := mon Fld.WRP_MON_LO ≤ value ∧ value ≤ mon Fld.WRP_MON_HI
    let evt (f : Fld) (e : Dev) : Prop := e.plat.bit (Reg.WRP_EVT n) f = true
    let i : Instr := .telemetryFrameReceive n h c0 c1 c2 c3 c4 cut
    let terr : Nat := Reg.HSI_TERR_LO n
    let fam : Nat := d.plat.fld (Reg.WRP_CFG n) Fld.WRP_CFG_FAMILY
    let listed : Prop := if fam = 0 then Fld.get Fld.WRP_MOD_MODE v ≤ 2
      else Fld.get Fld.WRP_MOD_MODE v = 8 ∨ Fld.get Fld.WRP_MOD_MODE v = 9
    (d.powered (Reg.HSI_PCMD n) → busy = false → Ends (.hsiPcmdWrite c n v) ⟨q, d⟩ (fun e =>
      e.plat.rd (Reg.HSI_PCMD n) = v ∧ e.plat.bit stat Fld.HSI_PSTAT_BUSY = true ∧ e.act n = d.act n)) ∧
    (d.powered (Reg.HSI_PCMD n) → busy = true → Ends (.hsiPcmdWrite c n v) ⟨q, d⟩ (fun e =>
      e.plat.bit stat Fld.HSI_PSTAT_OVERRUN = true ∧ d.plat.keeps e.plat [stat] ∧ e.act n = d.act n)) ∧
    (start → Ends (.preampTransactionStart n) ⟨q, d⟩ (fun e => (b e).g = { a.g with xact := true } ∧ e.plat = d.plat)) ∧
    (¬ start → Ends (.preampTransactionStart n) ⟨q, d⟩ (fun e => e = d)) ∧
    (a.g.xact = true → Ends (.preampTransactionEnd n ack rdata chk) ⟨q, d⟩ (fun e =>
      e.plat.bit stat Fld.HSI_PSTAT_BUSY = false ∧ e.plat.fld stat Fld.HSI_PSTAT_ACK = ack.toNat ∧
      e.plat.fld stat Fld.HSI_PSTAT_RDATA = rdata.toNat ∧ (b e).g = { a.g with xact := false } ∧
      (good → e.plat.fld stat Fld.HSI_PSTAT_RESULT = 0) ∧ (¬ good → ack = 0xFF → e.plat.fld stat Fld.HSI_PSTAT_RESULT = 2) ∧
      (¬ good → ack ≠ 0xFF → e.plat.fld stat Fld.HSI_PSTAT_RESULT = 1))) ∧
    (a.g.xact = false → Ends (.preampTransactionEnd n ack rdata chk) ⟨q, d⟩ (fun e => e = d)) ∧
    (listens → heard → Ends i ⟨q, d⟩ (fun e =>
      (tt = 1 → e.plat.rd (Reg.HSI_TLM_A n h) = word) ∧ (tt = 2 → e.plat.rd (Reg.HSI_TLM_C n h) = word) ∧
      ((b e).g.head h).fault = c3.toNat ∧
      (c3.toNat ≠ 0 → c3.toNat ≠ (a.g.head h).fault → (e.plat.fld (Reg.HSI_FLT n) Fld.HSI_FLT_HEAD).testBit h = true) ∧
      (watched → tt = 1 → ((b e).g.head h).seen = true ∧ ((b e).g.head h).miss = 0 ∧
        (cfg Fld.WRP_CFG_MON_EN → ¬ inside → evt Fld.WRP_EVT_ASSIST_MON e ∧ (b e).g.wg.testBit h = false ∧
          ((b e).g.head h).mon.testBit 0 = true) ∧
        (cfg Fld.WRP_CFG_MON_EN → inside → ((b e).g.head h).mon.testBit 0 = false)) ∧
      (watched → tt = 2 → cfg Fld.WRP_CFG_CS_EN → d.plat.sfld (Reg.WRP_CSTHR n h) Fld.WRP_CSTHR_THR < signed 16 value →
        evt Fld.WRP_EVT_CONTACT e ∧ (b e).g.wg.testBit h = false ∧ ((b e).g.head h).mon.testBit 1 = true))) ∧
    (listens → ¬ heard → Ends i ⟨q, d⟩ (fun e => (b e).g = a.g ∧ d.plat.keeps e.plat [terr, terr + 4, Reg.HSI_FLT n] ∧
      (d.plat.bit (terr + 4) satFld = false → d.plat.count terr + 1 < 2 ^ 48 - 1 → e.plat.count terr = d.plat.count terr + 1))) ∧
    (¬ listens → Ends i ⟨q, d⟩ (fun e => e = d)) ∧
    (d.powered (Reg.WRP_MOD n h) → listed → Ends (.wrpModWrite c n h v) ⟨q, d⟩ (fun e =>
      e.plat.fld (Reg.WRP_MOD n h) Fld.WRP_MOD_MODE = Fld.get Fld.WRP_MOD_MODE v ∧
      e.plat.fld (Reg.WRP_MOD n h) Fld.WRP_MOD_PARAM = Fld.get Fld.WRP_MOD_PARAM v ∧ d.plat.keeps e.plat [Reg.WRP_MOD n h])) ∧
    (d.powered (Reg.WRP_MOD n h) → ¬ listed → Ends (.wrpModWrite c n h v) ⟨q, d⟩ (fun e =>
      evt Fld.WRP_EVT_CFG_REFUSED e ∧ d.plat.keeps e.plat [Reg.WRP_EVT n])) ∧
    (d.powered (Reg.WRP_CFG n) → Ends (.wrpFamilyWrite c n v) ⟨q, d⟩ (fun e =>
      (Fld.get Fld.WRP_CFG_FAMILY v = fam ∨ d.plat.storeEmpty (d.plat.servedBy n) = true →
        e.plat.fld (Reg.WRP_CFG n) Fld.WRP_CFG_FAMILY = Fld.get Fld.WRP_CFG_FAMILY v ∧ d.plat.keeps e.plat [Reg.WRP_CFG n]) ∧
      (Fld.get Fld.WRP_CFG_FAMILY v ≠ fam → d.plat.storeEmpty (d.plat.servedBy n) = false →
        e.plat.fld (Reg.WRP_CFG n) Fld.WRP_CFG_FAMILY = fam ∧ evt Fld.WRP_EVT_CFG_REFUSED e) ∧
      e.plat.fld (Reg.WRP_CFG n) Fld.WRP_CFG_ASSIST_EN = Fld.get Fld.WRP_CFG_ASSIST_EN v ∧
      e.plat.fld (Reg.WRP_CFG n) Fld.WRP_CFG_MON_EN = Fld.get Fld.WRP_CFG_MON_EN v))

/-- R42, R43, R47, R48, R49, R51, R52, R55, R105, R107, R110, R114, R198, R200, R237, R239, Table TSQ-9: ROW OPEN and ROW
CLOSE. -/
def Obligations.RowsOpenAndCloseByTheirRules : Prop :=
  (∀ (q : List Instr) (d : Dev) (n : ActNo),
     let a : Ac := d.acWith n (d.serving n)
     let b (e : Dev) : Ac := e.acWith n (d.serving n)
     let s : Pos := a.q.pos
     let on : Prop := a.q.running = true ∧ a.busy = true
     let st : Nat := Reg.TSQ_STATUS a.t
     let fits : Prop := s.map.length + 2 ≤ 1020 ∧ (a.deadline = 0 ∨ d.plat.time.toNat ≤ a.deadline)
     let go : Prop := on ∧ s.win = none ∧ a.locked = false ∧ a.rowsDone = false
     let answer (g code : Nat) : Prop := Ends (.rowOpen n) ⟨q, d⟩ (fun e =>
       (b e).q.pos.g1 = g ∧ (b e).q.pos.rowRes = true ∧ (b e).q.pos.win = none ∧ e.plat.bit st Fld.TSQ_STATUS_LOCKED = true ∧
       (b e).q.code = some code ∧ d.plat.keeps e.plat [st])
     let granted (p lrow : Nat) (e : Dev) : Prop :=
       (b e).q.pos.win = some ⟨p, lrow, .granted, 0, 0, 0, 0, 0, 0, 0, false⟩ ∧ (b e).q.pos.g1 = 1 ∧ (b e).q.pos.rowRes = true ∧
       (b e).q.pos.q = p ∧ (b e).q.pos.last = some (p, lrow) ∧ (a.isRead = true → (b e).q.ponr = true) ∧ e.plat = d.plat ∧
       e.act n = d.act n ∧
       (s.split = none → ∃ r, (b e).q.pos.sp = some r ∧
         r.target = 4096 * ((a.img.baseTrack : Int) + a.img.track a.member p) + a.centre (a.img.track a.member p) ∧
         r.write = a.isWrite ∧ r.recentre = false)
     (on → s.win.isSome = true → Ends (.rowOpen n) ⟨q, d⟩ (fun e => d.faultedBy e n 1)) ∧
     (on → s.win = none → a.locked = true → Ends (.rowOpen n) ⟨q, d⟩ (fun e =>
       (b e).q.pos = { s with rowRes := true, g1 := 3 } ∧ e.plat = d.plat)) ∧
     (on → s.win = none → a.locked = false → a.rowsDone = true → Ends (.rowOpen n) ⟨q, d⟩ (fun e =>
       (b e).q.pos = { s with rowRes := true, g1 := 2 } ∧ e.plat = d.plat)) ∧
     (go → a.isZwrite = true → s.slack = 0 → answer 3 0x20) ∧
     (go → (a.isZwrite = true → s.slack ≠ 0) → 1020 < s.map.length + 2 → answer 3 0x22) ∧
     (go → (a.isZwrite = true → s.slack ≠ 0) → s.map.length + 2 ≤ 1020 → a.deadline ≠ 0 → a.deadline < d.plat.time.toNat →
       answer 3 0x23) ∧
     (go → a.isConv = true → fits → Ends (.rowOpen n) ⟨q, d⟩ (granted (a.lbaPos (a.ofs + s.done)) (a.ofs + s.done))) ∧
     (∀ p, go → a.isConv = false → (a.isZwrite = true → s.slack ≠ 0) → fits → s.q ≤ p → p < a.img.tracks * a.img.perTrack →
       a.img.usable a.member p = true → (∀ i, i < p → s.q ≤ i → a.img.usable a.member i = false) →
         Ends (.rowOpen n) ⟨q, d⟩ (fun e => granted p s.lrow e ∧ (b e).q.pos.map = (if p ≠ s.q ∧ a.isZwrite = true
           then (3 * 2 ^ 62 + s.q % 2 ^ 24 * 2 ^ 16 + (p - s.q) % 2 ^ 16) :: s.map else s.map))) ∧
     (go → a.isConv = false → (a.isZwrite = true → s.slack ≠ 0) → fits →
       (∀ i, i < a.img.tracks * a.img.perTrack → s.q ≤ i → a.img.usable a.member i = false) → answer 3 0x20) ∧
     (¬ on → Ends (.rowOpen n) ⟨q, d⟩ (fun e => e = d))) ∧
  (∀ (q : List Instr) (d : Dev) (n : ActNo) (w : Win),
     let a : Ac := d.acWith n (d.serving n)
     let b (e : Dev) : Ac := e.acWith n (d.serving n)
     let s : Pos := a.q.pos
     let p (e : Dev) : Pos := (b e).q.pos
     let on : Prop := a.q.running = true ∧ a.busy = true
     let ready : Prop := on ∧ s.win = some w ∧ w.ended = true ∧ (a.isRead = true → a.g.rg = 0)
     let lrow : Nat := if a.isConv then 0 else w.lrow
     let next : Nat := if a.isConv then s.q else w.q + 1
     let slack : Nat := if a.isZwrite then s.slack - 1 else s.slack
     let judged : Prop := ready ∧ a.isRead = false ∧ w.st ≠ .stale ∧ w.st ≠ .notWritten
     let cnt : Nat := Reg.WRP_CNT_LO n 0
     (judged → w.dropped = 0 → Ends (.rowClose n) ⟨q, d⟩ (fun e =>
       (p e).win = none ∧ (p e).map = mapEntry 0 lrow w.q w.heads 0 :: s.map ∧ (p e).abn = 0 ∧ (p e).lastWritten = some w.lrow ∧
       (p e).slack = s.slack ∧ (p e).q = next ∧
       (p e).done = (if a.isConv then s.done + 1 else if a.isZwrite then s.done + a.ndata s.done else s.done) ∧
       (a.isConv = false → (p e).lrow = s.lrow + 1) ∧ e.plat = d.plat)) ∧
     (judged → w.dropped ≠ 0 → Ends (.rowClose n) ⟨q, d⟩ (fun e =>
       (p e).win = none ∧ (p e).map = mapEntry 1 lrow w.q w.dropped w.cause :: s.map ∧ (p e).abn = s.abn + 1 ∧ (p e).slack = slack ∧
       (p e).q = next ∧ (p e).lrow = s.lrow ∧ (p e).done = s.done ∧
       (d.plat.bit (cnt + 4) satFld = false → d.plat.count cnt + 1 < 2 ^ 48 - 1 → e.plat.count cnt = d.plat.count cnt + 1) ∧
       (a.abnLimit ≤ s.abn + 1 → a.locked = false → (b e).q.code = some 0x21 ∧
         e.plat.bit (Reg.TSQ_STATUS a.t) Fld.TSQ_STATUS_LOCKED = true))) ∧
     (ready → a.isRead = false → w.st = .notWritten → Ends (.rowClose n) ⟨q, d⟩ (fun e =>
       p e = { s with win := none, map := mapEntry 2 lrow w.q w.nwHeads w.nwCause :: s.map, slack := slack, q := next } ∧
       e.plat = d.plat)) ∧
     (ready → a.isRead = false → w.st = .stale → Ends (.rowClose n) ⟨q, d⟩ (fun e =>
       p e = { s with win := none } ∧ e.plat = d.plat)) ∧
     (ready → a.isRead = true → a.readJudge w = false → Ends (.rowClose n) ⟨q, d⟩ (fun e =>
       p e = { s with win := none } ∧ (b e).g = { a.g with chn := 0 } ∧ e.plat = d.plat)) ∧
     (∀ r, ready → a.isRead = true → a.findRow w.lrow = some r → a.readJudge w = true → Ends (.rowClose n) ⟨q, d⟩ (fun e =>
       (p e).win = none ∧ (p e).map = s.map ∧ (p e).abn = 0 ∧ (p e).lastWritten = some w.lrow ∧ (b e).g.chn = 0 ∧
       (b e).findRow w.lrow = some { r with closed := true } ∧
       (a.isConv = false → 1 < s.left → (p e).q = w.q + 1 ∧ (p e).lrow = s.lrow + 1 ∧ (p e).left = s.left - 1) ∧
       (a.isConv = false → s.left = 1 → s.run < a.elen →
         (p e).q = bits (a.extWord s.run) 63 40 ∧ (p e).lrow = bits (a.extWord s.run) 39 20 ∧ (p e).left = bits (a.extWord s.run) 19 0))) ∧
     (on → s.win = none ∨ s.win = some w ∧ (w.ended = false ∨ a.isRead = true ∧ a.g.rg ≠ 0) →
       Ends (.rowClose n) ⟨q, d⟩ (fun e => e = d)) ∧
     (¬ on → Ends (.rowClose n) ⟨q, d⟩ (fun e => e = d)))

/-- R109, R165, R173, R174, R179, R186, R187: the rise and fall of a read gate and the end of acquisition. Gain codes and
adapted taps are operands: log entry 57. -/
def Obligations.ReadGatesCaptureASector : Prop :=
  ∀ (q : List Instr) (d : Dev) (n : ActNo) (h : HeadNo) (codes : Nats) (taps : Taps),
    let a : Ac := d.acWith n (d.serving n)
    let b (e : Dev) : Ac := e.acWith n (d.serving n)
    let s : Nat := a.slotNo h
    let up (m : Nat) : Prop := m.testBit h = true
    (∀ w r, a.q.pos.win = some w → a.findRow w.lrow = some r → a.isRead = true → w.st = .proceeding → up a.g.rgArm → up a.g.chn →
      ¬ up a.g.rg → Ends (.readGateRise n h) ⟨q, d⟩ (fun e =>
        up (b e).g.rg ∧ up (b e).g.acq ∧
        (b e).findRow w.lrow = some ({ r with pend := false }.setSlot s { slotReset with st := 1, word := putBits 0 10 8 s }) ∧
        (∀ k : Fin 3, d.plat.on (4 * n.val) = true → d.plat.bit (Reg.RFE_AGC_CFG n h) Fld.RFE_AGC_CFG_REINIT = true →
          e.plat.fld (Reg.RFE_RDR_GAIN n h k) Fld.RFE_RDR_GAIN_CODE = d.plat.fld (Reg.RFE_RDR_GAIN n h k) Fld.RFE_RDR_GAIN_INIT))) ∧
    (a.isRead = false ∨ a.q.pos.win = none ∨ ¬ up a.g.rgArm ∨ ¬ up a.g.chn ∨ up a.g.rg →
      Ends (.readGateRise n h) ⟨q, d⟩ (fun e => e = d)) ∧
    (up a.g.rg → Ends (.readGateFall n h taps) ⟨q, d⟩ (fun e =>
      ¬ up (b e).g.rg ∧ ¬ up (b e).g.chn ∧ ¬ up (b e).g.acq ∧ (a.capturing h = none → (b e).g.rows = a.g.rows) ∧
      (∀ r x, a.capturing h = some (r, x) →
        e.plat.fld (Reg.RFE_FRAME_LAST n h) Fld.RFE_FRAME_LAST_CODE = 6 ∧
        (b e).findRow r.lrow = some (r.setSlot s (x.frame 6 (-128) (-128) r.step))) ∧
      (∀ (k : Fin 3) (i : Fin 32) (v : Int), taps = [(k.val, i.val, v)] → d.plat.on (4 * n.val + 1) = true →
        d.plat.bit (Reg.DET_EQ_CFG n (a.detHd h)) Fld.DET_EQ_CFG_ADAPT = true →
        e.plat.fld (Reg.DET_EQ n (a.detHd h) k i) Fld.DET_EQ_TAP = bitsOf 12 (clampInt (-2047) 2047 v) ∧
        (2047 < v.natAbs → e.plat.bit (Reg.DET_EVT n (a.detHd h)) Fld.DET_EVT_EQ_SAT = true)))) ∧
    (¬ up a.g.rg → Ends (.readGateFall n h taps) ⟨q, d⟩ (fun e => e = d)) ∧
    (up a.g.acq → d.plat.on (4 * n.val) = true → Ends (.acquisitionEnd n h codes) ⟨q, d⟩ (fun e =>
      ¬ up (b e).g.acq ∧ (b e).g.rows = a.g.rows ∧ (b e).q = a.q ∧
      d.plat.keeps e.plat [Reg.RFE_RDR_GAIN n h 0, Reg.RFE_RDR_GAIN n h 1, Reg.RFE_RDR_GAIN n h 2] ∧
      (∀ k : Fin 3, e.plat.fld (Reg.RFE_RDR_GAIN n h k) Fld.RFE_RDR_GAIN_CODE =
        (match codes[k.val]? with
         | some c => if d.plat.bit (Reg.RFE_RDR_CFG n h k) Fld.RFE_RDR_CFG_AGC = true ∧
             d.plat.bit (Reg.RFE_RDR_CFG n h k) Fld.RFE_RDR_CFG_ON = true ∧ (a.g.ta ||| a.g.taHeld).testBit (3 * h.val + k.val) = false
           then c % 2 ^ 6 else d.plat.fld (Reg.RFE_RDR_GAIN n h k) Fld.RFE_RDR_GAIN_CODE
         | none => d.plat.fld (Reg.RFE_RDR_GAIN n h k) Fld.RFE_RDR_GAIN_CODE)))) ∧
    (¬ up a.g.acq ∨ d.plat.on (4 * n.val) = false → Ends (.acquisitionEnd n h codes) ⟨q, d⟩ (fun e => e = d))

/-- R175, R176, R177, R178, R179, R180, R181, Table RFE-1: the framing decision from the Hamming distances at the two
windows' positions. -/
def Obligations.FramingDecidesTheSyncCode : Prop :=
  ∀ (q : List Instr) (d : Dev) (n : ActNo) (h : HeadNo) (ds1 ds2 : Nats) (r : RRow) (x : RSlot),
    let a : Ac := d.acWith n (d.serving n)
    let b (e : Dev) : Ac := e.acWith n (d.serving n)
    let last : Nat := Reg.RFE_FRAME_LAST n h
    let t1 : Nat := min (d.plat.fld (Reg.RFE_SYNC_CFG n h) Fld.RFE_SYNC_CFG_SM1_THR) 6
    let t2 : Nat := min (d.plat.fld (Reg.RFE_SYNC_CFG n h) Fld.RFE_SYNC_CFG_SM2_THR) 6
    let win : Int := a.img.sm1Win
    let hit (t : Nat) (ds : Nats) (i : Nat) : Prop := i < ds.length ∧ ds.getD i 0 ≤ t
    let miss (t : Nat) (ds : Nats) : Prop := ∀ i, i < ds.length → ¬ hit t ds i
    let first (i : Nat) : Prop := hit t1 ds1 i ∧ ∀ j, j < i → ¬ hit t1 ds1 j
    let best (j : Nat) : Prop := hit t2 ds2 j ∧ ∀ k, k < ds2.length → k ≠ j → hit t2 ds2 k → ds2.getD j 0 < ds2.getD k 0
    let on : Prop := d.plat.on (4 * n.val) = true ∧ d.plat.on (4 * n.val + 1) = true
    let framed (code : Nat) (d1 d2 : Int) (e : Dev) : Prop :=
      e.plat.fld last Fld.RFE_FRAME_LAST_CODE = code ∧ e.plat.fld last Fld.RFE_FRAME_LAST_D1 = bitsOf 8 d1 ∧
      e.plat.fld last Fld.RFE_FRAME_LAST_D2 = bitsOf 8 d2 ∧
      (b e).findRow r.lrow = some (r.setSlot (a.slotNo h) (x.frame code d1 d2 r.step))
    let lost (e : Dev) : Prop :=
      framed 5 (-128) (-128) e ∧ e.plat.bit (Reg.RFE_EVT n h) Fld.RFE_EVT_NO_SYNC = true
    let i : Instr := .framingDecision n h ds1 ds2
    (a.capturing h = some (r, x) → on →
      (a.readerOn h = true →
        (∀ i1, first i1 → miss t2 ds2 → Ends i ⟨q, d⟩ (framed 3 ((i1 : Int) - win) (-128))) ∧
        (∀ i1 j, first i1 → best j → Ends i ⟨q, d⟩ (framed (if j = 4 then 0 else if 4 < j then 1 else 2) ((i1 : Int) - win)
          ((i1 : Int) - win + ((j : Int) - 4)))) ∧
        (∀ j, miss t1 ds1 → best j → Ends i ⟨q, d⟩ (framed 4 (-128) ((j : Int) - win))) ∧
        (miss t1 ds1 → miss t2 ds2 → Ends i ⟨q, d⟩ lost)) ∧
      (a.readerOn h = false → Ends i ⟨q, d⟩ lost)) ∧
    (a.capturing h = none → Ends i ⟨q, d⟩ (fun e => e = d)) ∧
    (¬ on → Ends i ⟨q, d⟩ (fun e => e = d))

/-- R168, R169, R170, R171, R188, R189, R192, R204, R439, Table DET-5: asperities and amplitude drops with their erasure
pointers, trims, the spare slice and the spare engine. The bits erased are operands: log entry 57. -/
def Obligations.AsperitiesTrimsAndReadSpares : Prop :=
  (∀ (q : List Instr) (d : Dev) (n : ActNo) (i : InputNo) (h : HeadNo) (start len : Nat) (sl : SliceNo),
     let a : Ac := d.acWith n (d.serving n)
     let b (e : Dev) : Ac := e.acWith n (d.serving n)
     let head : Nat := i.val / 3
     let up (m : Nat) : Prop := m.testBit i = true
     let rfe : Prop := d.plat.on (4 * n.val) = true
     let cnt : Nat := Reg.RFE_CNT_LO n head 6
     let live : Prop := rfe ∧ d.plat.bit (Reg.RFE_TA_CFG n head) Fld.RFE_TA_CFG_EN = true ∧
       d.plat.bit (Reg.RFE_RDR_CFG n head (i.val % 3)) Fld.RFE_RDR_CFG_ON = true
     let drop : Nat := Reg.DET_DROP n (a.detHd h)
     let merged (es : List (Nat × Nat)) : List (Nat × Nat) :=
       if es.length < 16 then es ++ [(start, len)] else es.dropLast ++
         (es.getLast?.toList.map (fun l => (l.1, max (l.1 + l.2) (start + len) - l.1)))
     let points (hd : Nat) (e : Dev) : Prop := ∀ w r, a.q.pos.win = some w → a.findRow w.lrow = some r → a.g.rg.testBit hd = true →
       0 < len → (r.slot (a.slotNo hd)).st = 1 → (b e).findRow w.lrow = some (r.setSlot (a.slotNo hd)
         { r.slot (a.slotNo hd) with eras := merged (r.slot (a.slotNo hd)).eras })
     let near (f g : Fld) (e : Dev) : Prop :=
       let v : Nat := d.plat.fld (Reg.RFE_ADCTRIM n sl) f
       let w : Nat := e.plat.fld (Reg.RFE_ADCTRIM n sl) f
       let t : Nat := d.plat.fld (Reg.RFE_ADCTRIM n sl) g
       (v = t → w = v) ∧ (signed 8 v < signed 8 t → signed 8 w = signed 8 v + 1) ∧
       (signed 8 t < signed 8 v → signed 8 w = signed 8 v - 1)
     (live → ¬ up a.g.ta → Ends (.taAssert n i) ⟨q, d⟩ (fun e =>
       up (b e).g.ta ∧ (b e).g.rows = a.g.rows ∧ d.plat.keeps e.plat [cnt, cnt + 4, Reg.RFE_EVT n head] ∧
       (d.plat.bit (cnt + 4) satFld = false → d.plat.count cnt + 1 < 2 ^ 48 - 1 → e.plat.count cnt = d.plat.count cnt + 1))) ∧
     (¬ live ∨ up a.g.ta → Ends (.taAssert n i) ⟨q, d⟩ (fun e => e = d)) ∧
     (up a.g.ta → Ends (.taRelease n i start len) ⟨q, d⟩ (fun e => ¬ up (b e).g.ta ∧ points head e)) ∧
     (¬ up a.g.ta → Ends (.taRelease n i start len) ⟨q, d⟩ (fun e => e = d)) ∧
     (rfe → up a.g.ta → d.plat.fld (Reg.RFE_TA_CFG n head) Fld.RFE_TA_CFG_HOLD_MAX ≠ 0 → Ends (.taHoldLimit n i) ⟨q, d⟩ (fun e =>
       up (b e).g.taHeld ∧ e.plat.bit (Reg.RFE_EVT n head) Fld.RFE_EVT_TA_LONG = true ∧ (b e).g.ta = a.g.ta ∧
       d.plat.keeps e.plat [Reg.RFE_EVT n head])) ∧
     (¬ up a.g.ta ∨ d.plat.fld (Reg.RFE_TA_CFG n head) Fld.RFE_TA_CFG_HOLD_MAX = 0 → Ends (.taHoldLimit n i) ⟨q, d⟩ (fun e => e = d)) ∧
     (d.plat.bit drop Fld.DET_DROP_EN = true → d.plat.on (4 * n.val + 1) = true → Ends (.amplitudeDrop n h start len) ⟨q, d⟩ (points h)) ∧
     (d.plat.bit drop Fld.DET_DROP_EN = false → Ends (.amplitudeDrop n h start len) ⟨q, d⟩ (fun e => e = d)) ∧
     Ends (.spareSettleEnd n) ⟨q, d⟩ (fun e =>
       e.plat.bit (Reg.RFE_SPARE_STAT n) Fld.RFE_SPARE_STAT_SETTLING = false ∧ (b e).g = { a.g with settling := 0 } ∧
       d.plat.keeps e.plat [Reg.RFE_SPARE_STAT n]) ∧
     (rfe → Ends (.adcTrimStep n sl) ⟨q, d⟩ (fun e =>
       near Fld.RFE_ADCTRIM_OFS_APPLIED Fld.RFE_ADCTRIM_OFS_TARGET e ∧ near Fld.RFE_ADCTRIM_GAIN_APPLIED Fld.RFE_ADCTRIM_GAIN_TARGET e ∧
       d.plat.keeps e.plat [Reg.RFE_ADCTRIM n sl])) ∧
     (¬ rfe → Ends (.adcTrimStep n sl) ⟨q, d⟩ (fun e => e = d))) ∧
  (∀ (q : List Instr) (d : Dev) (c : CoreNo) (n : ActNo) (k : PairNo) (v : Word),
     let a : Ac := d.acWith n (d.serving n)
     let b (e : Dev) : Ac := e.acWith n (d.serving n)
     let r : Nat := Reg.RFE_SPARE n k
     let o : Word := d.plat.rd (Reg.RFE_SPARE n (1 - k.val))
     let names (w : Word) (m : Nat) : Prop := Fld.get Fld.RFE_SPARE_EN w = 1 ∧ Fld.get Fld.RFE_SPARE_INPUT w = m ∧ m < 24
     let clash : Prop := ∃ m : InputNo, names v m ∧ names o m
     let still : Bool := (d.act n).gate.still
     let flag (e : Dev) (f : Fld) : Prop := e.plat.bit (Reg.RFE_SPARE_STAT n) f = true
     let det : Nat := Reg.DET_SPARE n
     let serves (w : Word) (hd : HeadNo) : Prop := Fld.get Fld.DET_SPARE_EN w = 1 ∧ Fld.get Fld.DET_SPARE_HEAD w = hd.val
     let open_ (s : Nat) (y : RRow) : Prop := (y.slot s).good = false ∧ (y.slot s).st ≠ 0
     (d.powered r → clash → still = false → Ends (.rfeSpareWrite c n k v) ⟨q, d⟩ (fun e =>
       flag e Fld.RFE_SPARE_STAT_CONFLICT ∧ e.plat.rd r = d.plat.rd r ∧ (b e).g = a.g ∧ d.plat.keeps e.plat [Reg.RFE_SPARE_STAT n])) ∧
     (d.powered r → still = true → Ends (.rfeSpareWrite c n k v) ⟨q, d⟩ (fun e => e = d)) ∧
     (d.powered r → ¬ clash → still = false → Ends (.rfeSpareWrite c n k v) ⟨q, d⟩ (fun e =>
       e.plat.fld r Fld.RFE_SPARE_EN = Fld.get Fld.RFE_SPARE_EN v ∧ e.plat.fld r Fld.RFE_SPARE_INPUT = Fld.get Fld.RFE_SPARE_INPUT v ∧
       (∀ m, names v m → ¬ names (d.plat.rd r) m → flag e Fld.RFE_SPARE_STAT_SETTLING ∧ (b e).g.settling.testBit m = true) ∧
       (∀ m, names (d.plat.rd r) m → ¬ names v m → flag e Fld.RFE_SPARE_STAT_SETTLING ∧ (b e).g.settling.testBit m = true) ∧
       d.plat.keeps e.plat [r, Reg.RFE_SPARE_STAT n])) ∧
     (d.powered det → Ends (.detSpareWrite c n v) ⟨q, d⟩ (fun e =>
       e.plat.fld det Fld.DET_SPARE_EN = Fld.get Fld.DET_SPARE_EN v ∧ e.plat.fld det Fld.DET_SPARE_HEAD = Fld.get Fld.DET_SPARE_HEAD v ∧
       e.plat.bit (Reg.DET_SPARE_STAT n) Fld.DET_SPARE_STAT_ACTIVE = decide (Fld.get Fld.DET_SPARE_EN v = 1) ∧
       (∀ hd : HeadNo, serves v hd → ¬ serves (d.plat.rd det) hd → Fld.get Fld.DET_SPARE_EN (d.plat.rd det) = 0 → a.isRead = true →
         a.headset.testBit hd = true → (∃ y ∈ a.g.rows, open_ (a.slotNo hd) y) →
           e.plat.bit (Reg.DET_SPARE_STAT n) Fld.DET_SPARE_STAT_LOST = true ∧
           (∀ (i : Nat) (y : RRow), a.g.rows[i]? = some y → ∃ y', (b e).g.rows[i]? = some y' ∧
             (open_ (a.slotNo hd) y → (y'.slot (a.slotNo hd)).final = true ∧ (y'.slot (a.slotNo hd)).result = 0x8) ∧
             (¬ open_ (a.slotNo hd) y → y' = y))) ∧
       ((∀ hd, serves v hd ↔ serves (d.plat.rd det) hd) → (b e).g = a.g) ∧
       d.plat.keeps e.plat [det, Reg.DET_SPARE_STAT n, Reg.DET_ROWS n])))

/-- R38, R39, R188, R191, R193, R194, R195, R196, Tables DET-3, DET-5: the end of a decode. The decoded word is an operand:
log entry 57. -/
def Obligations.DecodesGiveSectorResults : Prop :=
  ∀ (q : List Instr) (d : Dev) (n : ActNo) (h : HeadNo) (info : Bytes) (parity giter nflip : Nat) (slip : Int) (r : RRow),
    let a : Ac := d.acWith n (d.serving n)
    let b (e : Dev) : Ac := e.acWith n (d.serving n)
    let s : Nat := a.slotNo h
    let x : RSlot := r.slot s
    let waits (y : RRow) : Bool := (y.slot s).st == 1 && (y.slot s).framed
    let m : Nat := leNat ((info.drop 4096).take 16)
    let limit : Nat := d.plat.fld (Reg.DET_DROP n (a.detHd h)) Fld.DET_DROP_MAXERA
    let i : Instr := .decodeEnd n h info parity giter nflip slip
    let result (v : Nat) : Prop := Ends i ⟨q, d⟩ (fun e =>
      ∃ r' y, (b e).findRow r.lrow = some r' ∧ y = r'.slot s ∧ y.st = 2 ∧ y.result = v ∧ y.data = info.take 4096 ∧
        y.m0 = m % 2 ^ 64 ∧ y.m1 = m / 2 ^ 64 ∧ y.eras = x.eras ∧ bits y.word 59 55 = r.step % 32 ∧
        bits y.word 31 16 = min nflip 0xFFFF ∧ bits y.word 7 4 = bitsOf 4 slip ∧ bits y.word 50 48 = bits x.word 50 48 ∧
        bits y.word 54 51 = (if erasedBits x.eras ≤ limit then min giter 12 else 0) ∧
        r'.q = r.q ∧ r'.step = r.step ∧ (b e).g.rows.length = a.g.rows.length ∧ (b e).q = a.q ∧
        d.plat.keeps e.plat [Reg.DET_ROWS n])
    let on : Prop := a.isRead = true ∧ a.headset.testBit h = true ∧ d.plat.on (4 * n.val + 1) = true
    (on → a.g.rows.find? waits = some r → a.findRow r.lrow = some r →
      (limit < erasedBits x.eras → result 0x8) ∧
      (erasedBits x.eras ≤ limit →
        (ldpcParity info ≠ parity → result 0x8) ∧
        (ldpcParity info = parity → crc32 (info.take 4112) ≠ leNat (info.drop 4112) → result 0x9) ∧
        (ldpcParity info = parity → crc32 (info.take 4112) = leNat (info.drop 4112) → info.length = 4116 →
          (a.metaOk r.lrow s (m % 2 ^ 64) (m / 2 ^ 64) = false → result 0xA) ∧
          (a.metaOk r.lrow s (m % 2 ^ 64) (m / 2 ^ 64) = true → result (if r.step = 0 then 0x0 else 0x1))))) ∧
    (a.g.rows.find? waits = none → Ends i ⟨q, d⟩ (fun e => e = d)) ∧
    (¬ on → Ends i ⟨q, d⟩ (fun e => e = d))

/-- R235, R240, R243, R244, R247, R250, R253, R254, Table ARM-5: Armature commands and when they are taken, settling, load,
shock, timeline lock. Acceptance at the next wedge: log entry 59. -/
def Obligations.ArmatureTakesCommandsAtTheWedge : Prop :=
  ∀ (q : List Instr) (d : Dev) (c : CoreNo) (n : ActNo) (w : WedgeNo) (period : Nat),
    let m : Arm := (d.act n).arm
    let mode : Nat := d.plat.fld (Reg.ARM_STATUS n) Fld.ARM_STATUS_MODE
    let modeOf (e : Dev) : Nat := e.plat.fld (Reg.ARM_STATUS n) Fld.ARM_STATUS_MODE
    let on : Prop := d.plat.on (4 * n.val + 3) = true
    let cmds : List (Nat × Nat × Instr) := [(1, 0, .armCmdOff c n), (2, 1, .armCmdLoad c n), (3, 6, .armCmdRetract c n),
      (4, 7, .armCmdDirect c n)]
    let allowed (k : Nat) : Prop :=
      k = 1 ∨ k = 3 ∨ (k = 2 ∧ (mode = 0 ∨ mode = 5 ∨ mode = 6)) ∨ (k = 4 ∧ mode = 0 ∧ d.plat.effAct n = 2)
    (∀ k target i, (k, target, i) ∈ cmds →
      (d.powered (Reg.ARM_CTRL n) → Ends i ⟨q, d⟩ (fun e =>
        (e.act n).arm = { m with cmd := some k } ∧ e.plat = d.plat ∧ (e.act n).gate = (d.act n).gate ∧
        (e.act n).link = (d.act n).link)) ∧
      (on → m.cmd = some k → allowed k → Ends (.wedgeEvaluation n w period) ⟨q, d⟩ (fun e =>
        modeOf e = target ∧ (e.act n).arm.cmd = none)) ∧
      (on → m.cmd = some k → ¬ allowed k → Ends (.wedgeEvaluation n w period) ⟨q, d⟩ (fun e =>
        (e.act n).arm.cmd = none ∧ e.plat.bit (Reg.ARM_EVT n) Fld.ARM_EVT_CFG_REFUSED = true))) ∧
    (on → Ends (.wedgeEvaluation n w period) ⟨q, d⟩ (fun e =>
      e.plat.fld (Reg.ARM_WEDGE n) Fld.ARM_WEDGE_WNUM = w ∧ e.plat.fld (Reg.ARM_WEDGE n) Fld.ARM_WEDGE_PERIOD = min 0xFFFF period ∧
      (m.cmd = none → (e.act n).arm.wedges = m.wedges + 1) ∧ (e.act n).arm.demods = [] ∧ (e.act n).arm.inbox = [] ∧
      (e.act n).arm.ffs = [] ∧ (e.act n).link = (d.act n).link)) ∧
    (¬ on → Ends (.wedgeEvaluation n w period) ⟨q, d⟩ (fun e => e = d)) ∧
    (on → mode = 3 → atLeast1 (d.plat.fld (Reg.ARM_SETTLE n) Fld.ARM_SETTLE_SETTLE_N) ≤ m.settled →
      Ends (.settleComplete n) ⟨q, d⟩ (fun e =>
        modeOf e = 4 ∧ e.plat.bit (Reg.ARM_STATUS n) Fld.ARM_STATUS_SETTLED = true ∧ (e.act n).arm.p = m.p ∧
        SMap.get (fun _ => 0) e.plat.lostUnit (32 + n) = 0)) ∧
    (mode ≠ 3 → Ends (.settleComplete n) ⟨q, d⟩ (fun e => e = d)) ∧
    (on → mode = 1 → (∃ h : HeadNo, 8 ≤ getN m.seen h) → Ends (.loadAcquired n) ⟨q, d⟩ (fun e =>
      let hs : List Nat := (heads8 (d.acWith n (d.serving n)).active).filter
        (fun h => d.plat.bit (Reg.ARM_PES n h) Fld.ARM_PES_FOUND)
      let sum : Int := hs.foldl (fun s h => s + (SMap.get (fun _ => none) m.lastY h).getD 0) 0
      modeOf e = 3 ∧ (e.act n).arm.p = 4096 * Int.tdiv sum (4096 * hs.length) ∧ (e.act n).arm.tgt = (e.act n).arm.p ∧
      (e.act n).arm.v = 0 ∧ (e.act n).arm.a = 0 ∧ (e.act n).arm.settled = 0)) ∧
    (on → m.shock = 1 → Ends (.shockHoldEnd n) ⟨q, d⟩ (fun e => (e.act n).arm = { m with shock := 0 } ∧ e.plat = d.plat)) ∧
    (∀ locked : Bool, Ends (.timelineLock n locked) ⟨q, d⟩ (fun e =>
      (e.act n).arm = { m with locked := locked } ∧ e.plat = d.plat))

/-- R236, R251, R252, R254, R255, R256, R257, R259, R260, R261, R262, R459, Tables ARM-7, ARM-8: losses of servo,
saturation, the SDL and SPL links. The LOAD time-out as a loss of all heads and an unlisted spindle mode sent as 0: log
entry 59. -/
def Obligations.ServoLossesAndDriveLinks : Prop :=
  (∀ (q : List Instr) (d : Dev) (n : ActNo) (h : HeadNo),
     let m : Arm := (d.act n).arm
     let a : Ac := d.acWith n (d.serving n)
     let mode : Nat := d.plat.fld (Reg.ARM_STATUS n) Fld.ARM_STATUS_MODE
     let on : Prop := d.plat.on (4 * n.val + 3) = true
     let loss (f : Fld) : Nat := atLeast1 (d.plat.fld (Reg.ARM_LOSS n) f)
     let limit : Nat := d.plat.fld (Reg.ARM_SAT_LIMIT n) (if mode = 2 then Fld.ARM_SAT_LIMIT_SEEK else Fld.ARM_SAT_LIMIT_TRK)
     let loops : Prop := mode = 2 ∨ mode = 3 ∨ mode = 4
     let lost (e : Dev) : Prop :=
       e.plat.fld (Reg.ARM_STATUS n) Fld.ARM_STATUS_MODE = 5 ∧ e.plat.bit (Reg.ARM_EVT n) Fld.ARM_EVT_LOST = true ∧
       e.plat.effAct n = 4 ∧ e.plat.fld (Reg.MGT_US (32 + n)) Fld.MGT_US_EFF = 4 ∧ (e.act n).arm.noField = 0
     (on → loops → loss Fld.ARM_LOSS_ALL_MAX ≤ m.noField → Ends (.servoLost n) ⟨q, d⟩ lost) ∧
     (m.noField < loss Fld.ARM_LOSS_ALL_MAX → Ends (.servoLost n) ⟨q, d⟩ (fun e => e = d)) ∧
     (on → mode = 1 → (∀ h : HeadNo, getN m.seen h < 8) → d.plat.fld (Reg.ARM_LOAD n) Fld.ARM_LOAD_TMO ≤ m.inLoad →
       Ends (.loadTimeout n) ⟨q, d⟩ lost) ∧
     (on → a.active.testBit h = true → loss Fld.ARM_LOSS_HEAD_MAX ≤ getN m.missed h → Ends (.headLost n h) ⟨q, d⟩ (fun e =>
       e.plat.bit (Reg.ARM_EVT n) Fld.ARM_EVT_HEAD_LOST = true ∧ getN (e.act n).arm.missed h = 0 ∧
       SMap.get (fun _ => 0) e.plat.lostUnit (8 * n.val + h) = 1 ∧
       (d.plat.bit (Reg.ARM_HEAD n h) Fld.ARM_HEAD_EN = true → e.plat.fld (Reg.MGT_US (8 * n.val + h)) Fld.MGT_US_EFF = 4))) ∧
     (a.active.testBit h = false ∨ getN m.missed h < loss Fld.ARM_LOSS_HEAD_MAX → Ends (.headLost n h) ⟨q, d⟩ (fun e => e = d)) ∧
     (on → loops → d.plat.bit (Reg.ARM_STATUS n) Fld.ARM_STATUS_SAT_ACT = false →
       (limit < m.satV ∨ ∃ h : HeadNo, limit < getN m.satM h) → Ends (.satTimeout n) ⟨q, d⟩ (fun e =>
         e.plat.bit (Reg.ARM_STATUS n) Fld.ARM_STATUS_SAT_ACT = true ∧
         e.plat.bit (Reg.ARM_EVT n) Fld.ARM_EVT_SAT_TIMEOUT = true ∧ (e.act n).gate.wg = 0 ∧
         e.plat.bit (Reg.HSI_BUS n) Fld.HSI_BUS_WQ_HELD = true ∧ (e.act n).arm = m ∧
         d.plat.posted e.plat (140 + 16 * n.val) 0x0003 (le2 (d.plat.fld (Reg.ARM_WEDGE n) Fld.ARM_WEDGE_WNUM) ++
           [BitVec.ofNat 8 mode, BitVec.ofNat 8 (d.plat.fld (Reg.ARM_STATUS n) Fld.ARM_STATUS_BANK)] ++ le2 m.saturated ++ le2 0))) ∧
     (limit ≥ m.satV → (∀ h : HeadNo, getN m.satM h ≤ limit) → Ends (.satTimeout n) ⟨q, d⟩ (fun e => e = d))) ∧
  (∀ (q : List Instr) (d : Dev) (c : CoreNo) (n : ActNo) (late : Bool) (w v : Word) (per : Nat),
     let m : Arm := (d.act n).arm
     let mode : Nat := d.plat.fld (Reg.ARM_STATUS n) Fld.ARM_STATUS_MODE
     let live : Prop := d.plat.on (4 * n.val + 3) = true ∧ d.plat.bit (Reg.ARM_SDL_CFG n) Fld.ARM_SDL_CFG_EN = true
     let vcm : Int := if mode = 0 ∨ mode = 5 ∨ mode = 6 then 0 else if mode = 1 then d.plat.sfld (Reg.ARM_LOAD n) Fld.ARM_LOAD_CMD
       else if mode = 7 then d.plat.sfld (Reg.ARM_DIRECT n 0) Fld.ARM_DIRECT_VALUE else m.uv
     let good (ty : Nat) : Prop := w.toNat / 2 ^ 28 = ty ∧ crc8 (beBytes 3 (w.toNat / 256)) = w.toNat % 256
     let spun : Prop := d.plat.on 3 = true ∧ d.plat.bit Reg.SPL_CTRL Fld.SPL_CTRL_EN = true
     let sm : Nat := d.plat.fld Reg.SPL_CTRL Fld.SPL_CTRL_MODE
     let err : Int := (per : Int) - d.plat.fld Reg.SPL_CFG Fld.SPL_CFG_TARGET
     let dem : Int := if sm = 1 then d.plat.sfld Reg.SPL_CTRL Fld.SPL_CTRL_START_DEM
       else if sm = 2 then clampInt (-32767) 32767 (Int.tdiv err (2 ^ d.plat.fld Reg.SPL_CFG Fld.SPL_CFG_KP) +
         Int.tdiv (d.spl.integ + err) (2 ^ (d.plat.fld Reg.SPL_CFG Fld.SPL_CFG_KI + 8))) else 0
     (live → Ends (.sdlFrameSend n late) ⟨q, d⟩ (fun e =>
       let f : Nat := (e.act n).arm.sdl
       f / 2 ^ 156 = 5 ∧ f / 2 ^ 152 % 16 = m.sdlSeq % 16 ∧ f / 2 ^ 136 % 2 ^ 16 = bitsOf 16 vcm ∧
       f.testBit 23 = decide (mode = 5 ∨ mode = 6) ∧ f.testBit 22 = decide (1 ≤ mode ∧ mode ≤ 4 ∨ mode = 7) ∧
       f.testBit 20 = decide (m.shock ≠ 0) ∧ f / 2 ^ 8 % 256 = d.plat.fld (Reg.ARM_WEDGE n) Fld.ARM_WEDGE_WNUM % 256 ∧
       f % 256 = crc8 (beBytes 19 (f / 256)) ∧ (e.act n).arm.sdlSeq = (m.sdlSeq + 1) % 16 ∧
       (late = true → e.plat.bit (Reg.ARM_EVT n) Fld.ARM_EVT_SDL_LATE = true) ∧ d.plat.keeps e.plat [Reg.ARM_EVT n])) ∧
     (¬ live → Ends (.sdlFrameSend n late) ⟨q, d⟩ (fun e => e = d) ∧ Ends (.sdlStatusReceive n w) ⟨q, d⟩ (fun e => e = d)) ∧
     (live → good 6 → Ends (.sdlStatusReceive n w) ⟨q, d⟩ (fun e =>
       e.plat.fld (Reg.ARM_SDL_STAT n) Fld.ARM_SDL_STAT_WORD = w.toNat / 256 ∧ (e.act n).arm.shocked = w.getLsbD 23 ∧
       d.plat.keeps e.plat [Reg.ARM_SDL_STAT n])) ∧
     (live → ¬ good 6 → Ends (.sdlStatusReceive n w) ⟨q, d⟩ (fun e =>
       e.plat.fld (Reg.ARM_SDL_STAT n) Fld.ARM_SDL_STAT_BAD =
         min 0xFF (d.plat.fld (Reg.ARM_SDL_STAT n) Fld.ARM_SDL_STAT_BAD + 1) ∧ (e.act n).arm = m ∧
       d.plat.keeps e.plat [Reg.ARM_SDL_STAT n])) ∧
     (spun → Ends (.splFrameSend per) ⟨q, d⟩ (fun e =>
       e.spl.frame / 2 ^ 60 = 3 ∧ e.spl.frame / 2 ^ 56 % 16 = d.spl.seq % 16 ∧
       e.spl.frame / 2 ^ 52 % 16 = (if sm < 4 then sm else 0) ∧ e.spl.frame / 2 ^ 32 % 2 ^ 16 = bitsOf 16 dem ∧
       e.plat.fld Reg.SPL_STAT Fld.SPL_STAT_DEMAND = bitsOf 16 dem ∧ e.spl.seq = (d.spl.seq + 1) % 16 ∧
       e.spl.integ = (if sm = 2 then d.spl.integ + err else d.spl.integ) ∧ d.plat.keeps e.plat [Reg.SPL_STAT])) ∧
     (spun → good 7 → Ends (.splStatusReceive w) ⟨q, d⟩ (fun e =>
       e.plat.fld Reg.SPL_STAT Fld.SPL_STAT_FLAGS = w.toNat / 2 ^ 16 % 256 ∧
       e.plat.fld Reg.SPL_SPEED Fld.SPL_SPEED_SPEED = w.toNat / 2 ^ 8 % 256 ∧
       (w.getLsbD 23 = true → e.plat.bit (Reg.ARM_EVT 0) Fld.ARM_EVT_SPL = true) ∧
       d.plat.keeps e.plat [Reg.SPL_STAT, Reg.SPL_SPEED, Reg.ARM_EVT 0])) ∧
     (spun → ¬ good 7 → Ends (.splStatusReceive w) ⟨q, d⟩ (fun e =>
       e.plat.fld Reg.SPL_STAT Fld.SPL_STAT_BAD = min 0xFF (d.plat.fld Reg.SPL_STAT Fld.SPL_STAT_BAD + 1) ∧
       e.plat.bit (Reg.ARM_EVT 0) Fld.ARM_EVT_SPL = true ∧ d.plat.keeps e.plat [Reg.SPL_STAT, Reg.ARM_EVT 0])) ∧
     (d.powered Reg.SPL_CTRL → Ends (.splModeWrite c v) ⟨q, d⟩ (fun e =>
       e.plat.fld Reg.SPL_CTRL Fld.SPL_CTRL_MODE = Fld.get Fld.SPL_CTRL_MODE v ∧
       e.plat.fld Reg.SPL_CTRL Fld.SPL_CTRL_EN = Fld.get Fld.SPL_CTRL_EN v ∧
       e.plat.fld Reg.SPL_CTRL Fld.SPL_CTRL_START_DEM = Fld.get Fld.SPL_CTRL_START_DEM v ∧
       e.spl = { d.spl with integ := 0 } ∧ d.plat.keeps e.plat [Reg.SPL_CTRL])))

/-- R232, R233, R234, R238, R240, R241, R248, R249: the demodulation of a servo field, feed-forward records, the inner loop
and the write inhibit at a wedge. The field's arrival times are operands (log entry 57); the previous position is the last
one formed (log entry 60). -/
def Obligations.ServoFieldsLoopsAndInhibit : Prop :=
  (∀ (q : List Instr) (d : Dev) (n : ActNo) (h : HeadNo) (wid diff gray : Nat) (place ta1 tb1 ta2 tb2 : Int),
     let m : Arm := (d.act n).arm
     let cfg : Nat := Reg.SVD_CFG n h
     let rdr : Nat := d.plat.fld cfg Fld.SVD_CFG_RDR
     let g : Nat := grayDecode gray
     let y : Int := 4096 * g + clampInt (-2048) 2047 (Int.tdiv
       ((Int.tdiv ((ta1 - tb1) + (ta2 - tb2)) 2 - d.plat.sfld (Reg.SVD_CAL n h) Fld.SVD_CAL_D0) *
         d.plat.fld (Reg.SVD_CAL n h) Fld.SVD_CAL_KPES) 1024)
     let mode : Nat := d.plat.fld (Reg.ARM_STATUS n) Fld.ARM_STATUS_MODE
     let gate : Nat := d.plat.fld (Reg.ARM_LOSS n) Fld.ARM_LOSS_GATE
     let sam : Prop := rdr < 3 ∧ d.plat.bit (Reg.RFE_RDR_CFG n h rdr) Fld.RFE_RDR_CFG_ON = true ∧
       diff ≤ min 4 (d.plat.fld cfg Fld.SVD_CFG_SAM_THR) ∧ place.natAbs ≤ 8
     let record (found : Bool) (v : Int) (last : Option Int) (e : Dev) : Prop :=
       (e.act n).arm.demods.find? (fun x => x.1 == h.val) = some (h.val, ⟨found, v⟩) ∧
       SMap.get (fun _ => none) (e.act n).arm.lastY h = last ∧ e.plat = d.plat
     let prev : Option Int := SMap.get (fun _ => none) m.lastY h
     let near (y0 : Int) : Prop := ((g : Int) - (y0 + (if mode = 2 then m.v else 0) + 2048) / 4096).natAbs ≤ gate
     let i : Instr := .servoFieldDemod n h wid diff place gray ta1 tb1 ta2 tb2
     (d.plat.bit cfg Fld.SVD_CFG_EN = true → d.plat.on (4 * n) = true → d.plat.on (4 * n + 2) = true →
       (sam → wid = (d.act n).gate.wedge → (∀ y0, prev = some y0 → near y0) → Ends i ⟨q, d⟩ (record true y (some y))) ∧
       (∀ y0, sam → wid = (d.act n).gate.wedge → prev = some y0 → ¬ near y0 → Ends i ⟨q, d⟩ (record false y (some y))) ∧
       (¬ (sam ∧ wid = (d.act n).gate.wedge) → Ends i ⟨q, d⟩ (record false 0 prev))) ∧
     (d.plat.bit cfg Fld.SVD_CFG_EN = false → Ends i ⟨q, d⟩ (fun e => e = d)) ∧
     (let a : Ac := d.acWith n (d.serving n)
      let next : Nat := if a.g.wedge + 1 < a.img.wedges then a.g.wedge + 1 else 0
      (a.busy = true → a.q.pos.fed = true → Ends (.ffRecordQueue n) ⟨q, d⟩ (fun e =>
        (e.act n).arm = { m with ffs := m.ffs ++ [⟨next, (heads8 a.headset).map (fun x => (x, a.img.ffwd x next))⟩] } ∧
        e.plat = d.plat)) ∧
      (a.busy = false ∨ a.q.pos.fed = false → Ends (.ffRecordQueue n) ⟨q, d⟩ (fun e => e = d)))) ∧
  (∀ (q : List Instr) (d : Dev) (n : ActNo) (w : WedgeNo) (period : Nat),
     let m : Arm := (d.act n).arm
     let a : Ac := d.acWith n (d.serving n)
     let mode : Nat := d.plat.fld (Reg.ARM_STATUS n) Fld.ARM_STATUS_MODE
     let found (h : Nat) : Prop := ∃ y, (h, ⟨true, y⟩) ∈ m.demods
     let vmax : Int := a.bankW 22
     let v : Int := if mode = 2 then clampInt (-vmax) vmax (m.v + m.a) else m.v
     d.plat.on (4 * n.val + 3) = true → 2 ≤ mode → mode ≤ 4 → m.cmd = none → m.inbox = [] →
       m.wedges % 2 ^ d.plat.fld (Reg.ARM_CTRL n) Fld.ARM_CTRL_OUTER ≠ 0 → Ends (.wedgeEvaluation n w period) ⟨q, d⟩ (fun e =>
         (e.act n).arm.v = v ∧ (e.act n).arm.p = (if mode = 2 then m.p + v else m.p) ∧ (e.act n).arm.a = m.a ∧
         (∀ h : HeadNo, a.active.testBit h = true → mode ≠ 4 ∨ ¬ found h →
           (e.plat.fld (Reg.ARM_STATUS n) Fld.ARM_STATUS_INHIBIT).testBit h = true) ∧
         ((∀ h : HeadNo, a.active.testBit h = true → ¬ found h) →
           (e.act n).arm.em = none ∧ (e.act n).arm.uv = m.uv ∧ (e.act n).arm.um = m.um) ∧
         ((∃ h : HeadNo, a.active.testBit h = true ∧ found h) →
           (e.act n).arm.em.isSome = true ∧ (e.act n).arm.uv.natAbs ≤ bankLimit (a.bankW 19) 32767)))

/-- The frame of every command of the table, by the blocks its row acts on: what Instr.parts does not name is unchanged, and
so is the queue. -/
def Obligations.PartsFrame : Prop :=
  ∀ (i : Instr) (s t : State), exec i s = .next t → t.pending = s.pending ∧ ∀ x : Part, x ∉ i.parts s.dev → x.same s.dev t.dev

/-- The step of the block: the front command is run with the rest of the queue. That an empty queue advances one PLINTH
clock rests on log entry 3 (the model's choice). -/
def Obligations.StepRunsFrontCommand : Prop :=
  ∀ (i : Instr) (q : List Instr) (d : Dev), step ⟨i :: q, d⟩ = exec i ⟨q, d⟩ ∧ step ⟨[], d⟩ = .next ⟨[], d.tick 40⟩

/-- Every memory of the machine stays in canonical form over every step: control SRAM, mailbox, buffer DRAM, Frieze log,
maquette stores, the Keep's cells. -/
def Obligations.StepKeepsMemoriesCanonical : Prop :=
  ∀ s t : State, step s = .next t → s.MemoriesCanonical → t.MemoriesCanonical

/-- The register file, the queues, the stage cache's lines and the track buffers stay in canonical form over every step. -/
def Obligations.StepKeepsTablesCanonical : Prop :=
  ∀ s t : State, step s = .next t → s.TablesCanonical → t.TablesCanonical

/-- R14, R80, R460, R471, R475, R396, R289: the state after reset where the spec gives it, and that it meets both
invariants. -/
def Obligations.ResetHoldsTheSpecsValues : Prop :=
  let p : Plat := State.reset.dev.plat
  State.reset.MemoriesCanonical ∧ State.reset.TablesCanonical ∧ State.reset.pending = [] ∧
  (∀ t : TagNo, p.tagState t = 0) ∧ p.freeTags = 8192 ∧
  (∀ u : UnitNo, p.fld (Reg.MGT_US u) Fld.MGT_US_REQ = 1) ∧
  p.bit Reg.HIF_CFG Fld.HIF_CFG_CFG_READY = false ∧ p.bit Reg.HIF_LINK_CFG Fld.HIF_LINK_CFG_LTSSM_A = false ∧
  (∀ n : ActNo, State.reset.dev.cmd.posts n = []) ∧ (∀ k : SlotNo, p.slotLoaded k = false) ∧ p.time = 0 ∧
  (∀ n k, State.reset.dev.hif.sq n k = none ∧ State.reset.dev.hif.cq n k = none)
end

