-- ==== Sys2Proof/Laws/Fields.lean ====
section
/-! SUPPORT. The laws of register fields: what a field reads after it, or another field, has been put. -/

namespace Sys2Proof.Machine

theorem fld_get_testBit (f : Fld) (w : Word) (i : Nat) :
    (Fld.get f w).testBit i = (decide (i < f.w) && w.getLsbD (f.lo + i)) := by
  simp [Fld.get, Nat.testBit_mod_two_pow, Nat.testBit_shiftRight, BitVec.getLsbD]

theorem fld_mask_getLsbD (f : Fld) (i : Nat) (h : i < 32) :
    f.mask.getLsbD i = (decide (f.lo ≤ i) && decide (i - f.lo < f.w)) := by
  simp only [Fld.mask, BitVec.getLsbD_ofNat, Nat.testBit_shiftLeft, Nat.testBit_two_pow_sub_one, h, decide_true, Bool.true_and]

theorem fld_put_getLsbD (f : Fld) (w : Word) (v i : Nat) (h : i < 32) :
    (Fld.put f w v).getLsbD i = if f.lo ≤ i ∧ i - f.lo < f.w then v.testBit (i - f.lo) else w.getLsbD i := by
  simp only [Fld.put, BitVec.getLsbD_or, BitVec.getLsbD_and, BitVec.getLsbD_not, fld_mask_getLsbD f i h, h,
    BitVec.getLsbD_ofNat, Nat.testBit_shiftLeft]
  by_cases a : f.lo ≤ i <;> by_cases b : i - f.lo < f.w <;> simp [a, b]

/-- A field reads what was put into it, modulo its width. -/
theorem fld_get_put_same (f : Fld) (w : Word) (v : Nat) (h : f.lo + f.w ≤ 32) :
    Fld.get f (Fld.put f w v) = v % 2 ^ f.w := by
  apply Nat.eq_of_testBit_eq
  intro i
  rw [fld_get_testBit, Nat.testBit_mod_two_pow]
  by_cases a : i < f.w
  · rw [fld_put_getLsbD f w v _ (by omega)]
    simp [a]
  · simp [a]

/-- A field keeps its value when a field that shares no bit with it is put. -/
theorem fld_get_put_ne (f g : Fld) (w : Word) (v : Nat) (h : f.lo + f.w ≤ g.lo ∨ g.lo + g.w ≤ f.lo) :
    Fld.get g (Fld.put f w v) = Fld.get g w := by
  apply Nat.eq_of_testBit_eq
  intro i
  rw [fld_get_testBit, fld_get_testBit]
  by_cases a : i < g.w
  · by_cases b : g.lo + i < 32
    · rw [fld_put_getLsbD f w v _ b, if_neg (by omega)]
    · rw [BitVec.getLsbD_of_ge _ _ (by omega), BitVec.getLsbD_of_ge _ _ (by omega)]
  · simp [a]

/-- A field is below two to the power of its width. -/
theorem fld_get_lt (f : Fld) (w : Word) : Fld.get f w < 2 ^ f.w := Nat.mod_lt _ (Nat.two_pow_pos _)

end Sys2Proof.Machine
end

