-- ==== Sys2Proof/Laws/Sparse.lean ====
section
/-! SUPPORT. The laws of the sparse tables: a read after a write, and the canonical form is kept. -/

namespace Sys2Proof.Machine

theorem smap_get_set_same {α : Type} [DecidableEq α] (d : Nat → α) (m : SMap α) (k : Nat) (v : α) :
    SMap.get d (SMap.set d m k v) k = v := by
  induction m with
  | nil => unfold SMap.set; split <;> simp_all [SMap.get]
  | cons p m ih =>
    unfold SMap.set
    split
    · split
      · exact ih
      · next h => simp [SMap.get, h, ih]
    · split
      · simp [SMap.get]
      · split
        · simp [SMap.get]
        · next h => simp [SMap.get, h, ih]

theorem smap_get_set_ne {α : Type} [DecidableEq α] (d : Nat → α) (m : SMap α) (k j : Nat) (v : α) (h : j ≠ k) :
    SMap.get d (SMap.set d m k v) j = SMap.get d m j := by
  induction m with
  | nil => unfold SMap.set; split <;> simp [SMap.get, h]
  | cons p m ih =>
    unfold SMap.set
    split
    · split
      · next hk => rw [ih]; simp [SMap.get, ← hk, h]
      · simp [SMap.get, ih]
    · split
      · simp [SMap.get, h]
      · split
        · next hk => simp [SMap.get, ← hk, h]
        · simp [SMap.get, ih]

theorem smap_get_set {α : Type} [DecidableEq α] (d : Nat → α) (m : SMap α) (k j : Nat) (v : α) :
    SMap.get d (SMap.set d m k v) j = if j = k then v else SMap.get d m j := by
  by_cases h : j = k
  · subst h; simp [smap_get_set_same]
  · simp [h, smap_get_set_ne]

theorem smap_mem_set {α : Type} [DecidableEq α] (d : Nat → α) (m : SMap α) (k : Nat) (v : α) (p : Nat × α)
    (h : p ∈ SMap.set d m k v) : p ∈ m ∨ (p = (k, v) ∧ v ≠ d k) := by
  induction m with
  | nil =>
    unfold SMap.set at h
    split at h <;> simp_all
  | cons q m ih =>
    unfold SMap.set at h
    split at h
    · split at h
      · rcases ih h with h | h
        · exact .inl (List.mem_cons_of_mem _ h)
        · exact .inr h
      · rcases List.mem_cons.1 h with h | h
        · exact .inl (h ▸ List.mem_cons_self)
        · rcases ih h with h | h
          · exact .inl (List.mem_cons_of_mem _ h)
          · exact .inr h
    · next hv =>
      split at h
      · rcases List.mem_cons.1 h with h | h
        · exact .inr ⟨h, hv⟩
        · exact .inl h
      · split at h
        · rcases List.mem_cons.1 h with h | h
          · exact .inr ⟨h, hv⟩
          · exact .inl (List.mem_cons_of_mem _ h)
        · rcases List.mem_cons.1 h with h | h
          · exact .inl (h ▸ List.mem_cons_self)
          · rcases ih h with h | h
            · exact .inl (List.mem_cons_of_mem _ h)
            · exact .inr h

/-- Every write keeps the canonical form. -/
theorem smap_wf_set {α : Type} [DecidableEq α] (d : Nat → α) (m : SMap α) (k : Nat) (v : α) (h : SMap.wf d m) :
    SMap.wf d (SMap.set d m k v) := by
  refine ⟨?_, ?_⟩
  · have hp := h.1
    clear h
    induction m with
    | nil => unfold SMap.set; split <;> simp
    | cons q m ih =>
      have hq := List.pairwise_cons.1 hp
      unfold SMap.set
      split
      · next hv =>
        split
        · exact ih hq.2
        · refine List.pairwise_cons.2 ⟨fun r hr => ?_, ih hq.2⟩
          rcases smap_mem_set d m k v r hr with hr | hr
          · exact hq.1 r hr
          · exact absurd hv hr.2
      · split
        · next hk =>
          refine List.pairwise_cons.2 ⟨fun r hr => ?_, hp⟩
          rcases List.mem_cons.1 hr with hr | hr
          · subst hr; exact hk
          · exact Nat.lt_trans hk (hq.1 r hr)
        · split
          · next hk =>
            refine List.pairwise_cons.2 ⟨fun r hr => ?_, hq.2⟩
            subst hk; exact hq.1 r hr
          · next h1 h2 =>
            refine List.pairwise_cons.2 ⟨fun r hr => ?_, ih hq.2⟩
            rcases smap_mem_set d m k v r hr with hr | hr
            · exact hq.1 r hr
            · rw [hr.1]; show q.1 < k; omega
  · intro p hp
    rcases smap_mem_set d m k v p hp with hp | hp
    · exact h.2 p hp
    · rw [hp.1]; exact hp.2

/-- Storing bytes keeps the canonical form. -/
theorem smap_wf_store (d : Nat → Byte) (bs : List Byte) :
    ∀ (m : SMap Byte) (k : Nat), SMap.wf d m → SMap.wf d (SMap.store d m k bs) := by
  induction bs with
  | nil => intro m k h; exact h
  | cons b bs ih => intro m k h; exact ih _ _ (smap_wf_set d m k b h)

/-- A store leaves every byte outside the stored ones alone. -/
theorem smap_get_store_outside (d : Nat → Byte) (bs : List Byte) :
    ∀ (m : SMap Byte) (k j : Nat), (j < k ∨ k + bs.length ≤ j) →
      SMap.get d (SMap.store d m k bs) j = SMap.get d m j := by
  induction bs with
  | nil => intro m k j _; rfl
  | cons b bs ih =>
    intro m k j h
    simp only [List.length_cons] at h
    rw [SMap.store, ih _ _ _ (by omega), smap_get_set_ne _ _ _ _ _ (by omega)]

end Sys2Proof.Machine
end

