-- ==== Sys2Proof/Laws/State.lean ====
section
/-! SUPPORT. The small laws of State: what each field reads after each update of a register, a part or an actuator, so that no
proof unfolds a record update. -/

namespace Sys2Proof.Machine

/-! ## Registers -/

@[simp] theorem plat_rd_wr_same (p : Plat) (a : Nat) (w : Word) : (p.wr a w).rd a = w := by
  simp [Plat.rd, Plat.wr, smap_get_set_same]

theorem plat_rd_wr_ne (p : Plat) (a b : Nat) (w : Word) (h : b ≠ a) : (p.wr a w).rd b = p.rd b := by
  simp [Plat.rd, Plat.wr, smap_get_set_ne _ _ _ _ _ h]

theorem plat_fld_setFld_same (p : Plat) (a : Nat) (f : Fld) (v : Nat) (h : f.lo + f.w ≤ 32) :
    (p.setFld a f v).fld a f = v % 2 ^ f.w := by
  simp [Plat.fld, Plat.setFld, fld_get_put_same f _ v h]

theorem plat_fld_setFld_field (p : Plat) (a : Nat) (f g : Fld) (v : Nat) (h : f.lo + f.w ≤ g.lo ∨ g.lo + g.w ≤ f.lo) :
    (p.setFld a f v).fld a g = p.fld a g := by
  simp [Plat.fld, Plat.setFld, fld_get_put_ne f g _ v h]

theorem plat_rd_setFld_ne (p : Plat) (a b : Nat) (f : Fld) (v : Nat) (h : b ≠ a) : (p.setFld a f v).rd b = p.rd b :=
  plat_rd_wr_ne p a b _ h

theorem plat_fld_setFld_ne (p : Plat) (a b : Nat) (f g : Fld) (v : Nat) (h : b ≠ a) :
    (p.setFld a f v).fld b g = p.fld b g := by
  simp [Plat.fld, plat_rd_setFld_ne p a b f v h]

theorem plat_bit_setFlag_same (p : Plat) (a : Nat) (f : Fld) (h : f.lo + f.w ≤ 32) (hw : f.w = 1) :
    (p.setFlag a f).bit a f = true := by
  simp [Plat.bit, Plat.setFlag, plat_fld_setFld_same p a f 1 h, hw]

theorem plat_bit_putBit_same (p : Plat) (a : Nat) (f : Fld) (b : Bool) (h : f.lo + f.w ≤ 32) (hw : f.w = 1) :
    (p.putBit a f b).bit a f = b := by
  cases b <;> simp [Plat.bit, Plat.putBit, plat_fld_setFld_same p a f _ h, hw]

@[simp] theorem plat_wr_hold (p : Plat) (a : Nat) (w : Word) : (p.wr a w).hold = p.hold := rfl
@[simp] theorem plat_wr_cap (p : Plat) (a : Nat) (w : Word) : (p.wr a w).cap = p.cap := rfl
@[simp] theorem plat_wr_resp (p : Plat) (a : Nat) (w : Word) : (p.wr a w).resp = p.resp := rfl
@[simp] theorem plat_wr_time (p : Plat) (a : Nat) (w : Word) : (p.wr a w).time = p.time := rfl
@[simp] theorem plat_wr_frz (p : Plat) (a : Nat) (w : Word) : (p.wr a w).frz = p.frz := rfl
@[simp] theorem plat_wr_trc (p : Plat) (a : Nat) (w : Word) : (p.wr a w).trc = p.trc := rfl
@[simp] theorem plat_wr_lostUnit (p : Plat) (a : Nat) (w : Word) : (p.wr a w).lostUnit = p.lostUnit := rfl
@[simp] theorem plat_wr_standby (p : Plat) (a : Nat) (w : Word) : (p.wr a w).standby = p.standby := rfl
@[simp] theorem plat_wr_stgShown (p : Plat) (a : Nat) (w : Word) : (p.wr a w).stgShown = p.stgShown := rfl
@[simp] theorem plat_wr_effTime (p : Plat) (a : Nat) (w : Word) : (p.wr a w).effTime = p.effTime := rfl
@[simp] theorem plat_wr_free (p : Plat) (a : Nat) (w : Word) : (p.wr a w).free = p.free := rfl

@[simp] theorem plat_setFld_hold (p : Plat) (a : Nat) (f : Fld) (v : Nat) : (p.setFld a f v).hold = p.hold := rfl
@[simp] theorem plat_setFld_cap (p : Plat) (a : Nat) (f : Fld) (v : Nat) : (p.setFld a f v).cap = p.cap := rfl
@[simp] theorem plat_setFld_resp (p : Plat) (a : Nat) (f : Fld) (v : Nat) : (p.setFld a f v).resp = p.resp := rfl
@[simp] theorem plat_setFld_time (p : Plat) (a : Nat) (f : Fld) (v : Nat) : (p.setFld a f v).time = p.time := rfl
@[simp] theorem plat_setFld_frz (p : Plat) (a : Nat) (f : Fld) (v : Nat) : (p.setFld a f v).frz = p.frz := rfl
@[simp] theorem plat_setFld_trc (p : Plat) (a : Nat) (f : Fld) (v : Nat) : (p.setFld a f v).trc = p.trc := rfl
@[simp] theorem plat_setFld_lostUnit (p : Plat) (a : Nat) (f : Fld) (v : Nat) : (p.setFld a f v).lostUnit = p.lostUnit := rfl
@[simp] theorem plat_setFld_standby (p : Plat) (a : Nat) (f : Fld) (v : Nat) : (p.setFld a f v).standby = p.standby := rfl
@[simp] theorem plat_setFld_stgShown (p : Plat) (a : Nat) (f : Fld) (v : Nat) : (p.setFld a f v).stgShown = p.stgShown := rfl
@[simp] theorem plat_setFld_effTime (p : Plat) (a : Nat) (f : Fld) (v : Nat) : (p.setFld a f v).effTime = p.effTime := rfl
@[simp] theorem plat_setFld_free (p : Plat) (a : Nat) (f : Fld) (v : Nat) : (p.setFld a f v).free = p.free := rfl

@[simp] theorem plat_setFlag_hold (p : Plat) (a : Nat) (f : Fld) : (p.setFlag a f).hold = p.hold := rfl
@[simp] theorem plat_setFlag_cap (p : Plat) (a : Nat) (f : Fld) : (p.setFlag a f).cap = p.cap := rfl
@[simp] theorem plat_setFlag_resp (p : Plat) (a : Nat) (f : Fld) : (p.setFlag a f).resp = p.resp := rfl
@[simp] theorem plat_setFlag_time (p : Plat) (a : Nat) (f : Fld) : (p.setFlag a f).time = p.time := rfl
@[simp] theorem plat_setFlag_frz (p : Plat) (a : Nat) (f : Fld) : (p.setFlag a f).frz = p.frz := rfl
@[simp] theorem plat_setFlag_trc (p : Plat) (a : Nat) (f : Fld) : (p.setFlag a f).trc = p.trc := rfl
@[simp] theorem plat_setFlag_lostUnit (p : Plat) (a : Nat) (f : Fld) : (p.setFlag a f).lostUnit = p.lostUnit := rfl
@[simp] theorem plat_setFlag_standby (p : Plat) (a : Nat) (f : Fld) : (p.setFlag a f).standby = p.standby := rfl
@[simp] theorem plat_setFlag_stgShown (p : Plat) (a : Nat) (f : Fld) : (p.setFlag a f).stgShown = p.stgShown := rfl
@[simp] theorem plat_setFlag_effTime (p : Plat) (a : Nat) (f : Fld) : (p.setFlag a f).effTime = p.effTime := rfl
@[simp] theorem plat_setFlag_free (p : Plat) (a : Nat) (f : Fld) : (p.setFlag a f).free = p.free := rfl

@[simp] theorem plat_putBit_hold (p : Plat) (a : Nat) (f : Fld) (b : Bool) : (p.putBit a f b).hold = p.hold := rfl
@[simp] theorem plat_putBit_cap (p : Plat) (a : Nat) (f : Fld) (b : Bool) : (p.putBit a f b).cap = p.cap := rfl
@[simp] theorem plat_putBit_resp (p : Plat) (a : Nat) (f : Fld) (b : Bool) : (p.putBit a f b).resp = p.resp := rfl
@[simp] theorem plat_putBit_time (p : Plat) (a : Nat) (f : Fld) (b : Bool) : (p.putBit a f b).time = p.time := rfl
@[simp] theorem plat_putBit_frz (p : Plat) (a : Nat) (f : Fld) (b : Bool) : (p.putBit a f b).frz = p.frz := rfl
@[simp] theorem plat_putBit_trc (p : Plat) (a : Nat) (f : Fld) (b : Bool) : (p.putBit a f b).trc = p.trc := rfl
@[simp] theorem plat_putBit_lostUnit (p : Plat) (a : Nat) (f : Fld) (b : Bool) : (p.putBit a f b).lostUnit = p.lostUnit := rfl
@[simp] theorem plat_putBit_standby (p : Plat) (a : Nat) (f : Fld) (b : Bool) : (p.putBit a f b).standby = p.standby := rfl
@[simp] theorem plat_putBit_stgShown (p : Plat) (a : Nat) (f : Fld) (b : Bool) : (p.putBit a f b).stgShown = p.stgShown := rfl
@[simp] theorem plat_putBit_effTime (p : Plat) (a : Nat) (f : Fld) (b : Bool) : (p.putBit a f b).effTime = p.effTime := rfl
@[simp] theorem plat_putBit_free (p : Plat) (a : Nat) (f : Fld) (b : Bool) : (p.putBit a f b).free = p.free := rfl

@[simp] theorem plat_setOn_hold (p : Plat) (d : Nat) (b : Bool) : (p.setOn d b).hold = p.hold := by
  unfold Plat.setOn; split <;> rfl
@[simp] theorem plat_setOn_cap (p : Plat) (d : Nat) (b : Bool) : (p.setOn d b).cap = p.cap := by
  unfold Plat.setOn; split <;> rfl
@[simp] theorem plat_setOn_resp (p : Plat) (d : Nat) (b : Bool) : (p.setOn d b).resp = p.resp := by
  unfold Plat.setOn; split <;> rfl
@[simp] theorem plat_setOn_time (p : Plat) (d : Nat) (b : Bool) : (p.setOn d b).time = p.time := by
  unfold Plat.setOn; split <;> rfl
@[simp] theorem plat_setOn_frz (p : Plat) (d : Nat) (b : Bool) : (p.setOn d b).frz = p.frz := by
  unfold Plat.setOn; split <;> rfl
@[simp] theorem plat_setOn_trc (p : Plat) (d : Nat) (b : Bool) : (p.setOn d b).trc = p.trc := by
  unfold Plat.setOn; split <;> rfl
@[simp] theorem plat_setOn_lostUnit (p : Plat) (d : Nat) (b : Bool) : (p.setOn d b).lostUnit = p.lostUnit := by
  unfold Plat.setOn; split <;> rfl
@[simp] theorem plat_setOn_standby (p : Plat) (d : Nat) (b : Bool) : (p.setOn d b).standby = p.standby := by
  unfold Plat.setOn; split <;> rfl
@[simp] theorem plat_setOn_stgShown (p : Plat) (d : Nat) (b : Bool) : (p.setOn d b).stgShown = p.stgShown := by
  unfold Plat.setOn; split <;> rfl
@[simp] theorem plat_setOn_effTime (p : Plat) (d : Nat) (b : Bool) : (p.setOn d b).effTime = p.effTime := by
  unfold Plat.setOn; split <;> rfl
@[simp] theorem plat_setOn_free (p : Plat) (d : Nat) (b : Bool) : (p.setOn d b).free = p.free := by
  unfold Plat.setOn; split <;> rfl

@[simp] theorem plat_fwWrite_hold (p : Plat) (a : Nat) (v : Word) : (p.fwWrite a v).hold = p.hold := by
  unfold Plat.fwWrite; split <;> rfl
@[simp] theorem plat_fwWrite_cap (p : Plat) (a : Nat) (v : Word) : (p.fwWrite a v).cap = p.cap := by
  unfold Plat.fwWrite; split <;> rfl
@[simp] theorem plat_fwWrite_resp (p : Plat) (a : Nat) (v : Word) : (p.fwWrite a v).resp = p.resp := by
  unfold Plat.fwWrite; split <;> rfl
@[simp] theorem plat_fwWrite_time (p : Plat) (a : Nat) (v : Word) : (p.fwWrite a v).time = p.time := by
  unfold Plat.fwWrite; split <;> rfl
@[simp] theorem plat_fwWrite_frz (p : Plat) (a : Nat) (v : Word) : (p.fwWrite a v).frz = p.frz := by
  unfold Plat.fwWrite; split <;> rfl
@[simp] theorem plat_fwWrite_trc (p : Plat) (a : Nat) (v : Word) : (p.fwWrite a v).trc = p.trc := by
  unfold Plat.fwWrite; split <;> rfl
@[simp] theorem plat_fwWrite_lostUnit (p : Plat) (a : Nat) (v : Word) : (p.fwWrite a v).lostUnit = p.lostUnit := by
  unfold Plat.fwWrite; split <;> rfl
@[simp] theorem plat_fwWrite_standby (p : Plat) (a : Nat) (v : Word) : (p.fwWrite a v).standby = p.standby := by
  unfold Plat.fwWrite; split <;> rfl
@[simp] theorem plat_fwWrite_stgShown (p : Plat) (a : Nat) (v : Word) : (p.fwWrite a v).stgShown = p.stgShown := by
  unfold Plat.fwWrite; split <;> rfl
@[simp] theorem plat_fwWrite_effTime (p : Plat) (a : Nat) (v : Word) : (p.fwWrite a v).effTime = p.effTime := by
  unfold Plat.fwWrite; split <;> rfl
@[simp] theorem plat_fwWrite_free (p : Plat) (a : Nat) (v : Word) : (p.fwWrite a v).free = p.free := by
  unfold Plat.fwWrite; split <;> rfl

@[simp] theorem plat_setFlagIf_true (p : Plat) (a : Nat) (f : Fld) : p.setFlagIf true a f = p.setFlag a f := rfl
@[simp] theorem plat_setFlagIf_false (p : Plat) (a : Nat) (f : Fld) : p.setFlagIf false a f = p := rfl

/-! ## Lifts: the parts an operation is on, and the parts it leaves alone -/

@[simp] theorem dev_onPlat_plat (d : Dev) (f : Plat → Plat) : (d.onPlat f).plat = f d.plat := rfl
@[simp] theorem dev_onPlat_sys (d : Dev) (f : Plat → Plat) : (d.onPlat f).sys = d.sys := rfl
@[simp] theorem dev_onPlat_thm (d : Dev) (f : Plat → Plat) : (d.onPlat f).thm = d.thm := rfl
@[simp] theorem dev_onPlat_mgt (d : Dev) (f : Plat → Plat) : (d.onPlat f).mgt = d.mgt := rfl
@[simp] theorem dev_onPlat_buf (d : Dev) (f : Plat → Plat) : (d.onPlat f).buf = d.buf := rfl
@[simp] theorem dev_onPlat_sec (d : Dev) (f : Plat → Plat) : (d.onPlat f).sec = d.sec := rfl
@[simp] theorem dev_onPlat_bcl (d : Dev) (f : Plat → Plat) : (d.onPlat f).bcl = d.bcl := rfl
@[simp] theorem dev_onPlat_hif (d : Dev) (f : Plat → Plat) : (d.onPlat f).hif = d.hif := rfl
@[simp] theorem dev_onPlat_cmd (d : Dev) (f : Plat → Plat) : (d.onPlat f).cmd = d.cmd := rfl
@[simp] theorem dev_onPlat_keep (d : Dev) (f : Plat → Plat) : (d.onPlat f).keep = d.keep := rfl
@[simp] theorem dev_onPlat_spl (d : Dev) (f : Plat → Plat) : (d.onPlat f).spl = d.spl := rfl
@[simp] theorem dev_onPlat_act0 (d : Dev) (f : Plat → Plat) : (d.onPlat f).act0 = d.act0 := rfl
@[simp] theorem dev_onPlat_act1 (d : Dev) (f : Plat → Plat) : (d.onPlat f).act1 = d.act1 := rfl
@[simp] theorem dev_onPlat_act2 (d : Dev) (f : Plat → Plat) : (d.onPlat f).act2 = d.act2 := rfl
@[simp] theorem dev_onPlat_act3 (d : Dev) (f : Plat → Plat) : (d.onPlat f).act3 = d.act3 := rfl
@[simp] theorem dev_onPlat_tsq0 (d : Dev) (f : Plat → Plat) : (d.onPlat f).tsq0 = d.tsq0 := rfl
@[simp] theorem dev_onPlat_tsq1 (d : Dev) (f : Plat → Plat) : (d.onPlat f).tsq1 = d.tsq1 := rfl
@[simp] theorem dev_onPlat_tsq2 (d : Dev) (f : Plat → Plat) : (d.onPlat f).tsq2 = d.tsq2 := rfl
@[simp] theorem dev_onPlat_tsq3 (d : Dev) (f : Plat → Plat) : (d.onPlat f).tsq3 = d.tsq3 := rfl
@[simp] theorem dev_onPlat_tsq4 (d : Dev) (f : Plat → Plat) : (d.onPlat f).tsq4 = d.tsq4 := rfl

@[simp] theorem dev_onSys_plat (d : Dev) (f : Plat → Sys → Plat × Sys) : (d.onSys f).plat = (f d.plat d.sys).1 := rfl
@[simp] theorem dev_onSys_sys (d : Dev) (f : Plat → Sys → Plat × Sys) : (d.onSys f).sys = (f d.plat d.sys).2 := rfl
@[simp] theorem dev_onSys_thm (d : Dev) (f : Plat → Sys → Plat × Sys) : (d.onSys f).thm = d.thm := rfl
@[simp] theorem dev_onSys_mgt (d : Dev) (f : Plat → Sys → Plat × Sys) : (d.onSys f).mgt = d.mgt := rfl
@[simp] theorem dev_onSys_buf (d : Dev) (f : Plat → Sys → Plat × Sys) : (d.onSys f).buf = d.buf := rfl
@[simp] theorem dev_onSys_sec (d : Dev) (f : Plat → Sys → Plat × Sys) : (d.onSys f).sec = d.sec := rfl
@[simp] theorem dev_onSys_bcl (d : Dev) (f : Plat → Sys → Plat × Sys) : (d.onSys f).bcl = d.bcl := rfl
@[simp] theorem dev_onSys_hif (d : Dev) (f : Plat → Sys → Plat × Sys) : (d.onSys f).hif = d.hif := rfl
@[simp] theorem dev_onSys_cmd (d : Dev) (f : Plat → Sys → Plat × Sys) : (d.onSys f).cmd = d.cmd := rfl
@[simp] theorem dev_onSys_keep (d : Dev) (f : Plat → Sys → Plat × Sys) : (d.onSys f).keep = d.keep := rfl
@[simp] theorem dev_onSys_spl (d : Dev) (f : Plat → Sys → Plat × Sys) : (d.onSys f).spl = d.spl := rfl
@[simp] theorem dev_onSys_act0 (d : Dev) (f : Plat → Sys → Plat × Sys) : (d.onSys f).act0 = d.act0 := rfl
@[simp] theorem dev_onSys_act1 (d : Dev) (f : Plat → Sys → Plat × Sys) : (d.onSys f).act1 = d.act1 := rfl
@[simp] theorem dev_onSys_act2 (d : Dev) (f : Plat → Sys → Plat × Sys) : (d.onSys f).act2 = d.act2 := rfl
@[simp] theorem dev_onSys_act3 (d : Dev) (f : Plat → Sys → Plat × Sys) : (d.onSys f).act3 = d.act3 := rfl
@[simp] theorem dev_onSys_tsq0 (d : Dev) (f : Plat → Sys → Plat × Sys) : (d.onSys f).tsq0 = d.tsq0 := rfl
@[simp] theorem dev_onSys_tsq1 (d : Dev) (f : Plat → Sys → Plat × Sys) : (d.onSys f).tsq1 = d.tsq1 := rfl
@[simp] theorem dev_onSys_tsq2 (d : Dev) (f : Plat → Sys → Plat × Sys) : (d.onSys f).tsq2 = d.tsq2 := rfl
@[simp] theorem dev_onSys_tsq3 (d : Dev) (f : Plat → Sys → Plat × Sys) : (d.onSys f).tsq3 = d.tsq3 := rfl
@[simp] theorem dev_onSys_tsq4 (d : Dev) (f : Plat → Sys → Plat × Sys) : (d.onSys f).tsq4 = d.tsq4 := rfl

@[simp] theorem dev_onThm_plat (d : Dev) (f : Plat → Thm → Plat × Thm) : (d.onThm f).plat = (f d.plat d.thm).1 := rfl
@[simp] theorem dev_onThm_sys (d : Dev) (f : Plat → Thm → Plat × Thm) : (d.onThm f).sys = d.sys := rfl
@[simp] theorem dev_onThm_thm (d : Dev) (f : Plat → Thm → Plat × Thm) : (d.onThm f).thm = (f d.plat d.thm).2 := rfl
@[simp] theorem dev_onThm_mgt (d : Dev) (f : Plat → Thm → Plat × Thm) : (d.onThm f).mgt = d.mgt := rfl
@[simp] theorem dev_onThm_buf (d : Dev) (f : Plat → Thm → Plat × Thm) : (d.onThm f).buf = d.buf := rfl
@[simp] theorem dev_onThm_sec (d : Dev) (f : Plat → Thm → Plat × Thm) : (d.onThm f).sec = d.sec := rfl
@[simp] theorem dev_onThm_bcl (d : Dev) (f : Plat → Thm → Plat × Thm) : (d.onThm f).bcl = d.bcl := rfl
@[simp] theorem dev_onThm_hif (d : Dev) (f : Plat → Thm → Plat × Thm) : (d.onThm f).hif = d.hif := rfl
@[simp] theorem dev_onThm_cmd (d : Dev) (f : Plat → Thm → Plat × Thm) : (d.onThm f).cmd = d.cmd := rfl
@[simp] theorem dev_onThm_keep (d : Dev) (f : Plat → Thm → Plat × Thm) : (d.onThm f).keep = d.keep := rfl
@[simp] theorem dev_onThm_spl (d : Dev) (f : Plat → Thm → Plat × Thm) : (d.onThm f).spl = d.spl := rfl
@[simp] theorem dev_onThm_act0 (d : Dev) (f : Plat → Thm → Plat × Thm) : (d.onThm f).act0 = d.act0 := rfl
@[simp] theorem dev_onThm_act1 (d : Dev) (f : Plat → Thm → Plat × Thm) : (d.onThm f).act1 = d.act1 := rfl
@[simp] theorem dev_onThm_act2 (d : Dev) (f : Plat → Thm → Plat × Thm) : (d.onThm f).act2 = d.act2 := rfl
@[simp] theorem dev_onThm_act3 (d : Dev) (f : Plat → Thm → Plat × Thm) : (d.onThm f).act3 = d.act3 := rfl
@[simp] theorem dev_onThm_tsq0 (d : Dev) (f : Plat → Thm → Plat × Thm) : (d.onThm f).tsq0 = d.tsq0 := rfl
@[simp] theorem dev_onThm_tsq1 (d : Dev) (f : Plat → Thm → Plat × Thm) : (d.onThm f).tsq1 = d.tsq1 := rfl
@[simp] theorem dev_onThm_tsq2 (d : Dev) (f : Plat → Thm → Plat × Thm) : (d.onThm f).tsq2 = d.tsq2 := rfl
@[simp] theorem dev_onThm_tsq3 (d : Dev) (f : Plat → Thm → Plat × Thm) : (d.onThm f).tsq3 = d.tsq3 := rfl
@[simp] theorem dev_onThm_tsq4 (d : Dev) (f : Plat → Thm → Plat × Thm) : (d.onThm f).tsq4 = d.tsq4 := rfl

@[simp] theorem dev_onMgt_plat (d : Dev) (f : Plat → Mgt → Plat × Mgt) : (d.onMgt f).plat = (f d.plat d.mgt).1 := rfl
@[simp] theorem dev_onMgt_sys (d : Dev) (f : Plat → Mgt → Plat × Mgt) : (d.onMgt f).sys = d.sys := rfl
@[simp] theorem dev_onMgt_thm (d : Dev) (f : Plat → Mgt → Plat × Mgt) : (d.onMgt f).thm = d.thm := rfl
@[simp] theorem dev_onMgt_mgt (d : Dev) (f : Plat → Mgt → Plat × Mgt) : (d.onMgt f).mgt = (f d.plat d.mgt).2 := rfl
@[simp] theorem dev_onMgt_buf (d : Dev) (f : Plat → Mgt → Plat × Mgt) : (d.onMgt f).buf = d.buf := rfl
@[simp] theorem dev_onMgt_sec (d : Dev) (f : Plat → Mgt → Plat × Mgt) : (d.onMgt f).sec = d.sec := rfl
@[simp] theorem dev_onMgt_bcl (d : Dev) (f : Plat → Mgt → Plat × Mgt) : (d.onMgt f).bcl = d.bcl := rfl
@[simp] theorem dev_onMgt_hif (d : Dev) (f : Plat → Mgt → Plat × Mgt) : (d.onMgt f).hif = d.hif := rfl
@[simp] theorem dev_onMgt_cmd (d : Dev) (f : Plat → Mgt → Plat × Mgt) : (d.onMgt f).cmd = d.cmd := rfl
@[simp] theorem dev_onMgt_keep (d : Dev) (f : Plat → Mgt → Plat × Mgt) : (d.onMgt f).keep = d.keep := rfl
@[simp] theorem dev_onMgt_spl (d : Dev) (f : Plat → Mgt → Plat × Mgt) : (d.onMgt f).spl = d.spl := rfl
@[simp] theorem dev_onMgt_act0 (d : Dev) (f : Plat → Mgt → Plat × Mgt) : (d.onMgt f).act0 = d.act0 := rfl
@[simp] theorem dev_onMgt_act1 (d : Dev) (f : Plat → Mgt → Plat × Mgt) : (d.onMgt f).act1 = d.act1 := rfl
@[simp] theorem dev_onMgt_act2 (d : Dev) (f : Plat → Mgt → Plat × Mgt) : (d.onMgt f).act2 = d.act2 := rfl
@[simp] theorem dev_onMgt_act3 (d : Dev) (f : Plat → Mgt → Plat × Mgt) : (d.onMgt f).act3 = d.act3 := rfl
@[simp] theorem dev_onMgt_tsq0 (d : Dev) (f : Plat → Mgt → Plat × Mgt) : (d.onMgt f).tsq0 = d.tsq0 := rfl
@[simp] theorem dev_onMgt_tsq1 (d : Dev) (f : Plat → Mgt → Plat × Mgt) : (d.onMgt f).tsq1 = d.tsq1 := rfl
@[simp] theorem dev_onMgt_tsq2 (d : Dev) (f : Plat → Mgt → Plat × Mgt) : (d.onMgt f).tsq2 = d.tsq2 := rfl
@[simp] theorem dev_onMgt_tsq3 (d : Dev) (f : Plat → Mgt → Plat × Mgt) : (d.onMgt f).tsq3 = d.tsq3 := rfl
@[simp] theorem dev_onMgt_tsq4 (d : Dev) (f : Plat → Mgt → Plat × Mgt) : (d.onMgt f).tsq4 = d.tsq4 := rfl

@[simp] theorem dev_onBuf_plat (d : Dev) (f : Plat → Buf → Plat × Buf) : (d.onBuf f).plat = (f d.plat d.buf).1 := rfl
@[simp] theorem dev_onBuf_sys (d : Dev) (f : Plat → Buf → Plat × Buf) : (d.onBuf f).sys = d.sys := rfl
@[simp] theorem dev_onBuf_thm (d : Dev) (f : Plat → Buf → Plat × Buf) : (d.onBuf f).thm = d.thm := rfl
@[simp] theorem dev_onBuf_mgt (d : Dev) (f : Plat → Buf → Plat × Buf) : (d.onBuf f).mgt = d.mgt := rfl
@[simp] theorem dev_onBuf_buf (d : Dev) (f : Plat → Buf → Plat × Buf) : (d.onBuf f).buf = (f d.plat d.buf).2 := rfl
@[simp] theorem dev_onBuf_sec (d : Dev) (f : Plat → Buf → Plat × Buf) : (d.onBuf f).sec = d.sec := rfl
@[simp] theorem dev_onBuf_bcl (d : Dev) (f : Plat → Buf → Plat × Buf) : (d.onBuf f).bcl = d.bcl := rfl
@[simp] theorem dev_onBuf_hif (d : Dev) (f : Plat → Buf → Plat × Buf) : (d.onBuf f).hif = d.hif := rfl
@[simp] theorem dev_onBuf_cmd (d : Dev) (f : Plat → Buf → Plat × Buf) : (d.onBuf f).cmd = d.cmd := rfl
@[simp] theorem dev_onBuf_keep (d : Dev) (f : Plat → Buf → Plat × Buf) : (d.onBuf f).keep = d.keep := rfl
@[simp] theorem dev_onBuf_spl (d : Dev) (f : Plat → Buf → Plat × Buf) : (d.onBuf f).spl = d.spl := rfl
@[simp] theorem dev_onBuf_act0 (d : Dev) (f : Plat → Buf → Plat × Buf) : (d.onBuf f).act0 = d.act0 := rfl
@[simp] theorem dev_onBuf_act1 (d : Dev) (f : Plat → Buf → Plat × Buf) : (d.onBuf f).act1 = d.act1 := rfl
@[simp] theorem dev_onBuf_act2 (d : Dev) (f : Plat → Buf → Plat × Buf) : (d.onBuf f).act2 = d.act2 := rfl
@[simp] theorem dev_onBuf_act3 (d : Dev) (f : Plat → Buf → Plat × Buf) : (d.onBuf f).act3 = d.act3 := rfl
@[simp] theorem dev_onBuf_tsq0 (d : Dev) (f : Plat → Buf → Plat × Buf) : (d.onBuf f).tsq0 = d.tsq0 := rfl
@[simp] theorem dev_onBuf_tsq1 (d : Dev) (f : Plat → Buf → Plat × Buf) : (d.onBuf f).tsq1 = d.tsq1 := rfl
@[simp] theorem dev_onBuf_tsq2 (d : Dev) (f : Plat → Buf → Plat × Buf) : (d.onBuf f).tsq2 = d.tsq2 := rfl
@[simp] theorem dev_onBuf_tsq3 (d : Dev) (f : Plat → Buf → Plat × Buf) : (d.onBuf f).tsq3 = d.tsq3 := rfl
@[simp] theorem dev_onBuf_tsq4 (d : Dev) (f : Plat → Buf → Plat × Buf) : (d.onBuf f).tsq4 = d.tsq4 := rfl

@[simp] theorem dev_onSec_plat (d : Dev) (f : Plat → Sec → Plat × Sec) : (d.onSec f).plat = (f d.plat d.sec).1 := rfl
@[simp] theorem dev_onSec_sys (d : Dev) (f : Plat → Sec → Plat × Sec) : (d.onSec f).sys = d.sys := rfl
@[simp] theorem dev_onSec_thm (d : Dev) (f : Plat → Sec → Plat × Sec) : (d.onSec f).thm = d.thm := rfl
@[simp] theorem dev_onSec_mgt (d : Dev) (f : Plat → Sec → Plat × Sec) : (d.onSec f).mgt = d.mgt := rfl
@[simp] theorem dev_onSec_buf (d : Dev) (f : Plat → Sec → Plat × Sec) : (d.onSec f).buf = d.buf := rfl
@[simp] theorem dev_onSec_sec (d : Dev) (f : Plat → Sec → Plat × Sec) : (d.onSec f).sec = (f d.plat d.sec).2 := rfl
@[simp] theorem dev_onSec_bcl (d : Dev) (f : Plat → Sec → Plat × Sec) : (d.onSec f).bcl = d.bcl := rfl
@[simp] theorem dev_onSec_hif (d : Dev) (f : Plat → Sec → Plat × Sec) : (d.onSec f).hif = d.hif := rfl
@[simp] theorem dev_onSec_cmd (d : Dev) (f : Plat → Sec → Plat × Sec) : (d.onSec f).cmd = d.cmd := rfl
@[simp] theorem dev_onSec_keep (d : Dev) (f : Plat → Sec → Plat × Sec) : (d.onSec f).keep = d.keep := rfl
@[simp] theorem dev_onSec_spl (d : Dev) (f : Plat → Sec → Plat × Sec) : (d.onSec f).spl = d.spl := rfl
@[simp] theorem dev_onSec_act0 (d : Dev) (f : Plat → Sec → Plat × Sec) : (d.onSec f).act0 = d.act0 := rfl
@[simp] theorem dev_onSec_act1 (d : Dev) (f : Plat → Sec → Plat × Sec) : (d.onSec f).act1 = d.act1 := rfl
@[simp] theorem dev_onSec_act2 (d : Dev) (f : Plat → Sec → Plat × Sec) : (d.onSec f).act2 = d.act2 := rfl
@[simp] theorem dev_onSec_act3 (d : Dev) (f : Plat → Sec → Plat × Sec) : (d.onSec f).act3 = d.act3 := rfl
@[simp] theorem dev_onSec_tsq0 (d : Dev) (f : Plat → Sec → Plat × Sec) : (d.onSec f).tsq0 = d.tsq0 := rfl
@[simp] theorem dev_onSec_tsq1 (d : Dev) (f : Plat → Sec → Plat × Sec) : (d.onSec f).tsq1 = d.tsq1 := rfl
@[simp] theorem dev_onSec_tsq2 (d : Dev) (f : Plat → Sec → Plat × Sec) : (d.onSec f).tsq2 = d.tsq2 := rfl
@[simp] theorem dev_onSec_tsq3 (d : Dev) (f : Plat → Sec → Plat × Sec) : (d.onSec f).tsq3 = d.tsq3 := rfl
@[simp] theorem dev_onSec_tsq4 (d : Dev) (f : Plat → Sec → Plat × Sec) : (d.onSec f).tsq4 = d.tsq4 := rfl

@[simp] theorem dev_onBcl_plat (d : Dev) (f : Plat → Bcl → Plat × Bcl) : (d.onBcl f).plat = (f d.plat d.bcl).1 := rfl
@[simp] theorem dev_onBcl_sys (d : Dev) (f : Plat → Bcl → Plat × Bcl) : (d.onBcl f).sys = d.sys := rfl
@[simp] theorem dev_onBcl_thm (d : Dev) (f : Plat → Bcl → Plat × Bcl) : (d.onBcl f).thm = d.thm := rfl
@[simp] theorem dev_onBcl_mgt (d : Dev) (f : Plat → Bcl → Plat × Bcl) : (d.onBcl f).mgt = d.mgt := rfl
@[simp] theorem dev_onBcl_buf (d : Dev) (f : Plat → Bcl → Plat × Bcl) : (d.onBcl f).buf = d.buf := rfl
@[simp] theorem dev_onBcl_sec (d : Dev) (f : Plat → Bcl → Plat × Bcl) : (d.onBcl f).sec = d.sec := rfl
@[simp] theorem dev_onBcl_bcl (d : Dev) (f : Plat → Bcl → Plat × Bcl) : (d.onBcl f).bcl = (f d.plat d.bcl).2 := rfl
@[simp] theorem dev_onBcl_hif (d : Dev) (f : Plat → Bcl → Plat × Bcl) : (d.onBcl f).hif = d.hif := rfl
@[simp] theorem dev_onBcl_cmd (d : Dev) (f : Plat → Bcl → Plat × Bcl) : (d.onBcl f).cmd = d.cmd := rfl
@[simp] theorem dev_onBcl_keep (d : Dev) (f : Plat → Bcl → Plat × Bcl) : (d.onBcl f).keep = d.keep := rfl
@[simp] theorem dev_onBcl_spl (d : Dev) (f : Plat → Bcl → Plat × Bcl) : (d.onBcl f).spl = d.spl := rfl
@[simp] theorem dev_onBcl_act0 (d : Dev) (f : Plat → Bcl → Plat × Bcl) : (d.onBcl f).act0 = d.act0 := rfl
@[simp] theorem dev_onBcl_act1 (d : Dev) (f : Plat → Bcl → Plat × Bcl) : (d.onBcl f).act1 = d.act1 := rfl
@[simp] theorem dev_onBcl_act2 (d : Dev) (f : Plat → Bcl → Plat × Bcl) : (d.onBcl f).act2 = d.act2 := rfl
@[simp] theorem dev_onBcl_act3 (d : Dev) (f : Plat → Bcl → Plat × Bcl) : (d.onBcl f).act3 = d.act3 := rfl
@[simp] theorem dev_onBcl_tsq0 (d : Dev) (f : Plat → Bcl → Plat × Bcl) : (d.onBcl f).tsq0 = d.tsq0 := rfl
@[simp] theorem dev_onBcl_tsq1 (d : Dev) (f : Plat → Bcl → Plat × Bcl) : (d.onBcl f).tsq1 = d.tsq1 := rfl
@[simp] theorem dev_onBcl_tsq2 (d : Dev) (f : Plat → Bcl → Plat × Bcl) : (d.onBcl f).tsq2 = d.tsq2 := rfl
@[simp] theorem dev_onBcl_tsq3 (d : Dev) (f : Plat → Bcl → Plat × Bcl) : (d.onBcl f).tsq3 = d.tsq3 := rfl
@[simp] theorem dev_onBcl_tsq4 (d : Dev) (f : Plat → Bcl → Plat × Bcl) : (d.onBcl f).tsq4 = d.tsq4 := rfl

@[simp] theorem dev_onHif_plat (d : Dev) (f : Plat → Hif → Plat × Hif) : (d.onHif f).plat = (f d.plat d.hif).1 := rfl
@[simp] theorem dev_onHif_sys (d : Dev) (f : Plat → Hif → Plat × Hif) : (d.onHif f).sys = d.sys := rfl
@[simp] theorem dev_onHif_thm (d : Dev) (f : Plat → Hif → Plat × Hif) : (d.onHif f).thm = d.thm := rfl
@[simp] theorem dev_onHif_mgt (d : Dev) (f : Plat → Hif → Plat × Hif) : (d.onHif f).mgt = d.mgt := rfl
@[simp] theorem dev_onHif_buf (d : Dev) (f : Plat → Hif → Plat × Hif) : (d.onHif f).buf = d.buf := rfl
@[simp] theorem dev_onHif_sec (d : Dev) (f : Plat → Hif → Plat × Hif) : (d.onHif f).sec = d.sec := rfl
@[simp] theorem dev_onHif_bcl (d : Dev) (f : Plat → Hif → Plat × Hif) : (d.onHif f).bcl = d.bcl := rfl
@[simp] theorem dev_onHif_hif (d : Dev) (f : Plat → Hif → Plat × Hif) : (d.onHif f).hif = (f d.plat d.hif).2 := rfl
@[simp] theorem dev_onHif_cmd (d : Dev) (f : Plat → Hif → Plat × Hif) : (d.onHif f).cmd = d.cmd := rfl
@[simp] theorem dev_onHif_keep (d : Dev) (f : Plat → Hif → Plat × Hif) : (d.onHif f).keep = d.keep := rfl
@[simp] theorem dev_onHif_spl (d : Dev) (f : Plat → Hif → Plat × Hif) : (d.onHif f).spl = d.spl := rfl
@[simp] theorem dev_onHif_act0 (d : Dev) (f : Plat → Hif → Plat × Hif) : (d.onHif f).act0 = d.act0 := rfl
@[simp] theorem dev_onHif_act1 (d : Dev) (f : Plat → Hif → Plat × Hif) : (d.onHif f).act1 = d.act1 := rfl
@[simp] theorem dev_onHif_act2 (d : Dev) (f : Plat → Hif → Plat × Hif) : (d.onHif f).act2 = d.act2 := rfl
@[simp] theorem dev_onHif_act3 (d : Dev) (f : Plat → Hif → Plat × Hif) : (d.onHif f).act3 = d.act3 := rfl
@[simp] theorem dev_onHif_tsq0 (d : Dev) (f : Plat → Hif → Plat × Hif) : (d.onHif f).tsq0 = d.tsq0 := rfl
@[simp] theorem dev_onHif_tsq1 (d : Dev) (f : Plat → Hif → Plat × Hif) : (d.onHif f).tsq1 = d.tsq1 := rfl
@[simp] theorem dev_onHif_tsq2 (d : Dev) (f : Plat → Hif → Plat × Hif) : (d.onHif f).tsq2 = d.tsq2 := rfl
@[simp] theorem dev_onHif_tsq3 (d : Dev) (f : Plat → Hif → Plat × Hif) : (d.onHif f).tsq3 = d.tsq3 := rfl
@[simp] theorem dev_onHif_tsq4 (d : Dev) (f : Plat → Hif → Plat × Hif) : (d.onHif f).tsq4 = d.tsq4 := rfl

@[simp] theorem dev_onCmd_plat (d : Dev) (f : Plat → Cmd → Plat × Cmd) : (d.onCmd f).plat = (f d.plat d.cmd).1 := rfl
@[simp] theorem dev_onCmd_sys (d : Dev) (f : Plat → Cmd → Plat × Cmd) : (d.onCmd f).sys = d.sys := rfl
@[simp] theorem dev_onCmd_thm (d : Dev) (f : Plat → Cmd → Plat × Cmd) : (d.onCmd f).thm = d.thm := rfl
@[simp] theorem dev_onCmd_mgt (d : Dev) (f : Plat → Cmd → Plat × Cmd) : (d.onCmd f).mgt = d.mgt := rfl
@[simp] theorem dev_onCmd_buf (d : Dev) (f : Plat → Cmd → Plat × Cmd) : (d.onCmd f).buf = d.buf := rfl
@[simp] theorem dev_onCmd_sec (d : Dev) (f : Plat → Cmd → Plat × Cmd) : (d.onCmd f).sec = d.sec := rfl
@[simp] theorem dev_onCmd_bcl (d : Dev) (f : Plat → Cmd → Plat × Cmd) : (d.onCmd f).bcl = d.bcl := rfl
@[simp] theorem dev_onCmd_hif (d : Dev) (f : Plat → Cmd → Plat × Cmd) : (d.onCmd f).hif = d.hif := rfl
@[simp] theorem dev_onCmd_cmd (d : Dev) (f : Plat → Cmd → Plat × Cmd) : (d.onCmd f).cmd = (f d.plat d.cmd).2 := rfl
@[simp] theorem dev_onCmd_keep (d : Dev) (f : Plat → Cmd → Plat × Cmd) : (d.onCmd f).keep = d.keep := rfl
@[simp] theorem dev_onCmd_spl (d : Dev) (f : Plat → Cmd → Plat × Cmd) : (d.onCmd f).spl = d.spl := rfl
@[simp] theorem dev_onCmd_act0 (d : Dev) (f : Plat → Cmd → Plat × Cmd) : (d.onCmd f).act0 = d.act0 := rfl
@[simp] theorem dev_onCmd_act1 (d : Dev) (f : Plat → Cmd → Plat × Cmd) : (d.onCmd f).act1 = d.act1 := rfl
@[simp] theorem dev_onCmd_act2 (d : Dev) (f : Plat → Cmd → Plat × Cmd) : (d.onCmd f).act2 = d.act2 := rfl
@[simp] theorem dev_onCmd_act3 (d : Dev) (f : Plat → Cmd → Plat × Cmd) : (d.onCmd f).act3 = d.act3 := rfl
@[simp] theorem dev_onCmd_tsq0 (d : Dev) (f : Plat → Cmd → Plat × Cmd) : (d.onCmd f).tsq0 = d.tsq0 := rfl
@[simp] theorem dev_onCmd_tsq1 (d : Dev) (f : Plat → Cmd → Plat × Cmd) : (d.onCmd f).tsq1 = d.tsq1 := rfl
@[simp] theorem dev_onCmd_tsq2 (d : Dev) (f : Plat → Cmd → Plat × Cmd) : (d.onCmd f).tsq2 = d.tsq2 := rfl
@[simp] theorem dev_onCmd_tsq3 (d : Dev) (f : Plat → Cmd → Plat × Cmd) : (d.onCmd f).tsq3 = d.tsq3 := rfl
@[simp] theorem dev_onCmd_tsq4 (d : Dev) (f : Plat → Cmd → Plat × Cmd) : (d.onCmd f).tsq4 = d.tsq4 := rfl

@[simp] theorem dev_onKeep_plat (d : Dev) (f : Plat → Keep → Plat × Keep) : (d.onKeep f).plat = (f d.plat d.keep).1 := rfl
@[simp] theorem dev_onKeep_sys (d : Dev) (f : Plat → Keep → Plat × Keep) : (d.onKeep f).sys = d.sys := rfl
@[simp] theorem dev_onKeep_thm (d : Dev) (f : Plat → Keep → Plat × Keep) : (d.onKeep f).thm = d.thm := rfl
@[simp] theorem dev_onKeep_mgt (d : Dev) (f : Plat → Keep → Plat × Keep) : (d.onKeep f).mgt = d.mgt := rfl
@[simp] theorem dev_onKeep_buf (d : Dev) (f : Plat → Keep → Plat × Keep) : (d.onKeep f).buf = d.buf := rfl
@[simp] theorem dev_onKeep_sec (d : Dev) (f : Plat → Keep → Plat × Keep) : (d.onKeep f).sec = d.sec := rfl
@[simp] theorem dev_onKeep_bcl (d : Dev) (f : Plat → Keep → Plat × Keep) : (d.onKeep f).bcl = d.bcl := rfl
@[simp] theorem dev_onKeep_hif (d : Dev) (f : Plat → Keep → Plat × Keep) : (d.onKeep f).hif = d.hif := rfl
@[simp] theorem dev_onKeep_cmd (d : Dev) (f : Plat → Keep → Plat × Keep) : (d.onKeep f).cmd = d.cmd := rfl
@[simp] theorem dev_onKeep_keep (d : Dev) (f : Plat → Keep → Plat × Keep) : (d.onKeep f).keep = (f d.plat d.keep).2 := rfl
@[simp] theorem dev_onKeep_spl (d : Dev) (f : Plat → Keep → Plat × Keep) : (d.onKeep f).spl = d.spl := rfl
@[simp] theorem dev_onKeep_act0 (d : Dev) (f : Plat → Keep → Plat × Keep) : (d.onKeep f).act0 = d.act0 := rfl
@[simp] theorem dev_onKeep_act1 (d : Dev) (f : Plat → Keep → Plat × Keep) : (d.onKeep f).act1 = d.act1 := rfl
@[simp] theorem dev_onKeep_act2 (d : Dev) (f : Plat → Keep → Plat × Keep) : (d.onKeep f).act2 = d.act2 := rfl
@[simp] theorem dev_onKeep_act3 (d : Dev) (f : Plat → Keep → Plat × Keep) : (d.onKeep f).act3 = d.act3 := rfl
@[simp] theorem dev_onKeep_tsq0 (d : Dev) (f : Plat → Keep → Plat × Keep) : (d.onKeep f).tsq0 = d.tsq0 := rfl
@[simp] theorem dev_onKeep_tsq1 (d : Dev) (f : Plat → Keep → Plat × Keep) : (d.onKeep f).tsq1 = d.tsq1 := rfl
@[simp] theorem dev_onKeep_tsq2 (d : Dev) (f : Plat → Keep → Plat × Keep) : (d.onKeep f).tsq2 = d.tsq2 := rfl
@[simp] theorem dev_onKeep_tsq3 (d : Dev) (f : Plat → Keep → Plat × Keep) : (d.onKeep f).tsq3 = d.tsq3 := rfl
@[simp] theorem dev_onKeep_tsq4 (d : Dev) (f : Plat → Keep → Plat × Keep) : (d.onKeep f).tsq4 = d.tsq4 := rfl

@[simp] theorem dev_onSpl_plat (d : Dev) (f : Plat → Spl → Plat × Spl) : (d.onSpl f).plat = (f d.plat d.spl).1 := rfl
@[simp] theorem dev_onSpl_sys (d : Dev) (f : Plat → Spl → Plat × Spl) : (d.onSpl f).sys = d.sys := rfl
@[simp] theorem dev_onSpl_thm (d : Dev) (f : Plat → Spl → Plat × Spl) : (d.onSpl f).thm = d.thm := rfl
@[simp] theorem dev_onSpl_mgt (d : Dev) (f : Plat → Spl → Plat × Spl) : (d.onSpl f).mgt = d.mgt := rfl
@[simp] theorem dev_onSpl_buf (d : Dev) (f : Plat → Spl → Plat × Spl) : (d.onSpl f).buf = d.buf := rfl
@[simp] theorem dev_onSpl_sec (d : Dev) (f : Plat → Spl → Plat × Spl) : (d.onSpl f).sec = d.sec := rfl
@[simp] theorem dev_onSpl_bcl (d : Dev) (f : Plat → Spl → Plat × Spl) : (d.onSpl f).bcl = d.bcl := rfl
@[simp] theorem dev_onSpl_hif (d : Dev) (f : Plat → Spl → Plat × Spl) : (d.onSpl f).hif = d.hif := rfl
@[simp] theorem dev_onSpl_cmd (d : Dev) (f : Plat → Spl → Plat × Spl) : (d.onSpl f).cmd = d.cmd := rfl
@[simp] theorem dev_onSpl_keep (d : Dev) (f : Plat → Spl → Plat × Spl) : (d.onSpl f).keep = d.keep := rfl
@[simp] theorem dev_onSpl_spl (d : Dev) (f : Plat → Spl → Plat × Spl) : (d.onSpl f).spl = (f d.plat d.spl).2 := rfl
@[simp] theorem dev_onSpl_act0 (d : Dev) (f : Plat → Spl → Plat × Spl) : (d.onSpl f).act0 = d.act0 := rfl
@[simp] theorem dev_onSpl_act1 (d : Dev) (f : Plat → Spl → Plat × Spl) : (d.onSpl f).act1 = d.act1 := rfl
@[simp] theorem dev_onSpl_act2 (d : Dev) (f : Plat → Spl → Plat × Spl) : (d.onSpl f).act2 = d.act2 := rfl
@[simp] theorem dev_onSpl_act3 (d : Dev) (f : Plat → Spl → Plat × Spl) : (d.onSpl f).act3 = d.act3 := rfl
@[simp] theorem dev_onSpl_tsq0 (d : Dev) (f : Plat → Spl → Plat × Spl) : (d.onSpl f).tsq0 = d.tsq0 := rfl
@[simp] theorem dev_onSpl_tsq1 (d : Dev) (f : Plat → Spl → Plat × Spl) : (d.onSpl f).tsq1 = d.tsq1 := rfl
@[simp] theorem dev_onSpl_tsq2 (d : Dev) (f : Plat → Spl → Plat × Spl) : (d.onSpl f).tsq2 = d.tsq2 := rfl
@[simp] theorem dev_onSpl_tsq3 (d : Dev) (f : Plat → Spl → Plat × Spl) : (d.onSpl f).tsq3 = d.tsq3 := rfl
@[simp] theorem dev_onSpl_tsq4 (d : Dev) (f : Plat → Spl → Plat × Spl) : (d.onSpl f).tsq4 = d.tsq4 := rfl

@[simp] theorem dev_putFe_plat (d : Dev) (e : Fe) : (d.putFe e).plat = e.p := rfl
@[simp] theorem dev_putFe_sys (d : Dev) (e : Fe) : (d.putFe e).sys = d.sys := rfl
@[simp] theorem dev_putFe_thm (d : Dev) (e : Fe) : (d.putFe e).thm = d.thm := rfl
@[simp] theorem dev_putFe_mgt (d : Dev) (e : Fe) : (d.putFe e).mgt = d.mgt := rfl
@[simp] theorem dev_putFe_buf (d : Dev) (e : Fe) : (d.putFe e).buf = e.b := rfl
@[simp] theorem dev_putFe_sec (d : Dev) (e : Fe) : (d.putFe e).sec = e.s := rfl
@[simp] theorem dev_putFe_bcl (d : Dev) (e : Fe) : (d.putFe e).bcl = d.bcl := rfl
@[simp] theorem dev_putFe_hif (d : Dev) (e : Fe) : (d.putFe e).hif = e.h := rfl
@[simp] theorem dev_putFe_cmd (d : Dev) (e : Fe) : (d.putFe e).cmd = e.c := rfl
@[simp] theorem dev_putFe_keep (d : Dev) (e : Fe) : (d.putFe e).keep = d.keep := rfl
@[simp] theorem dev_putFe_spl (d : Dev) (e : Fe) : (d.putFe e).spl = d.spl := rfl
@[simp] theorem dev_putFe_act0 (d : Dev) (e : Fe) : (d.putFe e).act0 = d.act0 := rfl
@[simp] theorem dev_putFe_act1 (d : Dev) (e : Fe) : (d.putFe e).act1 = d.act1 := rfl
@[simp] theorem dev_putFe_act2 (d : Dev) (e : Fe) : (d.putFe e).act2 = d.act2 := rfl
@[simp] theorem dev_putFe_act3 (d : Dev) (e : Fe) : (d.putFe e).act3 = d.act3 := rfl
@[simp] theorem dev_putFe_tsq0 (d : Dev) (e : Fe) : (d.putFe e).tsq0 = d.tsq0 := rfl
@[simp] theorem dev_putFe_tsq1 (d : Dev) (e : Fe) : (d.putFe e).tsq1 = d.tsq1 := rfl
@[simp] theorem dev_putFe_tsq2 (d : Dev) (e : Fe) : (d.putFe e).tsq2 = d.tsq2 := rfl
@[simp] theorem dev_putFe_tsq3 (d : Dev) (e : Fe) : (d.putFe e).tsq3 = d.tsq3 := rfl
@[simp] theorem dev_putFe_tsq4 (d : Dev) (e : Fe) : (d.putFe e).tsq4 = d.tsq4 := rfl

@[simp] theorem dev_onFe_plat (d : Dev) (f : Fe → Fe) : (d.onFe f).plat = (f d.fe).p := rfl
@[simp] theorem dev_onFe_sys (d : Dev) (f : Fe → Fe) : (d.onFe f).sys = d.sys := rfl
@[simp] theorem dev_onFe_thm (d : Dev) (f : Fe → Fe) : (d.onFe f).thm = d.thm := rfl
@[simp] theorem dev_onFe_mgt (d : Dev) (f : Fe → Fe) : (d.onFe f).mgt = d.mgt := rfl
@[simp] theorem dev_onFe_buf (d : Dev) (f : Fe → Fe) : (d.onFe f).buf = (f d.fe).b := rfl
@[simp] theorem dev_onFe_sec (d : Dev) (f : Fe → Fe) : (d.onFe f).sec = (f d.fe).s := rfl
@[simp] theorem dev_onFe_bcl (d : Dev) (f : Fe → Fe) : (d.onFe f).bcl = d.bcl := rfl
@[simp] theorem dev_onFe_hif (d : Dev) (f : Fe → Fe) : (d.onFe f).hif = (f d.fe).h := rfl
@[simp] theorem dev_onFe_cmd (d : Dev) (f : Fe → Fe) : (d.onFe f).cmd = (f d.fe).c := rfl
@[simp] theorem dev_onFe_keep (d : Dev) (f : Fe → Fe) : (d.onFe f).keep = d.keep := rfl
@[simp] theorem dev_onFe_spl (d : Dev) (f : Fe → Fe) : (d.onFe f).spl = d.spl := rfl
@[simp] theorem dev_onFe_act0 (d : Dev) (f : Fe → Fe) : (d.onFe f).act0 = d.act0 := rfl
@[simp] theorem dev_onFe_act1 (d : Dev) (f : Fe → Fe) : (d.onFe f).act1 = d.act1 := rfl
@[simp] theorem dev_onFe_act2 (d : Dev) (f : Fe → Fe) : (d.onFe f).act2 = d.act2 := rfl
@[simp] theorem dev_onFe_act3 (d : Dev) (f : Fe → Fe) : (d.onFe f).act3 = d.act3 := rfl
@[simp] theorem dev_onFe_tsq0 (d : Dev) (f : Fe → Fe) : (d.onFe f).tsq0 = d.tsq0 := rfl
@[simp] theorem dev_onFe_tsq1 (d : Dev) (f : Fe → Fe) : (d.onFe f).tsq1 = d.tsq1 := rfl
@[simp] theorem dev_onFe_tsq2 (d : Dev) (f : Fe → Fe) : (d.onFe f).tsq2 = d.tsq2 := rfl
@[simp] theorem dev_onFe_tsq3 (d : Dev) (f : Fe → Fe) : (d.onFe f).tsq3 = d.tsq3 := rfl
@[simp] theorem dev_onFe_tsq4 (d : Dev) (f : Fe → Fe) : (d.onFe f).tsq4 = d.tsq4 := rfl

@[simp] theorem dev_setAct_plat (d : Dev) (n : Fin 4) (x : Act) : (d.setAct n x).plat = d.plat := by
  unfold Dev.setAct; split <;> rfl
@[simp] theorem dev_setTsq_plat (d : Dev) (t : Fin 5) (x : Tsq) : (d.setTsq t x).plat = d.plat := by
  unfold Dev.setTsq; split <;> rfl
@[simp] theorem dev_setAct_sys (d : Dev) (n : Fin 4) (x : Act) : (d.setAct n x).sys = d.sys := by
  unfold Dev.setAct; split <;> rfl
@[simp] theorem dev_setTsq_sys (d : Dev) (t : Fin 5) (x : Tsq) : (d.setTsq t x).sys = d.sys := by
  unfold Dev.setTsq; split <;> rfl
@[simp] theorem dev_setAct_thm (d : Dev) (n : Fin 4) (x : Act) : (d.setAct n x).thm = d.thm := by
  unfold Dev.setAct; split <;> rfl
@[simp] theorem dev_setTsq_thm (d : Dev) (t : Fin 5) (x : Tsq) : (d.setTsq t x).thm = d.thm := by
  unfold Dev.setTsq; split <;> rfl
@[simp] theorem dev_setAct_mgt (d : Dev) (n : Fin 4) (x : Act) : (d.setAct n x).mgt = d.mgt := by
  unfold Dev.setAct; split <;> rfl
@[simp] theorem dev_setTsq_mgt (d : Dev) (t : Fin 5) (x : Tsq) : (d.setTsq t x).mgt = d.mgt := by
  unfold Dev.setTsq; split <;> rfl
@[simp] theorem dev_setAct_buf (d : Dev) (n : Fin 4) (x : Act) : (d.setAct n x).buf = d.buf := by
  unfold Dev.setAct; split <;> rfl
@[simp] theorem dev_setTsq_buf (d : Dev) (t : Fin 5) (x : Tsq) : (d.setTsq t x).buf = d.buf := by
  unfold Dev.setTsq; split <;> rfl
@[simp] theorem dev_setAct_sec (d : Dev) (n : Fin 4) (x : Act) : (d.setAct n x).sec = d.sec := by
  unfold Dev.setAct; split <;> rfl
@[simp] theorem dev_setTsq_sec (d : Dev) (t : Fin 5) (x : Tsq) : (d.setTsq t x).sec = d.sec := by
  unfold Dev.setTsq; split <;> rfl
@[simp] theorem dev_setAct_bcl (d : Dev) (n : Fin 4) (x : Act) : (d.setAct n x).bcl = d.bcl := by
  unfold Dev.setAct; split <;> rfl
@[simp] theorem dev_setTsq_bcl (d : Dev) (t : Fin 5) (x : Tsq) : (d.setTsq t x).bcl = d.bcl := by
  unfold Dev.setTsq; split <;> rfl
@[simp] theorem dev_setAct_hif (d : Dev) (n : Fin 4) (x : Act) : (d.setAct n x).hif = d.hif := by
  unfold Dev.setAct; split <;> rfl
@[simp] theorem dev_setTsq_hif (d : Dev) (t : Fin 5) (x : Tsq) : (d.setTsq t x).hif = d.hif := by
  unfold Dev.setTsq; split <;> rfl
@[simp] theorem dev_setAct_cmd (d : Dev) (n : Fin 4) (x : Act) : (d.setAct n x).cmd = d.cmd := by
  unfold Dev.setAct; split <;> rfl
@[simp] theorem dev_setTsq_cmd (d : Dev) (t : Fin 5) (x : Tsq) : (d.setTsq t x).cmd = d.cmd := by
  unfold Dev.setTsq; split <;> rfl
@[simp] theorem dev_setAct_keep (d : Dev) (n : Fin 4) (x : Act) : (d.setAct n x).keep = d.keep := by
  unfold Dev.setAct; split <;> rfl
@[simp] theorem dev_setTsq_keep (d : Dev) (t : Fin 5) (x : Tsq) : (d.setTsq t x).keep = d.keep := by
  unfold Dev.setTsq; split <;> rfl
@[simp] theorem dev_setAct_spl (d : Dev) (n : Fin 4) (x : Act) : (d.setAct n x).spl = d.spl := by
  unfold Dev.setAct; split <;> rfl
@[simp] theorem dev_setTsq_spl (d : Dev) (t : Fin 5) (x : Tsq) : (d.setTsq t x).spl = d.spl := by
  unfold Dev.setTsq; split <;> rfl
@[simp] theorem dev_setTsq_act0 (d : Dev) (t : Fin 5) (x : Tsq) : (d.setTsq t x).act0 = d.act0 := by
  unfold Dev.setTsq; split <;> rfl
@[simp] theorem dev_setTsq_act1 (d : Dev) (t : Fin 5) (x : Tsq) : (d.setTsq t x).act1 = d.act1 := by
  unfold Dev.setTsq; split <;> rfl
@[simp] theorem dev_setTsq_act2 (d : Dev) (t : Fin 5) (x : Tsq) : (d.setTsq t x).act2 = d.act2 := by
  unfold Dev.setTsq; split <;> rfl
@[simp] theorem dev_setTsq_act3 (d : Dev) (t : Fin 5) (x : Tsq) : (d.setTsq t x).act3 = d.act3 := by
  unfold Dev.setTsq; split <;> rfl
@[simp] theorem dev_setAct_tsq0 (d : Dev) (n : Fin 4) (x : Act) : (d.setAct n x).tsq0 = d.tsq0 := by
  unfold Dev.setAct; split <;> rfl
@[simp] theorem dev_setAct_tsq1 (d : Dev) (n : Fin 4) (x : Act) : (d.setAct n x).tsq1 = d.tsq1 := by
  unfold Dev.setAct; split <;> rfl
@[simp] theorem dev_setAct_tsq2 (d : Dev) (n : Fin 4) (x : Act) : (d.setAct n x).tsq2 = d.tsq2 := by
  unfold Dev.setAct; split <;> rfl
@[simp] theorem dev_setAct_tsq3 (d : Dev) (n : Fin 4) (x : Act) : (d.setAct n x).tsq3 = d.tsq3 := by
  unfold Dev.setAct; split <;> rfl
@[simp] theorem dev_setAct_tsq4 (d : Dev) (n : Fin 4) (x : Act) : (d.setAct n x).tsq4 = d.tsq4 := by
  unfold Dev.setAct; split <;> rfl

theorem dev_act_setAct_same (d : Dev) (n : Fin 4) (x : Act) : (d.setAct n x).act n = x := by
  match n with
  | 0 => rfl
  | 1 => rfl
  | 2 => rfl
  | 3 => rfl

theorem dev_act_setAct_ne (d : Dev) (n m : Fin 4) (x : Act) (h : m ≠ n) : (d.setAct n x).act m = d.act m := by
  revert h
  match n, m with
  | 0, 0 | 1, 1 | 2, 2 | 3, 3 => intro h; exact absurd rfl h
  | 0, 1 | 0, 2 | 0, 3 | 1, 0 | 1, 2 | 1, 3 | 2, 0 | 2, 1 | 2, 3 | 3, 0 | 3, 1 | 3, 2 => intro _; rfl

theorem dev_tsq_setTsq_same (d : Dev) (t : Fin 5) (x : Tsq) : (d.setTsq t x).tsq t = x := by
  match t with
  | 0 => rfl
  | 1 => rfl
  | 2 => rfl
  | 3 => rfl
  | 4 => rfl

@[simp] theorem dev_act_setTsq (d : Dev) (t : Fin 5) (x : Tsq) (n : Fin 4) : (d.setTsq t x).act n = d.act n := by
  unfold Dev.act; simp

@[simp] theorem dev_tsq_setAct (d : Dev) (n : Fin 4) (x : Act) (t : Fin 5) : (d.setAct n x).tsq t = d.tsq t := by
  unfold Dev.tsq; simp

@[simp] theorem dev_onAc_sys (d : Dev) (n : Fin 4) (f : Ac → Ac) : (d.onAc n f).sys = d.sys := by
  simp [Dev.onAc, Dev.putAc]
@[simp] theorem dev_onAc_thm (d : Dev) (n : Fin 4) (f : Ac → Ac) : (d.onAc n f).thm = d.thm := by
  simp [Dev.onAc, Dev.putAc]
@[simp] theorem dev_onAc_mgt (d : Dev) (n : Fin 4) (f : Ac → Ac) : (d.onAc n f).mgt = d.mgt := by
  simp [Dev.onAc, Dev.putAc]
@[simp] theorem dev_onAc_buf (d : Dev) (n : Fin 4) (f : Ac → Ac) : (d.onAc n f).buf = d.buf := by
  simp [Dev.onAc, Dev.putAc]
@[simp] theorem dev_onAc_sec (d : Dev) (n : Fin 4) (f : Ac → Ac) : (d.onAc n f).sec = d.sec := by
  simp [Dev.onAc, Dev.putAc]
@[simp] theorem dev_onAc_bcl (d : Dev) (n : Fin 4) (f : Ac → Ac) : (d.onAc n f).bcl = d.bcl := by
  simp [Dev.onAc, Dev.putAc]
@[simp] theorem dev_onAc_hif (d : Dev) (n : Fin 4) (f : Ac → Ac) : (d.onAc n f).hif = d.hif := by
  simp [Dev.onAc, Dev.putAc]
@[simp] theorem dev_onAc_cmd (d : Dev) (n : Fin 4) (f : Ac → Ac) : (d.onAc n f).cmd = d.cmd := by
  simp [Dev.onAc, Dev.putAc]
@[simp] theorem dev_onAc_keep (d : Dev) (n : Fin 4) (f : Ac → Ac) : (d.onAc n f).keep = d.keep := by
  simp [Dev.onAc, Dev.putAc]
@[simp] theorem dev_onAc_spl (d : Dev) (n : Fin 4) (f : Ac → Ac) : (d.onAc n f).spl = d.spl := by
  simp [Dev.onAc, Dev.putAc]
@[simp] theorem dev_onTsq_sys (d : Dev) (t : Fin 5) (f : Ac → Ac) : (d.onTsq t f).sys = d.sys := by
  simp [Dev.onTsq, Dev.putAc]
@[simp] theorem dev_onTsq_thm (d : Dev) (t : Fin 5) (f : Ac → Ac) : (d.onTsq t f).thm = d.thm := by
  simp [Dev.onTsq, Dev.putAc]
@[simp] theorem dev_onTsq_mgt (d : Dev) (t : Fin 5) (f : Ac → Ac) : (d.onTsq t f).mgt = d.mgt := by
  simp [Dev.onTsq, Dev.putAc]
@[simp] theorem dev_onTsq_buf (d : Dev) (t : Fin 5) (f : Ac → Ac) : (d.onTsq t f).buf = d.buf := by
  simp [Dev.onTsq, Dev.putAc]
@[simp] theorem dev_onTsq_sec (d : Dev) (t : Fin 5) (f : Ac → Ac) : (d.onTsq t f).sec = d.sec := by
  simp [Dev.onTsq, Dev.putAc]
@[simp] theorem dev_onTsq_bcl (d : Dev) (t : Fin 5) (f : Ac → Ac) : (d.onTsq t f).bcl = d.bcl := by
  simp [Dev.onTsq, Dev.putAc]
@[simp] theorem dev_onTsq_hif (d : Dev) (t : Fin 5) (f : Ac → Ac) : (d.onTsq t f).hif = d.hif := by
  simp [Dev.onTsq, Dev.putAc]
@[simp] theorem dev_onTsq_cmd (d : Dev) (t : Fin 5) (f : Ac → Ac) : (d.onTsq t f).cmd = d.cmd := by
  simp [Dev.onTsq, Dev.putAc]
@[simp] theorem dev_onTsq_keep (d : Dev) (t : Fin 5) (f : Ac → Ac) : (d.onTsq t f).keep = d.keep := by
  simp [Dev.onTsq, Dev.putAc]
@[simp] theorem dev_onTsq_spl (d : Dev) (t : Fin 5) (f : Ac → Ac) : (d.onTsq t f).spl = d.spl := by
  simp [Dev.onTsq, Dev.putAc]

@[simp] theorem dev_onAc_plat (d : Dev) (n : Fin 4) (f : Ac → Ac) :
    (d.onAc n f).plat = (f (d.acWith n (d.serving n))).p := by
  simp [Dev.onAc, Dev.putAc]

/-- The Track Sequencer that an operation on an actuator has worked with. -/
theorem dev_onAc_tsq (d : Dev) (n : Fin 4) (f : Ac → Ac) :
    (d.onAc n f).tsq (d.serving n) = (f (d.acWith n (d.serving n))).q := by
  simp [Dev.onAc, Dev.putAc, dev_tsq_setTsq_same]

/-- The units of an actuator after an operation on it. -/
theorem dev_onAc_act (d : Dev) (n : Fin 4) (f : Ac → Ac) :
    (d.onAc n f).act n =
      ⟨(f (d.acWith n (d.serving n))).l, (f (d.acWith n (d.serving n))).g, (f (d.acWith n (d.serving n))).m⟩ := by
  simp [Dev.onAc, Dev.putAc, dev_act_setAct_same]

/-- The units of the other actuators stay. -/
theorem dev_onAc_act_ne (d : Dev) (n m : Fin 4) (f : Ac → Ac) (h : m ≠ n) : (d.onAc n f).act m = d.act m := by
  simp only [Dev.onAc, Dev.putAc, dev_act_setTsq, dev_act_setAct_ne _ n m _ h]
  unfold Dev.act; split <;> rfl

/-! ## Meanings -/

/-- A meaning always answers a next state: the part after its effect, the queue as it stood. -/
@[simp] theorem state_does (s : State) (f : Dev → Dev) : s.does f = .next { s with dev := f s.dev } := rfl

/-- A register access while the register's domain is on. -/
theorem dev_regWrite_on (d : Dev) (c : Fin 4) (a : Nat) (f : Dev → Dev) (h : d.plat.on (domainOf a) = true) :
    d.regWrite c a f = f d := by
  simp [Dev.regWrite, h]

/-- A register write while the domain is off: a bus error of kind 4 and nothing else. -/
theorem dev_regWrite_off (d : Dev) (c : Fin 4) (a : Nat) (f : Dev → Dev) (h : d.plat.on (domainOf a) = false) :
    d.regWrite c a f = { d with plat := d.plat.busErr a c true 4 } := by
  simp [Dev.regWrite, h, Dev.onPlat]

theorem dev_regRead_on (d : Dev) (c : Fin 4) (a : Nat) (f : Dev → Dev) (h : d.plat.on (domainOf a) = true) :
    d.regRead c a f = f d := by
  simp [Dev.regRead, h]

end Sys2Proof.Machine
end

