-- ==== Sys2Proof/Laws/Plat.lean ====
section
/-! SUPPORT. What the operations on what every block shares can do: the registers each may change, and what it leaves in them. -/

namespace Sys2Proof.Machine

/-! ## Register frames -/

theorem keeps_refl (p : Plat) (xs : List Nat) : p.keeps p xs := fun _ _ => rfl

theorem keeps_trans {p q r : Plat} {xs : List Nat} (h : p.keeps q xs) (k : q.keeps r xs) : p.keeps r xs :=
  fun a ha => (k a ha).trans (h a ha)

theorem keeps_mono {p q : Plat} {xs ys : List Nat} (h : p.keeps q xs) (hs : xs ⊆ ys) : p.keeps q ys :=
  fun a ha => h a (fun hx => ha (hs hx))

theorem keeps_wr (p : Plat) (a : Nat) (w : Word) (xs : List Nat) (h : a ∈ xs) : p.keeps (p.wr a w) xs :=
  fun b hb => plat_rd_wr_ne p a b w (fun e => hb (e ▸ h))

theorem keeps_setFld (p : Plat) (a : Nat) (f : Fld) (v : Nat) (xs : List Nat) (h : a ∈ xs) : p.keeps (p.setFld a f v) xs :=
  keeps_wr p a _ xs h

theorem keeps_setFlag (p : Plat) (a : Nat) (f : Fld) (xs : List Nat) (h : a ∈ xs) : p.keeps (p.setFlag a f) xs :=
  keeps_wr p a _ xs h

theorem keeps_putBit (p : Plat) (a : Nat) (f : Fld) (b : Bool) (xs : List Nat) (h : a ∈ xs) : p.keeps (p.putBit a f b) xs :=
  keeps_wr p a _ xs h

theorem keeps_setFlagIf (p : Plat) (c : Bool) (a : Nat) (f : Fld) (xs : List Nat) (h : a ∈ xs) :
    p.keeps (p.setFlagIf c a f) xs := by
  cases c
  · exact keeps_refl p xs
  · exact keeps_setFlag p a f xs h

theorem keeps_fwWrite (p : Plat) (a : Nat) (v : Word) (xs : List Nat) (h : a ∈ xs) : p.keeps (p.fwWrite a v) xs := by
  unfold Plat.fwWrite
  split
  · exact keeps_refl p xs
  · exact keeps_wr p a _ xs h

/-- A state whose registers are the same list keeps every register. -/
theorem keeps_of_regs {p q : Plat} (h : q.regs = p.regs) (xs : List Nat) : p.keeps q xs :=
  fun a _ => by unfold Plat.rd; rw [h]

theorem keeps_useFree (p : Plat) (xs : List Nat) : p.keeps p.useFree xs := keeps_of_regs rfl xs

theorem keeps_bump (p : Plat) (lo k evt : Nat) (sat : Fld) (xs : List Nat) (h : lo ∈ xs) (h4 : lo + 4 ∈ xs) (he : evt ∈ xs) :
    p.keeps (p.bump lo k evt sat) xs := by
  unfold Plat.bump
  simp only
  split
  · exact keeps_refl p xs
  · split
    · exact keeps_trans (keeps_wr p lo _ xs h) (keeps_setFld _ _ _ _ xs h4)
    · exact keeps_trans (keeps_trans (keeps_trans (keeps_wr p lo _ xs h) (keeps_setFld _ _ _ _ xs h4))
        (keeps_setFlag _ _ _ xs h4)) (keeps_setFlag _ _ _ xs he)

theorem keeps_fld {p q : Plat} {xs : List Nat} (h : p.keeps q xs) (a : Nat) (f : Fld) (ha : a ∉ xs) : q.fld a f = p.fld a f := by
  simp [Plat.fld, h a ha]

theorem keeps_bit {p q : Plat} {xs : List Nat} (h : p.keeps q xs) (a : Nat) (f : Fld) (ha : a ∉ xs) : q.bit a f = p.bit a f := by
  simp [Plat.bit, keeps_fld h a f ha]

theorem bump_fld_ne (p : Plat) (lo k evt b : Nat) (sat f : Fld) (h : b ≠ lo) (h4 : b ≠ lo + 4) (he : b ≠ evt) :
    (p.bump lo k evt sat).fld b f = p.fld b f :=
  keeps_fld (keeps_bump p lo k evt sat [lo, lo + 4, evt] (by simp) (by simp) (by simp)) b f (by simp [h, h4, he])

/-! ## Firmware writes (Table SCO-3) -/

theorem writeMasks_getLsbD (r : RegDesc) (old v : Word) (i : Nat) (h : i < 32) :
    (writeMasks r old v).getLsbD i =
      ((if r.rw.testBit i then v.getLsbD i else old.getLsbD i) && !(v.getLsbD i && r.w1c.testBit i)) := by
  simp only [writeMasks, BitVec.getLsbD_and, BitVec.getLsbD_or, BitVec.getLsbD_not, BitVec.getLsbD_ofNat, h, decide_true,
    Bool.true_and]
  cases r.rw.testBit i <;> simp

/-- A field of RW bits takes the written value. -/
theorem writeMasks_get_rw (r : RegDesc) (old v : Word) (f : Fld) (hf : f.lo + f.w ≤ 32)
    (h : ∀ i < f.w, r.rw.testBit (f.lo + i) = true ∧ r.w1c.testBit (f.lo + i) = false) :
    Fld.get f (writeMasks r old v) = Fld.get f v := by
  apply Nat.eq_of_testBit_eq
  intro i
  rw [fld_get_testBit, fld_get_testBit]
  by_cases a : i < f.w
  · rw [writeMasks_getLsbD r old v _ (by omega)]
    simp [a, h i a]
  · simp [a]

/-- A field that is neither RW nor W1C stays. -/
theorem writeMasks_get_ro (r : RegDesc) (old v : Word) (f : Fld) (hf : f.lo + f.w ≤ 32)
    (h : ∀ i < f.w, r.rw.testBit (f.lo + i) = false ∧ r.w1c.testBit (f.lo + i) = false) :
    Fld.get f (writeMasks r old v) = Fld.get f old := by
  apply Nat.eq_of_testBit_eq
  intro i
  rw [fld_get_testBit, fld_get_testBit]
  by_cases a : i < f.w
  · rw [writeMasks_getLsbD r old v _ (by omega)]
    simp [a, h i a]
  · simp [a]

/-- The word of a register after a firmware write. -/
theorem fwWrite_rd_same (p : Plat) (a : Nat) (v : Word) (r : RegDesc) (h : regDesc a = some r) :
    (p.fwWrite a v).rd a = writeMasks r (p.rd a) v := by simp [Plat.fwWrite, h]

theorem fwWrite_rd_ne (p : Plat) (a b : Nat) (v : Word) (h : b ≠ a) : (p.fwWrite a v).rd b = p.rd b :=
  keeps_fwWrite p a v [a] (by simp) b (by simp [h])

/-! ## Counters (R394) -/

theorem bump_eq (p : Plat) (lo k evt : Nat) (sat : Fld) : ∃ rs, p.bump lo k evt sat = { p with regs := rs } := by
  unfold Plat.bump
  simp only
  split
  · exact ⟨_, rfl⟩
  · split
    · exact ⟨_, rfl⟩
    · exact ⟨_, rfl⟩

theorem bump_frz (p : Plat) (lo k evt : Nat) (sat : Fld) : (p.bump lo k evt sat).frz = p.frz := by
  obtain ⟨rs, h⟩ := bump_eq p lo k evt sat; rw [h]

theorem bump_time (p : Plat) (lo k evt : Nat) (sat : Fld) : (p.bump lo k evt sat).time = p.time := by
  obtain ⟨rs, h⟩ := bump_eq p lo k evt sat; rw [h]

theorem bump_lostUnit (p : Plat) (lo k evt : Nat) (sat : Fld) : (p.bump lo k evt sat).lostUnit = p.lostUnit := by
  obtain ⟨rs, h⟩ := bump_eq p lo k evt sat; rw [h]

/-- A counter that is not at its end counts. -/
theorem bump_count (p : Plat) (lo k evt : Nat) (sat : Fld) (hs : p.bit (lo + 4) satFld = false)
    (hc : p.count lo + k < 2 ^ 48 - 1) : (p.bump lo k evt sat).count lo = p.count lo + k := by
  unfold Plat.bump
  simp only
  by_cases hk : k = 0
  · simp [hk]
  · rw [if_neg (by simp [hk, hs]), if_pos hc]
    unfold Plat.count
    have e1 : ∀ w v, ((p.wr lo w).setFld (lo + 4) cntHiFld v).rd lo = w := by
      intro w v; rw [plat_rd_setFld_ne _ _ _ _ _ (by omega)]; simp
    have e2 : ∀ w v, (((p.wr lo w).setFld (lo + 4) cntHiFld v).rd (lo + 4)).toNat % 2 ^ 16 = v % 2 ^ 16 := by
      intro w v
      have := plat_fld_setFld_same (p.wr lo w) (lo + 4) cntHiFld v (by decide)
      simpa [Plat.fld, Fld.get, cntHiFld] using this
    rw [e1, e2]
    simp only [BitVec.toNat_ofNat]
    unfold Plat.count at hc
    omega

/-! ## Bus errors (R392) -/

theorem keeps_busErr (p : Plat) (a core : Nat) (w : Bool) (kind : Nat) : p.keeps (p.busErr a core w kind) berrRegs := by
  have hb : p.keeps (p.bump (Reg.SYS_CNT_LO 1) 1 Reg.SYS_EVT Fld.SYS_EVT_CNT_SAT) berrRegs :=
    keeps_bump p _ _ _ _ _ (by simp [berrRegs]) (by simp [berrRegs]) (by simp [berrRegs])
  unfold Plat.busErr
  simp only
  split
  · exact keeps_trans hb (keeps_setFlag _ _ _ _ (by simp [berrRegs]))
  · exact keeps_trans (keeps_trans hb (keeps_wr _ _ _ _ (by simp [berrRegs]))) (keeps_wr _ _ _ _ (by simp [berrRegs]))

theorem busErr_eq (p : Plat) (a core : Nat) (w : Bool) (kind : Nat) :
    ∃ rs, p.busErr a core w kind = { p with regs := rs } := by
  unfold Plat.busErr
  simp only
  obtain ⟨rs, h⟩ := bump_eq p (Reg.SYS_CNT_LO 1) 1 Reg.SYS_EVT Fld.SYS_EVT_CNT_SAT
  rw [h]
  split
  · exact ⟨_, rfl⟩
  · exact ⟨_, rfl⟩

/-! ## Events (R26, R448) -/

theorem keeps_frzLose (p : Plat) (t : BitVec 64) : p.keeps (p.frzLose t) postRegs := by
  unfold Plat.frzLose
  simp only
  exact keeps_trans (keeps_trans
    (keeps_bump p _ _ _ _ _ (by simp [postRegs]) (by simp [postRegs]) (by simp [postRegs]))
    (keeps_setFlag _ _ _ _ (by simp [postRegs]))) (keeps_of_regs rfl _)

theorem keeps_postEvent (p : Plat) (src typ : Nat) (fw : Bool) (pl : List Byte) :
    p.keeps (p.postEvent src typ fw pl) postRegs := by
  unfold Plat.postEvent
  simp only
  split
  · split
    · exact keeps_trans (keeps_of_regs rfl _) (keeps_setFld _ _ _ _ _ (by simp [postRegs]))
    · exact keeps_of_regs rfl _
  · exact keeps_frzLose p _

theorem keeps_post (p : Plat) (src typ : Nat) (pl : List Byte) : p.keeps (p.post src typ pl) postRegs :=
  keeps_postEvent p src typ false pl

/-- A posted event waits last, or is lost. -/
theorem posted_post (p : Plat) (src typ : Nat) (pl : List Byte) : p.posted (p.post src typ pl) src typ pl := by
  unfold Plat.posted Plat.post Plat.postEvent
  split
  · simp only
    split <;> rfl
  · simp [Plat.frzLose, bump_frz]

theorem post_time (p : Plat) (src typ : Nat) (pl : List Byte) : (p.post src typ pl).time = p.time := by
  unfold Plat.post Plat.postEvent
  simp only
  split
  · split <;> rfl
  · simp [Plat.frzLose, bump_time]

/-- An event leaves the loss latches as they are. -/
theorem post_lostUnit (p : Plat) (src typ : Nat) (pl : List Byte) : (p.post src typ pl).lostUnit = p.lostUnit := by
  unfold Plat.post Plat.postEvent
  simp only
  split
  · split <;> rfl
  · simp [Plat.frzLose, bump_lostUnit]

theorem post_fld (p : Plat) (src typ b : Nat) (pl : List Byte) (f : Fld) (h : b ∉ postRegs) :
    (p.post src typ pl).fld b f = p.fld b f := keeps_fld (keeps_post p src typ pl) b f h

theorem busErr_fld (p : Plat) (a core kind b : Nat) (w : Bool) (f : Fld) (h : b ∉ berrRegs) :
    (p.busErr a core w kind).fld b f = p.fld b f := keeps_fld (keeps_busErr p a core w kind) b f h

/-! ## Completion -/

/-- A command with effect `f` completes, and leaves what `f` leaves. -/
theorem ends_does {i : Instr} {s : State} {f : Dev → Dev} (h : exec i s = s.does f) {P : Dev → Prop} (hp : P (f s.dev)) :
    Ends i s P := ⟨_, h, rfl, hp⟩

end Sys2Proof.Machine
end

