-- ==== Sys2Proof/Laws/Frame.lean ====
section
/-! SUPPORT. What each lift changes: nothing but the parts it names. -/

namespace Sys2Proof.Machine

theorem same_refl (x : Part) (d : Dev) : x.same d d := by cases x <;> rfl

theorem same_trans {x : Part} {d e f : Dev} (h : x.same d e) (k : x.same e f) : x.same d f := by
  cases x <;> exact k.trans h

theorem same_onPlat (d : Dev) (f : Plat → Plat) (x : Part) (h : x ∉ [Part.plat]) :
    x.same d (d.onPlat f) := by
  cases x <;> first | rfl | simp at h

theorem same_onSys (d : Dev) (f : Plat → Sys → Plat × Sys) (x : Part) (h : x ∉ [Part.plat, Part.sys]) :
    x.same d (d.onSys f) := by
  cases x <;> first | rfl | simp at h

theorem same_onThm (d : Dev) (f : Plat → Thm → Plat × Thm) (x : Part) (h : x ∉ [Part.plat, Part.thm]) :
    x.same d (d.onThm f) := by
  cases x <;> first | rfl | simp at h

theorem same_onMgt (d : Dev) (f : Plat → Mgt → Plat × Mgt) (x : Part) (h : x ∉ [Part.plat, Part.mgt]) :
    x.same d (d.onMgt f) := by
  cases x <;> first | rfl | simp at h

theorem same_onBuf (d : Dev) (f : Plat → Buf → Plat × Buf) (x : Part) (h : x ∉ [Part.plat, Part.buf]) :
    x.same d (d.onBuf f) := by
  cases x <;> first | rfl | simp at h

theorem same_onSec (d : Dev) (f : Plat → Sec → Plat × Sec) (x : Part) (h : x ∉ [Part.plat, Part.sec]) :
    x.same d (d.onSec f) := by
  cases x <;> first | rfl | simp at h

theorem same_onBcl (d : Dev) (f : Plat → Bcl → Plat × Bcl) (x : Part) (h : x ∉ [Part.plat, Part.bcl]) :
    x.same d (d.onBcl f) := by
  cases x <;> first | rfl | simp at h

theorem same_onHif (d : Dev) (f : Plat → Hif → Plat × Hif) (x : Part) (h : x ∉ [Part.plat, Part.hif]) :
    x.same d (d.onHif f) := by
  cases x <;> first | rfl | simp at h

theorem same_onCmd (d : Dev) (f : Plat → Cmd → Plat × Cmd) (x : Part) (h : x ∉ [Part.plat, Part.cmd]) :
    x.same d (d.onCmd f) := by
  cases x <;> first | rfl | simp at h

theorem same_onKeep (d : Dev) (f : Plat → Keep → Plat × Keep) (x : Part) (h : x ∉ [Part.plat, Part.keep]) :
    x.same d (d.onKeep f) := by
  cases x <;> first | rfl | simp at h

theorem same_onSpl (d : Dev) (f : Plat → Spl → Plat × Spl) (x : Part) (h : x ∉ [Part.plat, Part.spl]) :
    x.same d (d.onSpl f) := by
  cases x <;> first | rfl | simp at h

theorem same_onFe (d : Dev) (f : Fe → Fe) (x : Part) (h : x ∉ [Part.plat, .hif, .cmd, .buf, .sec]) : x.same d (d.onFe f) := by
  cases x <;> first | rfl | simp at h

theorem same_putFe (d : Dev) (e : Fe) (x : Part) (h : x ∉ [Part.plat, .hif, .cmd, .buf, .sec]) : x.same d (d.putFe e) := by
  cases x <;> first | rfl | simp at h

theorem same_setAct (d : Dev) (n : Fin 4) (a : Act) (x : Part) (h : x ≠ .act n) : x.same d (d.setAct n a) := by
  cases x with
  | act m => exact dev_act_setAct_ne d n m a (fun e => h (by rw [e]))
  | tsq t => simp [Part.same]
  | _ => simp [Part.same]

theorem tsq_setTsq_ne (d : Dev) (t u : Fin 5) (q : Tsq) (h : u ≠ t) : (d.setTsq t q).tsq u = d.tsq u := by
  revert h
  match t, u with
  | 0, 0 | 1, 1 | 2, 2 | 3, 3 | 4, 4 => intro h; exact absurd rfl h
  | 0, 1 | 0, 2 | 0, 3 | 0, 4 | 1, 0 | 1, 2 | 1, 3 | 1, 4 | 2, 0 | 2, 1 | 2, 3 | 2, 4 | 3, 0 | 3, 1 | 3, 2 | 3, 4
  | 4, 0 | 4, 1 | 4, 2 | 4, 3 => intro _; rfl

theorem same_setTsq (d : Dev) (t : Fin 5) (q : Tsq) (x : Part) (h : x ≠ .tsq t) : x.same d (d.setTsq t q) := by
  cases x with
  | act m => simp [Part.same]
  | tsq u => exact tsq_setTsq_ne d t u q (fun e => h (by rw [e]))
  | _ => simp [Part.same]

/-- An operation on an actuator changes what every block shares, the actuator and the Track Sequencer that serves it. -/
theorem same_onAc (d : Dev) (n : Fin 4) (f : Ac → Ac) (x : Part) (h : x ∉ [Part.plat, .act n, .tsq (d.serving n)]) :
    x.same d (d.onAc n f) := by
  simp only [List.mem_cons, List.not_mem_nil, or_false, not_or] at h
  unfold Dev.onAc Dev.putAc
  refine same_trans ?_ (same_setTsq _ _ _ _ h.2.2)
  refine same_trans (e := { d with plat := _ }) ?_ (same_setAct _ _ _ _ h.2.1)
  cases x <;> first | rfl | exact absurd rfl h.1

theorem same_setLink (d : Dev) (n : Fin 4) (l : Link) (x : Part) (h : x ≠ .act n) : x.same d (d.setLink n l) :=
  same_setAct d n _ x h

theorem same_onLink (d : Dev) (n : Fin 4) (f : Fe → Link → Fe × Link) (x : Part)
    (h : x ∉ [Part.plat, .hif, .cmd, .buf, .sec, .act n]) : x.same d (d.onLink n f) := by
  simp only [List.mem_cons, List.not_mem_nil, or_false, not_or] at h
  unfold Dev.onLink
  exact same_trans (same_trans (same_putFe d (f d.fe (d.act n).link).1 x (by simp [h]))
    (same_setLink _ n (f d.fe (d.act n).link).2 x (by simp [h]))) (same_onPlat _ _ x (by simp [h]))

theorem same_sendAbrts (d : Dev) (as : List (Nat × Nat)) (x : Part) (h : x ∉ [Part.plat, .act 0, .act 1, .act 2, .act 3]) :
    x.same d (d.sendAbrts as) := by
  simp only [List.mem_cons, List.not_mem_nil, or_false, not_or] at h
  have one : ∀ (e : Dev) (n : Fin 4), x.same e (if as.any (fun y => y.1 == n.val) then
      ((e.setLink n ((e.act n).link.sendAbrts n as)).onPlat (fun p => p.showLink n ((e.act n).link.sendAbrts n as))) else e) := by
    intro e n
    split
    · refine same_trans (same_setLink _ n _ x ?_) (same_onPlat _ _ x (by simp [h]))
      match n with
      | 0 | 1 | 2 | 3 => simp [h]
    · exact same_refl x e
  unfold Dev.sendAbrts
  simp only [List.foldl_cons, List.foldl_nil]
  exact same_trans (same_trans (same_trans (one d 0) (one _ 1)) (one _ 2)) (one _ 3)

/-- A register write changes what its effect changes, or what every block shares. -/
theorem same_regWrite (d : Dev) (c : Fin 4) (a : Nat) (f : Dev → Dev) (x : Part) (hx : x ≠ .plat) (h : x.same d (f d)) :
    x.same d (d.regWrite c a f) := by
  unfold Dev.regWrite
  split
  · exact h
  · exact same_onPlat _ _ x (by simp [hx])

theorem same_regRead (d : Dev) (c : Fin 4) (a : Nat) (f : Dev → Dev) (x : Part) (hx : x ≠ .plat) (h : x.same d (f d)) :
    x.same d (d.regRead c a f) := by
  unfold Dev.regRead
  split
  · exact h
  · exact same_onPlat _ _ x (by simp [hx])

end Sys2Proof.Machine
end

