-- ==== Sys2Proof/Laws/Power.lean ====
section
/-! SUPPORT. What the chip resets leave in the registers (R471, Table SUW-2). -/

namespace Sys2Proof.Machine

/-- A register at its Reset value takes its Reset value. -/
theorem surviving_reset (a : Nat) : surviving a (resetWord a) = resetWord a := by
  unfold surviving
  ext i hi
  simp only [BitVec.getElem_or, BitVec.getElem_and, BitVec.getElem_not]
  cases (surviveMask a)[i] <;> simp

theorem foldl_surviving (g : Nat → Word) (m r : SMap Word) (a : Nat) :
    SMap.get resetWord (m.foldl (fun r e => SMap.set resetWord r e.1 (surviving e.1 (g e.1))) r) a =
      if a ∈ m.map Prod.fst then surviving a (g a) else SMap.get resetWord r a := by
  induction m generalizing r with
  | nil => simp
  | cons e m ih =>
    simp only [List.foldl_cons, ih, smap_get_set, List.map_cons, List.mem_cons]
    by_cases h : a ∈ m.map Prod.fst
    · simp [h]
    · by_cases k : a = e.1
      · subst k; simp [h]
      · simp [h, k]

/-- A key that no entry lists reads as the default. -/
theorem smap_get_unlisted {α : Type} (d : Nat → α) (m : SMap α) (a : Nat) (h : a ∉ m.map Prod.fst) : SMap.get d m a = d a := by
  induction m with
  | nil => rfl
  | cons e m ih =>
    simp only [List.map_cons, List.mem_cons, not_or] at h
    simp [SMap.get, h.1, ih h.2]

/-- Every register after a pin or watchdog reset: what survives of it, the rest at its Reset value. -/
theorem surviveRegs_get (m : SMap Word) (a : Nat) :
    SMap.get resetWord (surviveRegs m) a = surviving a (SMap.get resetWord m a) := by
  unfold surviveRegs
  rw [foldl_surviving (SMap.get resetWord m)]
  split
  · rfl
  · next h => rw [smap_get_unlisted _ _ _ h, surviving_reset]; rfl

/-- A register's word after a pin or watchdog reset, the cause register apart. -/
theorem plat_chipReset_rd (p : Plat) (f : Fld) (a : Nat) (h : a ≠ Reg.SYS_RST_CAUSE) :
    (p.chipReset f).rd a = surviving a (p.rd a) := by
  unfold Plat.chipReset
  rw [Plat.setFlag, plat_rd_setFld_ne _ _ _ _ _ h]
  exact surviveRegs_get p.regs a

end Sys2Proof.Machine
end

