-- ==== Sys2Proof/Laws/Sec.lean ====
section
/-! SUPPORT. What the key store's operations can do (R426). -/

namespace Sys2Proof.Machine

/-- The staging registers. -/
theorem foldl_wr_keeps (l : List Nat) (g : Nat → Nat) (w : Nat → Word) (p : Plat) (xs : List Nat) (h : ∀ x ∈ l, g x ∈ xs) :
    p.keeps (l.foldl (fun q x => q.wr (g x) (w x)) p) xs := by
  induction l generalizing p with
  | nil => exact keeps_refl p xs
  | cons y l ih =>
    exact keeps_trans (keeps_wr p (g y) (w y) xs (h y (by simp)))
      (ih (p.wr (g y) (w y)) (fun x hx => h x (by simp [hx])))

theorem foldl_wr_rd (l : List Nat) (g : Nat → Nat) (w : Nat → Word) (p : Plat) (y : Nat) (hy : y ∈ l) (hn : l.Nodup)
    (hg : ∀ a b, g a = g b → a = b) : (l.foldl (fun q x => q.wr (g x) (w x)) p).rd (g y) = w y := by
  induction l generalizing p with
  | nil => exact absurd hy (by simp)
  | cons z l ih =>
    simp only [List.foldl_cons]
    by_cases e : y ∈ l
    · exact ih _ e (List.nodup_cons.1 hn).2
    · have hz : y = z := by simpa [e] using hy
      subst hz
      rw [foldl_wr_keeps l g w _ (l.map g) (fun x hx => List.mem_map_of_mem hx) (g y) ?_]
      · simp
      · intro hm
        obtain ⟨x, hx, hx2⟩ := List.mem_map.1 hm
        exact e (hg x y hx2 ▸ hx)

/-- What the staging words can be seen as after `putStg`. -/
theorem putStg_stg (p : Plat) (bs : List Nat) (b : Bool) (w : Nat) (h : w < 18) :
    (p.putStg bs b).rd (Reg.SEC_KEYSTG w) = BitVec.ofNat 32 (numOf ((bs.drop (4 * w)).take 4)) := by
  have := foldl_wr_rd (List.range 18) Reg.SEC_KEYSTG (fun w => BitVec.ofNat 32 (numOf ((bs.drop (4 * w)).take 4))) p w
    (by simp [h]) List.nodup_range (by intro a b e; simp [Reg.SEC_KEYSTG] at e; omega)
  simpa [Plat.putStg, Plat.rd] using this

theorem putStg_keeps (p : Plat) (bs : List Nat) (b : Bool) (xs : List Nat) (h : ∀ w < 18, Reg.SEC_KEYSTG w ∈ xs) :
    p.keeps (p.putStg bs b) xs := by
  intro a ha
  have := foldl_wr_keeps (List.range 18) Reg.SEC_KEYSTG (fun w => BitVec.ofNat 32 (numOf ((bs.drop (4 * w)).take 4))) p xs
    (fun x hx => h x (by simpa using hx)) a ha
  simpa only [Plat.putStg, Plat.rd] using this

theorem putStg_shown (p : Plat) (bs : List Nat) (b : Bool) : (p.putStg bs b).stgShown = b := rfl

end Sys2Proof.Machine
end

