-- ==== Sys2Proof/Tests/Helpers.lean ====
section
/-! SUPPORT. Small machines that the tests and witnesses start from: the machine after reset, with a few registers or parts changed. -/

namespace Sys2Proof.Tests

open Sys2Proof Sys2Proof.Machine

/-- The machine after reset, with registers written. -/
def mk (rs : List (Nat × Nat)) : Dev :=
  { Dev.reset with plat := rs.foldl (fun p r => p.wr r.1 (BitVec.ofNat 32 r.2)) Dev.reset.plat }

/-- A register value from its fields. -/
def fs (l : List (Fld × Nat)) : Nat := l.foldl (fun s x => s + (Fld.put x.1 0 x.2).toNat) 0

/-- The mailbox holds a command. -/
def held (d : Dev) : Dev := { d with mgt := { d.mgt with held := true } }

/-- The last two sync marks, in microseconds. -/
def marked (d : Dev) (m l : Nat) : Dev := { d with mgt := { d.mgt with prevMark := some (1000 * m), mark := some (1000 * l) } }

/-- A power domain off. -/
def offD (k : Nat) (d : Dev) : Dev := d.onPlat (fun p => p.setOn k false)

/-- A power domain no longer requested. -/
def unreq (k : Nat) (d : Dev) : Dev := d.onPlat (fun p => if k < 32 then p.putBit Reg.PWR_REQ_LO ⟨k, 1⟩ false else p.putBit Reg.PWR_REQ_HI ⟨k - 32, 1⟩ false)

/-- Start-up stands at `b`. -/
def booted (b : Boot) (d : Dev) : Dev := { d with sys := { d.sys with boot := b } }

/-- The crypto block changed. -/
def secd (f : Sec → Sec) (d : Dev) : Dev := { d with sec := f d.sec }

/-- The watchdog: STAGE, EN, LOCK. -/
def wd (st en lock : Nat) : Dev :=
  mk [(Reg.SYS_WDT_CTRL, fs [(Fld.SYS_WDT_CTRL_EN, en), (Fld.SYS_WDT_CTRL_LOCK, lock)]), (Reg.SYS_WDT_STAT, fs [(Fld.SYS_WDT_STAT_STAGE, st)])]

/-- The console holds `n` characters. -/
def con (n : Nat) : Dev := { mk [] with sys := { (mk []).sys with console := List.replicate n 65 } }

/-- Frieze events wait. -/
def frz (q : List FrzEvent) (d : Dev) : Dev := d.onPlat (fun p => { p with frz := { p.frz with queue := q } })

/-- The trace FIFO holds `n` messages. -/
def trc (n : Nat) (d : Dev) : Dev := d.onPlat (fun p => { p with trc := { p.trc with fifo := List.replicate n ⟨3, [1]⟩, syncDue := false } })

/-- The thermal supervision changed. -/
def thm (f : Thm → Thm) (d : Dev) : Dev := { d with thm := f d.thm }

/-- Bytes with their CRC. -/
def crc (bs : List Byte) : List Byte := bs ++ [BitVec.ofNat 8 (crc8 bs)]

/-- A firmware image of eight bytes. -/
def image : List Byte :=
  let h := leBytes 4 0x58464B4F ++ leBytes 4 8 ++ leBytes 4 0x400 ++ leBytes 4 0x404 ++ leBytes 8 7 ++ List.replicate 36 0
  let b : List Byte := [1, 2, 3, 4, 5, 6, 7, 8]
  h ++ leBytes 4 (crc32 (h ++ b)) ++ b

/-- Both banks of the Keep are ready and slot 0 holds `c`. -/
def slot0 (c : List Byte) (d : Dev) : Dev :=
  { d with keep := { d.keep with cells := SMap.store erasedByte [] 0x100000 c, scanned := [(0, true), (1, true)] } }

/-- The Keep changed, both banks scanned. -/
def kep (f : Keep → Keep) (d : Dev) : Dev := { d with keep := f { d.keep with scanned := [(0, true), (1, true)] } }

/-- A Keep command in progress: OP, address, RESULT. -/
def kc (op addr : Nat) (res : Option Nat := none) : KCmd := ⟨op, addr, 3, 1, 8, 3, 5, List.replicate 256 0, 2, 16, 0, 2, false, res⟩

/-- Bank `b` of the Keep runs `c`. -/
def kcr (b : Nat) (c : KCmd) : Dev := kep (fun k => { k with cmd := [(b, some c)] }) (mk [])

/-- The buffer's status bits, further registers, and the buffer changed. -/
def bufd (fl : List (Fld × Nat)) (rs : List (Nat × Nat) := []) (f : Buf → Buf := id) : Dev :=
  let d := mk ((Reg.BUF_STATUS, fs fl) :: rs)
  { d with buf := f d.buf }

/-- Two usable pages of an open buffer. -/
def bufo (rs : List (Nat × Nat) := []) (f : Buf → Buf := id) : Dev :=
  bufd [(Fld.BUF_STATUS_OPEN, 1)] ((Reg.BUF_USABLE, fs [(Fld.BUF_USABLE_PAGES, 2)]) :: rs) f

/-- A line of the stage cache. -/
def ln (l way : Nat) (b : Buf) : Buf := b.setLine (lineSet l) way (some ⟨lineTag l, false, List.replicate 128 7⟩)

/-- Actuator 1 and sequencer 1 changed, after register writes. -/
def ad (rs : List (Nat × Nat)) (qf : Tsq → Tsq := id) (g : Gate → Gate := id) (l : Link → Link := id) (m : Arm → Arm := id) : Dev :=
  let d := mk rs
  let a := d.act 1
  (d.setAct 1 ⟨l a.link, g a.gate, m a.arm⟩).setTsq 1 (qf (d.tsq 1))

/-- The servo of actuator 1 in mode `k`. -/
def md (k : Nat) (l : List (Fld × Nat) := []) : Nat × Nat := (Reg.ARM_STATUS 1, fs ((Fld.ARM_STATUS_MODE, k) :: l))

/-- The servo of actuator 1 changed. -/
def am (rs : List (Nat × Nat)) (f : Arm → Arm := id) : Dev := ad rs id id id f

/-- Actuator 1's eight heads enabled. -/
def hds : List (Nat × Nat) := (List.range 8).map (fun h => (Reg.ARM_HEAD 1 h, 0xFFFFFFFF))

/-- A status frame of type `ty`. -/
def sfr (ty x : Nat) : Word := let b := ty * 2 ^ 20 + x; BitVec.ofNat 32 (b * 256 + crc8 (beBytes 3 b))

/-- The two words of entry `i` of task store 1. -/
def tw (i v : Nat) : List (Nat × Nat) := [(Reg.TSQ_TASK_LO 1 i, v % 2 ^ 32), (Reg.TSQ_TASK_LO 1 i + 4, v / 2 ^ 32 % 2 ^ 32)]

/-- Sequencer 1 busy. -/
def bsy : Nat × Nat := (Reg.TSQ_STATUS 1, fs [(Fld.TSQ_STATUS_BUSY, 1)])

/-- A task of sequencer 1: kind, heads, suppressed slots, slot, first wedge, first logical row, rows. -/
def tsk (kind heads sup : Nat) (slot : Nat := 3) (q0 : Nat := 100) (lr : Nat := 50) (nr : Nat := 10) : List (Nat × Nat) :=
  bsy :: (tw 0 (kind * 2 ^ 60 + slot * 2 ^ 40) ++ tw 1 (0xABCD * 2 ^ 32 + 7 * 2 ^ 20 + sup * 256 + heads) ++ tw 2 (q0 * 2 ^ 40 + lr * 2 ^ 20 + nr))

/-- A window. -/
def ww (q0 lrow : Nat) (st : WinState) (heads : Nat) : Win := ⟨q0, lrow, st, heads, 0, 0, 0, 0, 0, 0, false⟩

/-- The sequencer has window `w`. -/
def wp (w : Win) (q : Tsq) : Tsq := { q with pos := { q.pos with win := some w } }

/-- A row being read. -/
def rr (lrow : Nat) (slots : SMap RSlot) (step : Nat := 0) : RRow := ⟨lrow, 100, step, true, 3, false, slots, none⟩

/-- The image store of slot 3 holds `bs` at `o`. -/
def imgB (o : Nat) (bs : List Byte) (q : Tsq) : Tsq := { q with store := SMap.store zeroByte q.store (65536 * 3 + o) bs }

/-- The metadata of a sector of logical row 50. -/
def leafMeta : List Byte :=
  leBytes 8 (1 * 2 ^ 56 + 1 * 2 ^ 51 + 1 * 2 ^ 48 + 2 * 2 ^ 40) ++ leBytes 8 (7 * 2 ^ 20 + 50)

/-- A sector's 4,096 data bytes (four of 0xFF, then zeros) and its metadata. -/
def leafBody : List Byte := List.replicate 4 255 ++ (List.replicate 4092 0 ++ leafMeta)

/-- The information bytes of that sector: the body and its CRC. -/
def leafData : List Byte := leafBody ++ leBytes 4 (crc32 (List.replicate 4 255 ++ leafMeta))

theorem crc32From_append (a b : List Byte) (c : Nat) : crc32From (a ++ b) c = crc32From b (crc32From a c) := by
  induction a generalizing c with
  | nil => rfl
  | cons x xs ih => exact ih _

theorem crc32From_zeros (n : Nat) : crc32From (List.replicate n 0) 0 = 0 := by
  induction n with
  | zero => rfl
  | succ n ih => exact ih

theorem leafBody_length : leafBody.length = 4112 := by
  simp only [leafBody, List.length_append, List.length_replicate]
  decide

theorem crc32_pad (k : Nat) (m : List Byte) :
    crc32 (List.replicate 4 255 ++ (List.replicate k 0 ++ m)) = crc32 (List.replicate 4 255 ++ m) := by
  have z : crc32From (List.replicate 4 255) 0xFFFFFFFF = 0 := by decide +kernel
  simp only [crc32, crc32From_append, z, crc32From_zeros]

theorem leaf_take : leafData.take 4112 = leafBody := List.take_left' leafBody_length

theorem leaf_drop : leafData.drop 4112 = leBytes 4 (crc32 (List.replicate 4 255 ++ leafMeta)) := List.drop_left' leafBody_length

theorem leaf_crc : crc32 (leafData.take 4112) = leNat (leafData.drop 4112) := by
  rw [leaf_take, leaf_drop]
  exact (crc32_pad 4092 leafMeta).trans (by decide +kernel)

theorem leaf_length : leafData.length = 4116 := by
  rw [leafData, List.length_append, leafBody_length]
  decide +kernel

theorem leaf_meta : (leafData.drop 4096).take 16 = leafMeta := by
  have h : leafData = (List.replicate 4 255 ++ List.replicate 4092 0) ++
      (leafMeta ++ leBytes 4 (crc32 (List.replicate 4 255 ++ leafMeta))) := by
    simp only [leafData, leafBody, List.append_assoc]
  rw [h, List.drop_left' (by simp only [List.length_append, List.length_replicate]), List.take_left' (by decide)]

/-- Fields of a tag's entry of the Command Table. -/
def tg (t : Nat) (l : List (CtFld × Nat)) (d : Dev) : Dev := d.onPlat (fun p => l.foldl (fun p x => p.setCt t x.1 x.2) p)

/-- A submission entry: opcode, command identifier, namespace, further dwords. -/
def sqe (op cid nsid : Nat) (dws : List (Nat × Nat) := []) : List Byte :=
  (List.range 16).flatMap (fun k => leBytes 4 (if k = 0 then op + 65536 * cid else if k = 1 then nsid else
    ((dws.find? (fun x => x.1 == k)).map (fun x => x.2)).getD 0))

/-- The host interface changed. -/
def hif (f : Hif → Hif) (d : Dev) : Dev := { d with hif := f d.hif }

/-- The command block changed. -/
def cmd (f : Cmd → Cmd) (d : Dev) : Dev := { d with cmd := f d.cmd }

/-- Tag 1 holds command `op` of submission queue `q`, with fields of its entry. -/
def tc (op q : Nat) (l : List (CtFld × Nat)) (rs : List (Nat × Nat) := []) (dws : List (Nat × Nat) := []) : Dev :=
  hif (fun h => { h with sqe := [(1, sqe op 5 1 dws)] }) (tg 1 ((Ct.sqid, q) :: l) (mk rs))

/-- The buffer open, with 100 pages. -/
def opened : List (Nat × Nat) := [(Reg.BUF_STATUS, fs [(Fld.BUF_STATUS_OPEN, 1)]), (Reg.BUF_USABLE, fs [(Fld.BUF_USABLE_PAGES, 100)])]

/-- The host end of Actuator Link 1 changed, the link enabled. -/
def lnk (f : Link → Link) (c : Cmd → Cmd := id) (rs : List (Nat × Nat) := []) : Dev :=
  cmd c (ad ((Reg.LNK_CTRL 1, 0xFFFFFFFF) :: rs) id id f)

/-- A submission queue of 16 entries. -/
def sbq (cq tail head : Nat) (sh : Shadow := ⟨false, 0, 0, 0⟩) : SubQ := ⟨16, cq, tail, head, none, sh⟩

/-- A completion queue of 16 entries with two entries posted from `head` on. -/
def cpq (head : Nat) (sh : Shadow := ⟨false, 0, 0, 0⟩) : CplQ :=
  ⟨16, true, 0, (head + 2) % 16, head, true, [⟨0, 0, 0, 0, 0, 0, true⟩, ⟨1, 0, 0, 0, 0, 0, true⟩], [], sh⟩

/-- A controller that is ready. -/
def ctl (f : Ctrl → Ctrl := id) : Ctrl := f { ctrlReset with en := true, rdy := true }

end Sys2Proof.Tests
end

