-- ==== Sys2Proof/Tests/Slice0.lean ====
section
/-! SUPPORT. Tests of our own: each check of well-formedness refuses an ill-formed command, the codes and ciphers agree with
published check values, and a few single commands do what the manual says. -/

namespace Sys2Proof.Tests

open Sys2Proof Sys2Proof.Machine

set_option Elab.async false

/-! ## Each check of well-formedness refuses -/

theorem test_wf_refuses_short_entry : (Instr.commandFetch 0 1 (List.replicate 63 0)).wf = false := by decide

theorem test_wf_refuses_link_without_lanes : (Instr.linkUp 0 1 0).wf = false ∧ (Instr.linkUp 0 0 1).wf = false := by decide

theorem test_wf_refuses_vector : (Instr.interruptCoalescingTimeout 0 2048).wf = false := by decide

theorem test_wf_refuses_part_of_a_dword : (Instr.firmwareImageDownload 0 [1, 2, 3]).wf = false := by decide

theorem test_wf_refuses_part_of_a_sector : (Instr.xferInComplete 0 [1] false).wf = false := by decide

theorem test_wf_refuses_wide_tofs : (Instr.tlnWindow 0 2097152).wf = false ∧ (Instr.tlnWedge 0 0 (-2097153)).wf = false ∧
    (Instr.tlnNow 0 2097152).wf = false := by decide

theorem test_wf_refuses_short_decode : (Instr.decodeEnd 0 0 [] 0 0 0 0).wf = false := by decide

theorem test_wf_refuses_wide_wedge_mark : (Instr.servoFieldDemod 0 0 1024 0 0 0 0 0 0 0).wf = false ∧
    (Instr.servoFieldDemod 0 0 0 0 0 (2 ^ 24) 0 0 0 0).wf = false := by decide

theorem test_wf_refuses_page_crossing : pageRange 4095 2 = false ∧ pageRange 0 0 = false ∧ pageRange (2 ^ 35) 1 = false := by decide

theorem test_wf_refuses_data_of_other_length : dataFits 2 (some [0]) = false := by decide

theorem test_wf_refuses_dram_shape : (Instr.trainingEnd 8 0 true).wf = false ∧ (Instr.trainingEnd 0 2 true).wf = false := by decide

theorem test_wf_refuses_keep_window_end : (Instr.keepWindowRead 0 0x7FFFFFF 2).wf = false := by decide

theorem test_wf_refuses_part_of_a_unit : (Instr.streamStop 0 31).wf = false := by decide

theorem test_wf_refuses_start_address : (Instr.coreStart 0 1 2).wf = false ∧ (Instr.coreStart 0 1 0x400000).wf = false := by decide

theorem test_wf_refuses_access_width : (Instr.registerWrite 0 0 3 0).wf = false ∧ (Instr.registerWrite 0 (2 ^ 40) 1 0).wf = false ∧
    (Instr.registerWrite 0 0 1 256).wf = false ∧ (Instr.accessTimeout 0 true 0 1 256).wf = false := by decide

theorem test_wf_refuses_counter_half : (Instr.counterSatClear 0 8).wf = false ∧ (Instr.counterLoRead 0 4).wf = false := by decide

theorem test_wf_refuses_slice : (Instr.loopbackEnd [(26, ⟨0, 0, true, 0⟩)]).wf = false := by decide

theorem test_wf_refuses_long_request : (Instr.miVpdRead (List.replicate 2049 0)).wf = false ∧
    (Instr.miVpdWrite (List.replicate 2049 0)).wf = false ∧ (Instr.miReset (List.replicate 2049 0)).wf = false ∧
    (Instr.miAdminTunnel (List.replicate 2049 0)).wf = false ∧
    (Instr.miControllerHealthPoll (List.replicate 2049 0)).wf = false := by decide +kernel

theorem test_wf_refuses_unit_code : (Instr.unitStateSet 256 0).wf = false ∧ (Instr.unitStateSet 0 256).wf = false := by decide

/-! ## Codes and ciphers against published check values -/

/-- The bytes `123456789`, whose check values the catalogues of CRC codes give. -/
def digits : List Byte := [0x31, 0x32, 0x33, 0x34, 0x35, 0x36, 0x37, 0x38, 0x39]

/-- Check value of the CRC-32 of Ethernet. -/
theorem test_crc32_check : crc32 digits = 0xCBF43926 := by decide +kernel

/-- Check value of the CRC-16 with polynomial 0x1021 and initial value all ones. -/
theorem test_crc16_check : crc16 digits = 0x29B1 := by decide +kernel

/-- Check value of the CRC-8 with polynomial 0x07. -/
theorem test_crc8_check : crc8 digits = 0xF4 := by decide +kernel

/-- FIPS 197, example C.3 (AES-256). -/
theorem test_aes_fips197 : aesEnc (aesKeys (List.range 32)) ((List.range 16).map (fun i => 17 * i)) =
    [0x8E, 0xA2, 0xB7, 0xCA, 0x51, 0x67, 0x45, 0xBF, 0xEA, 0xFC, 0x49, 0x90, 0x4B, 0x49, 0x60, 0x89] := by decide +kernel

/-! ## Single commands -/

/-- No row of the command table has bits. -/
theorem test_no_word_spells_a_command (nbits w : Nat) : decodeTableWord nbits w = none := rfl

/-- R396: a clock of the Plinth advances the time base by 40 ns. -/
theorem test_idle_clock : (match step State.reset with | .next t => t.dev.plat.time | _ => 0) = 40 := by decide +kernel

/-- R118: an addition of all ones and 1 writes 0 with Z and C set, N and V clear. -/
theorem test_alu_add_wraps :
    (match exec (.aluAdd 1 2 3 4) ⟨[], ad [bsy] (fun q => { q with running := true, w := [(2, 2 ^ 64 - 1), (3, 1)] })⟩ with
     | .next t => let q := t.dev.tsq 1; (q.reg 4 == 0 && q.z && q.c && !q.n && !q.v)
     | _ => false) = true := by decide +kernel

/-- R401: SWI_SET and SWI_CLEAR act on the bits written as 1 alone. -/
theorem test_swi_bits :
    (match exec (.swiClear 0 2) ⟨[], mk [(Reg.HUB_SWI, 7)]⟩ with | .next t => t.dev.plat.rd Reg.HUB_SWI | _ => 0) = 5 := by
  decide +kernel

end Sys2Proof.Tests
end

