-- ==== Sys2Proof/Tests/WitnessGates.lean ====
section
/-! SUPPORT. Witnesses: for each statement about windows, write gates and preamplifiers, machines and operands that
meet the hypotheses of each of its clauses together. -/

namespace Sys2Proof.Tests

open Sys2Proof Sys2Proof.Machine

set_option linter.unusedVariables false
set_option maxRecDepth 65536
set_option Elab.async false

/-- The hypotheses of `Obligations.WindowsOpenEndAndGatesRise` are met. -/
theorem witness_WindowsOpenEndAndGatesRise :
    (let q : List Instr := [];
     let d : Dev := ad (tsk 1 0xA 0 ++ [(Reg.TSQ_CAL_EPOCH 1,
       5)]) (fun q => { q with running := true, pos := { q.pos with win := some (ww 110 50 .granted 0xA) } });
     let n : ActNo := 1; let w : Win := ww 110 50 .granted 0xA; let a : Ac := d.acWith n (d.serving n);
     let t : Nat := a.img.track a.member w.q; let temp : Nat := d.plat.fld (Reg.TSQ_ENV a.t) Fld.TSQ_ENV_TEMP;
     let c : Ac := a.sample; let on : Prop := a.q.pos.win = some w;
     let dead : Prop := a.deadline ≠ 0 ∧ a.deadline < d.plat.time.toNat;
     let tests : Prop := on ∧ w.st = .granted ∧ a.locked = false ∧ ¬ dead;
     let heat : Prop := a.isWrite = true ∧ a.img.assistOk a.headset t (signed 16 temp) = false;
     let reason : Nat := if c.staleReason ≠ 0 then c.staleReason else if heat then 0x15 else 0;
     tests ∧ a.busy = true ∧ reason ≠ 0) ∧
    (let q : List Instr := [];
     let d : Dev := let d := ad (tsk 1 0xA 0 ++ [(Reg.TSQ_TASK_LO 1 6, 5)]) (fun q => { q with running := true, pos := { q.pos with win := some (ww 110 50 .granted 0xA) } });
     { d with plat := { d.plat with time := 7 } }; let n : ActNo := 1; let w : Win := ww 110 50 .granted 0xA;
     let a : Ac := d.acWith n (d.serving n); let on : Prop := a.q.pos.win = some w;
     let dead : Prop := a.deadline ≠ 0 ∧ a.deadline < d.plat.time.toNat;
     on ∧ w.st = .granted ∧ a.busy = true ∧ a.locked = false ∧ dead) ∧
    (let q : List Instr := [];
     let d : Dev := ad (tsk 1 0xA 0 ++ [(Reg.TSQ_STATUS 1, fs [(Fld.TSQ_STATUS_BUSY, 1), (Fld.TSQ_STATUS_LOCKED,
       1)])]) (fun q => { q with running := true, pos := { q.pos with win := some (ww 110 50 .granted 0xA) } });
     let n : ActNo := 1; let w : Win := ww 110 50 .granted 0xA; let a : Ac := d.acWith n (d.serving n);
     let on : Prop := a.q.pos.win = some w; on ∧ w.st = .granted ∧ a.locked = true) ∧
    (let q : List Instr := [];
     let d : Dev := ad (tsk 1 0xA 0 ++ [(Reg.TSQ_ENV_AGE 1, 0), (Reg.ARM_STATUS 1, fs [(Fld.ARM_STATUS_INHIBIT,
       2)])]) (fun q => { q with running := true, pos := { q.pos with win := some (ww 110 50 .granted 0xA) } });
     let n : ActNo := 1; let w : Win := ww 110 50 .granted 0xA; let a : Ac := d.acWith n (d.serving n);
     let t : Nat := a.img.track a.member w.q; let temp : Nat := d.plat.fld (Reg.TSQ_ENV a.t) Fld.TSQ_ENV_TEMP;
     let c : Ac := a.sample; let on : Prop := a.q.pos.win = some w;
     let dead : Prop := a.deadline ≠ 0 ∧ a.deadline < d.plat.time.toNat;
     let tests : Prop := on ∧ w.st = .granted ∧ a.locked = false ∧ ¬ dead;
     let heat : Prop := a.isWrite = true ∧ a.img.assistOk a.headset t (signed 16 temp) = false;
     let reason : Nat := if c.staleReason ≠ 0 then c.staleReason else if heat then 0x15 else 0;
     tests ∧ reason = 0 ∧ a.isZwrite = true ∧ a.inhibit ≠ 0) ∧
    (let q : List Instr := [];
     let d : Dev := ad (tsk 1 0xA 0 ++ [(Reg.TSQ_ENV_AGE 1,
       0)]) (fun q => { q with running := true, pos := { q.pos with win := some (ww 110 50 .granted 0xA) } });
     let n : ActNo := 1; let w : Win := ww 110 50 .granted 0xA; let a : Ac := d.acWith n (d.serving n);
     let t : Nat := a.img.track a.member w.q; let temp : Nat := d.plat.fld (Reg.TSQ_ENV a.t) Fld.TSQ_ENV_TEMP;
     let c : Ac := a.sample; let on : Prop := a.q.pos.win = some w;
     let dead : Prop := a.deadline ≠ 0 ∧ a.deadline < d.plat.time.toNat;
     let tests : Prop := on ∧ w.st = .granted ∧ a.locked = false ∧ ¬ dead;
     let heat : Prop := a.isWrite = true ∧ a.img.assistOk a.headset t (signed 16 temp) = false;
     let reason : Nat := if c.staleReason ≠ 0 then c.staleReason else if heat then 0x15 else 0;
     let late : Prop := a.isWrite = true ∧ ∃ k : HeadNo, a.useHeads.testBit k = true ∧ c.armedWrite t k = false;
     tests ∧ reason = 0 ∧ (a.isZwrite = true → a.inhibit = 0) ∧ late) ∧
    (let q : List Instr := [];
     let d : Dev := ad (tsk 2 0xA 0 ++ [(Reg.TSQ_ENV_AGE 1,
       0)]) (fun q => { q with running := true, pos := { q.pos with win := some (ww 110 50 .granted 0xA) } });
     let n : ActNo := 1; let w : Win := ww 110 50 .granted 0xA; let a : Ac := d.acWith n (d.serving n);
     let t : Nat := a.img.track a.member w.q; let temp : Nat := d.plat.fld (Reg.TSQ_ENV a.t) Fld.TSQ_ENV_TEMP;
     let c : Ac := a.sample; let on : Prop := a.q.pos.win = some w;
     let dead : Prop := a.deadline ≠ 0 ∧ a.deadline < d.plat.time.toNat;
     let tests : Prop := on ∧ w.st = .granted ∧ a.locked = false ∧ ¬ dead;
     let heat : Prop := a.isWrite = true ∧ a.img.assistOk a.headset t (signed 16 temp) = false;
     let reason : Nat := if c.staleReason ≠ 0 then c.staleReason else if heat then 0x15 else 0;
     let late : Prop := a.isWrite = true ∧ ∃ k : HeadNo, a.useHeads.testBit k = true ∧ c.armedWrite t k = false;
     tests ∧ reason = 0 ∧ (a.isZwrite = true → a.inhibit = 0) ∧ ¬ late) ∧
    (let d : Dev := mk []; let n : ActNo := 1; let w : Win := ww 110 50 .granted 0xA;
     let a : Ac := d.acWith n (d.serving n); let on : Prop := a.q.pos.win = some w;
     (a.q.pos.win = none ∨ on ∧ w.st ≠ .granted)) ∧
    (let q : List Instr := [];
     let d : Dev := ad (tsk 2 0xA 0) (fun q => { q with running := true, pos := { q.pos with win := some (ww 110 50 .proceeding 0xA) } });
     let n : ActNo := 1; let w : Win := ww 110 50 .proceeding 0xA; let a : Ac := d.acWith n (d.serving n);
     let on : Prop := a.q.pos.win = some w; on ∧ w.st ≠ .granted ∧ a.inFrame = 0) ∧
    (let q : List Instr := [];
     let d : Dev := ad (tsk 2 0xA 0) (fun q => { q with running := true, pos := { q.pos with win := some (ww 110 50 .granted 0xA) } });
     let n : ActNo := 1; let w : Win := ww 110 50 .granted 0xA; let a : Ac := d.acWith n (d.serving n);
     let on : Prop := a.q.pos.win = some w; on ∧ (w.st = .granted ∨ a.inFrame ≠ 0)) ∧
    (let q : List Instr := [];
     let d : Dev := ad (tsk 1 0xA 0 ++ [(Reg.HSI_BUS 1, fs [(Fld.HSI_BUS_PHASE, 2)]), (Reg.TSQ_TASK_LO 1 4 + 4,
       60 * 2 ^ 22)]) (fun q => { q with running := true, tbuf := [(0, some ⟨50, 0, [1], 0, 0, 0⟩)], pos := { q.pos with win := some (ww 110 50 .proceeding 0xA) } }) (fun g => { g with wgArm := 0xA });
     let n : ActNo := 1; let h : HeadNo := 1; let w : Win := ww 110 50 .proceeding 0xA;
     let a : Ac := d.acWith n (d.serving n); let on : Prop := a.q.pos.win = some w;
     let rises : Prop := on ∧ a.isWrite = true ∧ w.st = .proceeding ∧ w.ended = false ∧ w.heads.testBit h = true ∧
       w.begun.testBit h = false;
     let may : Prop := a.inhibit.testBit h = false ∧ a.code = 2 ∧ a.g.gap = false ∧ a.g.wgArm.testBit h = true ∧
       (a.g.head h).mon = 0 ∧ a.wqHeld = false ∧ w.dropped.testBit h = false;
     let u := [1]; rises ∧ may ∧ a.userOf h = some u) ∧
    (let q : List Instr := [];
     let d : Dev := ad (tsk 1 0xA 0 ++ [(Reg.HSI_BUS 1, fs [(Fld.HSI_BUS_PHASE, 2)]), (Reg.TSQ_TASK_LO 1 4 + 4,
       60 * 2 ^ 22)]) (fun q => { q with running := true, pos := { q.pos with win := some (ww 110 50 .proceeding 0xA) } }) (fun g => { g with wgArm := 0xA });
     let n : ActNo := 1; let h : HeadNo := 1; let w : Win := ww 110 50 .proceeding 0xA;
     let a : Ac := d.acWith n (d.serving n); let on : Prop := a.q.pos.win = some w;
     let rises : Prop := on ∧ a.isWrite = true ∧ w.st = .proceeding ∧ w.ended = false ∧ w.heads.testBit h = true ∧
       w.begun.testBit h = false;
     let may : Prop := a.inhibit.testBit h = false ∧ a.code = 2 ∧ a.g.gap = false ∧ a.g.wgArm.testBit h = true ∧
       (a.g.head h).mon = 0 ∧ a.wqHeld = false ∧ w.dropped.testBit h = false;
     rises ∧ may ∧ a.userOf h = none) ∧
    (let d : Dev := mk []; let n : ActNo := 1; let h : HeadNo := 0; let w : Win := ww 110 50 .granted 0xA;
     let a : Ac := d.acWith n (d.serving n); let on : Prop := a.q.pos.win = some w;
     let rises : Prop := on ∧ a.isWrite = true ∧ w.st = .proceeding ∧ w.ended = false ∧ w.heads.testBit h = true ∧
       w.begun.testBit h = false;
     (a.q.pos.win = none ∨ on ∧ ¬ rises)) ∧
    (let q : List Instr := [];
     let d : Dev := ad (tsk 1 0xA 0) (fun q => { q with running := true, pos := { q.pos with win := some (ww 110 50 .proceeding 0xA) } }) (fun g => { g with wg := 2 });
     let n : ActNo := 1; let h : HeadNo := 1; let w : Win := ww 110 50 .proceeding 0xA;
     let a : Ac := d.acWith n (d.serving n); let on : Prop := a.q.pos.win = some w; on ∧ a.g.wg.testBit h = true) ∧
    (let d : Dev := mk []; let n : ActNo := 1; let h : HeadNo := 0; let a : Ac := d.acWith n (d.serving n);
     a.g.wg.testBit h = false) := by
  refine ⟨?_, ?_, ?_, ?_, ?_, ?_, ?_, ?_, ?_, ?_, ?_, ?_, ?_, ?_⟩
  all_goals ((try dsimp only [Dev.holdsAdmin, Dev.holdsIo]); try decide +kernel)

/-- The hypotheses of `Obligations.WriteGatesDropWithTheirCause` are met. -/
theorem witness_WriteGatesDropWithTheirCause :
    (let d : Dev := mk [(Reg.ARM_STATUS 1, fs [(Fld.ARM_STATUS_INHIBIT, 2)])]; let n : ActNo := 1; let h : HeadNo := 1;
     let a : Ac := d.acWith n (d.serving n); a.inhibit.testBit h = true) ∧
    (let d : Dev := mk []; let n : ActNo := 1; let h : HeadNo := 0; let a : Ac := d.acWith n (d.serving n);
     a.inhibit.testBit h = false) ∧
    (let q : List Instr := [];
     let d : Dev := ad (tsk 1 0xA 0) (fun q => { q with running := true }) (fun g => { g with wg := 2 });
     let n : ActNo := 1; let h : HeadNo := 1; let a : Ac := d.acWith n (d.serving n); a.g.wg.testBit h = true) ∧
    (let d : Dev := mk []; let n : ActNo := 1; let h : HeadNo := 0; let a : Ac := d.acWith n (d.serving n);
     a.g.wg.testBit h = false) ∧
    (let q : List Instr := [];
     let d : Dev := ad (tsk 1 0xA 0 ++ [(Reg.WRP_CFG 1, fs [(Fld.WRP_CFG_MON_MISS,
       3)])]) (fun q => { q with running := true }) (fun g => { g with wgArm := 2, heads := [(1, { (g.head 1) with miss := 3 })] });
     let n : ActNo := 1; let h : HeadNo := 1; let a : Ac := d.acWith n (d.serving n);
     let lim : Nat := d.plat.fld (Reg.WRP_CFG n) Fld.WRP_CFG_MON_MISS;
     let missing : Prop := lim ≠ 0 ∧ lim ≤ (a.g.head h).miss ∧ (a.g.wgArm &&& a.laneHeads).testBit h = true; missing) ∧
    (let d : Dev := mk []; let n : ActNo := 1; let h : HeadNo := 0; let a : Ac := d.acWith n (d.serving n);
     let lim : Nat := d.plat.fld (Reg.WRP_CFG n) Fld.WRP_CFG_MON_MISS;
     let missing : Prop := lim ≠ 0 ∧ lim ≤ (a.g.head h).miss ∧ (a.g.wgArm &&& a.laneHeads).testBit h = true; ¬ missing) ∧
    (let d : Dev := mk [(Reg.HSI_BUS 1, fs [(Fld.HSI_BUS_PHASE, 1)])]; let n : ActNo := 1;
     let a : Ac := d.acWith n (d.serving n); let on : Prop := d.plat.on (4 * n.val + 2) = true;
     let low : Prop := (a.code = 1 ∨ a.code = 3) ∧ a.g.gap = false ∧ on; low) ∧
    (let d : Dev := mk []; let n : ActNo := 1; let a : Ac := d.acWith n (d.serving n);
     let on : Prop := d.plat.on (4 * n.val + 2) = true; let low : Prop := (a.code = 1 ∨ a.code = 3) ∧ a.g.gap = false ∧ on;
     ¬ low) ∧
    (let d : Dev := mk [(Reg.HSI_BUS 1, fs [(Fld.HSI_BUS_PHASE, 2)])]; let n : ActNo := 1;
     let a : Ac := d.acWith n (d.serving n); let on : Prop := d.plat.on (4 * n.val + 2) = true;
     let asafe : Prop := a.code = 2 ∧ a.g.gap = false ∧ a.pullsAsafe = false ∧ on; asafe) ∧
    (let d : Dev := mk []; let n : ActNo := 1; let a : Ac := d.acWith n (d.serving n);
     let on : Prop := d.plat.on (4 * n.val + 2) = true;
     let asafe : Prop := a.code = 2 ∧ a.g.gap = false ∧ a.pullsAsafe = false ∧ on; ¬ asafe) := by
  refine ⟨?_, ?_, ?_, ?_, ?_, ?_, ?_, ?_, ?_, ?_⟩
  all_goals ((try dsimp only [Dev.holdsAdmin, Dev.holdsIo]); try decide +kernel)

/-- The hypotheses of `Obligations.ServoWindowsGapsAndSideFrames` are met. -/
theorem witness_ServoWindowsGapsAndSideFrames :
    (let d : Dev := mk []; let n : ActNo := 1; let g (e : Dev) : Gate := (e.act n).gate;
     let on : Prop := d.plat.on (4 * n.val + 2) = true; on ∧ (g d).servo = false) ∧
    (let d : Dev := ad [] id (fun g => { g with servo := true }); let n : ActNo := 1;
     let g (e : Dev) : Gate := (e.act n).gate; let on : Prop := d.plat.on (4 * n.val + 2) = true;
     (¬ on ∨ (g d).servo = true)) ∧
    (let d : Dev := ad [] id (fun g => { g with servo := true, phase := 2, fromW := true }); let n : ActNo := 1;
     let g (e : Dev) : Gate := (e.act n).gate; (g d).servo = true ∧ (g d).phase < 4) ∧
    (let d : Dev := mk []; let n : ActNo := 1; let g (e : Dev) : Gate := (e.act n).gate; (g d).servo = false) ∧
    (let d : Dev := ad [] id (fun g => { g with gap := true }); let n : ActNo := 1;
     let g (e : Dev) : Gate := (e.act n).gate; (g d).gap = true ∧ (g d).held = []) ∧
    (let d : Dev := ad [] id (fun g => { g with gap := true, held := [(3, 0, 0)] }); let n : ActNo := 1;
     let g (e : Dev) : Gate := (e.act n).gate; let code (e : Dev) : Nat := e.plat.fld (Reg.HSI_BUS n) Fld.HSI_BUS_PHASE;
     let c : Fin 3 := 2;
     (g d).gap = true ∧ (g d).servo = false ∧ (g d).still = false ∧ code d ≠ c.val ∧ (g d).held = [(c.val + 1, 0, 0)]) ∧
    (let d : Dev := mk []; let n : ActNo := 1; let g (e : Dev) : Gate := (e.act n).gate; (g d).gap = false) ∧
    (let q : List Instr := [];
     let d : Dev := ad (tsk 1 0xA 0 ++ [(Reg.HSI_BUS 1, fs [(Fld.HSI_BUS_PHASE,
       2)])]) (fun q => { q with running := true }) (fun g => { g with heads := [(1, { (g.head 1) with due := some (4096, true) })] });
     let n : ActNo := 1; let h : HeadNo := 1; let a : Ac := d.acWith n (d.serving n);
     let g (e : Dev) : Gate := (e.act n).gate;
     let lane : Prop := a.code = 2 ∧ (g d).gap = false ∧ a.laneHeads.testBit h = true; let x : WHead := (g d).head h;
     let f := 4096; let z := true; lane ∧ x.due = some (f, z)) ∧
    (let q : List Instr := [];
     let d : Dev := ad (tsk 1 0xA 0 ++ [(Reg.HSI_BUS 1, fs [(Fld.HSI_BUS_PHASE,
       2)])]) (fun q => { q with running := true }) (fun g => { g with heads := [(1, { (g.head 1) with due := none, modDue := some 0x55 })] });
     let n : ActNo := 1; let h : HeadNo := 1; let a : Ac := d.acWith n (d.serving n);
     let g (e : Dev) : Gate := (e.act n).gate;
     let lane : Prop := a.code = 2 ∧ (g d).gap = false ∧ a.laneHeads.testBit h = true; let x : WHead := (g d).head h;
     let f := 0x55; lane ∧ x.due = none ∧ x.modDue = some f) ∧
    (let q : List Instr := [];
     let d : Dev := ad (tsk 1 0xA 0 ++ [(Reg.HSI_BUS 1, fs [(Fld.HSI_BUS_PHASE,
       2)])]) (fun q => { q with running := true });
     let n : ActNo := 1; let h : HeadNo := 1; let a : Ac := d.acWith n (d.serving n);
     let g (e : Dev) : Gate := (e.act n).gate;
     let lane : Prop := a.code = 2 ∧ (g d).gap = false ∧ a.laneHeads.testBit h = true; let x : WHead := (g d).head h;
     lane ∧ x.due = none ∧ x.modDue = none) ∧
    (let d : Dev := mk []; let n : ActNo := 1; let h : HeadNo := 0; let a : Ac := d.acWith n (d.serving n);
     let g (e : Dev) : Gate := (e.act n).gate;
     let lane : Prop := a.code = 2 ∧ (g d).gap = false ∧ a.laneHeads.testBit h = true; ¬ lane) := by
  refine ⟨?_, ?_, ?_, ?_, ?_, ?_, ?_, ?_, ?_, ?_, ?_⟩
  all_goals ((try dsimp only [Dev.holdsAdmin, Dev.holdsIo]); try decide +kernel)

/-- The hypotheses of `Obligations.PreampTransactionsTelemetryAndModes` are met. -/
theorem witness_PreampTransactionsTelemetryAndModes :
    (let d : Dev := mk []; let n : ActNo := 1; let stat : Nat := Reg.HSI_PSTAT n;
     let busy : Bool := d.plat.bit stat Fld.HSI_PSTAT_BUSY; d.powered (Reg.HSI_PCMD n) ∧ busy = false) ∧
    (let d : Dev := mk [(Reg.HSI_PSTAT 1, fs [(Fld.HSI_PSTAT_BUSY, 1)])]; let n : ActNo := 1;
     let stat : Nat := Reg.HSI_PSTAT n; let busy : Bool := d.plat.bit stat Fld.HSI_PSTAT_BUSY;
     d.powered (Reg.HSI_PCMD n) ∧ busy = true) ∧
    (let d : Dev := mk [(Reg.HSI_PSTAT 1, fs [(Fld.HSI_PSTAT_BUSY, 1)]), (Reg.HSI_PCFG 1, fs [(Fld.HSI_PCFG_EN, 1)])];
     let n : ActNo := 1; let a : Ac := d.acWith n (d.serving n); let stat : Nat := Reg.HSI_PSTAT n;
     let busy : Bool := d.plat.bit stat Fld.HSI_PSTAT_BUSY;
     let start : Prop := a.code = 0 ∧ a.g.gap = false ∧ d.plat.bit (Reg.HSI_PCFG n) Fld.HSI_PCFG_EN = true ∧ busy = true ∧
       d.plat.on (4 * n.val + 2) = true;
     start) ∧
    (let d : Dev := mk []; let n : ActNo := 1; let a : Ac := d.acWith n (d.serving n); let stat : Nat := Reg.HSI_PSTAT n;
     let busy : Bool := d.plat.bit stat Fld.HSI_PSTAT_BUSY;
     let start : Prop := a.code = 0 ∧ a.g.gap = false ∧ d.plat.bit (Reg.HSI_PCFG n) Fld.HSI_PCFG_EN = true ∧ busy = true ∧
       d.plat.on (4 * n.val + 2) = true;
     ¬ start) ∧
    (let d : Dev := ad [] id (fun g => { g with xact := true }); let n : ActNo := 1; let a : Ac := d.acWith n (d.serving n);
     a.g.xact = true) ∧
    (let d : Dev := mk []; let n : ActNo := 1; let a : Ac := d.acWith n (d.serving n); a.g.xact = false) ∧
    (let d : Dev := mk []; let n : ActNo := 1; let c0 : Byte := 0x12; let c1 : Byte := 1; let c2 : Byte := 2;
     let c3 : Byte := 0; let c4 : Byte := BitVec.ofNat 8 (crc8 [0x12, 1, 2, 0]); let cut : Bool := false;
     let a : Ac := d.acWith n (d.serving n); let tt : Nat := c0.toNat / 16;
     let listens : Prop := d.plat.on (4 * n.val + 2) = true ∧ a.code ≠ 2;
     let heard : Prop := cut = false ∧ crc8 [c0, c1, c2, c3] = c4.toNat ∧ (tt = 1 ∨ tt = 2 ∨ 8 ≤ tt); listens ∧ heard) ∧
    (let d : Dev := mk []; let n : ActNo := 1; let c0 : Byte := 0; let c1 : Byte := 0; let c2 : Byte := 0;
     let c3 : Byte := 0; let c4 : Byte := 0; let cut : Bool := true; let a : Ac := d.acWith n (d.serving n);
     let tt : Nat := c0.toNat / 16; let listens : Prop := d.plat.on (4 * n.val + 2) = true ∧ a.code ≠ 2;
     let heard : Prop := cut = false ∧ crc8 [c0, c1, c2, c3] = c4.toNat ∧ (tt = 1 ∨ tt = 2 ∨ 8 ≤ tt); listens ∧ ¬ heard) ∧
    (let d : Dev := mk [(Reg.HSI_BUS 1, fs [(Fld.HSI_BUS_PHASE, 2)])]; let n : ActNo := 1;
     let a : Ac := d.acWith n (d.serving n); let listens : Prop := d.plat.on (4 * n.val + 2) = true ∧ a.code ≠ 2; ¬ listens) ∧
    (let d : Dev := mk []; let n : ActNo := 1; let h : HeadNo := 0;
     let v : Word := BitVec.ofNat 32 (fs [(Fld.WRP_MOD_MODE, 2)]);
     let fam : Nat := d.plat.fld (Reg.WRP_CFG n) Fld.WRP_CFG_FAMILY;
     let listed : Prop := if fam = 0 then Fld.get Fld.WRP_MOD_MODE v ≤ 2 else Fld.get Fld.WRP_MOD_MODE v = 8 ∨ Fld.get Fld.WRP_MOD_MODE v = 9;
     d.powered (Reg.WRP_MOD n h) ∧ listed) ∧
    (let d : Dev := mk []; let n : ActNo := 1; let h : HeadNo := 0;
     let v : Word := BitVec.ofNat 32 (fs [(Fld.WRP_MOD_MODE, 3)]);
     let fam : Nat := d.plat.fld (Reg.WRP_CFG n) Fld.WRP_CFG_FAMILY;
     let listed : Prop := if fam = 0 then Fld.get Fld.WRP_MOD_MODE v ≤ 2 else Fld.get Fld.WRP_MOD_MODE v = 8 ∨ Fld.get Fld.WRP_MOD_MODE v = 9;
     d.powered (Reg.WRP_MOD n h) ∧ ¬ listed) ∧
    (let d : Dev := mk []; let n : ActNo := 1; d.powered (Reg.WRP_CFG n)) := by
  refine ⟨?_, ?_, ?_, ?_, ?_, ?_, ?_, ?_, ?_, ?_, ?_, ?_⟩
  all_goals ((try dsimp only [Dev.holdsAdmin, Dev.holdsIo]); try decide +kernel)

end Sys2Proof.Tests
end

