-- ==== Sys2Proof/Tests/WitnessHost.lean ====
section
/-! SUPPORT. Witnesses: for each statement about host queue, controller and administration commands, machines and operands that
meet the hypotheses of each of its clauses together. -/

namespace Sys2Proof.Tests

open Sys2Proof Sys2Proof.Machine

set_option linter.unusedVariables false
set_option maxRecDepth 65536
set_option Elab.async false

/-- The hypotheses of `Obligations.DoorbellsMoveQueuesOrAreInvalid` are met. -/
theorem witness_DoorbellsMoveQueuesOrAreInvalid :
    (let d : Dev := mk []; let n : CtlNo := 0; let k : QueueNo := 1; let v : HalfWord := 3; d.hif.sq n k = none) ∧
    (let d : Dev := hif (fun h => { h with sqs := [(1, some (sbq 1 3 1))] }) (mk []); let n : CtlNo := 0;
     let k : QueueNo := 1; let v : HalfWord := 5;
     let tailOk (s : SubQ) : Prop := v.val < s.size ∧ ringDist s.size s.head s.tail ≤ ringDist s.size s.head v;
     let s := sbq 1 3 1; d.hif.sq n k = some s ∧ tailOk s) ∧
    (let d : Dev := hif (fun h => { h with sqs := [(1, some (sbq 1 3 1))] }) (mk []); let n : CtlNo := 0;
     let k : QueueNo := 1; let v : HalfWord := 16;
     let tailOk (s : SubQ) : Prop := v.val < s.size ∧ ringDist s.size s.head s.tail ≤ ringDist s.size s.head v;
     let s := sbq 1 3 1; d.hif.sq n k = some s ∧ ¬ tailOk s) ∧
    (let d : Dev := mk []; let n : CtlNo := 0; let k : QueueNo := 1; let v : HalfWord := 3; d.hif.cq n k = none) ∧
    (let d : Dev := hif (fun h => { h with cqs := [(1, some (cpq 1))] }) (mk []); let n : CtlNo := 0; let k : QueueNo := 1;
     let v : HalfWord := 3; let headOk (s : CplQ) : Prop := v.val < s.size ∧ ringDist s.size s.head v ≤ s.posted.length;
     let s := cpq 1; d.hif.cq n k = some s ∧ headOk s) ∧
    (let d : Dev := hif (fun h => { h with cqs := [(1, some (cpq 1))] }) (mk []); let n : CtlNo := 0; let k : QueueNo := 1;
     let v : HalfWord := 4; let headOk (s : CplQ) : Prop := v.val < s.size ∧ ringDist s.size s.head v ≤ s.posted.length;
     let s := cpq 1; d.hif.cq n k = some s ∧ ¬ headOk s) ∧
    (let d : Dev := mk []; let n : CtlNo := 0; let k : QueueNo := 1; let v : HalfWord := 3; let cq : Bool := true;
     let c : Ctrl := d.hif.ctrl n;
     let shadow : Option Shadow := if cq then (d.hif.cq n k).map (fun s => s.shadow) else (d.hif.sq n k).map (fun s => s.shadow);
     (c.dbbuf = false ∨ shadow = none)) ∧
    (let d : Dev := hif (fun h => { h with sqs := [(1, some (sbq 1 3 1))] }) (mk []); let n : CtlNo := 0;
     let k : QueueNo := 1; let v : HalfWord := 3; let cq : Bool := false;
     let shadow : Option Shadow := if cq then (d.hif.cq n k).map (fun s => s.shadow) else (d.hif.sq n k).map (fun s => s.shadow);
     let w := ⟨false, 0, 0, 0⟩; shadow = some w ∧ w.polled = false) ∧
    (let d : Dev := hif (fun h => { h with sqs := [(1, some (sbq 1 3 1 ⟨true, 2, 3, 0⟩))], ctrls := [(0, ctl (fun c => { c with dbbuf := true }))] }) (mk [(Reg.HIF_POLL,
       fs [(Fld.HIF_POLL_IDLE, 5)])]);
     let n : CtlNo := 0; let k : QueueNo := 1; let v : HalfWord := 3; let cq : Bool := false; let p : Plat := d.plat;
     let c : Ctrl := d.hif.ctrl n; let idle : Nat := atLeast1 (p.fld Reg.HIF_POLL Fld.HIF_POLL_IDLE);
     let shadow : Option Shadow := if cq then (d.hif.cq n k).map (fun s => s.shadow) else (d.hif.sq n k).map (fun s => s.shadow);
     let w := ⟨true, 2, 3, 0⟩; c.dbbuf = true ∧ shadow = some w ∧ w.polled = true ∧ v.val = w.last ∧ w.same + 1 < idle) ∧
    (let d : Dev := hif (fun h => { h with cqs := [(1, some (cpq 1 ⟨true, 4, 3, 0⟩))], ctrls := [(0, ctl (fun c => { c with dbbuf := true }))] }) (mk [(Reg.HIF_POLL,
       fs [(Fld.HIF_POLL_IDLE, 5)])]);
     let n : CtlNo := 0; let k : QueueNo := 1; let v : HalfWord := 3; let cq : Bool := true; let p : Plat := d.plat;
     let c : Ctrl := d.hif.ctrl n; let idle : Nat := atLeast1 (p.fld Reg.HIF_POLL Fld.HIF_POLL_IDLE);
     let shadow : Option Shadow := if cq then (d.hif.cq n k).map (fun s => s.shadow) else (d.hif.sq n k).map (fun s => s.shadow);
     let w := ⟨true, 4, 3, 0⟩; c.dbbuf = true ∧ shadow = some w ∧ w.polled = true ∧ v.val = w.last ∧ idle ≤ w.same + 1) ∧
    (let d : Dev := hif (fun h => { h with sqs := [(1, some (sbq 1 3 1 ⟨true, 2, 3, 0⟩))], ctrls := [(0, ctl (fun c => { c with dbbuf := true }))] }) (mk []);
     let n : CtlNo := 0; let k : QueueNo := 1; let v : HalfWord := 0; let cq : Bool := false; let c : Ctrl := d.hif.ctrl n;
     let tailOk (s : SubQ) : Prop := v.val < s.size ∧ ringDist s.size s.head s.tail ≤ ringDist s.size s.head v;
     let s := sbq 1 3 1 ⟨true, 2, 3, 0⟩;
     cq = false ∧ c.dbbuf = true ∧ d.hif.sq n k = some s ∧ s.shadow.polled = true ∧ v.val ≠ s.shadow.last ∧ v.val ≠ s.tail ∧
       tailOk s) ∧
    (let d : Dev := hif (fun h => { h with sqs := [(1, some (sbq 1 3 1 ⟨true, 2, 3, 0⟩))], ctrls := [(0, ctl (fun c => { c with dbbuf := true }))] }) (mk []);
     let n : CtlNo := 0; let k : QueueNo := 1; let v : HalfWord := 2; let cq : Bool := false; let c : Ctrl := d.hif.ctrl n;
     let tailOk (s : SubQ) : Prop := v.val < s.size ∧ ringDist s.size s.head s.tail ≤ ringDist s.size s.head v;
     let s := sbq 1 3 1 ⟨true, 2, 3, 0⟩;
     cq = false ∧ c.dbbuf = true ∧ d.hif.sq n k = some s ∧ s.shadow.polled = true ∧ v.val ≠ s.shadow.last ∧ v.val ≠ s.tail ∧
       ¬ tailOk s) ∧
    (let d : Dev := hif (fun h => { h with cqs := [(1, some (cpq 1 ⟨true, 4, 9, 0⟩))], ctrls := [(0, ctl (fun c => { c with dbbuf := true }))] }) (mk []);
     let n : CtlNo := 0; let k : QueueNo := 1; let v : HalfWord := 3; let cq : Bool := true; let c : Ctrl := d.hif.ctrl n;
     let headOk (s : CplQ) : Prop := v.val < s.size ∧ ringDist s.size s.head v ≤ s.posted.length;
     let s := cpq 1 ⟨true, 4, 9, 0⟩;
     cq = true ∧ c.dbbuf = true ∧ d.hif.cq n k = some s ∧ s.shadow.polled = true ∧ v.val ≠ s.shadow.last ∧ v.val ≠ s.head ∧
       headOk s) ∧
    (let d : Dev := hif (fun h => { h with cqs := [(1, some (cpq 1 ⟨true, 4, 9, 0⟩))], ctrls := [(0, ctl (fun c => { c with dbbuf := true }))] }) (mk []);
     let n : CtlNo := 0; let k : QueueNo := 1; let v : HalfWord := 4; let cq : Bool := true; let c : Ctrl := d.hif.ctrl n;
     let headOk (s : CplQ) : Prop := v.val < s.size ∧ ringDist s.size s.head v ≤ s.posted.length;
     let s := cpq 1 ⟨true, 4, 9, 0⟩;
     cq = true ∧ c.dbbuf = true ∧ d.hif.cq n k = some s ∧ s.shadow.polled = true ∧ v.val ≠ s.shadow.last ∧ v.val ≠ s.head ∧
       ¬ headOk s) ∧
    (let d : Dev := hif (fun h => { h with irqHeld := [(2047, 4)] }) (mk []); let n : CtlNo := 0; let v : HalfWord := 0;
     let vec : Nat := 2047; let held (h : Hif) : Nat := SMap.get (fun _ => 0) h.irqHeld (2048 * n + vec);
     vec < 2048 ∧ held d.hif ≠ 0) ∧
    (let d : Dev := mk []; let n : CtlNo := 0; let v : HalfWord := 0; let vec : Nat := 2047;
     let held (h : Hif) : Nat := SMap.get (fun _ => 0) h.irqHeld (2048 * n + vec); vec < 2048 ∧ held d.hif = 0) := by
  refine ⟨?_, ?_, ?_, ?_, ?_, ?_, ?_, ?_, ?_, ?_, ?_, ?_, ?_, ?_, ?_, ?_⟩
  all_goals ((try dsimp only [Dev.holdsAdmin, Dev.holdsIo]); try decide +kernel)

/-- The hypotheses of `Obligations.FetchesLinksAndConfiguration` are met. -/
theorem witness_FetchesLinksAndConfiguration :
    (let d : Dev := hif (fun h => { h with sqs := [(0, some (sbq 0 3 1))], ctrls := [(0, ctl)] }) (mk [(Reg.HIF_FN_TAG 0,
       fs [(Fld.HIF_FN_TAG_TAG_MAX, 64)])]);
     let t : TagNo := 1; let sel : Nat := 0; let entry : Bytes := List.replicate 64 7; let p : Plat := d.plat;
     let open' : Prop := p.tagState t = 0 ∧ p.bit Reg.CMD_CTRL Fld.CMD_CTRL_FETCH_HOLD = false ∧ d.cmd.hold = false;
     let r := (nextFetch (hif (fun h => { h with sqs := [(0, some (sbq 0 3 1))], ctrls := [(0, ctl)] }) (mk [(Reg.HIF_FN_TAG 0,
       fs [(Fld.HIF_FN_TAG_TAG_MAX,
       64)])])).plat (hif (fun h => { h with sqs := [(0, some (sbq 0 3 1))], ctrls := [(0, ctl)] }) (mk [(Reg.HIF_FN_TAG 0,
       fs [(Fld.HIF_FN_TAG_TAG_MAX, 64)])])).hif 0).getD (0, 0, 0);
     let s := sbq 0 3 1;
     open' ∧ nextFetch p d.hif sel = some r ∧ r.1 < 64 ∧ d.hif.sq r.1 r.2.1 = some s ∧ entry.length = 64) ∧
    (let d : Dev := mk []; let t : TagNo := 1; let sel : Nat := 0; let p : Plat := d.plat;
     let open' : Prop := p.tagState t = 0 ∧ p.bit Reg.CMD_CTRL Fld.CMD_CTRL_FETCH_HOLD = false ∧ d.cmd.hold = false;
     (¬ open' ∨ nextFetch p d.hif sel = none)) ∧
    (let d : Dev := mk [(Reg.HIF_CFG, fs [(Fld.HIF_CFG_CFG_READY, 0)])]; let n : CtlNo := 0; let p : Plat := d.plat;
     let ready : Bool := p.bit Reg.HIF_CFG Fld.HIF_CFG_CFG_READY;
     let items : List (ConfigItem × Nat) := [(.vendorDevice, if n.val < 2 then (p.rd Reg.HIF_ID0).toNat else 0xFFFFFFFF),
       (.revisionClass, 0x01080200 + p.fld Reg.HIF_ID2 Fld.HIF_ID2_REV), (.subsystem, (p.rd Reg.HIF_ID1).toNat),
       (.vfDeviceId, p.fld Reg.HIF_ID2 Fld.HIF_ID2_VFDID), (.totalVfs,
       p.fld Reg.HIF_SRIOV (if n.val = 1 then Fld.HIF_SRIOV_TOTALVF1 else Fld.HIF_SRIOV_TOTALVF0)), (.msixTableSize,
       atLeast1 (p.fld (Reg.HIF_FN_RES n) Fld.HIF_FN_RES_INTMAX) - 1), (.slotClockConfig, 0), (.clockPowerManagement, 0)];
     let i : ConfigItem := ConfigItem.vendorDevice; i ∈ ConfigItem.other :: items.map (fun x => x.1) ∧ ready = false) ∧
    (let d : Dev := mk [(Reg.HIF_CFG, fs [(Fld.HIF_CFG_CFG_READY, 1)])]; let n : CtlNo := 0; let p : Plat := d.plat;
     let ready : Bool := p.bit Reg.HIF_CFG Fld.HIF_CFG_CFG_READY;
     let items : List (ConfigItem × Nat) := [(.vendorDevice, if n.val < 2 then (p.rd Reg.HIF_ID0).toNat else 0xFFFFFFFF),
       (.revisionClass, 0x01080200 + p.fld Reg.HIF_ID2 Fld.HIF_ID2_REV), (.subsystem, (p.rd Reg.HIF_ID1).toNat),
       (.vfDeviceId, p.fld Reg.HIF_ID2 Fld.HIF_ID2_VFDID), (.totalVfs,
       p.fld Reg.HIF_SRIOV (if n.val = 1 then Fld.HIF_SRIOV_TOTALVF1 else Fld.HIF_SRIOV_TOTALVF0)), (.msixTableSize,
       atLeast1 (p.fld (Reg.HIF_FN_RES n) Fld.HIF_FN_RES_INTMAX) - 1), (.slotClockConfig, 0), (.clockPowerManagement, 0)];
     let x : ConfigItem × Nat := (ConfigItem.slotClockConfig, 0); x ∈ items ∧ ready = true) ∧
    (let d : Dev := mk [(Reg.HIF_LINK_CFG, fs [(Fld.HIF_LINK_CFG_LTSSM_A, 1)]), (Reg.HIF_LINK_STAT 0, 0)];
     let port : PortNo := 0; let p : Plat := d.plat;
     let up : Bool := p.bit (Reg.HIF_LINK_STAT port) Fld.HIF_LINK_STAT_DL_UP;
     let may : Prop := p.bit Reg.HIF_LINK_CFG (if port = 0 then Fld.HIF_LINK_CFG_LTSSM_A else Fld.HIF_LINK_CFG_LTSSM_B) = true ∧
       (port = 0 ∨ p.bit Reg.HIF_LINK_CFG Fld.HIF_LINK_CFG_MODE = true) ∧
       p.bit (Reg.HIF_LINK_STAT port) Fld.HIF_LINK_STAT_PERST = false ∧ p.on 16 = true ∧ p.on 17 = true ∧ up = false;
     may) ∧
    (let d : Dev := mk []; let port : PortNo := 0; let p : Plat := d.plat;
     let up : Bool := p.bit (Reg.HIF_LINK_STAT port) Fld.HIF_LINK_STAT_DL_UP;
     let may : Prop := p.bit Reg.HIF_LINK_CFG (if port = 0 then Fld.HIF_LINK_CFG_LTSSM_A else Fld.HIF_LINK_CFG_LTSSM_B) = true ∧
       (port = 0 ∨ p.bit Reg.HIF_LINK_CFG Fld.HIF_LINK_CFG_MODE = true) ∧
       p.bit (Reg.HIF_LINK_STAT port) Fld.HIF_LINK_STAT_PERST = false ∧ p.on 16 = true ∧ p.on 17 = true ∧ up = false;
     ¬ may) ∧
    (let d : Dev := hif (fun h => { h with training := [(1, true)] }) (mk []); let port : PortNo := 1;
     let p : Plat := d.plat; let up : Bool := p.bit (Reg.HIF_LINK_STAT port) Fld.HIF_LINK_STAT_DL_UP;
     let training (e : Dev) : Bool := SMap.get (fun _ => false) e.hif.training port; (training d = true ∨ up = true)) ∧
    (let d : Dev := mk []; let port : PortNo := 0; let p : Plat := d.plat;
     let up : Bool := p.bit (Reg.HIF_LINK_STAT port) Fld.HIF_LINK_STAT_DL_UP;
     let training (e : Dev) : Bool := SMap.get (fun _ => false) e.hif.training port; training d = false ∧ up = false) := by
  refine ⟨?_, ?_, ?_, ?_, ?_, ?_, ?_, ?_⟩
  all_goals ((try dsimp only [Dev.holdsAdmin, Dev.holdsIo]); try decide +kernel)

/-- The hypotheses of `Obligations.ControllersResetAndTheirResources` are met. -/
theorem witness_ControllersResetAndTheirResources :
    (let d : Dev := mk []; let n : CtlNo := 63;
     let v : Word := BitVec.ofNat 32 (fs [(Fld.HIF_FN_RES_QMAX, 4), (Fld.HIF_FN_RES_INTMAX, 4)]); let p : Plat := d.plat;
     let k : Ctrl := d.hif.ctrl n;
     let sum (reg : Nat → Nat) (f : Fld) (g : Nat → Nat) (x : Nat) : Nat := (((List.range 64).filter (fun m => m != n.val)).map (fun m => g (p.fld (reg m) f))).sum + g x;
     let qmax : Nat := Fld.get Fld.HIF_FN_RES_QMAX v; let imax : Nat := Fld.get Fld.HIF_FN_RES_INTMAX v;
     let resOk : Prop := k.en = false ∧ qmax ≤ 1024 ∧ imax ≤ 1025 ∧ sum Reg.HIF_FN_RES Fld.HIF_FN_RES_QMAX id qmax ≤ 2048 ∧
       sum Reg.HIF_FN_RES Fld.HIF_FN_RES_INTMAX atLeast1 imax ≤ 2112;
     d.powered (Reg.HIF_FN_RES n) ∧ resOk) ∧
    (let d : Dev := mk []; let n : CtlNo := 63; let v : Word := 0; let p : Plat := d.plat;
     let sum (reg : Nat → Nat) (f : Fld) (g : Nat → Nat) (x : Nat) : Nat := (((List.range 64).filter (fun m => m != n.val)).map (fun m => g (p.fld (reg m) f))).sum + g x;
     let tagOk : Prop := sum Reg.HIF_FN_TAG Fld.HIF_FN_TAG_TAG_MIN id (Fld.get Fld.HIF_FN_TAG_TAG_MIN v) ≤ 8192;
     d.powered (Reg.HIF_FN_TAG n) ∧ tagOk) ∧
    (let d : Dev := mk []; let v : Word := 0; let p : Plat := d.plat;
     let modeOk : Prop := Fld.get Fld.HIF_LINK_CFG_MODE v = p.fld Reg.HIF_LINK_CFG Fld.HIF_LINK_CFG_MODE ∨ p.bit Reg.HIF_LINK_CFG Fld.HIF_LINK_CFG_LTSSM_A = false ∧
       p.bit Reg.HIF_LINK_CFG Fld.HIF_LINK_CFG_LTSSM_B = false;
     d.powered Reg.HIF_LINK_CFG ∧ modeOk) ∧
    (let d : Dev := mk []; let v : Word := 0; let p : Plat := d.plat;
     let vfOk : Prop := p.bit Reg.HIF_CFG Fld.HIF_CFG_CFG_READY = false ∧
       Fld.get Fld.HIF_SRIOV_TOTALVF0 v + Fld.get Fld.HIF_SRIOV_TOTALVF1 v ≤ 62;
     d.powered Reg.HIF_SRIOV ∧ vfOk) ∧
    (let d : Dev := mk []; let n : CtlNo := 63;
     let v : Word := BitVec.ofNat 32 (fs [(Fld.HIF_FN_RES_QMAX, 1025), (Fld.HIF_FN_RES_INTMAX, 4)]); let p : Plat := d.plat;
     let k : Ctrl := d.hif.ctrl n;
     let sum (reg : Nat → Nat) (f : Fld) (g : Nat → Nat) (x : Nat) : Nat := (((List.range 64).filter (fun m => m != n.val)).map (fun m => g (p.fld (reg m) f))).sum + g x;
     let qmax : Nat := Fld.get Fld.HIF_FN_RES_QMAX v; let imax : Nat := Fld.get Fld.HIF_FN_RES_INTMAX v;
     let resOk : Prop := k.en = false ∧ qmax ≤ 1024 ∧ imax ≤ 1025 ∧ sum Reg.HIF_FN_RES Fld.HIF_FN_RES_QMAX id qmax ≤ 2048 ∧
       sum Reg.HIF_FN_RES Fld.HIF_FN_RES_INTMAX atLeast1 imax ≤ 2112;
     d.powered (Reg.HIF_FN_RES n) ∧ ¬ resOk) ∧
    (let d : Dev := mk []; let n : CtlNo := 63; let v : Word := BitVec.ofNat 32 (fs [(Fld.HIF_FN_TAG_TAG_MIN, 8193)]);
     let p : Plat := d.plat;
     let sum (reg : Nat → Nat) (f : Fld) (g : Nat → Nat) (x : Nat) : Nat := (((List.range 64).filter (fun m => m != n.val)).map (fun m => g (p.fld (reg m) f))).sum + g x;
     let tagOk : Prop := sum Reg.HIF_FN_TAG Fld.HIF_FN_TAG_TAG_MIN id (Fld.get Fld.HIF_FN_TAG_TAG_MIN v) ≤ 8192;
     d.powered (Reg.HIF_FN_TAG n) ∧ ¬ tagOk) ∧
    (let d : Dev := mk [(Reg.HIF_LINK_CFG, fs [(Fld.HIF_LINK_CFG_LTSSM_A, 1)])];
     let v : Word := BitVec.ofNat 32 (fs [(Fld.HIF_LINK_CFG_MODE, 1)]); let p : Plat := d.plat;
     let modeOk : Prop := Fld.get Fld.HIF_LINK_CFG_MODE v = p.fld Reg.HIF_LINK_CFG Fld.HIF_LINK_CFG_MODE ∨ p.bit Reg.HIF_LINK_CFG Fld.HIF_LINK_CFG_LTSSM_A = false ∧
       p.bit Reg.HIF_LINK_CFG Fld.HIF_LINK_CFG_LTSSM_B = false;
     d.powered Reg.HIF_LINK_CFG ∧ ¬ modeOk) ∧
    (let d : Dev := mk [(Reg.HIF_CFG, fs [(Fld.HIF_CFG_CFG_READY, 1)])]; let v : Word := 0; let p : Plat := d.plat;
     let vfOk : Prop := p.bit Reg.HIF_CFG Fld.HIF_CFG_CFG_READY = false ∧
       Fld.get Fld.HIF_SRIOV_TOTALVF0 v + Fld.get Fld.HIF_SRIOV_TOTALVF1 v ≤ 62;
     d.powered Reg.HIF_SRIOV ∧ ¬ vfOk) ∧
    (let d : Dev := mk []; let n : CtlNo := 0; let asqs : Nat := 2; let acqs : Nat := 4096; let k : Ctrl := d.hif.ctrl n;
     let enOk : Prop := k.en = false ∧ k.resetting = false ∧ 2 ≤ asqs ∧ asqs ≤ 4096 ∧ 2 ≤ acqs ∧ acqs ≤ 4096; enOk) ∧
    (let d : Dev := mk []; let n : CtlNo := 0; let asqs : Nat := 1; let acqs : Nat := 0; let k : Ctrl := d.hif.ctrl n;
     let enOk : Prop := k.en = false ∧ k.resetting = false ∧ 2 ≤ asqs ∧ asqs ≤ 4096 ∧ 2 ≤ acqs ∧ acqs ≤ 4096; ¬ enOk) := by
  refine ⟨?_, ?_, ?_, ?_, ?_, ?_, ?_, ?_, ?_, ?_⟩
  all_goals ((try dsimp only [Dev.holdsAdmin, Dev.holdsIo]); try decide +kernel)

/-- The hypotheses of `Obligations.QueueFeatureAndEventCommands` are met. -/
theorem witness_QueueFeatureAndEventCommands :
    (let d : Dev := tc 16396 0 [(Ct.state, 1)] [] []; let t : TagNo := 1; let pg : PageNo := 2; let data : Bytes := [];
     let fw : Bytes := []; let a : Nat := 0; let b : Nat := 0; let ok : Bool := true; let mi : MiCmd := .healthPoll;
     let all : List (Instr × Nat) := [(.deleteIoSq t, 0x00), (.createIoSq t, 0x01), (.getLogPage t pg fw, 0x02),
       (.deleteIoCq t, 0x04), (.createIoCq t, 0x05), (.identify t pg fw, 0x06), (.setFeatures t data, 0x09),
       (.getFeatures t pg, 0x0A), (.asyncEventRequest t, 0x0C), (.namespaceManagement t data a b, 0x0D), (.firmwareCommit t,
       0x10), (.firmwareImageDownload t data, 0x11), (.deviceSelfTest t none, 0x14), (.namespaceAttachment t data, 0x15),
       (.virtualizationManagement t, 0x1C), (.nvmeMiSend t mi, 0x1D), (.nvmeMiReceive t pg, 0x1E), (.doorbellBufferConfig t,
       0x7C), (.formatNvm t ok, 0x80), (.securitySend t ok, 0x81), (.securityReceive t pg data, 0x82), (.sanitize t, 0x84)];
     let x : Instr × Nat := (Instr.asyncEventRequest t, 0x0C); x ∈ all ∧ d.fe.isAdmin t x.2 = true ∧ d.hif.psdt t ≠ 0) ∧
    (let d : Dev := mk []; let t : TagNo := 1; let pg : PageNo := 2; let data : Bytes := []; let fw : Bytes := [];
     let a : Nat := 0; let b : Nat := 0; let ok : Bool := true; let mi : MiCmd := .healthPoll;
     let all : List (Instr × Nat) := [(.deleteIoSq t, 0x00), (.createIoSq t, 0x01), (.getLogPage t pg fw, 0x02),
       (.deleteIoCq t, 0x04), (.createIoCq t, 0x05), (.identify t pg fw, 0x06), (.setFeatures t data, 0x09),
       (.getFeatures t pg, 0x0A), (.asyncEventRequest t, 0x0C), (.namespaceManagement t data a b, 0x0D), (.firmwareCommit t,
       0x10), (.firmwareImageDownload t data, 0x11), (.deviceSelfTest t none, 0x14), (.namespaceAttachment t data, 0x15),
       (.virtualizationManagement t, 0x1C), (.nvmeMiSend t mi, 0x1D), (.nvmeMiReceive t pg, 0x1E), (.doorbellBufferConfig t,
       0x7C), (.formatNvm t ok, 0x80), (.securitySend t ok, 0x81), (.securityReceive t pg data, 0x82), (.sanitize t, 0x84)];
     let x : Instr × Nat := (Instr.deleteIoSq t, 0x00); x ∈ all ∧ d.fe.isAdmin t x.2 = false) ∧
    (let d : Dev := tc 5 0 [(Ct.state, 1)] [(Reg.HIF_FN_RES 0, fs [(Fld.HIF_FN_RES_QMAX, 4), (Fld.HIF_FN_RES_INTMAX,
       4)])] [(10, 5 + 65536 * 15), (11, 0)];
     let t : TagNo := 1; let p : Plat := d.plat; let n : Nat := p.ct t Ct.cntl; let dw (j : Nat) : Nat := d.hif.dw t j;
     let qid : Nat := dw 10 % 2 ^ 16; let qmax : Nat := p.fld (Reg.HIF_FN_RES n) Fld.HIF_FN_RES_QMAX;
     let is (op : Nat) : Prop := d.holdsAdmin t op; is 0x05 ∧ (qid = 0 ∨ qmax < qid ∨ d.hif.cq n qid ≠ none)) ∧
    (let d : Dev := tc 5 0 [(Ct.state, 1)] [(Reg.HIF_FN_RES 0, fs [(Fld.HIF_FN_RES_QMAX, 4), (Fld.HIF_FN_RES_INTMAX,
       4)])] [(10, 1 + 65536 * 0), (11, 0)];
     let t : TagNo := 1; let p : Plat := d.plat; let n : Nat := p.ct t Ct.cntl; let dw (j : Nat) : Nat := d.hif.dw t j;
     let qid : Nat := dw 10 % 2 ^ 16; let size : Nat := dw 10 / 2 ^ 16 + 1;
     let qmax : Nat := p.fld (Reg.HIF_FN_RES n) Fld.HIF_FN_RES_QMAX; let is (op : Nat) : Prop := d.holdsAdmin t op;
     is 0x05 ∧ ¬ (qid = 0 ∨ qmax < qid ∨ d.hif.cq n qid ≠ none) ∧ (size < 2 ∨ 4096 < size)) ∧
    (let d : Dev := tc 5 0 [(Ct.state, 1)] [(Reg.HIF_FN_RES 0, fs [(Fld.HIF_FN_RES_QMAX, 4), (Fld.HIF_FN_RES_INTMAX,
       4)])] [(10, 1 + 65536 * 15), (11, 0)];
     let t : TagNo := 1; let p : Plat := d.plat; let n : Nat := p.ct t Ct.cntl; let dw (j : Nat) : Nat := d.hif.dw t j;
     let qid : Nat := dw 10 % 2 ^ 16; let size : Nat := dw 10 / 2 ^ 16 + 1;
     let qmax : Nat := p.fld (Reg.HIF_FN_RES n) Fld.HIF_FN_RES_QMAX; let is (op : Nat) : Prop := d.holdsAdmin t op;
     let d11 : Nat := dw 11;
     is 0x05 ∧ ¬ (qid = 0 ∨ qmax < qid ∨ d.hif.cq n qid ≠ none) ∧ 2 ≤ size ∧ size ≤ 4096 ∧ d11 % 2 = 0) ∧
    (let d : Dev := tc 5 0 [(Ct.state, 1)] [(Reg.HIF_FN_RES 0, fs [(Fld.HIF_FN_RES_QMAX, 4), (Fld.HIF_FN_RES_INTMAX,
       4)])] [(10, 1 + 65536 * 15), (11, 262145)];
     let t : TagNo := 1; let p : Plat := d.plat; let n : Nat := p.ct t Ct.cntl; let dw (j : Nat) : Nat := d.hif.dw t j;
     let qid : Nat := dw 10 % 2 ^ 16; let size : Nat := dw 10 / 2 ^ 16 + 1;
     let qmax : Nat := p.fld (Reg.HIF_FN_RES n) Fld.HIF_FN_RES_QMAX; let is (op : Nat) : Prop := d.holdsAdmin t op;
     let d11 : Nat := dw 11;
     is 0x05 ∧ ¬ (qid = 0 ∨ qmax < qid ∨ d.hif.cq n qid ≠ none) ∧ 2 ≤ size ∧ size ≤ 4096 ∧ d11 % 2 = 1 ∧
       atLeast1 (p.fld (Reg.HIF_FN_RES n) Fld.HIF_FN_RES_INTMAX) ≤ d11 / 2 ^ 16) ∧
    (let d : Dev := hif (fun h => { h with sqs := [(0, some (sbq 0 3 1))] }) (tc 5 0 [(Ct.state, 1)] [(Reg.HIF_FN_RES 0,
       fs [(Fld.HIF_FN_RES_QMAX, 4), (Fld.HIF_FN_RES_INTMAX, 4)])] [(10, 1 + 65536 * 15), (11, 196609)]);
     let t : TagNo := 1; let p : Plat := d.plat; let n : Nat := p.ct t Ct.cntl; let dw (j : Nat) : Nat := d.hif.dw t j;
     let qid : Nat := dw 10 % 2 ^ 16; let size : Nat := dw 10 / 2 ^ 16 + 1;
     let qmax : Nat := p.fld (Reg.HIF_FN_RES n) Fld.HIF_FN_RES_QMAX;
     let alone : Prop := ∀ s, d.hif.sq n 0 = some s → s.stop = none ∧ s.cq = 0;
     let is (op : Nat) : Prop := d.holdsAdmin t op; let d11 : Nat := dw 11;
     is 0x05 ∧ ¬ (qid = 0 ∨ qmax < qid ∨ d.hif.cq n qid ≠ none) ∧ 2 ≤ size ∧ size ≤ 4096 ∧ d11 % 2 = 1 ∧
       d11 / 2 ^ 16 < atLeast1 (p.fld (Reg.HIF_FN_RES n) Fld.HIF_FN_RES_INTMAX) ∧ alone) ∧
    (let d : Dev := tc 1 0 [(Ct.state, 1)] [(Reg.HIF_FN_RES 0, fs [(Fld.HIF_FN_RES_QMAX, 4), (Fld.HIF_FN_RES_INTMAX,
       4)])] [(10, 0 + 65536 * 15), (11, 0)];
     let t : TagNo := 1; let p : Plat := d.plat; let n : Nat := p.ct t Ct.cntl; let dw (j : Nat) : Nat := d.hif.dw t j;
     let qid : Nat := dw 10 % 2 ^ 16; let qmax : Nat := p.fld (Reg.HIF_FN_RES n) Fld.HIF_FN_RES_QMAX;
     let is (op : Nat) : Prop := d.holdsAdmin t op; is 0x01 ∧ (qid = 0 ∨ qmax < qid ∨ d.hif.sq n qid ≠ none)) ∧
    (let d : Dev := tc 1 0 [(Ct.state, 1)] [(Reg.HIF_FN_RES 0, fs [(Fld.HIF_FN_RES_QMAX, 4), (Fld.HIF_FN_RES_INTMAX,
       4)])] [(10, 1 + 65536 * 4096), (11, 0)];
     let t : TagNo := 1; let p : Plat := d.plat; let n : Nat := p.ct t Ct.cntl; let dw (j : Nat) : Nat := d.hif.dw t j;
     let qid : Nat := dw 10 % 2 ^ 16; let size : Nat := dw 10 / 2 ^ 16 + 1;
     let qmax : Nat := p.fld (Reg.HIF_FN_RES n) Fld.HIF_FN_RES_QMAX; let is (op : Nat) : Prop := d.holdsAdmin t op;
     is 0x01 ∧ ¬ (qid = 0 ∨ qmax < qid ∨ d.hif.sq n qid ≠ none) ∧ (size < 2 ∨ 4096 < size)) ∧
    (let d : Dev := tc 1 0 [(Ct.state, 1)] [(Reg.HIF_FN_RES 0, fs [(Fld.HIF_FN_RES_QMAX, 4), (Fld.HIF_FN_RES_INTMAX,
       4)])] [(10, 1 + 65536 * 15), (11, 0)];
     let t : TagNo := 1; let p : Plat := d.plat; let n : Nat := p.ct t Ct.cntl; let dw (j : Nat) : Nat := d.hif.dw t j;
     let qid : Nat := dw 10 % 2 ^ 16; let size : Nat := dw 10 / 2 ^ 16 + 1;
     let qmax : Nat := p.fld (Reg.HIF_FN_RES n) Fld.HIF_FN_RES_QMAX; let is (op : Nat) : Prop := d.holdsAdmin t op;
     let d11 : Nat := dw 11;
     is 0x01 ∧ ¬ (qid = 0 ∨ qmax < qid ∨ d.hif.sq n qid ≠ none) ∧ 2 ≤ size ∧ size ≤ 4096 ∧
       (d11 / 2 ^ 16 = 0 ∨ d.hif.cq n (d11 / 2 ^ 16) = none)) ∧
    (let d : Dev := hif (fun h => { h with cqs := [(1, some (cpq 1))] }) (tc 1 0 [(Ct.state, 1)] [(Reg.HIF_FN_RES 0,
       fs [(Fld.HIF_FN_RES_QMAX, 4), (Fld.HIF_FN_RES_INTMAX, 4)])] [(10, 1 + 65536 * 15), (11, 65536)]);
     let t : TagNo := 1; let p : Plat := d.plat; let n : Nat := p.ct t Ct.cntl; let dw (j : Nat) : Nat := d.hif.dw t j;
     let qid : Nat := dw 10 % 2 ^ 16; let size : Nat := dw 10 / 2 ^ 16 + 1;
     let qmax : Nat := p.fld (Reg.HIF_FN_RES n) Fld.HIF_FN_RES_QMAX; let is (op : Nat) : Prop := d.holdsAdmin t op;
     let d11 : Nat := dw 11;
     is 0x01 ∧ ¬ (qid = 0 ∨ qmax < qid ∨ d.hif.sq n qid ≠ none) ∧ 2 ≤ size ∧ size ≤ 4096 ∧ d11 / 2 ^ 16 ≠ 0 ∧
       d.hif.cq n (d11 / 2 ^ 16) ≠ none ∧ d11 % 2 = 0) ∧
    (let d : Dev := hif (fun h => { h with cqs := [(1, some (cpq 1))] }) (tc 1 0 [(Ct.state, 1)] [(Reg.HIF_FN_RES 0,
       fs [(Fld.HIF_FN_RES_QMAX, 4), (Fld.HIF_FN_RES_INTMAX, 4)])] [(10, 1 + 65536 * 15), (11, 65537)]);
     let t : TagNo := 1; let p : Plat := d.plat; let n : Nat := p.ct t Ct.cntl; let dw (j : Nat) : Nat := d.hif.dw t j;
     let qid : Nat := dw 10 % 2 ^ 16; let size : Nat := dw 10 / 2 ^ 16 + 1;
     let qmax : Nat := p.fld (Reg.HIF_FN_RES n) Fld.HIF_FN_RES_QMAX;
     let alone : Prop := ∀ s, d.hif.sq n 0 = some s → s.stop = none ∧ s.cq = 0;
     let is (op : Nat) : Prop := d.holdsAdmin t op; let d11 : Nat := dw 11;
     is 0x01 ∧ ¬ (qid = 0 ∨ qmax < qid ∨ d.hif.sq n qid ≠ none) ∧ 2 ≤ size ∧ size ≤ 4096 ∧ d11 / 2 ^ 16 ≠ 0 ∧
       d.hif.cq n (d11 / 2 ^ 16) ≠ none ∧ d11 % 2 = 1 ∧ alone) ∧
    (let d : Dev := tc 4 0 [(Ct.state, 1)] [(Reg.HIF_FN_RES 0, fs [(Fld.HIF_FN_RES_QMAX, 4), (Fld.HIF_FN_RES_INTMAX,
       4)])] [(10, 1 + 65536 * 15), (11, 0)];
     let t : TagNo := 1; let p : Plat := d.plat; let n : Nat := p.ct t Ct.cntl; let dw (j : Nat) : Nat := d.hif.dw t j;
     let qid : Nat := dw 10 % 2 ^ 16; let is (op : Nat) : Prop := d.holdsAdmin t op;
     is 0x04 ∧ (qid = 0 ∨ d.hif.cq n qid = none)) ∧
    (let d : Dev := hif (fun h => { h with cqs := [(1, some (cpq 1))], sqs := [(2047, some (sbq 1 3 1))] }) (tc 4 0 [(Ct.state,
       1)] [(Reg.HIF_FN_RES 0, fs [(Fld.HIF_FN_RES_QMAX, 4), (Fld.HIF_FN_RES_INTMAX, 4)])] [(10, 1 + 65536 * 15), (11, 0)]);
     let t : TagNo := 1; let p : Plat := d.plat; let n : Nat := p.ct t Ct.cntl; let dw (j : Nat) : Nat := d.hif.dw t j;
     let qid : Nat := dw 10 % 2 ^ 16; let is (op : Nat) : Prop := d.holdsAdmin t op;
     let used : Prop := ∃ j : Fin 2048, ∃ s ∈ d.hif.sq n j, s.cq = qid; is 0x04 ∧ qid ≠ 0 ∧ d.hif.cq n qid ≠ none ∧ used) ∧
    (let d : Dev := hif (fun h => { h with cqs := [(1, some (cpq 1))], sqs := [(2047, some (sbq 2 3 1))] }) (tc 4 0 [(Ct.state,
       1)] [(Reg.HIF_FN_RES 0, fs [(Fld.HIF_FN_RES_QMAX, 4), (Fld.HIF_FN_RES_INTMAX, 4)])] [(10, 1 + 65536 * 15), (11, 0)]);
     let t : TagNo := 1; let p : Plat := d.plat; let n : Nat := p.ct t Ct.cntl; let dw (j : Nat) : Nat := d.hif.dw t j;
     let qid : Nat := dw 10 % 2 ^ 16; let alone : Prop := ∀ s, d.hif.sq n 0 = some s → s.stop = none ∧ s.cq = 0;
     let is (op : Nat) : Prop := d.holdsAdmin t op; let used : Prop := ∃ j : Fin 2048, ∃ s ∈ d.hif.sq n j, s.cq = qid;
     is 0x04 ∧ qid ≠ 0 ∧ d.hif.cq n qid ≠ none ∧ ¬ used ∧ SMap.wf (fun _ => none) d.hif.sqs ∧ alone) ∧
    (let d : Dev := tc 0 0 [(Ct.state, 1)] [(Reg.HIF_FN_RES 0, fs [(Fld.HIF_FN_RES_QMAX, 4), (Fld.HIF_FN_RES_INTMAX,
       4)])] [(10, 1 + 65536 * 15), (11, 0)];
     let t : TagNo := 1; let p : Plat := d.plat; let n : Nat := p.ct t Ct.cntl; let dw (j : Nat) : Nat := d.hif.dw t j;
     let qid : Nat := dw 10 % 2 ^ 16; let is (op : Nat) : Prop := d.holdsAdmin t op;
     is 0x00 ∧ (qid = 0 ∨ d.hif.sq n qid = none)) ∧
    (let d : Dev := hif (fun h => { h with sqs := [(1, some (sbq 1 3 1))] }) (tc 0 0 [(Ct.state, 1)] [(Reg.HIF_FN_RES 0,
       fs [(Fld.HIF_FN_RES_QMAX, 4), (Fld.HIF_FN_RES_INTMAX, 4)])] [(10, 1 + 65536 * 15), (11, 0)]);
     let t : TagNo := 1; let p : Plat := d.plat; let n : Nat := p.ct t Ct.cntl; let dw (j : Nat) : Nat := d.hif.dw t j;
     let qid : Nat := dw 10 % 2 ^ 16; let is (op : Nat) : Prop := d.holdsAdmin t op; is 0x00 ∧ let s := sbq 1 3 1;
     qid ≠ 0 ∧ d.hif.sq n qid = some s ∧ SMap.wf resetWord p.regs) ∧
    (let d : Dev := tc 9 0 [(Ct.state, 1)] [] [(10, 16), (11, 0)]; let t : TagNo := 1;
     let dw (j : Nat) : Nat := d.hif.dw t j; let is (op : Nat) : Prop := d.holdsAdmin t op; let f : Nat := dw 10 % 256;
     is 0x09 ∧ featureListed f = false) ∧
    (let d : Dev := tc 9 0 [(Ct.state, 1)] [] [(10, 6), (11, 1)]; let t : TagNo := 1;
     let dw (j : Nat) : Nat := d.hif.dw t j; let is (op : Nat) : Prop := d.holdsAdmin t op; let f : Nat := dw 10 % 256;
     is 0x09 ∧ f ∈ [0x01, 0x04, 0x06, 0x08, 0x09, 0x0B]) ∧
    (let d : Dev := tc 9 0 [(Ct.state, 1)] [] [(10, 7), (11, 4294901760)]; let t : TagNo := 1;
     let dw (j : Nat) : Nat := d.hif.dw t j; let is (op : Nat) : Prop := d.holdsAdmin t op; let f : Nat := dw 10 % 256;
     let d11 : Nat := dw 11; is 0x09 ∧ f = 0x07 ∧ (d11 % 2 ^ 16 = 0xFFFF ∨ d11 / 2 ^ 16 = 0xFFFF)) ∧
    (let d : Dev := tc 9 0 [(Ct.state, 1)] [] [(10, 7), (11, 196611)]; let t : TagNo := 1;
     let dw (j : Nat) : Nat := d.hif.dw t j; let is (op : Nat) : Prop := d.holdsAdmin t op; let f : Nat := dw 10 % 256;
     let d11 : Nat := dw 11; is 0x09 ∧ f = 0x07 ∧ d11 % 2 ^ 16 ≠ 0xFFFF ∧ d11 / 2 ^ 16 ≠ 0xFFFF) ∧
    (let d : Dev := tc 9 0 [(Ct.state, 1)] [] [(10, 2), (11, 4)]; let t : TagNo := 1;
     let dw (j : Nat) : Nat := d.hif.dw t j; let is (op : Nat) : Prop := d.holdsAdmin t op; let f : Nat := dw 10 % 256;
     let d11 : Nat := dw 11; is 0x09 ∧ f = 0x02 ∧ 3 < d11 % 32) ∧
    (let d : Dev := tc 9 0 [(Ct.state, 1)] [] [(10, 2), (11, 3)]; let t : TagNo := 1;
     let dw (j : Nat) : Nat := d.hif.dw t j; let is (op : Nat) : Prop := d.holdsAdmin t op; let f : Nat := dw 10 % 256;
     let d11 : Nat := dw 11; is 0x09 ∧ f = 0x02 ∧ d11 % 32 ≤ 3) ∧
    (let d : Dev := tc 9 0 [(Ct.state, 1)] [] [(10, 14), (11, 0)]; let t : TagNo := 1;
     let data : Bytes := [1, 2, 3, 4, 5, 6]; let dw (j : Nat) : Nat := d.hif.dw t j;
     let is (op : Nat) : Prop := d.holdsAdmin t op; let f : Nat := dw 10 % 256; is 0x09 ∧ f = 0x0E) ∧
    (let d : Dev := tc 10 0 [(Ct.state, 1)] [] [(10, 1025), (11, 0)]; let t : TagNo := 1;
     let dw (j : Nat) : Nat := d.hif.dw t j; let is (op : Nat) : Prop := d.holdsAdmin t op; let f : Nat := dw 10 % 256;
     let sel : Nat := dw 10 / 256 % 8; is 0x0A ∧ (featureListed f = false ∨ 3 < sel)) ∧
    (let d : Dev := tc 10 0 [(Ct.state, 1)] [] [(10, 769), (11, 0)]; let t : TagNo := 1;
     let dw (j : Nat) : Nat := d.hif.dw t j; let is (op : Nat) : Prop := d.holdsAdmin t op; let f : Nat := dw 10 % 256;
     let sel : Nat := dw 10 / 256 % 8; is 0x0A ∧ featureListed f = true ∧ sel = 3) ∧
    (let d : Dev := tc 10 0 [(Ct.state, 1)] [] [(10, 6), (11, 0)]; let t : TagNo := 1;
     let dw (j : Nat) : Nat := d.hif.dw t j; let is (op : Nat) : Prop := d.holdsAdmin t op; let f : Nat := dw 10 % 256;
     let sel : Nat := dw 10 / 256 % 8; is 0x0A ∧ featureListed f = true ∧ f ≠ 0x0E ∧ sel = 0) ∧
    (let d : Dev := tc 10 0 [(Ct.state, 1)] [] [(10, 262), (11, 0)]; let t : TagNo := 1;
     let dw (j : Nat) : Nat := d.hif.dw t j; let is (op : Nat) : Prop := d.holdsAdmin t op; let f : Nat := dw 10 % 256;
     let sel : Nat := dw 10 / 256 % 8; is 0x0A ∧ featureListed f = true ∧ f ≠ 0x0E ∧ (sel = 1 ∨ sel = 2)) ∧
    (let d : Dev := tc 10 0 [(Ct.state, 1)] [] [(10, 14), (11, 0)]; let t : TagNo := 1;
     let dw (j : Nat) : Nat := d.hif.dw t j; let is (op : Nat) : Prop := d.holdsAdmin t op; let f : Nat := dw 10 % 256;
     let sel : Nat := dw 10 / 256 % 8; is 0x0A ∧ f = 0x0E ∧ sel = 0) ∧
    (let d : Dev := hif (fun h => { h with ctrls := [(0, ctl (fun c => { c with aers := [1] }))] }) (tc 12 0 [(Ct.state,
       1)] [] []);
     let t : TagNo := 1; let p : Plat := d.plat; let n : Nat := p.ct t Ct.cntl; let k : Ctrl := d.hif.ctrl n;
     let is (op : Nat) : Prop := d.holdsAdmin t op; is 0x0C ∧ t.val ∈ k.aers) ∧
    (let d : Dev := hif (fun h => { h with ctrls := [(0, ctl (fun c => { c with aers := List.range' 2 16 }))] }) (tc 12 0 [(Ct.state,
       1)] [] []);
     let t : TagNo := 1; let p : Plat := d.plat; let n : Nat := p.ct t Ct.cntl; let k : Ctrl := d.hif.ctrl n;
     let is (op : Nat) : Prop := d.holdsAdmin t op; is 0x0C ∧ t.val ∉ k.aers ∧ 16 ≤ k.aers.length) ∧
    (let d : Dev := tc 12 0 [(Ct.state, 1)] [] []; let t : TagNo := 1; let p : Plat := d.plat;
     let n : Nat := p.ct t Ct.cntl; let k : Ctrl := d.hif.ctrl n; let is (op : Nat) : Prop := d.holdsAdmin t op;
     is 0x0C ∧ t.val ∉ k.aers ∧ k.aers.length < 16 ∧ k.events = []) ∧
    (let d : Dev := hif (fun h => { h with ctrls := [(0, ctl (fun c => { c with events := [7] }))] }) (tc 12 0 [(Ct.state,
       1)] [] []);
     let t : TagNo := 1; let p : Plat := d.plat; let n : Nat := p.ct t Ct.cntl; let k : Ctrl := d.hif.ctrl n;
     let is (op : Nat) : Prop := d.holdsAdmin t op; is 0x0C ∧ let x := 7; let xs := [];
     t.val ∉ k.aers ∧ k.aers.length < 16 ∧ k.events = x :: xs) := by
  refine ⟨?_, ?_, ?_, ?_, ?_, ?_, ?_, ?_, ?_, ?_, ?_, ?_, ?_, ?_, ?_, ?_, ?_, ?_, ?_, ?_, ?_, ?_, ?_, ?_, ?_, ?_, ?_, ?_,
    ?_, ?_, ?_, ?_, ?_⟩
  all_goals ((try dsimp only [Dev.holdsAdmin, Dev.holdsIo]); try decide +kernel)

/-- The hypotheses of `Obligations.AbortNamespaceAndFirmwareCommands` are met. -/
theorem witness_AbortNamespaceAndFirmwareCommands :
    (let d : Dev := (List.range 4).foldl (fun d k => tg (20 + k) [(Ct.state, 2), (Ct.sqid,
       0)] d) (hif (fun h => { h with sqe := h.sqe ++ (List.range 4).map (fun k => (20 + k, sqe 8 k 1)) }) (tc 8 0 [(Ct.state,
       1)] [] []));
     let t : TagNo := 1; let p : Plat := d.plat; let n : Nat := p.ct t Ct.cntl;
     let is (op : Nat) : Prop := d.holdsAdmin t op; let early : Prop := d.fe.abortsWaiting n t < 4; is 0x08 ∧ ¬ early) ∧
    (let d : Dev := tc 8 0 [(Ct.state, 1)] [] [(10, 1 + 65536 * 80)]; let t : TagNo := 1; let p : Plat := d.plat;
     let n : Nat := p.ct t Ct.cntl; let dw (j : Nat) : Nat := d.hif.dw t j; let is (op : Nat) : Prop := d.holdsAdmin t op;
     let sqid : Nat := dw 10 % 2 ^ 16; let early : Prop := d.fe.abortsWaiting n t < 4;
     is 0x08 ∧ early ∧ d.fe.findTag n sqid (dw 10 / 2 ^ 16) = none) ∧
    (let d : Dev := hif (fun h => { h with sqe := h.sqe ++ [(4, sqe 2 80 1)] }) (tg 4 [(Ct.state, 4), (Ct.sqid,
       1)] (tc 8 0 [(Ct.state, 1)] [] [(10, 1 + 65536 * 80)]));
     let t : TagNo := 1; let p : Plat := d.plat; let n : Nat := p.ct t Ct.cntl; let dw (j : Nat) : Nat := d.hif.dw t j;
     let is (op : Nat) : Prop := d.holdsAdmin t op; let sqid : Nat := dw 10 % 2 ^ 16;
     let early : Prop := d.fe.abortsWaiting n t < 4; let u : TagNo := 4;
     is 0x08 ∧ early ∧ d.fe.findTag n sqid (dw 10 / 2 ^ 16) = some u.val ∧ (sqid = 0 ∨ p.tagState u = 4)) ∧
    (let d : Dev := hif (fun h => { h with sqe := h.sqe ++ [(4, sqe 2 80 1)] }) (tg 4 [(Ct.state, 1), (Ct.sqid,
       1)] (tc 8 0 [(Ct.state, 1)] [] [(10, 1 + 65536 * 80)]));
     let t : TagNo := 1; let p : Plat := d.plat; let n : Nat := p.ct t Ct.cntl; let dw (j : Nat) : Nat := d.hif.dw t j;
     let is (op : Nat) : Prop := d.holdsAdmin t op; let sqid : Nat := dw 10 % 2 ^ 16;
     let early : Prop := d.fe.abortsWaiting n t < 4; let u : TagNo := 4;
     is 0x08 ∧ early ∧ d.fe.findTag n sqid (dw 10 / 2 ^ 16) = some u.val ∧ sqid ≠ 0 ∧ (p.tagState u = 1 ∨ p.tagState u = 2 ∧
       p.ct u Ct.tref = 0) ∧ p.ct u Ct.xfer = 0) ∧
    (let d : Dev := hif (fun h => { h with sqe := h.sqe ++ [(4, sqe 2 80 1)] }) (tg 4 [(Ct.state, 2), (Ct.sqid, 1),
       (Ct.xfer, 1)] (tc 8 0 [(Ct.state, 1)] [] [(10, 1 + 65536 * 80)]));
     let t : TagNo := 1; let p : Plat := d.plat; let n : Nat := p.ct t Ct.cntl; let dw (j : Nat) : Nat := d.hif.dw t j;
     let is (op : Nat) : Prop := d.holdsAdmin t op; let sqid : Nat := dw 10 % 2 ^ 16;
     let early : Prop := d.fe.abortsWaiting n t < 4; let u : TagNo := 4;
     is 0x08 ∧ early ∧ d.fe.findTag n sqid (dw 10 / 2 ^ 16) = some u.val ∧ sqid ≠ 0 ∧ (p.tagState u = 1 ∨ p.tagState u = 2 ∧
       p.ct u Ct.tref = 0) ∧ p.ct u Ct.xfer = 1) ∧
    (let d : Dev := hif (fun h => { h with sqe := h.sqe ++ [(4, sqe 2 80 1)] }) (tg 4 [(Ct.state, 3), (Ct.sqid, 1),
       (Ct.tref, 1)] (tc 8 0 [(Ct.state, 1)] [] [(10, 1 + 65536 * 80)]));
     let t : TagNo := 1; let p : Plat := d.plat; let n : Nat := p.ct t Ct.cntl; let dw (j : Nat) : Nat := d.hif.dw t j;
     let is (op : Nat) : Prop := d.holdsAdmin t op; let sqid : Nat := dw 10 % 2 ^ 16;
     let early : Prop := d.fe.abortsWaiting n t < 4; let u : TagNo := 4;
     is 0x08 ∧ early ∧ d.fe.findTag n sqid (dw 10 / 2 ^ 16) = some u.val ∧ sqid ≠ 0 ∧ (p.tagState u = 2 ∧
       p.ct u Ct.tref ≠ 0 ∨ p.tagState u = 3) ∧ d.fe.movingOut u = false) ∧
    (let d : Dev := hif (fun h => { h with sqe := h.sqe ++ [(4, sqe 2 80 1)] }) (tg 4 [(Ct.state, 5), (Ct.sqid, 1),
       (Ct.abrt, 1)] (tc 8 0 [(Ct.state, 2)] [] [(10, 1 + 65536 * 80)]));
     let t : TagNo := 1; let p : Plat := d.plat; let n : Nat := p.ct t Ct.cntl; let dw (j : Nat) : Nat := d.hif.dw t j;
     let sqid : Nat := dw 10 % 2 ^ 16; let u : TagNo := 4;
     p.tagState t = 2 ∧ p.ct t Ct.sqid = 0 ∧ d.hif.opcode t = 0x08 ∧ d.hif.psdt t = 0 ∧
       d.fe.findTag n sqid (dw 10 / 2 ^ 16) = some u.val ∧ sqid ≠ 0 ∧ p.tagState u = 5 ∧ p.ct u Ct.abrt = 1 ∧
       p.ct u Ct.abrtLate = 0 ∧ SMap.get (fun _ => 0) d.cmd.others u = 0) ∧
    (let d : Dev := tc 13 0 [(Ct.state, 1)] [] [(10, 0), (11, 1 * 2 ^ 24)]; let t : TagNo := 1;
     let data : Bytes := leBytes 8 (zoneSize); let zcap : Nat := 5; let share : Nat := 1;
     let dw (j : Nat) : Nat := d.hif.dw t j; let is (op : Nat) : Prop := d.holdsAdmin t op; let sel : Nat := dw 10 % 16;
     let csi : Nat := dw 11 / 2 ^ 24; let size : Nat := leNat (data.take 8);
     let badNs : Prop := (csi ≠ 0 ∧ csi ≠ 2) ∨ size = 0 ∨ (csi = 2 ∧ (size % zoneSize ≠ 0 ∨ share = 0));
     is 0x0D ∧ sel = 0 ∧ badNs) ∧
    (let d : Dev := tc 13 0 [(Ct.state, 1)] [] [(10, 0), (11, 2 * 2 ^ 24)]; let t : TagNo := 1;
     let data : Bytes := leBytes 8 (2 ^ 35 + zoneSize); let zcap : Nat := 5; let share : Nat := 1;
     let dw (j : Nat) : Nat := d.hif.dw t j; let is (op : Nat) : Prop := d.holdsAdmin t op; let sel : Nat := dw 10 % 16;
     let csi : Nat := dw 11 / 2 ^ 24; let size : Nat := leNat (data.take 8);
     let badNs : Prop := (csi ≠ 0 ∧ csi ≠ 2) ∨ size = 0 ∨ (csi = 2 ∧ (size % zoneSize ≠ 0 ∨ share = 0));
     let tooBig : Prop := 2 ^ 35 < d.hif.totals.1 + size ∨ (csi = 2 ∧ 1024 < d.hif.totals.2 + share);
     is 0x0D ∧ sel = 0 ∧ ¬ badNs ∧ tooBig) ∧
    (let d : Dev := hif (fun h => { h with nss := (List.range 64).map (fun k => (k + 1, some ⟨true, 4 * zoneSize, zoneSize, 4, 1⟩)) }) (tc 13 0 [(Ct.state,
       1)] [] [(10, 0), (11, 2 * 2 ^ 24)]);
     let t : TagNo := 1; let data : Bytes := leBytes 8 (zoneSize); let zcap : Nat := 5; let share : Nat := 1;
     let dw (j : Nat) : Nat := d.hif.dw t j; let is (op : Nat) : Prop := d.holdsAdmin t op; let sel : Nat := dw 10 % 16;
     let csi : Nat := dw 11 / 2 ^ 24; let size : Nat := leNat (data.take 8);
     let badNs : Prop := (csi ≠ 0 ∧ csi ≠ 2) ∨ size = 0 ∨ (csi = 2 ∧ (size % zoneSize ≠ 0 ∨ share = 0));
     let tooBig : Prop := 2 ^ 35 < d.hif.totals.1 + size ∨ (csi = 2 ∧ 1024 < d.hif.totals.2 + share);
     is 0x0D ∧ sel = 0 ∧ ¬ badNs ∧ ¬ tooBig ∧ (∀ k : Fin 64, d.hif.ns (k + 1) ≠ none)) ∧
    (let d : Dev := hif (fun h => { h with nss := [(1, some ⟨true, 4 * zoneSize, zoneSize, 4, 1⟩)] }) (tc 13 0 [(Ct.state,
       1)] [] [(10, 0), (11, 2 * 2 ^ 24)]);
     let t : TagNo := 1; let data : Bytes := leBytes 8 (zoneSize); let zcap : Nat := 5; let share : Nat := 1;
     let dw (j : Nat) : Nat := d.hif.dw t j; let is (op : Nat) : Prop := d.holdsAdmin t op; let sel : Nat := dw 10 % 16;
     let csi : Nat := dw 11 / 2 ^ 24; let size : Nat := leNat (data.take 8);
     let badNs : Prop := (csi ≠ 0 ∧ csi ≠ 2) ∨ size = 0 ∨ (csi = 2 ∧ (size % zoneSize ≠ 0 ∨ share = 0));
     let tooBig : Prop := 2 ^ 35 < d.hif.totals.1 + size ∨ (csi = 2 ∧ 1024 < d.hif.totals.2 + share);
     is 0x0D ∧ sel = 0 ∧ let k : Fin 64 := 1;
     ¬ badNs ∧ ¬ tooBig ∧ d.hif.ns (k + 1) = none ∧ (∀ j : Fin 64, j < k → d.hif.ns (j + 1) ≠ none)) ∧
    (let d : Dev := hif (fun h => { h with sqe := [(1, sqe 13 5 4294967295 [(10, 1), (11, 2 * 2 ^ 24)])] }) (tc 13 0 [(Ct.state,
       1)] [] [(10, 1), (11, 2 * 2 ^ 24)]);
     let t : TagNo := 1; let data : Bytes := leBytes 8 (zoneSize); let zcap : Nat := 5; let share : Nat := 1;
     let dw (j : Nat) : Nat := d.hif.dw t j; let is (op : Nat) : Prop := d.holdsAdmin t op; let sel : Nat := dw 10 % 16;
     let i : Nat := d.hif.nsid t; is 0x0D ∧ sel = 1 ∧ i = 0xFFFFFFFF) ∧
    (let d : Dev := tc 13 0 [(Ct.state, 1)] [] [(10, 1), (11, 2 * 2 ^ 24)]; let t : TagNo := 1;
     let data : Bytes := leBytes 8 (zoneSize); let zcap : Nat := 5; let share : Nat := 1;
     let dw (j : Nat) : Nat := d.hif.dw t j; let is (op : Nat) : Prop := d.holdsAdmin t op; let sel : Nat := dw 10 % 16;
     let i : Nat := d.hif.nsid t; is 0x0D ∧ sel = 1 ∧ i ≠ 0xFFFFFFFF ∧ d.hif.ns i = none) ∧
    (let d : Dev := hif (fun h => { h with nss := [(1, some ⟨true, 4 * zoneSize, zoneSize, 4, 1⟩)] }) (tc 13 0 [(Ct.state,
       1)] [] [(10, 1), (11, 2 * 2 ^ 24)]);
     let t : TagNo := 1; let data : Bytes := leBytes 8 (zoneSize); let zcap : Nat := 5; let share : Nat := 1;
     let dw (j : Nat) : Nat := d.hif.dw t j; let is (op : Nat) : Prop := d.holdsAdmin t op; let sel : Nat := dw 10 % 16;
     let i : Nat := d.hif.nsid t; is 0x0D ∧ sel = 1 ∧ let x := ⟨true, 4 * zoneSize, zoneSize, 4, 1⟩;
     i ≠ 0xFFFFFFFF ∧ d.hif.ns i = some x) ∧
    (let d : Dev := tc 13 0 [(Ct.state, 1)] [] [(10, 2), (11, 2 * 2 ^ 24)]; let t : TagNo := 1;
     let data : Bytes := leBytes 8 (zoneSize); let zcap : Nat := 5; let share : Nat := 1;
     let dw (j : Nat) : Nat := d.hif.dw t j; let is (op : Nat) : Prop := d.holdsAdmin t op; let sel : Nat := dw 10 % 16;
     is 0x0D ∧ 1 < sel) ∧
    (let d : Dev := tc 21 0 [(Ct.state, 1)] [] [(10, 0)]; let t : TagNo := 1; let data : Bytes := [1, 0, 3, 0];
     let is (op : Nat) : Prop := d.holdsAdmin t op; let i : Nat := d.hif.nsid t; is 0x15 ∧ d.hif.ns i = none) ∧
    (let d : Dev := hif (fun h => { h with nss := [(1, some ⟨true, 4 * zoneSize, zoneSize, 4, 1⟩)] }) (tc 21 0 [(Ct.state,
       1)] [] [(10, 2)]);
     let t : TagNo := 1; let data : Bytes := [1, 0, 3, 0]; let dw (j : Nat) : Nat := d.hif.dw t j;
     let is (op : Nat) : Prop := d.holdsAdmin t op; let sel : Nat := dw 10 % 16; let i : Nat := d.hif.nsid t;
     is 0x15 ∧ let x := ⟨true, 4 * zoneSize, zoneSize, 4, 1⟩; d.hif.ns i = some x ∧ 1 < sel) ∧
    (let d : Dev := hif (fun h => { h with nss := [(1, some ⟨true, 4 * zoneSize, zoneSize, 4, 1⟩)] }) (tc 21 0 [(Ct.state,
       1)] [] [(10, 0)]);
     let t : TagNo := 1; let data : Bytes := [1, 0, 64, 0]; let dw (j : Nat) : Nat := d.hif.dw t j;
     let is (op : Nat) : Prop := d.holdsAdmin t op; let sel : Nat := dw 10 % 16; let i : Nat := d.hif.nsid t;
     let cs : List Nat := ctrlList data; is 0x15 ∧ let x := ⟨true, 4 * zoneSize, zoneSize, 4, 1⟩;
     d.hif.ns i = some x ∧ sel ≤ 1 ∧ (cs = [] ∨ (∃ c ∈ cs, 64 ≤ c))) ∧
    (let d : Dev := hif (fun h => { h with nss := [(1, some ⟨true, 4 * zoneSize, zoneSize, 4, 1⟩)] }) (tc 21 0 [(Ct.state,
       1)] [] [(10, 0)]);
     let t : TagNo := 1; let data : Bytes := [1, 0, 0, 0]; let dw (j : Nat) : Nat := d.hif.dw t j;
     let is (op : Nat) : Prop := d.holdsAdmin t op; let sel : Nat := dw 10 % 16; let i : Nat := d.hif.nsid t;
     let cs : List Nat := ctrlList data; is 0x15 ∧ let x := ⟨true, 4 * zoneSize, zoneSize, 4, 1⟩;
     d.hif.ns i = some x ∧ sel ≤ 1 ∧ cs ≠ [] ∧ (∀ c ∈ cs, c < 64) ∧ sel = 0 ∧ (∃ c ∈ cs, x.attached.testBit c = true)) ∧
    (let d : Dev := hif (fun h => { h with nss := [(1, some ⟨true, 4 * zoneSize, zoneSize, 4, 1⟩)] }) (tc 21 0 [(Ct.state,
       1)] [] [(10, 1)]);
     let t : TagNo := 1; let data : Bytes := [1, 0, 3, 0]; let dw (j : Nat) : Nat := d.hif.dw t j;
     let is (op : Nat) : Prop := d.holdsAdmin t op; let sel : Nat := dw 10 % 16; let i : Nat := d.hif.nsid t;
     let cs : List Nat := ctrlList data; is 0x15 ∧ let x := ⟨true, 4 * zoneSize, zoneSize, 4, 1⟩;
     d.hif.ns i = some x ∧ sel ≤ 1 ∧ cs ≠ [] ∧ (∀ c ∈ cs, c < 64) ∧ sel = 1 ∧ (∃ c ∈ cs, x.attached.testBit c = false)) ∧
    (let d : Dev := hif (fun h => { h with nss := [(1, some ⟨true, 4 * zoneSize, zoneSize, 4, 1⟩)] }) (tc 21 0 [(Ct.state,
       1)] [] [(10, 1)]);
     let t : TagNo := 1; let data : Bytes := [1, 0, 0, 0]; let dw (j : Nat) : Nat := d.hif.dw t j;
     let is (op : Nat) : Prop := d.holdsAdmin t op; let sel : Nat := dw 10 % 16; let i : Nat := d.hif.nsid t;
     let cs : List Nat := ctrlList data; is 0x15 ∧ let x := ⟨true, 4 * zoneSize, zoneSize, 4, 1⟩;
     d.hif.ns i = some x ∧ sel ≤ 1 ∧ cs ≠ [] ∧ (∀ c ∈ cs, c < 64) ∧ let on : Bool := false;
     sel = (if on then 0 else 1) ∧ (∀ c ∈ cs, x.attached.testBit c = !on)) ∧
    (let d : Dev := tc 17 0 [(Ct.state, 1)] [] [(10, 1), (11, 2)]; let t : TagNo := 1; let data : Bytes := [1, 2];
     let is (op : Nat) : Prop := d.holdsAdmin t op; is 0x11) ∧
    (let d : Dev := tc 16 0 [(Ct.state, 1)] [] [(10, 33)]; let t : TagNo := 1; let dw (j : Nat) : Nat := d.hif.dw t j;
     let is (op : Nat) : Prop := d.holdsAdmin t op; let fw (e : Dev) : FwImages := e.hif.fw; let ca : Nat := dw 10 / 8 % 8;
     let fs : Nat := dw 10 % 8; let slot : Nat := if fs = 0 then (if (fw d).active = 1 then 2 else 1) else fs;
     let fresh : Prop := (fw d).pending ≠ some (t.val, slot); is 0x10 ∧ fresh ∧ 3 < ca) ∧
    (let d : Dev := tc 16 0 [(Ct.state, 1)] [] [(10, 3)]; let t : TagNo := 1; let dw (j : Nat) : Nat := d.hif.dw t j;
     let is (op : Nat) : Prop := d.holdsAdmin t op; let fw (e : Dev) : FwImages := e.hif.fw; let ca : Nat := dw 10 / 8 % 8;
     let fs : Nat := dw 10 % 8; let slot : Nat := if fs = 0 then (if (fw d).active = 1 then 2 else 1) else fs;
     let fresh : Prop := (fw d).pending ≠ some (t.val, slot); is 0x10 ∧ fresh ∧ ca ≤ 3 ∧ 2 < slot) ∧
    (let d : Dev := tc 16 0 [(Ct.state, 1)] [] [(10, 1)]; let t : TagNo := 1; let dw (j : Nat) : Nat := d.hif.dw t j;
     let is (op : Nat) : Prop := d.holdsAdmin t op; let fw (e : Dev) : FwImages := e.hif.fw; let ca : Nat := dw 10 / 8 % 8;
     let fs : Nat := dw 10 % 8; let slot : Nat := if fs = 0 then (if (fw d).active = 1 then 2 else 1) else fs;
     let fresh : Prop := (fw d).pending ≠ some (t.val, slot);
     let source : Prop := if ca ≤ 1 then (fw d).image ≠ [] else (fw d).present.testBit slot = true;
     is 0x10 ∧ fresh ∧ ca ≤ 3 ∧ slot ≤ 2 ∧ ¬ source) ∧
    (let d : Dev := hif (fun h => { h with fw := { h.fw with image := [(0, 7)] } }) (tc 16 0 [(Ct.state, 1)] [] [(10, 10)]);
     let t : TagNo := 1; let dw (j : Nat) : Nat := d.hif.dw t j; let is (op : Nat) : Prop := d.holdsAdmin t op;
     let fw (e : Dev) : FwImages := e.hif.fw; let ca : Nat := dw 10 / 8 % 8; let fs : Nat := dw 10 % 8;
     let slot : Nat := if fs = 0 then (if (fw d).active = 1 then 2 else 1) else fs;
     let fresh : Prop := (fw d).pending ≠ some (t.val, slot);
     let source : Prop := if ca ≤ 1 then (fw d).image ≠ [] else (fw d).present.testBit slot = true;
     is 0x10 ∧ fresh ∧ ca ≤ 2 ∧ slot ≤ 2 ∧ source) ∧
    (let d : Dev := hif (fun h => { h with fw := { h.fw with present := 2 } }) (tc 16 0 [(Ct.state, 1)] [] [(10, 25)]);
     let t : TagNo := 1; let dw (j : Nat) : Nat := d.hif.dw t j; let is (op : Nat) : Prop := d.holdsAdmin t op;
     let fw (e : Dev) : FwImages := e.hif.fw; let ca : Nat := dw 10 / 8 % 8; let fs : Nat := dw 10 % 8;
     let slot : Nat := if fs = 0 then (if (fw d).active = 1 then 2 else 1) else fs;
     let fresh : Prop := (fw d).pending ≠ some (t.val, slot);
     let source : Prop := if ca ≤ 1 then (fw d).image ≠ [] else (fw d).present.testBit slot = true;
     is 0x10 ∧ fresh ∧ ca = 3 ∧ slot ≤ 2 ∧ source ∧ d.fe.drained t = true) ∧
    (let d : Dev := tg 4 [(Ct.state, 3)] (hif (fun h => { h with fw := { h.fw with present := 2 } }) (tc 16 0 [(Ct.state,
       1)] [] [(10, 25)]));
     let t : TagNo := 1; let dw (j : Nat) : Nat := d.hif.dw t j; let is (op : Nat) : Prop := d.holdsAdmin t op;
     let fw (e : Dev) : FwImages := e.hif.fw; let ca : Nat := dw 10 / 8 % 8; let fs : Nat := dw 10 % 8;
     let slot : Nat := if fs = 0 then (if (fw d).active = 1 then 2 else 1) else fs;
     let fresh : Prop := (fw d).pending ≠ some (t.val, slot);
     let source : Prop := if ca ≤ 1 then (fw d).image ≠ [] else (fw d).present.testBit slot = true;
     is 0x10 ∧ fresh ∧ ca = 3 ∧ slot ≤ 2 ∧ source ∧ d.fe.drained t = false) ∧
    (let d : Dev := hif (fun h => { h with fw := { h.fw with pending := some (1, 1) } }) (tc 16 0 [(Ct.state, 1)] [] [(10,
       25)]);
     let t : TagNo := 1; let dw (j : Nat) : Nat := d.hif.dw t j; let is (op : Nat) : Prop := d.holdsAdmin t op;
     let fw (e : Dev) : FwImages := e.hif.fw; let fs : Nat := dw 10 % 8;
     let slot : Nat := if fs = 0 then (if (fw d).active = 1 then 2 else 1) else fs;
     let fresh : Prop := (fw d).pending ≠ some (t.val, slot); is 0x10 ∧ ¬ fresh ∧ d.fe.drained t = true) ∧
    (let d : Dev := tg 4 [(Ct.state,
       3)] (hif (fun h => { h with fw := { h.fw with pending := some (1, 1) } }) (tc 16 0 [(Ct.state, 1)] [] [(10, 25)]));
     let t : TagNo := 1; let dw (j : Nat) : Nat := d.hif.dw t j; let is (op : Nat) : Prop := d.holdsAdmin t op;
     let fw (e : Dev) : FwImages := e.hif.fw; let fs : Nat := dw 10 % 8;
     let slot : Nat := if fs = 0 then (if (fw d).active = 1 then 2 else 1) else fs;
     let fresh : Prop := (fw d).pending ≠ some (t.val, slot); is 0x10 ∧ ¬ fresh ∧ d.fe.drained t = false) ∧
    (let d : Dev := mk []; let fw (e : Dev) : FwImages := e.hif.fw; (fw d).pending = none) ∧
    (let d : Dev := hif (fun h => { h with fw := { h.fw with pending := some (1, 1) } }) (mk []);
     let fw (e : Dev) : FwImages := e.hif.fw; let r := (1, 1); (fw d).pending = some r) := by
  refine ⟨?_, ?_, ?_, ?_, ?_, ?_, ?_, ?_, ?_, ?_, ?_, ?_, ?_, ?_, ?_, ?_, ?_, ?_, ?_, ?_, ?_, ?_, ?_, ?_, ?_, ?_, ?_, ?_,
    ?_, ?_, ?_, ?_⟩
  all_goals ((try dsimp only [Dev.holdsAdmin, Dev.holdsIo]); try decide +kernel)

/-- The hypotheses of `Obligations.InformationAndSecurityCommands` are met. -/
theorem witness_InformationAndSecurityCommands :
    (let d : Dev := tc 6 0 [(Ct.state, 1)] [] [(10, 1), (11, 0 * 2 ^ 24)]; let t : TagNo := 1; let h : Hif := d.hif;
     let dw (j : Nat) : Nat := h.dw t j; let is (op : Nat) : Prop := d.holdsAdmin t op; let cns : Nat := dw 10 % 256;
     is 0x06 ∧ cns = 0x01) ∧
    (let d : Dev := tc 6 0 [(Ct.state, 1)] [] [(10, 2), (11, 0 * 2 ^ 24)]; let t : TagNo := 1; let h : Hif := d.hif;
     let dw (j : Nat) : Nat := h.dw t j; let is (op : Nat) : Prop := d.holdsAdmin t op; let cns : Nat := dw 10 % 256;
     is 0x06 ∧ cns = 0x02) ∧
    (let d : Dev := tc 6 0 [(Ct.state, 1)] [] [(10, 7), (11, 0 * 2 ^ 24)]; let t : TagNo := 1; let h : Hif := d.hif;
     let dw (j : Nat) : Nat := h.dw t j; let is (op : Nat) : Prop := d.holdsAdmin t op; let cns : Nat := dw 10 % 256;
     is 0x06 ∧ cns = 0x07) ∧
    (let d : Dev := tc 6 0 [(Ct.state, 1)] [] [(10, 16), (11, 0 * 2 ^ 24)]; let t : TagNo := 1; let h : Hif := d.hif;
     let dw (j : Nat) : Nat := h.dw t j; let is (op : Nat) : Prop := d.holdsAdmin t op; let cns : Nat := dw 10 % 256;
     is 0x06 ∧ cns = 0x10) ∧
    (let d : Dev := tc 6 0 [(Ct.state, 1)] [] [(10, 28), (11, 0 * 2 ^ 24)]; let t : TagNo := 1; let h : Hif := d.hif;
     let dw (j : Nat) : Nat := h.dw t j; let is (op : Nat) : Prop := d.holdsAdmin t op; let cns : Nat := dw 10 % 256;
     is 0x06 ∧ cns = 0x1C) ∧
    (let d : Dev := tc 6 0 [(Ct.state, 1)] [] [(10, 0), (11, 0 * 2 ^ 24)]; let t : TagNo := 1; let h : Hif := d.hif;
     let dw (j : Nat) : Nat := h.dw t j; let i : Nat := h.nsid t; let is (op : Nat) : Prop := d.holdsAdmin t op;
     let cns : Nat := dw 10 % 256; let csi : Nat := dw 11 / 2 ^ 24;
     is 0x06 ∧ (cns ∈ [0x00, 0x03, 0x11, 0x12] ∨ cns = 0x05 ∧ (csi = 0 ∨ csi = 2)) ∧ h.ns i = none) ∧
    (let d : Dev := hif (fun h => { h with nss := [(1, some ⟨true, zoneSize, zoneSize, 4, 1⟩)] }) (tc 6 0 [(Ct.state,
       1)] [] [(10, 17), (11, 0 * 2 ^ 24)]);
     let t : TagNo := 1; let h : Hif := d.hif; let dw (j : Nat) : Nat := h.dw t j; let i : Nat := h.nsid t;
     let is (op : Nat) : Prop := d.holdsAdmin t op; let cns : Nat := dw 10 % 256;
     is 0x06 ∧ h.ns i = some ⟨true, zoneSize, zoneSize, 4, 1⟩ ∧ cns = 0x11) ∧
    (let d : Dev := hif (fun h => { h with nss := [(1, some ⟨true, zoneSize, zoneSize, 4, 1⟩)] }) (tc 6 0 [(Ct.state,
       1)] [] [(10, 5), (11, 2 * 2 ^ 24)]);
     let t : TagNo := 1; let h : Hif := d.hif; let dw (j : Nat) : Nat := h.dw t j; let i : Nat := h.nsid t;
     let is (op : Nat) : Prop := d.holdsAdmin t op; let cns : Nat := dw 10 % 256; let csi : Nat := dw 11 / 2 ^ 24;
     is 0x06 ∧ let x := ⟨true, zoneSize, zoneSize, 4, 1⟩; h.ns i = some x ∧ cns = 0x05 ∧ csi = 2) ∧
    (let d : Dev := hif (fun h => { h with nss := [(1, some ⟨true, zoneSize, zoneSize, 4, 1⟩)] }) (tc 6 0 [(Ct.state,
       1)] [] [(10, 5), (11, 0 * 2 ^ 24)]);
     let t : TagNo := 1; let h : Hif := d.hif; let dw (j : Nat) : Nat := h.dw t j; let i : Nat := h.nsid t;
     let is (op : Nat) : Prop := d.holdsAdmin t op; let cns : Nat := dw 10 % 256; let csi : Nat := dw 11 / 2 ^ 24;
     is 0x06 ∧ let x := ⟨true, zoneSize, zoneSize, 4, 1⟩; h.ns i = some x ∧ cns = 0x05 ∧ csi = 0) ∧
    (let d : Dev := hif (fun h => { h with nss := [(1, some ⟨true, zoneSize, zoneSize, 4, 1⟩)] }) (tc 6 0 [(Ct.state,
       1)] [] [(10, 18), (11, 0 * 2 ^ 24)]);
     let t : TagNo := 1; let h : Hif := d.hif; let dw (j : Nat) : Nat := h.dw t j; let i : Nat := h.nsid t;
     let is (op : Nat) : Prop := d.holdsAdmin t op; let cns : Nat := dw 10 % 256;
     is 0x06 ∧ let x := ⟨true, zoneSize, zoneSize, 4, 1⟩; h.ns i = some x ∧ cns = 0x12) ∧
    (let d : Dev := tc 6 0 [(Ct.state, 1)] [] [(10, 6), (11, 2 * 2 ^ 24)]; let t : TagNo := 1; let h : Hif := d.hif;
     let dw (j : Nat) : Nat := h.dw t j; let is (op : Nat) : Prop := d.holdsAdmin t op; let cns : Nat := dw 10 % 256;
     let csi : Nat := dw 11 / 2 ^ 24; is 0x06 ∧ cns = 0x06 ∧ csi = 2) ∧
    (let d : Dev := tc 6 0 [(Ct.state, 1)] [] [(10, 6), (11, 0 * 2 ^ 24)]; let t : TagNo := 1; let h : Hif := d.hif;
     let dw (j : Nat) : Nat := h.dw t j; let is (op : Nat) : Prop := d.holdsAdmin t op; let cns : Nat := dw 10 % 256;
     let csi : Nat := dw 11 / 2 ^ 24; is 0x06 ∧ cns = 0x06 ∧ csi = 0) ∧
    (let d : Dev := tc 6 0 [(Ct.state, 1)] [] [(10, 19), (11, 0 * 2 ^ 24)]; let t : TagNo := 1; let h : Hif := d.hif;
     let dw (j : Nat) : Nat := h.dw t j; let is (op : Nat) : Prop := d.holdsAdmin t op; let cns : Nat := dw 10 % 256;
     is 0x06 ∧ cns = 0x13) ∧
    (let d : Dev := tc 6 0 [(Ct.state, 1)] [] [(10, 6), (11, 1 * 2 ^ 24)]; let t : TagNo := 1; let h : Hif := d.hif;
     let dw (j : Nat) : Nat := h.dw t j; let is (op : Nat) : Prop := d.holdsAdmin t op; let cns : Nat := dw 10 % 256;
     let csi : Nat := dw 11 / 2 ^ 24; is 0x06 ∧ (cns = 0x05 ∨ cns = 0x06) ∧ csi ≠ 0 ∧ csi ≠ 2) ∧
    (let d : Dev := tc 6 0 [(Ct.state, 1)] [] [(10, 68), (11, 0 * 2 ^ 24)]; let t : TagNo := 1; let h : Hif := d.hif;
     let dw (j : Nat) : Nat := h.dw t j; let is (op : Nat) : Prop := d.holdsAdmin t op; let cns : Nat := dw 10 % 256;
     is 0x06 ∧ cns ∉ [0x00, 0x01, 0x02, 0x03, 0x05, 0x06, 0x07, 0x10, 0x11, 0x12, 0x13, 0x1C]) ∧
    (let d : Dev := tc 2 0 [(Ct.state, 1)] [] [(10, 51 + 65536 * 3), (11, 0)]; let t : TagNo := 1; let h : Hif := d.hif;
     let dw (j : Nat) : Nat := h.dw t j; let is (op : Nat) : Prop := d.holdsAdmin t op; let lid : Nat := dw 10 % 256;
     is 0x02 ∧ lid ∉ [0x01, 0x02, 0x03, 0x04, 0x05, 0x06, 0x07, 0x08, 0xBF, 0xC0, 0xC1, 0xC2]) ∧
    (let d : Dev := tc 2 0 [(Ct.state, 1)] [] [(10, 4 + 65536 * 0), (11, 8)]; let t : TagNo := 1; let fw : Bytes := [];
     let p : Plat := d.plat; let h : Hif := d.hif; let dw (j : Nat) : Nat := h.dw t j; let i : Nat := h.nsid t;
     let is (op : Nat) : Prop := d.holdsAdmin t op; let lid : Nat := dw 10 % 256;
     let len : Nat := 4 * (dw 10 / 2 ^ 16 + 2 ^ 16 * (dw 11 % 2 ^ 16) + 1);
     let shown : Hif := if lid = 0xBF then { h with changedZones := h.changedZones.filter (fun x => x.1 == i) } else h;
     is 0x02 ∧ let page := (logPage p shown lid fw).getD []; logPage p shown lid fw = some page ∧ 2 ^ 21 < len) ∧
    (let d : Dev := tc 2 0 [(Ct.state, 1)] [] [(10, 4 + 65536 * 3), (11, 0)]; let t : TagNo := 1; let fw : Bytes := [];
     let p : Plat := d.plat; let h : Hif := d.hif; let dw (j : Nat) : Nat := h.dw t j; let i : Nat := h.nsid t;
     let is (op : Nat) : Prop := d.holdsAdmin t op; let lid : Nat := dw 10 % 256;
     let len : Nat := 4 * (dw 10 / 2 ^ 16 + 2 ^ 16 * (dw 11 % 2 ^ 16) + 1);
     let shown : Hif := if lid = 0xBF then { h with changedZones := h.changedZones.filter (fun x => x.1 == i) } else h;
     is 0x02 ∧ let page := (logPage p shown lid fw).getD []; logPage p shown lid fw = some page ∧ len ≤ 2 ^ 21) ∧
    (let d : Dev := hif (fun h => { h with selfTest := 0 }) (tc 20 0 [(Ct.state, 1)] [] [(10, 1)]); let t : TagNo := 1;
     let h : Hif := d.hif; let dw (j : Nat) : Nat := h.dw t j; let is (op : Nat) : Prop := d.holdsAdmin t op;
     let stc : Nat := dw 10 % 16; is 0x14 ∧ (stc = 1 ∨ stc = 2) ∧ h.selfTest = 0) ∧
    (let d : Dev := hif (fun h => { h with selfTest := 1 }) (tc 20 0 [(Ct.state, 1)] [] [(10, 2)]); let t : TagNo := 1;
     let h : Hif := d.hif; let dw (j : Nat) : Nat := h.dw t j; let is (op : Nat) : Prop := d.holdsAdmin t op;
     let stc : Nat := dw 10 % 16; is 0x14 ∧ (stc = 1 ∨ stc = 2) ∧ h.selfTest ≠ 0) ∧
    (let d : Dev := hif (fun h => { h with selfTest := 1 }) (tc 20 0 [(Ct.state, 1)] [] [(10, 15)]); let t : TagNo := 1;
     let h : Hif := d.hif; let dw (j : Nat) : Nat := h.dw t j; let is (op : Nat) : Prop := d.holdsAdmin t op;
     let stc : Nat := dw 10 % 16; is 0x14 ∧ stc = 15) ∧
    (let d : Dev := hif (fun h => { h with selfTest := 0 }) (tc 20 0 [(Ct.state, 1)] [] [(10, 3)]); let t : TagNo := 1;
     let h : Hif := d.hif; let dw (j : Nat) : Nat := h.dw t j; let is (op : Nat) : Prop := d.holdsAdmin t op;
     let stc : Nat := dw 10 % 16; is 0x14 ∧ stc ≠ 1 ∧ stc ≠ 2 ∧ stc ≠ 15) ∧
    (let d : Dev := hif (fun h => { h with selfTest := 1 }) (tc 20 0 [(Ct.state, 1)] [] [(10, 1)]); let t : TagNo := 1;
     let h : Hif := d.hif; h.selfTest ≠ 0) ∧
    (let d : Dev := mk []; let h : Hif := d.hif; h.selfTest = 0) ∧
    (let d : Dev := tc 28 0 [(Ct.state, 1)] [] [(10, 9 + 65536 * 64), (11, 2)]; let t : TagNo := 1; let h : Hif := d.hif;
     let dw (j : Nat) : Nat := h.dw t j; let is (op : Nat) : Prop := d.holdsAdmin t op; let m : Nat := dw 10 / 2 ^ 16;
     is 0x1C ∧ 64 ≤ m) ∧
    (let d : Dev := tc 28 0 [(Ct.state, 1)] [] [(10, 7 + 65536 * 3), (11, 2)]; let t : TagNo := 1; let p : Plat := d.plat;
     let h : Hif := d.hif; let n : Nat := p.ct t Ct.cntl; let dw (j : Nat) : Nat := h.dw t j;
     let is (op : Nat) : Prop := d.holdsAdmin t op; let m : Nat := dw 10 / 2 ^ 16; let act : Nat := dw 10 % 16;
     is 0x1C ∧ m < 64 ∧ act = 7 ∧ m ≠ n) ∧
    (let d : Dev := tc 28 0 [(Ct.state, 1)] [] [(10, 9 + 65536 * 3), (11, 2)]; let t : TagNo := 1; let h : Hif := d.hif;
     let dw (j : Nat) : Nat := h.dw t j; let is (op : Nat) : Prop := d.holdsAdmin t op; let m : Nat := dw 10 / 2 ^ 16;
     let act : Nat := dw 10 % 16; is 0x1C ∧ m < 64 ∧ act = 9) ∧
    (let d : Dev := tc 28 0 [(Ct.state, 1)] [] [(10, 1 + 65536 * 3), (11, 2)]; let t : TagNo := 1; let p : Plat := d.plat;
     let h : Hif := d.hif; let dw (j : Nat) : Nat := h.dw t j; let is (op : Nat) : Prop := d.holdsAdmin t op;
     let m : Nat := dw 10 / 2 ^ 16; let act : Nat := dw 10 % 16; let nr : Nat := dw 11 % 2 ^ 16;
     let field : Fld := if dw 10 / 256 % 8 = 0 then Fld.HIF_FN_RES_QMAX else Fld.HIF_FN_RES_INTMAX;
     let asked : Word := Fld.put field (p.rd (Reg.HIF_FN_RES m)) nr; let took : Plat := fnResWrite p h m asked;
     is 0x1C ∧ m < 64 ∧ (act = 1 ∨ act = 8) ∧ nr < 2048 ∧ took.rd (Reg.HIF_FN_RES m) = asked) ∧
    (let d : Dev := tc 28 0 [(Ct.state, 1)] [] [(10, 1 + 65536 * 3), (11, 2048)]; let t : TagNo := 1;
     let p : Plat := d.plat; let h : Hif := d.hif; let dw (j : Nat) : Nat := h.dw t j;
     let is (op : Nat) : Prop := d.holdsAdmin t op; let m : Nat := dw 10 / 2 ^ 16; let act : Nat := dw 10 % 16;
     let nr : Nat := dw 11 % 2 ^ 16;
     let field : Fld := if dw 10 / 256 % 8 = 0 then Fld.HIF_FN_RES_QMAX else Fld.HIF_FN_RES_INTMAX;
     let asked : Word := Fld.put field (p.rd (Reg.HIF_FN_RES m)) nr; let took : Plat := fnResWrite p h m asked;
     is 0x1C ∧ m < 64 ∧ (act = 1 ∨ act = 8) ∧ (2048 ≤ nr ∨ took.rd (Reg.HIF_FN_RES m) ≠ asked)) ∧
    (let d : Dev := tc 28 0 [(Ct.state, 1)] [] [(10, 2 + 65536 * 3), (11, 2)]; let t : TagNo := 1; let h : Hif := d.hif;
     let dw (j : Nat) : Nat := h.dw t j; let is (op : Nat) : Prop := d.holdsAdmin t op; let m : Nat := dw 10 / 2 ^ 16;
     let act : Nat := dw 10 % 16; is 0x1C ∧ m < 64 ∧ act ∉ [1, 7, 8, 9]) ∧
    (let d : Dev := tc 29 0 [(Ct.state, 1)] [] []; let t : TagNo := 1; let is (op : Nat) : Prop := d.holdsAdmin t op;
     is 0x1D) ∧
    (let d : Dev := tc 30 0 [(Ct.state, 1)] [] []; let t : TagNo := 1; let is (op : Nat) : Prop := d.holdsAdmin t op;
     is 0x1E ∧ d.mgt.answer.data.length ≤ 2 ^ 21) ∧
    (let d : Dev := hif (fun h => { h with sqs := [(1, some (sbq 1 3 1))], cqs := [(1, some (cpq 1))] }) (tc 124 0 [(Ct.state,
       1)] [] []);
     let t : TagNo := 1; let h : Hif := d.hif; let is (op : Nat) : Prop := d.holdsAdmin t op;
     is 0x7C ∧ SMap.wf (fun _ => none) h.sqs ∧ SMap.wf (fun _ => none) h.cqs) ∧
    (let d : Dev := tc 128 0 [(Ct.state, 1)] [] [(10, 0)]; let t : TagNo := 1; let h : Hif := d.hif;
     let i : Nat := h.nsid t; let is (op : Nat) : Prop := d.holdsAdmin t op; is 0x80 ∧ h.ns i = none) ∧
    (let d : Dev := hif (fun h => { h with nss := [(1, some ⟨true, zoneSize, zoneSize, 4, 1⟩)] }) (tc 128 0 [(Ct.state,
       1)] [] [(10, 1)]);
     let t : TagNo := 1; let h : Hif := d.hif; let dw (j : Nat) : Nat := h.dw t j; let i : Nat := h.nsid t;
     let is (op : Nat) : Prop := d.holdsAdmin t op; is 0x80 ∧ let x := ⟨true, zoneSize, zoneSize, 4, 1⟩;
     h.ns i = some x ∧ dw 10 % 16 ≠ 0) ∧
    (let d : Dev := hif (fun h => { h with nss := [(1, some ⟨true, zoneSize, zoneSize, 4, 1⟩)] }) (tc 128 0 [(Ct.state,
       1)] [] [(10, 512)]);
     let t : TagNo := 1; let h : Hif := d.hif; let dw (j : Nat) : Nat := h.dw t j; let i : Nat := h.nsid t;
     let is (op : Nat) : Prop := d.holdsAdmin t op; let ses : Nat := dw 10 / 2 ^ 9 % 8;
     is 0x80 ∧ let x := ⟨true, zoneSize, zoneSize, 4, 1⟩; h.ns i = some x ∧ dw 10 % 16 = 0 ∧ ses ≠ 0 ∧ ses ≠ 2) ∧
    (let d : Dev := hif (fun h => { h with nss := [(1, some ⟨true, zoneSize, zoneSize, 4, 1⟩)], zones := [(2 ^ 15, some { freshZone zoneSize with resets := 4094 })] }) (tc 128 0 [(Ct.state,
       1)] [] [(10, 0)]);
     let t : TagNo := 1; let h : Hif := d.hif; let dw (j : Nat) : Nat := h.dw t j; let i : Nat := h.nsid t;
     let is (op : Nat) : Prop := d.holdsAdmin t op; let ses : Nat := dw 10 / 2 ^ 9 % 8;
     let formatOk : Prop := dw 10 % 16 = 0 ∧ (ses = 0 ∨ ses = 2); is 0x80 ∧ let x := ⟨true, zoneSize, zoneSize, 4, 1⟩;
     h.ns i = some x ∧ formatOk ∧ x.zoned = true ∧ d.fe.anySweep i x = true) ∧
    (let d : Dev := hif (fun h => { h with nss := [(1, some ⟨true, zoneSize, zoneSize, 4, 1⟩)] }) (tc 128 0 [(Ct.state,
       1)] [] [(10, 1024)]);
     let t : TagNo := 1; let ok : Bool := true; let h : Hif := d.hif; let dw (j : Nat) : Nat := h.dw t j;
     let i : Nat := h.nsid t; let is (op : Nat) : Prop := d.holdsAdmin t op; let ses : Nat := dw 10 / 2 ^ 9 % 8;
     let formatOk : Prop := dw 10 % 16 = 0 ∧ (ses = 0 ∨ ses = 2); is 0x80 ∧ let x := ⟨true, zoneSize, zoneSize, 4, 1⟩;
     h.ns i = some x ∧ formatOk ∧ x.zoned = true ∧ (ok = true ∨ d.fe.anySweep i x = false)) ∧
    (let d : Dev := hif (fun h => { h with nss := [(1, some ⟨true, zoneSize, zoneSize, 4, 1⟩)] }) (tc 128 0 [(Ct.state,
       1)] [] [(10, 1024)]);
     let t : TagNo := 1; let ok : Bool := true; let h : Hif := d.hif; let dw (j : Nat) : Nat := h.dw t j;
     let i : Nat := h.nsid t; let is (op : Nat) : Prop := d.holdsAdmin t op; let ses : Nat := dw 10 / 2 ^ 9 % 8;
     let formatOk : Prop := dw 10 % 16 = 0 ∧ (ses = 0 ∨ ses = 2); is 0x80 ∧ let x := ⟨true, zoneSize, zoneSize, 4, 1⟩;
     h.ns i = some x ∧ formatOk ∧ (x.zoned = false ∨ ok = true ∨ d.fe.anySweep i x = false)) ∧
    (let d : Dev := tc 129 0 [(Ct.state, 1)] [] []; let t : TagNo := 1; let is (op : Nat) : Prop := d.holdsAdmin t op;
     is 0x81) ∧
    (let d : Dev := tc 130 0 [(Ct.state, 1)] [] [(11, 2097153)]; let t : TagNo := 1; let h : Hif := d.hif;
     let dw (j : Nat) : Nat := h.dw t j; let is (op : Nat) : Prop := d.holdsAdmin t op; is 0x82 ∧ 2 ^ 21 < dw 11) ∧
    (let d : Dev := tc 130 0 [(Ct.state, 1)] [] [(11, 6)]; let t : TagNo := 1; let h : Hif := d.hif;
     let dw (j : Nat) : Nat := h.dw t j; let is (op : Nat) : Prop := d.holdsAdmin t op; is 0x82 ∧ dw 11 ≤ 2 ^ 21) ∧
    (let d : Dev := tc 132 0 [(Ct.state, 1)] [] [(10, 3)]; let t : TagNo := 1; let h : Hif := d.hif;
     let dw (j : Nat) : Nat := h.dw t j; let is (op : Nat) : Prop := d.holdsAdmin t op; is 0x84 ∧ dw 10 % 8 ≠ 4) ∧
    (let d : Dev := tc 132 0 [(Ct.state, 1)] [] [(10, 4)]; let t : TagNo := 1; let h : Hif := d.hif;
     let dw (j : Nat) : Nat := h.dw t j; let is (op : Nat) : Prop := d.holdsAdmin t op; is 0x84 ∧ dw 10 % 8 = 4) ∧
    (let d : Dev := tc 153 0 [(Ct.state, 1)] [] []; let t : TagNo := 1; let p : Plat := d.plat; let h : Hif := d.hif;
     p.tagState t = 1 ∧ let admin : Bool := p.ct t Ct.sqid == 0; (supportedOps admin).contains (h.opcode t) = false) ∧
    (let d : Dev := tc 121 1 [(Ct.state, 1)] [] [(13, 6)]; let t : TagNo := 1; let p : Plat := d.plat; let h : Hif := d.hif;
     let dw (j : Nat) : Nat := h.dw t j; p.tagState t = 1 ∧ let admin : Bool := p.ct t Ct.sqid == 0;
     admin = false ∧ h.opcode t = 0x79 ∧ dw 13 % 256 ∉ [1, 2, 3, 4, 5]) := by
  refine ⟨?_, ?_, ?_, ?_, ?_, ?_, ?_, ?_, ?_, ?_, ?_, ?_, ?_, ?_, ?_, ?_, ?_, ?_, ?_, ?_, ?_, ?_, ?_, ?_, ?_, ?_, ?_, ?_,
    ?_, ?_, ?_, ?_, ?_, ?_, ?_, ?_, ?_, ?_, ?_, ?_, ?_, ?_, ?_, ?_, ?_, ?_⟩
  all_goals ((try dsimp only [Dev.holdsAdmin, Dev.holdsIo]); try decide +kernel)

end Sys2Proof.Tests
end

