-- ==== Sys2Proof/Tests/WitnessIo.lean ====
section
/-! SUPPORT. Witnesses: for each statement about namespace commands, the command engine and links, machines and operands that
meet the hypotheses of each of its clauses together. -/

namespace Sys2Proof.Tests

open Sys2Proof Sys2Proof.Machine

set_option linter.unusedVariables false
set_option maxRecDepth 65536
set_option Elab.async false

/-- The hypotheses of `Obligations.ReadsWritesAndFlushes` are met. -/
theorem witness_ReadsWritesAndFlushes :
    (let d : Dev := hif (fun h => { h with nss := [(1, some ⟨true, 4 * zoneSize, zoneSize, 4, 1⟩)] }) (tc 16385 1 [(Ct.state,
       1)] [] [(10, 0), (12, 0)]);
     let t : TagNo := 1; let pg : PageNo := 2; let failed : Nats := []; let rows : Nat := 0; let noHeads : Nat := 0;
     let rebuilt : Nat := 0; let cap : Option Nat := none; let n : Ns := ⟨true, 4 * zoneSize, zoneSize, 4, 1⟩;
     let h : Hif := d.hif; let f : Fe := d.fe;
     let all : List (Instr × Nat) := [(.write t pg, 0x01), (.read t pg failed, 0x02), (.writeZeroes t pg, 0x08),
       (.datasetManagement t, 0x09), (.verify t failed, 0x0C), (.zoneClose t, 0x79), (.zoneFinish t, 0x79), (.zoneOpen t,
       0x79), (.zoneReset t cap true, 0x79), (.zoneOffline t, 0x79), (.reportZones t pg, 0x7A), (.zoneAppend t pg, 0x7D),
       (.zoneAudit t rows noHeads rebuilt, 0x84)];
     let y : Instr × Nat := ((Instr.write t pg), 1); y ∈ all ∧ f.isIoCmd t y.2 [1] = true ∧ h.psdt t ≠ 0) ∧
    (let d : Dev := tc 1 1 [(Ct.state, 1)] [] [(10, 0), (12, 0)]; let t : TagNo := 1; let pg : PageNo := 2;
     let failed : Nats := []; let rows : Nat := 0; let noHeads : Nat := 0; let rebuilt : Nat := 0;
     let cap : Option Nat := none; let n : Ns := ⟨true, 4 * zoneSize, zoneSize, 4, 1⟩; let p : Plat := d.plat;
     let h : Hif := d.hif; let f : Fe := d.fe; let i : Nat := h.nsid t;
     let all : List (Instr × Nat) := [(.write t pg, 0x01), (.read t pg failed, 0x02), (.writeZeroes t pg, 0x08),
       (.datasetManagement t, 0x09), (.verify t failed, 0x0C), (.zoneClose t, 0x79), (.zoneFinish t, 0x79), (.zoneOpen t,
       0x79), (.zoneReset t cap true, 0x79), (.zoneOffline t, 0x79), (.reportZones t pg, 0x7A), (.zoneAppend t pg, 0x7D),
       (.zoneAudit t rows noHeads rebuilt, 0x84)];
     let y : Instr × Nat := ((Instr.write t pg), 1);
     y ∈ all ∧ f.isIoCmd t y.2 [1] = true ∧ h.psdt t = 0 ∧ h.isAttached i (p.ct t Ct.cntl) = false) ∧
    (let d : Dev := hif (fun h => { h with nss := [(1, some ⟨false, 4 * zoneSize, 0, 0, 1⟩)] }) (tc 125 1 [(Ct.state,
       1)] [] [(10, 0), (12, 0)]);
     let t : TagNo := 1; let pg : PageNo := 2; let failed : Nats := []; let rows : Nat := 0; let noHeads : Nat := 0;
     let rebuilt : Nat := 0; let cap : Option Nat := none; let n : Ns := ⟨false, 4 * zoneSize, 0, 0, 1⟩;
     let p : Plat := d.plat; let h : Hif := d.hif; let f : Fe := d.fe; let i : Nat := h.nsid t;
     let all : List (Instr × Nat) := [(.write t pg, 0x01), (.read t pg failed, 0x02), (.writeZeroes t pg, 0x08),
       (.datasetManagement t, 0x09), (.verify t failed, 0x0C), (.zoneClose t, 0x79), (.zoneFinish t, 0x79), (.zoneOpen t,
       0x79), (.zoneReset t cap true, 0x79), (.zoneOffline t, 0x79), (.reportZones t pg, 0x7A), (.zoneAppend t pg, 0x7D),
       (.zoneAudit t rows noHeads rebuilt, 0x84)];
     let wrongKind (op : Nat) (y : Ns) : Prop := isZnsOp op = true ∧ y.zoned = false ∨ (op = 0x08 ∨ op = 0x09) ∧
       y.zoned = true;
     let y : Instr × Nat := ((Instr.zoneAppend t pg), 125);
     y ∈ all ∧ f.isIoCmd t y.2 [1] = true ∧ h.psdt t = 0 ∧ h.ns i = some n ∧ n.attached.testBit (p.ct t Ct.cntl) = true ∧
       wrongKind y.2 n) ∧
    (let d : Dev := hif (fun h => { h with nss := [(1, some ⟨true, 4 * zoneSize, zoneSize, 4, 1⟩)], deferred := [⟨0, 0, 1, 0, 20, false, true⟩] }) (tc 1 1 [(Ct.state,
       1)] [] [(10, 0), (12, 0)]);
     let t : TagNo := 1; let pg : PageNo := 2; let failed : Nats := []; let rows : Nat := 0; let noHeads : Nat := 0;
     let rebuilt : Nat := 0; let cap : Option Nat := none; let n : Ns := ⟨true, 4 * zoneSize, zoneSize, 4, 1⟩;
     let p : Plat := d.plat; let h : Hif := d.hif; let f : Fe := d.fe; let i : Nat := h.nsid t;
     let all : List (Instr × Nat) := [(.write t pg, 0x01), (.read t pg failed, 0x02), (.writeZeroes t pg, 0x08),
       (.datasetManagement t, 0x09), (.verify t failed, 0x0C), (.zoneClose t, 0x79), (.zoneFinish t, 0x79), (.zoneOpen t,
       0x79), (.zoneReset t cap true, 0x79), (.zoneOffline t, 0x79), (.reportZones t pg, 0x7A), (.zoneAppend t pg, 0x7D),
       (.zoneAudit t rows noHeads rebuilt, 0x84)];
     let wrongKind (op : Nat) (y : Ns) : Prop := isZnsOp op = true ∧ y.zoned = false ∨ (op = 0x08 ∨ op = 0x09) ∧
       y.zoned = true;
     let y : Instr × Nat := ((Instr.write t pg), 1);
     y ∈ all ∧ f.isIoCmd t y.2 [1] = true ∧ h.psdt t = 0 ∧ h.ns i = some n ∧ n.attached.testBit (p.ct t Ct.cntl) = true ∧
       ¬ wrongKind y.2 n ∧ h.deferred.any (f.reports t) = true) ∧
    (let d : Dev := mk []; let t : TagNo := 1; let pg : PageNo := 2; let failed : Nats := []; let rows : Nat := 0;
     let noHeads : Nat := 0; let rebuilt : Nat := 0; let cap : Option Nat := none; let f : Fe := d.fe;
     let all : List (Instr × Nat) := [(.write t pg, 0x01), (.read t pg failed, 0x02), (.writeZeroes t pg, 0x08),
       (.datasetManagement t, 0x09), (.verify t failed, 0x0C), (.zoneClose t, 0x79), (.zoneFinish t, 0x79), (.zoneOpen t,
       0x79), (.zoneReset t cap true, 0x79), (.zoneOffline t, 0x79), (.reportZones t pg, 0x7A), (.zoneAppend t pg, 0x7D),
       (.zoneAudit t rows noHeads rebuilt, 0x84)];
     let y : Instr × Nat := ((Instr.write t pg), 1); y ∈ all ∧ f.isIoCmd t y.2 [1] = false ∧ f.doneWaiting t y.2 = false) ∧
    (let d : Dev := hif (fun h => { h with nss := [(1, some ⟨true, 4 * zoneSize, zoneSize, 4, 1⟩)] }) (tc 1 1 [(Ct.state,
       1)] [] [(10, 4 * zoneSize), (12, 0)]);
     let t : TagNo := 1; let pg : PageNo := 2; let failed : Nats := []; let n : Ns := ⟨true, 4 * zoneSize, zoneSize, 4, 1⟩;
     let h : Hif := d.hif; let lba : Nat := h.slba t; let nlb : Nat := h.nlb t;
     let is (op : Nat) : Prop := d.holdsIo t op n; let y : Instr × Nat := ((Instr.write t pg), 1);
     y ∈ [(Instr.write t pg, 0x01), (.read t pg failed, 0x02), (.writeZeroes t pg, 0x08), (.verify t failed, 0x0C)] ∧
       is y.2 ∧ n.size < lba + nlb) ∧
    (let d : Dev := hif (fun h => { h with nss := [(1, some ⟨false, 4 * zoneSize, 0, 0, 1⟩)] }) (tc 1 1 [(Ct.state,
       1)] [] [(10, 0), (12, 512)]);
     let t : TagNo := 1; let pg : PageNo := 2; let failed : Nats := []; let n : Ns := ⟨false, 4 * zoneSize, 0, 0, 1⟩;
     let h : Hif := d.hif; let lba : Nat := h.slba t; let nlb : Nat := h.nlb t;
     let is (op : Nat) : Prop := d.holdsIo t op n; let y : Instr × Nat := ((Instr.write t pg), 1);
     y ∈ [(Instr.write t pg, 0x01), (.read t pg failed, 0x02)] ∧ is y.2 ∧ lba + nlb ≤ n.size ∧ 512 < nlb) ∧
    (let d : Dev := hif (fun h => { h with nss := [(1, some ⟨false, 4 * zoneSize, 0, 0, 1⟩)] }) (tc 1 1 [(Ct.state,
       1)] [] [(10, 5), (12, 7)]);
     let t : TagNo := 1; let n : Ns := ⟨false, 4 * zoneSize, 0, 0, 1⟩; let h : Hif := d.hif; let lba : Nat := h.slba t;
     let nlb : Nat := h.nlb t; let is (op : Nat) : Prop := d.holdsIo t op n;
     is 0x01 ∧ lba + nlb ≤ n.size ∧ nlb ≤ 512 ∧ n.zoned = false) ∧
    (let d : Dev := hif (fun h => { h with nss := [(1, some ⟨true, 4 * zoneSize, zoneSize, 4, 1⟩)] }) (tc 1 1 [(Ct.state,
       1)] [] [(10, 5), (12, 0)]);
     let t : TagNo := 1; let n : Ns := ⟨true, 4 * zoneSize, zoneSize, 4, 1⟩; let h : Hif := d.hif; let i : Nat := h.nsid t;
     let lba : Nat := h.slba t; let nlb : Nat := h.nlb t; let z : Nat := lba / zoneSize; let x : Zone := h.zone i z;
     let is (op : Nat) : Prop := d.holdsIo t op n;
     let fails (op : Nat) (k o : Nat) : Option Nat := match x.st with | .full => some 0x1B9 | .readOnly => some 0x1BA | .offline => some 0x1BB | _ => if x.cap < (if op = 0x7D then x.wp else o) + k then some 0x1B8 else if op ≠ 0x7D ∧ o ≠ x.wp then some 0x1BC else none;
     is 0x01 ∧ lba + nlb ≤ n.size ∧ nlb ≤ 512 ∧ n.zoned = true ∧ let s := 0x1BC; fails 0x01 nlb (lba % zoneSize) = some s) ∧
    (let d : Dev := hif (fun h => { h with nss := [(1, some ⟨true, 4 * zoneSize, zoneSize, 4, 1⟩)] }) (tc 1 1 [(Ct.state,
       1)] [] [(10, 0), (12, 0)]);
     let t : TagNo := 1; let n : Ns := ⟨true, 4 * zoneSize, zoneSize, 4, 1⟩; let h : Hif := d.hif; let i : Nat := h.nsid t;
     let lba : Nat := h.slba t; let nlb : Nat := h.nlb t; let z : Nat := lba / zoneSize; let x : Zone := h.zone i z;
     let is (op : Nat) : Prop := d.holdsIo t op n; let opened : Nat := (h.zonesWhere i (fun y => y.st.isOpen)).length;
     let active : Nat := (h.zonesWhere i (fun y => y.st.isActive)).length;
     let mayOpen : Prop := x.st.isOpen = true ∨ ¬ (n.share ≤ opened ∧ h.lruOpen i = none) ∧
       (x.st.isActive = true ∨ active < n.share);
     let fails (op : Nat) (k o : Nat) : Option Nat := match x.st with | .full => some 0x1B9 | .readOnly => some 0x1BA | .offline => some 0x1BB | _ => if x.cap < (if op = 0x7D then x.wp else o) + k then some 0x1B8 else if op ≠ 0x7D ∧ o ≠ x.wp then some 0x1BC else none;
     is 0x01 ∧ lba + nlb ≤ n.size ∧ nlb ≤ 512 ∧ n.zoned = true ∧ fails 0x01 nlb (lba % zoneSize) = none ∧ mayOpen) ∧
    (let d : Dev := hif (fun h => { h with nss := [(1, some ⟨true, 4 * zoneSize, zoneSize, 1, 1⟩)], zones := [(2 ^ 15 + 1, some { freshZone zoneSize with st := .explicitlyOpened })] }) (tc 1 1 [(Ct.state,
       1)] [] [(10, 0), (12, 0)]);
     let t : TagNo := 1; let n : Ns := ⟨true, 4 * zoneSize, zoneSize, 1, 1⟩; let h : Hif := d.hif; let i : Nat := h.nsid t;
     let lba : Nat := h.slba t; let nlb : Nat := h.nlb t; let z : Nat := lba / zoneSize; let x : Zone := h.zone i z;
     let is (op : Nat) : Prop := d.holdsIo t op n; let opened : Nat := (h.zonesWhere i (fun y => y.st.isOpen)).length;
     let fails (op : Nat) (k o : Nat) : Option Nat := match x.st with | .full => some 0x1B9 | .readOnly => some 0x1BA | .offline => some 0x1BB | _ => if x.cap < (if op = 0x7D then x.wp else o) + k then some 0x1B8 else if op ≠ 0x7D ∧ o ≠ x.wp then some 0x1BC else none;
     is 0x01 ∧ lba + nlb ≤ n.size ∧ nlb ≤ 512 ∧ n.zoned = true ∧ fails 0x01 nlb (lba % zoneSize) = none ∧
       x.st.isOpen = false ∧ n.share ≤ opened ∧ h.lruOpen i = none) ∧
    (let d : Dev := hif (fun h => { h with nss := [(1, some ⟨true, 4 * zoneSize, zoneSize, 4, 1⟩)] }) (tc 125 1 [(Ct.state,
       1)] [] [(10, 0), (12, 32)]);
     let t : TagNo := 1; let n : Ns := ⟨true, 4 * zoneSize, zoneSize, 4, 1⟩; let h : Hif := d.hif; let nlb : Nat := h.nlb t;
     let is (op : Nat) : Prop := d.holdsIo t op n; is 0x7D ∧ 32 < nlb) ∧
    (let d : Dev := hif (fun h => { h with nss := [(1, some ⟨true, 4 * zoneSize, zoneSize, 4, 1⟩)] }) (tc 125 1 [(Ct.state,
       1)] [] [(10, 4 * zoneSize), (12, 0)]);
     let t : TagNo := 1; let n : Ns := ⟨true, 4 * zoneSize, zoneSize, 4, 1⟩; let h : Hif := d.hif;
     let lba : Nat := h.slba t; let nlb : Nat := h.nlb t; let is (op : Nat) : Prop := d.holdsIo t op n;
     is 0x7D ∧ nlb ≤ 32 ∧ n.size ≤ lba) ∧
    (let d : Dev := hif (fun h => { h with nss := [(1, some ⟨true, 4 * zoneSize, zoneSize, 4, 1⟩)] }) (tc 125 1 [(Ct.state,
       1)] [] [(10, 8), (12, 0)]);
     let t : TagNo := 1; let n : Ns := ⟨true, 4 * zoneSize, zoneSize, 4, 1⟩; let h : Hif := d.hif;
     let lba : Nat := h.slba t; let nlb : Nat := h.nlb t; let is (op : Nat) : Prop := d.holdsIo t op n;
     is 0x7D ∧ nlb ≤ 32 ∧ lba < n.size ∧ lba % zoneSize ≠ 0) ∧
    (let d : Dev := hif (fun h => { h with nss := [(1, some ⟨true, 4 * zoneSize, zoneSize, 4, 1⟩)], zones := [(2 ^ 15 + 0, some { freshZone zoneSize with st := .full })] }) (tc 125 1 [(Ct.state,
       1)] [] [(10, 0), (12, 0)]);
     let t : TagNo := 1; let n : Ns := ⟨true, 4 * zoneSize, zoneSize, 4, 1⟩; let h : Hif := d.hif; let i : Nat := h.nsid t;
     let lba : Nat := h.slba t; let nlb : Nat := h.nlb t; let z : Nat := lba / zoneSize; let x : Zone := h.zone i z;
     let is (op : Nat) : Prop := d.holdsIo t op n;
     let fails (op : Nat) (k o : Nat) : Option Nat := match x.st with | .full => some 0x1B9 | .readOnly => some 0x1BA | .offline => some 0x1BB | _ => if x.cap < (if op = 0x7D then x.wp else o) + k then some 0x1B8 else if op ≠ 0x7D ∧ o ≠ x.wp then some 0x1BC else none;
     is 0x7D ∧ nlb ≤ 32 ∧ lba < n.size ∧ lba % zoneSize = 0 ∧ let s := 0x1B9; fails 0x7D nlb 0 = some s) ∧
    (let d : Dev := hif (fun h => { h with nss := [(1, some ⟨true, 4 * zoneSize, zoneSize, 4, 1⟩)] }) (tc 125 1 [(Ct.state,
       1)] [] [(10, 0), (12, 0)]);
     let t : TagNo := 1; let n : Ns := ⟨true, 4 * zoneSize, zoneSize, 4, 1⟩; let h : Hif := d.hif; let i : Nat := h.nsid t;
     let lba : Nat := h.slba t; let nlb : Nat := h.nlb t; let z : Nat := lba / zoneSize; let x : Zone := h.zone i z;
     let is (op : Nat) : Prop := d.holdsIo t op n; let opened : Nat := (h.zonesWhere i (fun y => y.st.isOpen)).length;
     let active : Nat := (h.zonesWhere i (fun y => y.st.isActive)).length;
     let mayOpen : Prop := x.st.isOpen = true ∨ ¬ (n.share ≤ opened ∧ h.lruOpen i = none) ∧
       (x.st.isActive = true ∨ active < n.share);
     let fails (op : Nat) (k o : Nat) : Option Nat := match x.st with | .full => some 0x1B9 | .readOnly => some 0x1BA | .offline => some 0x1BB | _ => if x.cap < (if op = 0x7D then x.wp else o) + k then some 0x1B8 else if op ≠ 0x7D ∧ o ≠ x.wp then some 0x1BC else none;
     is 0x7D ∧ nlb ≤ 32 ∧ lba < n.size ∧ lba % zoneSize = 0 ∧ fails 0x7D nlb 0 = none ∧ mayOpen ∧ lba + x.wp < 2 ^ 64) ∧
    (let d : Dev := hif (fun h => { h with nss := [(1, some ⟨false, 4 * zoneSize, 0, 0, 1⟩)] }) (tc 8 1 [(Ct.state,
       1)] [] [(10, 0), (12, 0)]);
     let t : TagNo := 1; let n : Ns := ⟨false, 4 * zoneSize, 0, 0, 1⟩; let h : Hif := d.hif; let lba : Nat := h.slba t;
     let nlb : Nat := h.nlb t; let is (op : Nat) : Prop := d.holdsIo t op n; is 0x08 ∧ lba + nlb ≤ n.size) ∧
    (let d : Dev := hif (fun h => { h with nss := [(1, some ⟨true, 4 * zoneSize, zoneSize, 4, 1⟩)] }) (tc 1 1 [(Ct.state,
       5), (Ct.lastSeen, 1), (Ct.tref, 0), (Ct.posted, 0)] [] [(10, 0), (12, 0)]);
     let t : TagNo := 1; let pg : PageNo := 2; let n : Ns := ⟨true, 4 * zoneSize, zoneSize, 4, 1⟩; let p : Plat := d.plat;
     let h : Hif := d.hif; let f : Fe := d.fe; let waiting (op : Nat) : Prop := f.doneWaiting t op = true;
     let y : Instr × Nat := ((Instr.write t pg), 1);
     y ∈ [(Instr.write t pg, 0x01), (.zoneAppend t pg, 0x7D), (.writeZeroes t pg, 0x08)] ∧ waiting y.2 ∧ let c : Nat := p.ct t Ct.firstCode;
     c = 0) ∧
    (let d : Dev := hif (fun h => { h with nss := [(1, some ⟨true, 4 * zoneSize, zoneSize, 4, 1⟩)] }) (tc 1 1 [(Ct.state,
       5), (Ct.lastSeen, 1), (Ct.tref, 0), (Ct.posted, 0), (Ct.firstCode, 0x53)] [] [(10, 0), (12, 0)]);
     let t : TagNo := 1; let pg : PageNo := 2; let n : Ns := ⟨true, 4 * zoneSize, zoneSize, 4, 1⟩; let p : Plat := d.plat;
     let h : Hif := d.hif; let f : Fe := d.fe; let quiet : Prop := ∀ m : CtlNo, (h.ctrl m).aers = [];
     let waiting (op : Nat) : Prop := f.doneWaiting t op = true; let y : Instr × Nat := ((Instr.write t pg), 1);
     y ∈ [(Instr.write t pg, 0x01), (.zoneAppend t pg, 0x7D), (.writeZeroes t pg, 0x08)] ∧ waiting y.2 ∧ let c : Nat := p.ct t Ct.firstCode;
     c ≠ 0 ∧ quiet) ∧
    (let d : Dev := hif (fun h => { h with nss := [(1, some ⟨true, 4 * zoneSize, zoneSize, 4, 1⟩)], zones := [(2 ^ 15 + 0, some { freshZone zoneSize with st := .offline })] }) (tc 2 1 [(Ct.state,
       1)] [] [(10, 0), (12, 0)]);
     let t : TagNo := 1; let n : Ns := ⟨true, 4 * zoneSize, zoneSize, 4, 1⟩; let h : Hif := d.hif; let f : Fe := d.fe;
     let lba : Nat := h.slba t; let nlb : Nat := h.nlb t; let is (op : Nat) : Prop := d.holdsIo t op n;
     is 0x02 ∧ lba + nlb ≤ n.size ∧ nlb ≤ 512 ∧ f.touchesOffline t n = true) ∧
    (let d : Dev := hif (fun h => { h with sqe := h.sqe ++ [(4, sqe 1 9 1 [(10, 0), (12, 0)])], fetched := [4, 1] }) (tg 4 [(Ct.state,
       2), (Ct.sqid,
       1)] (hif (fun h => { h with nss := [(1, some ⟨true, 4 * zoneSize, zoneSize, 4, 1⟩)] }) (tc 2 1 [(Ct.state,
       1)] [] [(10, 0), (12, 0)])));
     let t : TagNo := 1; let n : Ns := ⟨true, 4 * zoneSize, zoneSize, 4, 1⟩; let h : Hif := d.hif; let f : Fe := d.fe;
     let i : Nat := h.nsid t; let lba : Nat := h.slba t; let nlb : Nat := h.nlb t;
     let is (op : Nat) : Prop := d.holdsIo t op n; let waiting (op : Nat) : Prop := f.doneWaiting t op = true;
     let reads : Prop := f.isIoCmd t 0x02 [1] = true ∧ is 0x02 ∧ lba + nlb ≤ n.size ∨ waiting 0x02 ∧ h.ns i = some n;
     reads ∧ nlb ≤ 512 ∧ f.touchesOffline t n = false ∧ f.mustWait t = true) ∧
    (let d : Dev := hif (fun h => { h with nss := [(1, some ⟨true, 4 * zoneSize, zoneSize, 4, 1⟩)] }) (tc 2 1 [(Ct.state,
       1)] [] [(10, 0), (12, 0)]);
     let t : TagNo := 1; let n : Ns := ⟨true, 4 * zoneSize, zoneSize, 4, 1⟩; let h : Hif := d.hif; let f : Fe := d.fe;
     let i : Nat := h.nsid t; let lba : Nat := h.slba t; let nlb : Nat := h.nlb t;
     let is (op : Nat) : Prop := d.holdsIo t op n; let waiting (op : Nat) : Prop := f.doneWaiting t op = true;
     let reads : Prop := f.isIoCmd t 0x02 [1] = true ∧ is 0x02 ∧ lba + nlb ≤ n.size ∨ waiting 0x02 ∧ h.ns i = some n;
     reads ∧ nlb ≤ 512 ∧ f.touchesOffline t n = false ∧ f.mustWait t = false) ∧
    (let d : Dev := hif (fun h => { h with nss := [(1, some ⟨true, 4 * zoneSize, zoneSize, 4, 1⟩)], zones := [(2 ^ 15 + 0, some { freshZone zoneSize with st := .offline })] }) (tc 12 1 [(Ct.state,
       1)] [] [(10, 0), (12, 0)]);
     let t : TagNo := 1; let n : Ns := ⟨true, 4 * zoneSize, zoneSize, 4, 1⟩; let h : Hif := d.hif; let f : Fe := d.fe;
     let lba : Nat := h.slba t; let nlb : Nat := h.nlb t; let is (op : Nat) : Prop := d.holdsIo t op n;
     is 0x0C ∧ lba + nlb ≤ n.size ∧ f.touchesOffline t n = true) ∧
    (let d : Dev := hif (fun h => { h with nss := [(1, some ⟨true, 4 * zoneSize, zoneSize, 4, 1⟩)] }) (tc 12 1 [(Ct.state,
       1)] [] [(10, 0), (12, 0)]);
     let t : TagNo := 1; let n : Ns := ⟨true, 4 * zoneSize, zoneSize, 4, 1⟩; let h : Hif := d.hif; let f : Fe := d.fe;
     let lba : Nat := h.slba t; let nlb : Nat := h.nlb t; let is (op : Nat) : Prop := d.holdsIo t op n;
     is 0x0C ∧ lba + nlb ≤ n.size ∧ f.touchesOffline t n = false ∧ f.mustWait t = false) ∧
    (let d : Dev := hif (fun h => { h with nss := [(1, some ⟨false, 4 * zoneSize, 0, 0, 1⟩)] }) (tc 9 1 [(Ct.state,
       1)] [] [(10, 0), (12, 0)]);
     let t : TagNo := 1; let n : Ns := ⟨false, 4 * zoneSize, 0, 0, 1⟩; let h : Hif := d.hif;
     let is (op : Nat) : Prop := d.holdsIo t op n; is 0x09) ∧
    (let d : Dev := hif (fun h => { h with nss := [(1, some ⟨true, 4 * zoneSize, zoneSize, 4, 1⟩)] }) (tc 16384 1 [(Ct.state,
       1)] [] [(10, 0), (12, 0)]);
     let t : TagNo := 1; let n : Ns := ⟨true, 4 * zoneSize, zoneSize, 4, 1⟩; let h : Hif := d.hif; let f : Fe := d.fe;
     f.isIoCmd t 0x00 [1] = true ∧ h.psdt t ≠ 0) ∧
    (let d : Dev := tc 0 1 [(Ct.state, 1)] [] [(10, 0), (12, 0)]; let t : TagNo := 1;
     let n : Ns := ⟨true, 4 * zoneSize, zoneSize, 4, 1⟩; let p : Plat := d.plat; let h : Hif := d.hif; let f : Fe := d.fe;
     let i : Nat := h.nsid t; let nsFlush : Prop := i = 0xFFFFFFFF ∨ h.isAttached i (p.ct t Ct.cntl) = true;
     f.isIoCmd t 0x00 [1] = true ∧ h.psdt t = 0 ∧ ¬ nsFlush) ∧
    (let d : Dev := hif (fun h => { h with sqe := h.sqe ++ [(4, sqe 1 9 1 [(10, 0), (12, 0)])], fetched := [4, 1] }) (tg 4 [(Ct.state,
       4), (Ct.sqid,
       1)] (hif (fun h => { h with nss := [(1, some ⟨true, 4 * zoneSize, zoneSize, 4, 1⟩)] }) (tc 0 1 [(Ct.state, 1),
       (Ct.fetchLo, 9)] [] [(10, 0), (12, 0)])));
     let t : TagNo := 1; let n : Ns := ⟨true, 4 * zoneSize, zoneSize, 4, 1⟩; let p : Plat := d.plat; let h : Hif := d.hif;
     let f : Fe := d.fe; let i : Nat := h.nsid t;
     let nsFlush : Prop := i = 0xFFFFFFFF ∨ h.isAttached i (p.ct t Ct.cntl) = true;
     let pending : Prop := p.tagsInUse.any (fun u => p.tagState u == 4 && f.writesData u && flushCovers i (h.nsid u) && decide (p.tPost u ≤ p.tFetch t)) = true;
     f.isIoCmd t 0x00 [1] = true ∧ h.psdt t = 0 ∧ nsFlush ∧ pending) ∧
    (let d : Dev := hif (fun h => { h with nss := [(1, some ⟨true, 4 * zoneSize, zoneSize, 4, 1⟩)], deferred := [⟨0, 0, 1, 0, 20, false, false⟩] }) (tc 0 1 [(Ct.state,
       1)] [] [(10, 0), (12, 0)]);
     let t : TagNo := 1; let n : Ns := ⟨true, 4 * zoneSize, zoneSize, 4, 1⟩; let p : Plat := d.plat; let h : Hif := d.hif;
     let f : Fe := d.fe; let i : Nat := h.nsid t;
     let nsFlush : Prop := i = 0xFFFFFFFF ∨ h.isAttached i (p.ct t Ct.cntl) = true;
     let covered (j : Nat) : Prop := i = 0xFFFFFFFF ∨ i = j;
     let pending : Prop := p.tagsInUse.any (fun u => p.tagState u == 4 && f.writesData u && flushCovers i (h.nsid u) && decide (p.tPost u ≤ p.tFetch t)) = true;
     let owed (y : Deferred) : Prop := y.flushed = false ∧ covered y.nsid ∧ y.posted ≤ p.tFetch t;
     f.isIoCmd t 0x00 [1] = true ∧ h.psdt t = 0 ∧ nsFlush ∧ ¬ pending ∧ (∃ y ∈ h.deferred, owed y)) ∧
    (let d : Dev := hif (fun h => { h with nss := [(1, some ⟨true, 4 * zoneSize, zoneSize, 4, 1⟩)] }) (tc 0 1 [(Ct.state,
       1)] [] [(10, 0), (12, 0)]);
     let t : TagNo := 1; let n : Ns := ⟨true, 4 * zoneSize, zoneSize, 4, 1⟩; let p : Plat := d.plat; let h : Hif := d.hif;
     let f : Fe := d.fe; let i : Nat := h.nsid t;
     let nsFlush : Prop := i = 0xFFFFFFFF ∨ h.isAttached i (p.ct t Ct.cntl) = true;
     let covered (j : Nat) : Prop := i = 0xFFFFFFFF ∨ i = j;
     let pending : Prop := p.tagsInUse.any (fun u => p.tagState u == 4 && f.writesData u && flushCovers i (h.nsid u) && decide (p.tPost u ≤ p.tFetch t)) = true;
     let owed (y : Deferred) : Prop := y.flushed = false ∧ covered y.nsid ∧ y.posted ≤ p.tFetch t;
     f.isIoCmd t 0x00 [1] = true ∧ h.psdt t = 0 ∧ nsFlush ∧ ¬ pending ∧ (∀ y ∈ h.deferred, ¬ owed y)) ∧
    (let d : Dev := mk []; let t : TagNo := 1; let f : Fe := d.fe; f.isIoCmd t 0x00 [1] = false) := by
  refine ⟨?_, ?_, ?_, ?_, ?_, ?_, ?_, ?_, ?_, ?_, ?_, ?_, ?_, ?_, ?_, ?_, ?_, ?_, ?_, ?_, ?_, ?_, ?_, ?_, ?_, ?_, ?_, ?_,
    ?_, ?_, ?_⟩
  all_goals ((try dsimp only [Dev.holdsAdmin, Dev.holdsIo]); try decide +kernel)

/-- The hypotheses of `Obligations.ZonesFollowTheirCommands` are met. -/
theorem witness_ZonesFollowTheirCommands :
    (let d : Dev := hif (fun h => { h with nss := [(1, some ⟨true, 4 * zoneSize, zoneSize, 4, 1⟩)] }) (tc 121 1 [(Ct.state,
       1)] [] [(10, 4 * zoneSize), (12, 0), (13, 5)]);
     let t : TagNo := 1; let cap : Option Nat := none; let n : Ns := ⟨true, 4 * zoneSize, zoneSize, 4, 1⟩;
     let h : Hif := d.hif; let lba : Nat := h.slba t; let dw (j : Nat) : Nat := h.dw t j; let zsa : Nat := dw 13 % 256;
     let selectAll : Bool := (dw 13).testBit 8; let is (op : Nat) : Prop := d.holdsIo t op n;
     let acts : List (Nat × Instr) := [(1, .zoneClose t), (2, .zoneFinish t), (3, .zoneOpen t), (4, .zoneReset t cap true),
       (5, .zoneOffline t)];
     let y : Nat × Instr := (5, (Instr.zoneOffline t)); y ∈ acts ∧ is 0x79 ∧ zsa = y.1 ∧ selectAll = false ∧ n.size ≤ lba) ∧
    (let d : Dev := hif (fun h => { h with nss := [(1, some ⟨true, 4 * zoneSize, zoneSize, 4, 1⟩)] }) (tc 121 1 [(Ct.state,
       1)] [] [(10, 8), (12, 0), (13, 4)]);
     let t : TagNo := 1; let cap : Option Nat := none; let n : Ns := ⟨true, 4 * zoneSize, zoneSize, 4, 1⟩;
     let h : Hif := d.hif; let lba : Nat := h.slba t; let dw (j : Nat) : Nat := h.dw t j; let zsa : Nat := dw 13 % 256;
     let selectAll : Bool := (dw 13).testBit 8; let is (op : Nat) : Prop := d.holdsIo t op n;
     let acts : List (Nat × Instr) := [(1, .zoneClose t), (2, .zoneFinish t), (3, .zoneOpen t), (4, .zoneReset t cap true),
       (5, .zoneOffline t)];
     let y : Nat × Instr := (4, (Instr.zoneReset t cap true));
     y ∈ acts ∧ is 0x79 ∧ zsa = y.1 ∧ selectAll = false ∧ lba < n.size ∧ lba % zoneSize ≠ 0) ∧
    (let d : Dev := hif (fun h => { h with nss := [(1, some ⟨true, 4 * zoneSize, zoneSize, 4, 1⟩)], zones := [(2 ^ 15 + 1, some { freshZone zoneSize with st := .explicitlyOpened, wp := 5 })] }) (tc 121 1 [(Ct.state,
       1)] [] [(10, zoneSize), (12, 0), (13, 1)]);
     let t : TagNo := 1; let n : Ns := ⟨true, 4 * zoneSize, zoneSize, 4, 1⟩; let h : Hif := d.hif; let i : Nat := h.nsid t;
     let lba : Nat := h.slba t; let z : Nat := lba / zoneSize; let x : Zone := h.zone i z;
     let dw (j : Nat) : Nat := h.dw t j; let zsa : Nat := dw 13 % 256; let selectAll : Bool := (dw 13).testBit 8;
     let is (op : Nat) : Prop := d.holdsIo t op n;
     let one (a : Nat) : Prop := is 0x79 ∧ zsa = a ∧ selectAll = false ∧ lba < n.size ∧ lba % zoneSize = 0;
     one 1 ∧ x.st.isOpen = true) ∧
    (let d : Dev := hif (fun h => { h with nss := [(1, some ⟨true, 4 * zoneSize, zoneSize, 4, 1⟩)], zones := [(2 ^ 15 + 1, some { freshZone zoneSize with st := .closed })] }) (tc 121 1 [(Ct.state,
       1)] [] [(10, zoneSize), (12, 0), (13, 1)]);
     let t : TagNo := 1; let n : Ns := ⟨true, 4 * zoneSize, zoneSize, 4, 1⟩; let h : Hif := d.hif; let i : Nat := h.nsid t;
     let lba : Nat := h.slba t; let z : Nat := lba / zoneSize; let x : Zone := h.zone i z;
     let dw (j : Nat) : Nat := h.dw t j; let zsa : Nat := dw 13 % 256; let selectAll : Bool := (dw 13).testBit 8;
     let is (op : Nat) : Prop := d.holdsIo t op n;
     let one (a : Nat) : Prop := is 0x79 ∧ zsa = a ∧ selectAll = false ∧ lba < n.size ∧ lba % zoneSize = 0;
     one 1 ∧ x.st = .closed) ∧
    (let d : Dev := hif (fun h => { h with nss := [(1, some ⟨true, 4 * zoneSize, zoneSize, 4, 1⟩)] }) (tc 121 1 [(Ct.state,
       1)] [] [(10, zoneSize), (12, 0), (13, 1)]);
     let t : TagNo := 1; let n : Ns := ⟨true, 4 * zoneSize, zoneSize, 4, 1⟩; let h : Hif := d.hif; let i : Nat := h.nsid t;
     let lba : Nat := h.slba t; let z : Nat := lba / zoneSize; let x : Zone := h.zone i z;
     let dw (j : Nat) : Nat := h.dw t j; let zsa : Nat := dw 13 % 256; let selectAll : Bool := (dw 13).testBit 8;
     let is (op : Nat) : Prop := d.holdsIo t op n;
     let one (a : Nat) : Prop := is 0x79 ∧ zsa = a ∧ selectAll = false ∧ lba < n.size ∧ lba % zoneSize = 0;
     one 1 ∧ x.st.isActive = false) ∧
    (let d : Dev := hif (fun h => { h with nss := [(1, some ⟨true, 4 * zoneSize, zoneSize, 4, 1⟩)], zones := [(2 ^ 15 + 1, some { freshZone zoneSize with st := .closed })] }) (tc 121 1 [(Ct.state,
       1)] [] [(10, zoneSize), (12, 0), (13, 2)]);
     let t : TagNo := 1; let n : Ns := ⟨true, 4 * zoneSize, zoneSize, 4, 1⟩; let h : Hif := d.hif; let i : Nat := h.nsid t;
     let lba : Nat := h.slba t; let z : Nat := lba / zoneSize; let x : Zone := h.zone i z;
     let dw (j : Nat) : Nat := h.dw t j; let zsa : Nat := dw 13 % 256; let selectAll : Bool := (dw 13).testBit 8;
     let is (op : Nat) : Prop := d.holdsIo t op n;
     let one (a : Nat) : Prop := is 0x79 ∧ zsa = a ∧ selectAll = false ∧ lba < n.size ∧ lba % zoneSize = 0;
     one 2 ∧ x.st.isActive = true) ∧
    (let d : Dev := hif (fun h => { h with nss := [(1, some ⟨true, 4 * zoneSize, zoneSize, 4, 1⟩)], zones := [(2 ^ 15 + 1, some { freshZone zoneSize with st := .full })] }) (tc 121 1 [(Ct.state,
       1)] [] [(10, zoneSize), (12, 0), (13, 2)]);
     let t : TagNo := 1; let n : Ns := ⟨true, 4 * zoneSize, zoneSize, 4, 1⟩; let h : Hif := d.hif; let i : Nat := h.nsid t;
     let lba : Nat := h.slba t; let z : Nat := lba / zoneSize; let x : Zone := h.zone i z;
     let dw (j : Nat) : Nat := h.dw t j; let zsa : Nat := dw 13 % 256; let selectAll : Bool := (dw 13).testBit 8;
     let is (op : Nat) : Prop := d.holdsIo t op n;
     let one (a : Nat) : Prop := is 0x79 ∧ zsa = a ∧ selectAll = false ∧ lba < n.size ∧ lba % zoneSize = 0;
     one 2 ∧ x.st = .full) ∧
    (let d : Dev := hif (fun h => { h with nss := [(1, some ⟨true, 4 * zoneSize, zoneSize, 4, 1⟩)] }) (tc 121 1 [(Ct.state,
       1)] [] [(10, zoneSize), (12, 0), (13, 2)]);
     let t : TagNo := 1; let n : Ns := ⟨true, 4 * zoneSize, zoneSize, 4, 1⟩; let h : Hif := d.hif; let i : Nat := h.nsid t;
     let lba : Nat := h.slba t; let z : Nat := lba / zoneSize; let x : Zone := h.zone i z;
     let dw (j : Nat) : Nat := h.dw t j; let zsa : Nat := dw 13 % 256; let selectAll : Bool := (dw 13).testBit 8;
     let is (op : Nat) : Prop := d.holdsIo t op n; let active : Nat := (h.zonesWhere i (fun y => y.st.isActive)).length;
     let one (a : Nat) : Prop := is 0x79 ∧ zsa = a ∧ selectAll = false ∧ lba < n.size ∧ lba % zoneSize = 0;
     one 2 ∧ x.st = .empty ∧ active < n.share) ∧
    (let d : Dev := hif (fun h => { h with nss := [(1, some ⟨true, 4 * zoneSize, zoneSize, 1, 1⟩)], zones := [(2 ^ 15 + 0, some { freshZone zoneSize with st := .closed })] }) (tc 121 1 [(Ct.state,
       1)] [] [(10, zoneSize), (12, 0), (13, 2)]);
     let t : TagNo := 1; let n : Ns := ⟨true, 4 * zoneSize, zoneSize, 1, 1⟩; let h : Hif := d.hif; let i : Nat := h.nsid t;
     let lba : Nat := h.slba t; let z : Nat := lba / zoneSize; let x : Zone := h.zone i z;
     let dw (j : Nat) : Nat := h.dw t j; let zsa : Nat := dw 13 % 256; let selectAll : Bool := (dw 13).testBit 8;
     let is (op : Nat) : Prop := d.holdsIo t op n; let active : Nat := (h.zonesWhere i (fun y => y.st.isActive)).length;
     let one (a : Nat) : Prop := is 0x79 ∧ zsa = a ∧ selectAll = false ∧ lba < n.size ∧ lba % zoneSize = 0;
     one 2 ∧ x.st = .empty ∧ n.share ≤ active) ∧
    (let d : Dev := hif (fun h => { h with nss := [(1, some ⟨true, 4 * zoneSize, zoneSize, 4, 1⟩)], zones := [(2 ^ 15 + 1, some { freshZone zoneSize with st := .readOnly })] }) (tc 121 1 [(Ct.state,
       1)] [] [(10, zoneSize), (12, 0), (13, 2)]);
     let t : TagNo := 1; let n : Ns := ⟨true, 4 * zoneSize, zoneSize, 4, 1⟩; let h : Hif := d.hif; let i : Nat := h.nsid t;
     let lba : Nat := h.slba t; let z : Nat := lba / zoneSize; let x : Zone := h.zone i z;
     let dw (j : Nat) : Nat := h.dw t j; let zsa : Nat := dw 13 % 256; let selectAll : Bool := (dw 13).testBit 8;
     let is (op : Nat) : Prop := d.holdsIo t op n;
     let one (a : Nat) : Prop := is 0x79 ∧ zsa = a ∧ selectAll = false ∧ lba < n.size ∧ lba % zoneSize = 0;
     one 2 ∧ (x.st = .readOnly ∨ x.st = .offline)) ∧
    (let d : Dev := hif (fun h => { h with nss := [(1, some ⟨true, 4 * zoneSize, zoneSize, 4, 1⟩)], zones := [(2 ^ 15 + 1, some { freshZone zoneSize with st := .implicitlyOpened })] }) (tc 121 1 [(Ct.state,
       1)] [] [(10, zoneSize), (12, 0), (13, 3)]);
     let t : TagNo := 1; let n : Ns := ⟨true, 4 * zoneSize, zoneSize, 4, 1⟩; let h : Hif := d.hif; let i : Nat := h.nsid t;
     let lba : Nat := h.slba t; let z : Nat := lba / zoneSize; let x : Zone := h.zone i z;
     let dw (j : Nat) : Nat := h.dw t j; let zsa : Nat := dw 13 % 256; let selectAll : Bool := (dw 13).testBit 8;
     let is (op : Nat) : Prop := d.holdsIo t op n;
     let one (a : Nat) : Prop := is 0x79 ∧ zsa = a ∧ selectAll = false ∧ lba < n.size ∧ lba % zoneSize = 0;
     one 3 ∧ x.st.isOpen = true) ∧
    (let d : Dev := hif (fun h => { h with nss := [(1, some ⟨true, 4 * zoneSize, zoneSize, 4, 1⟩)] }) (tc 121 1 [(Ct.state,
       1)] [] [(10, zoneSize), (12, 0), (13, 3)]);
     let t : TagNo := 1; let n : Ns := ⟨true, 4 * zoneSize, zoneSize, 4, 1⟩; let h : Hif := d.hif; let i : Nat := h.nsid t;
     let lba : Nat := h.slba t; let z : Nat := lba / zoneSize; let x : Zone := h.zone i z;
     let dw (j : Nat) : Nat := h.dw t j; let zsa : Nat := dw 13 % 256; let selectAll : Bool := (dw 13).testBit 8;
     let is (op : Nat) : Prop := d.holdsIo t op n; let opened : Nat := (h.zonesWhere i (fun y => y.st.isOpen)).length;
     let active : Nat := (h.zonesWhere i (fun y => y.st.isActive)).length;
     let one (a : Nat) : Prop := is 0x79 ∧ zsa = a ∧ selectAll = false ∧ lba < n.size ∧ lba % zoneSize = 0;
     one 3 ∧ (x.st = .empty ∨ x.st = .closed) ∧ opened < n.share ∧ (x.st = .closed ∨ active < n.share)) ∧
    (let d : Dev := hif (fun h => { h with nss := [(1, some ⟨true, 4 * zoneSize, zoneSize, 1, 1⟩)], zones := [(2 ^ 15 + 0, some { freshZone zoneSize with st := .implicitlyOpened }), (2 ^ 15 + 1, some { freshZone zoneSize with st := .closed })] }) (tc 121 1 [(Ct.state,
       1)] [] [(10, zoneSize), (12, 0), (13, 3)]);
     let t : TagNo := 1; let n : Ns := ⟨true, 4 * zoneSize, zoneSize, 1, 1⟩; let h : Hif := d.hif; let i : Nat := h.nsid t;
     let lba : Nat := h.slba t; let z : Nat := lba / zoneSize; let x : Zone := h.zone i z;
     let dw (j : Nat) : Nat := h.dw t j; let zsa : Nat := dw 13 % 256; let selectAll : Bool := (dw 13).testBit 8;
     let is (op : Nat) : Prop := d.holdsIo t op n; let opened : Nat := (h.zonesWhere i (fun y => y.st.isOpen)).length;
     let active : Nat := (h.zonesWhere i (fun y => y.st.isActive)).length;
     let one (a : Nat) : Prop := is 0x79 ∧ zsa = a ∧ selectAll = false ∧ lba < n.size ∧ lba % zoneSize = 0;
     let mayOpen : Prop := ¬ (n.share ≤ opened ∧ h.lruOpen i = none) ∧ (x.st = .closed ∨ active < n.share);
     one 3 ∧ let v := 0; (x.st = .empty ∨ x.st = .closed) ∧ n.share ≤ opened ∧ mayOpen ∧ h.lruOpen i = some v ∧ v ≠ z) ∧
    (let d : Dev := hif (fun h => { h with nss := [(1, some ⟨true, 4 * zoneSize, zoneSize, 1, 1⟩)], zones := [(2 ^ 15 + 0, some { freshZone zoneSize with st := .explicitlyOpened })] }) (tc 121 1 [(Ct.state,
       1)] [] [(10, zoneSize), (12, 0), (13, 3)]);
     let t : TagNo := 1; let n : Ns := ⟨true, 4 * zoneSize, zoneSize, 1, 1⟩; let h : Hif := d.hif; let i : Nat := h.nsid t;
     let lba : Nat := h.slba t; let z : Nat := lba / zoneSize; let x : Zone := h.zone i z;
     let dw (j : Nat) : Nat := h.dw t j; let zsa : Nat := dw 13 % 256; let selectAll : Bool := (dw 13).testBit 8;
     let is (op : Nat) : Prop := d.holdsIo t op n; let opened : Nat := (h.zonesWhere i (fun y => y.st.isOpen)).length;
     let one (a : Nat) : Prop := is 0x79 ∧ zsa = a ∧ selectAll = false ∧ lba < n.size ∧ lba % zoneSize = 0;
     one 3 ∧ (x.st = .empty ∨ x.st = .closed) ∧ n.share ≤ opened ∧ h.lruOpen i = none) ∧
    (let d : Dev := hif (fun h => { h with nss := [(1, some ⟨true, 4 * zoneSize, zoneSize, 1, 1⟩)], zones := [(2 ^ 15 + 0, some { freshZone zoneSize with st := .closed })] }) (tc 121 1 [(Ct.state,
       1)] [] [(10, zoneSize), (12, 0), (13, 3)]);
     let t : TagNo := 1; let n : Ns := ⟨true, 4 * zoneSize, zoneSize, 1, 1⟩; let h : Hif := d.hif; let i : Nat := h.nsid t;
     let lba : Nat := h.slba t; let z : Nat := lba / zoneSize; let x : Zone := h.zone i z;
     let dw (j : Nat) : Nat := h.dw t j; let zsa : Nat := dw 13 % 256; let selectAll : Bool := (dw 13).testBit 8;
     let is (op : Nat) : Prop := d.holdsIo t op n; let opened : Nat := (h.zonesWhere i (fun y => y.st.isOpen)).length;
     let active : Nat := (h.zonesWhere i (fun y => y.st.isActive)).length;
     let one (a : Nat) : Prop := is 0x79 ∧ zsa = a ∧ selectAll = false ∧ lba < n.size ∧ lba % zoneSize = 0;
     one 3 ∧ x.st = .empty ∧ ¬ (n.share ≤ opened ∧ h.lruOpen i = none) ∧ n.share ≤ active) ∧
    (let d : Dev := hif (fun h => { h with nss := [(1, some ⟨true, 4 * zoneSize, zoneSize, 4, 1⟩)], zones := [(2 ^ 15 + 1, some { freshZone zoneSize with st := .full })] }) (tc 121 1 [(Ct.state,
       1)] [] [(10, zoneSize), (12, 0), (13, 3)]);
     let t : TagNo := 1; let n : Ns := ⟨true, 4 * zoneSize, zoneSize, 4, 1⟩; let h : Hif := d.hif; let i : Nat := h.nsid t;
     let lba : Nat := h.slba t; let z : Nat := lba / zoneSize; let x : Zone := h.zone i z;
     let dw (j : Nat) : Nat := h.dw t j; let zsa : Nat := dw 13 % 256; let selectAll : Bool := (dw 13).testBit 8;
     let is (op : Nat) : Prop := d.holdsIo t op n;
     let one (a : Nat) : Prop := is 0x79 ∧ zsa = a ∧ selectAll = false ∧ lba < n.size ∧ lba % zoneSize = 0;
     one 3 ∧ (x.st = .full ∨ x.st = .readOnly ∨ x.st = .offline)) ∧
    (let d : Dev := hif (fun h => { h with nss := [(1, some ⟨true, 4 * zoneSize, zoneSize, 4, 1⟩)], zones := [(2 ^ 15 + 1, some { freshZone zoneSize with st := .offline })] }) (tc 121 1 [(Ct.state,
       1)] [] [(10, zoneSize), (12, 0), (13, 4)]);
     let t : TagNo := 1; let n : Ns := ⟨true, 4 * zoneSize, zoneSize, 4, 1⟩; let h : Hif := d.hif; let i : Nat := h.nsid t;
     let lba : Nat := h.slba t; let z : Nat := lba / zoneSize; let x : Zone := h.zone i z;
     let dw (j : Nat) : Nat := h.dw t j; let zsa : Nat := dw 13 % 256; let selectAll : Bool := (dw 13).testBit 8;
     let is (op : Nat) : Prop := d.holdsIo t op n;
     let one (a : Nat) : Prop := is 0x79 ∧ zsa = a ∧ selectAll = false ∧ lba < n.size ∧ lba % zoneSize = 0;
     one 4 ∧ (x.st = .readOnly ∨ x.st = .offline)) ∧
    (let d : Dev := hif (fun h => { h with nss := [(1, some ⟨true, 4 * zoneSize, zoneSize, 4, 1⟩)], zones := [(2 ^ 15 + 1, some { freshZone zoneSize with st := .full, resets := 4094 })] }) (tc 121 1 [(Ct.state,
       1)] [] [(10, zoneSize), (12, 0), (13, 4)]);
     let t : TagNo := 1; let n : Ns := ⟨true, 4 * zoneSize, zoneSize, 4, 1⟩; let h : Hif := d.hif; let i : Nat := h.nsid t;
     let lba : Nat := h.slba t; let z : Nat := lba / zoneSize; let x : Zone := h.zone i z;
     let dw (j : Nat) : Nat := h.dw t j; let zsa : Nat := dw 13 % 256; let selectAll : Bool := (dw 13).testBit 8;
     let is (op : Nat) : Prop := d.holdsIo t op n;
     let one (a : Nat) : Prop := is 0x79 ∧ zsa = a ∧ selectAll = false ∧ lba < n.size ∧ lba % zoneSize = 0;
     let resets (w : Zone) : Nat := if 4095 ≤ w.resets + 1 then 1 else w.resets + 1;
     one 4 ∧ x.st ≠ .readOnly ∧ x.st ≠ .offline ∧ 4095 ≤ x.resets + 1) ∧
    (let d : Dev := hif (fun h => { h with nss := [(1, some ⟨true, 4 * zoneSize, zoneSize, 4, 1⟩)], zones := [(2 ^ 15 + 1, some { freshZone zoneSize with st := .full })] }) (tc 121 1 [(Ct.state,
       1)] [] [(10, zoneSize), (12, 0), (13, 4)]);
     let t : TagNo := 1; let cap : Option Nat := none; let swept : Bool := false;
     let n : Ns := ⟨true, 4 * zoneSize, zoneSize, 4, 1⟩; let h : Hif := d.hif; let i : Nat := h.nsid t;
     let lba : Nat := h.slba t; let z : Nat := lba / zoneSize; let x : Zone := h.zone i z;
     let dw (j : Nat) : Nat := h.dw t j; let zsa : Nat := dw 13 % 256; let selectAll : Bool := (dw 13).testBit 8;
     let is (op : Nat) : Prop := d.holdsIo t op n;
     let one (a : Nat) : Prop := is 0x79 ∧ zsa = a ∧ selectAll = false ∧ lba < n.size ∧ lba % zoneSize = 0;
     one 4 ∧ x.st ≠ .readOnly ∧ x.st ≠ .offline ∧ (swept = true ∨ x.resets + 1 < 4095) ∧ let c := zoneSize;
     cap.getD x.cap = c ∧ c ≠ 0 ∧ min c zoneSize = x.cap) ∧
    (let d : Dev := hif (fun h => { h with nss := [(1, some ⟨true, 4 * zoneSize, zoneSize, 4, 1⟩)], zones := [(2 ^ 15 + 1, some { freshZone zoneSize with st := .full })] }) (tc 121 1 [(Ct.state,
       1)] [] [(10, zoneSize), (12, 0), (13, 4)]);
     let t : TagNo := 1; let cap : Option Nat := some 100; let swept : Bool := true;
     let n : Ns := ⟨true, 4 * zoneSize, zoneSize, 4, 1⟩; let h : Hif := d.hif; let i : Nat := h.nsid t;
     let lba : Nat := h.slba t; let z : Nat := lba / zoneSize; let x : Zone := h.zone i z;
     let dw (j : Nat) : Nat := h.dw t j; let zsa : Nat := dw 13 % 256; let selectAll : Bool := (dw 13).testBit 8;
     let is (op : Nat) : Prop := d.holdsIo t op n; let quiet : Prop := ∀ m : CtlNo, (h.ctrl m).aers = [];
     let one (a : Nat) : Prop := is 0x79 ∧ zsa = a ∧ selectAll = false ∧ lba < n.size ∧ lba % zoneSize = 0;
     one 4 ∧ x.st ≠ .readOnly ∧ x.st ≠ .offline ∧ (swept = true ∨ x.resets + 1 < 4095) ∧ let c := 100;
     cap.getD x.cap = c ∧ c ≠ 0 ∧ min c zoneSize ≠ x.cap ∧ quiet) ∧
    (let d : Dev := hif (fun h => { h with nss := [(1, some ⟨true, 4 * zoneSize, zoneSize, 4, 1⟩)], zones := [(2 ^ 15 + 1, some { freshZone zoneSize with st := .full })] }) (tc 121 1 [(Ct.state,
       1)] [] [(10, zoneSize), (12, 0), (13, 4)]);
     let t : TagNo := 1; let cap : Option Nat := some 0; let swept : Bool := true;
     let n : Ns := ⟨true, 4 * zoneSize, zoneSize, 4, 1⟩; let h : Hif := d.hif; let i : Nat := h.nsid t;
     let lba : Nat := h.slba t; let z : Nat := lba / zoneSize; let x : Zone := h.zone i z;
     let dw (j : Nat) : Nat := h.dw t j; let zsa : Nat := dw 13 % 256; let selectAll : Bool := (dw 13).testBit 8;
     let is (op : Nat) : Prop := d.holdsIo t op n; let quiet : Prop := ∀ m : CtlNo, (h.ctrl m).aers = [];
     let one (a : Nat) : Prop := is 0x79 ∧ zsa = a ∧ selectAll = false ∧ lba < n.size ∧ lba % zoneSize = 0;
     one 4 ∧ x.st ≠ .readOnly ∧ x.st ≠ .offline ∧ (swept = true ∨ x.resets + 1 < 4095) ∧ cap.getD x.cap = 0 ∧ quiet) ∧
    (let d : Dev := hif (fun h => { h with nss := [(1, some ⟨true, 4 * zoneSize, zoneSize, 4, 1⟩)], zones := [(2 ^ 15 + 1, some { freshZone zoneSize with st := .readOnly })] }) (tc 121 1 [(Ct.state,
       1)] [] [(10, zoneSize), (12, 0), (13, 5)]);
     let t : TagNo := 1; let n : Ns := ⟨true, 4 * zoneSize, zoneSize, 4, 1⟩; let h : Hif := d.hif; let i : Nat := h.nsid t;
     let lba : Nat := h.slba t; let z : Nat := lba / zoneSize; let x : Zone := h.zone i z;
     let dw (j : Nat) : Nat := h.dw t j; let zsa : Nat := dw 13 % 256; let selectAll : Bool := (dw 13).testBit 8;
     let is (op : Nat) : Prop := d.holdsIo t op n;
     let one (a : Nat) : Prop := is 0x79 ∧ zsa = a ∧ selectAll = false ∧ lba < n.size ∧ lba % zoneSize = 0;
     one 5 ∧ (x.st = .readOnly ∨ x.st = .offline)) ∧
    (let d : Dev := hif (fun h => { h with nss := [(1, some ⟨true, 4 * zoneSize, zoneSize, 4, 1⟩)] }) (tc 121 1 [(Ct.state,
       1)] [] [(10, zoneSize), (12, 0), (13, 5)]);
     let t : TagNo := 1; let n : Ns := ⟨true, 4 * zoneSize, zoneSize, 4, 1⟩; let h : Hif := d.hif; let i : Nat := h.nsid t;
     let lba : Nat := h.slba t; let z : Nat := lba / zoneSize; let x : Zone := h.zone i z;
     let dw (j : Nat) : Nat := h.dw t j; let zsa : Nat := dw 13 % 256; let selectAll : Bool := (dw 13).testBit 8;
     let is (op : Nat) : Prop := d.holdsIo t op n;
     let one (a : Nat) : Prop := is 0x79 ∧ zsa = a ∧ selectAll = false ∧ lba < n.size ∧ lba % zoneSize = 0;
     one 5 ∧ x.st ≠ .readOnly ∧ x.st ≠ .offline) ∧
    (let d : Dev := hif (fun h => { h with nss := [(1, some ⟨true, 4 * zoneSize, zoneSize, 4, 1⟩)] }) (tc 121 1 [(Ct.state,
       1)] [] [(10, zoneSize), (12, 0), (13, 257)]);
     let t : TagNo := 1; let n : Ns := ⟨true, 4 * zoneSize, zoneSize, 4, 1⟩; let h : Hif := d.hif;
     let dw (j : Nat) : Nat := h.dw t j; let zsa : Nat := dw 13 % 256; let selectAll : Bool := (dw 13).testBit 8;
     let is (op : Nat) : Prop := d.holdsIo t op n; let every (a : Nat) : Prop := is 0x79 ∧ zsa = a ∧ selectAll = true;
     every 1) ∧
    (let d : Dev := hif (fun h => { h with nss := [(1, some ⟨true, 4 * zoneSize, zoneSize, 4, 1⟩)] }) (tc 121 1 [(Ct.state,
       1)] [] [(10, zoneSize), (12, 0), (13, 258)]);
     let t : TagNo := 1; let n : Ns := ⟨true, 4 * zoneSize, zoneSize, 4, 1⟩; let h : Hif := d.hif;
     let dw (j : Nat) : Nat := h.dw t j; let zsa : Nat := dw 13 % 256; let selectAll : Bool := (dw 13).testBit 8;
     let is (op : Nat) : Prop := d.holdsIo t op n; let every (a : Nat) : Prop := is 0x79 ∧ zsa = a ∧ selectAll = true;
     every 2) ∧
    (let d : Dev := hif (fun h => { h with nss := [(1, some ⟨true, 4 * zoneSize, zoneSize, 4, 1⟩)] }) (tc 121 1 [(Ct.state,
       1)] [] [(10, zoneSize), (12, 0), (13, 261)]);
     let t : TagNo := 1; let n : Ns := ⟨true, 4 * zoneSize, zoneSize, 4, 1⟩; let h : Hif := d.hif;
     let dw (j : Nat) : Nat := h.dw t j; let zsa : Nat := dw 13 % 256; let selectAll : Bool := (dw 13).testBit 8;
     let is (op : Nat) : Prop := d.holdsIo t op n; let every (a : Nat) : Prop := is 0x79 ∧ zsa = a ∧ selectAll = true;
     every 5) ∧
    (let d : Dev := hif (fun h => { h with nss := [(1, some ⟨true, 4 * zoneSize, zoneSize, 4, 1⟩)] }) (tc 122 1 [(Ct.state,
       1)] [] [(10, 0), (12, 0), (13, 2048)]);
     let t : TagNo := 1; let n : Ns := ⟨true, 4 * zoneSize, zoneSize, 4, 1⟩; let h : Hif := d.hif;
     let dw (j : Nat) : Nat := h.dw t j; let is (op : Nat) : Prop := d.holdsIo t op n;
     let filter : Nat := dw 13 / 256 % 256; is 0x7A ∧ (dw 13 % 256 ≠ 0 ∨ 7 < filter)) ∧
    (let d : Dev := hif (fun h => { h with nss := [(1, some ⟨true, 4 * zoneSize, zoneSize, 4, 1⟩)] }) (tc 122 1 [(Ct.state,
       1)] [] [(10, 4 * zoneSize), (12, 0)]);
     let t : TagNo := 1; let n : Ns := ⟨true, 4 * zoneSize, zoneSize, 4, 1⟩; let h : Hif := d.hif;
     let lba : Nat := h.slba t; let dw (j : Nat) : Nat := h.dw t j; let is (op : Nat) : Prop := d.holdsIo t op n;
     let filter : Nat := dw 13 / 256 % 256; is 0x7A ∧ dw 13 % 256 = 0 ∧ filter ≤ 7 ∧ n.size ≤ lba) ∧
    (let d : Dev := hif (fun h => { h with nss := [(1, some ⟨true, 4 * zoneSize, zoneSize, 4, 1⟩)] }) (tc 122 1 [(Ct.state,
       1)] [] [(10, zoneSize), (12, 15), (13, 65536 + 256 * 2)]);
     let t : TagNo := 1; let n : Ns := ⟨true, 4 * zoneSize, zoneSize, 4, 1⟩; let h : Hif := d.hif;
     let lba : Nat := h.slba t; let dw (j : Nat) : Nat := h.dw t j; let is (op : Nat) : Prop := d.holdsIo t op n;
     let filter : Nat := dw 13 / 256 % 256; is 0x7A ∧ dw 13 % 256 = 0 ∧ filter ≤ 7 ∧ lba < n.size) ∧
    (let d : Dev := hif (fun h => { h with nss := [(1, some ⟨true, 4 * zoneSize, zoneSize, 4, 1⟩)] }) (tc 132 1 [(Ct.state,
       1)] [] [(10, 4 * zoneSize), (12, 0)]);
     let t : TagNo := 1; let n : Ns := ⟨true, 4 * zoneSize, zoneSize, 4, 1⟩; let h : Hif := d.hif;
     let lba : Nat := h.slba t; let is (op : Nat) : Prop := d.holdsIo t op n; is 0x84 ∧ n.size ≤ lba) ∧
    (let d : Dev := hif (fun h => { h with nss := [(1, some ⟨true, 4 * zoneSize, zoneSize, 4, 1⟩)] }) (tc 132 1 [(Ct.state,
       1)] [] [(10, 0), (12, 2)]);
     let t : TagNo := 1; let n : Ns := ⟨true, 4 * zoneSize, zoneSize, 4, 1⟩; let h : Hif := d.hif;
     let lba : Nat := h.slba t; let dw (j : Nat) : Nat := h.dw t j; let is (op : Nat) : Prop := d.holdsIo t op n;
     let badFields : Prop := 1 < dw 12 ∨ dw 13 ≠ 0 ∨ dw 14 ≠ 0 ∨ dw 15 ≠ 0; is 0x84 ∧ lba < n.size ∧ badFields) ∧
    (let d : Dev := hif (fun h => { h with nss := [(1, some ⟨true, 4 * zoneSize, zoneSize, 4, 1⟩)], zones := [(2 ^ 15 + 0, some { freshZone zoneSize with st := .offline })] }) (tc 132 1 [(Ct.state,
       1)] [] [(10, 0), (12, 0)]);
     let t : TagNo := 1; let n : Ns := ⟨true, 4 * zoneSize, zoneSize, 4, 1⟩; let h : Hif := d.hif; let i : Nat := h.nsid t;
     let lba : Nat := h.slba t; let z : Nat := lba / zoneSize; let x : Zone := h.zone i z;
     let dw (j : Nat) : Nat := h.dw t j; let is (op : Nat) : Prop := d.holdsIo t op n;
     let badFields : Prop := 1 < dw 12 ∨ dw 13 ≠ 0 ∨ dw 14 ≠ 0 ∨ dw 15 ≠ 0;
     is 0x84 ∧ lba < n.size ∧ ¬ badFields ∧ x.st = .offline) ∧
    (let d : Dev := hif (fun h => { h with nss := [(1, some ⟨true, 4 * zoneSize, zoneSize, 4, 1⟩)] }) (tc 132 1 [(Ct.state,
       1)] [] [(10, 0), (12, 0)]);
     let t : TagNo := 1; let n : Ns := ⟨true, 4 * zoneSize, zoneSize, 4, 1⟩; let h : Hif := d.hif; let i : Nat := h.nsid t;
     let lba : Nat := h.slba t; let z : Nat := lba / zoneSize; let x : Zone := h.zone i z;
     let dw (j : Nat) : Nat := h.dw t j; let is (op : Nat) : Prop := d.holdsIo t op n;
     let badFields : Prop := 1 < dw 12 ∨ dw 13 ≠ 0 ∨ dw 14 ≠ 0 ∨ dw 15 ≠ 0;
     is 0x84 ∧ lba < n.size ∧ ¬ badFields ∧ x.st ≠ .offline) := by
  refine ⟨?_, ?_, ?_, ?_, ?_, ?_, ?_, ?_, ?_, ?_, ?_, ?_, ?_, ?_, ?_, ?_, ?_, ?_, ?_, ?_, ?_, ?_, ?_, ?_, ?_, ?_, ?_, ?_,
    ?_, ?_, ?_, ?_, ?_⟩
  all_goals ((try dsimp only [Dev.holdsAdmin, Dev.holdsIo]); try decide +kernel)

/-- The hypotheses of `Obligations.TagOperationsMoveOrRefuse` are met. -/
theorem witness_TagOperationsMoveOrRefuse :
    (let d : Dev := mk []; let c : CoreNo := 0; let t : TagNo := 1; let x : StateNo := 1; let p : Plat := d.plat;
     let on : Prop := d.powered Reg.CMD_OP; let ct (f : CtFld) : Nat := p.ct t f; let idle : Bool := ct Ct.xfer == 0;
     let free : Bool := idle && ct Ct.tref == 0 && ct Ct.posted == 0;
     let moving : Bool := ct Ct.xfer == 1 && d.sec.xfers.any (fun y => y.tag == t.val && y.out);
     let may (from' : List Nat) (cond : Bool) : Prop := p.tagState t = x.val ∧ x.val ∈ from' ∧ cond = true;
     let ops : List (Instr × List Nat × Bool) := [(.admitOp c t x, [1], !moving), (.xferIn c t x, [1, 2],
       idle && ct Ct.din == 0 && d.fe.writesData t), (.ack c t x, [1, 2, 3], idle && ct Ct.din == 1), (.post c t x, [1, 2,
       5], free), (.abortOp c t x, [2, 3], !moving), (.release c t x, [1, 2, 5], free)];
     let i := (Instr.release c t x); let from' := [1, 2, 5]; let cond := free;
     (i, from', cond) ∈ ops ∧ on ∧ ¬ may from' cond) ∧
    (let d : Dev := tc 2 1 [(Ct.state, 1)] [] []; let t : TagNo := 1; let x : StateNo := 1; let p : Plat := d.plat;
     let on : Prop := d.powered Reg.CMD_OP; let ct (f : CtFld) : Nat := p.ct t f;
     let moving : Bool := ct Ct.xfer == 1 && d.sec.xfers.any (fun y => y.tag == t.val && y.out);
     let may (from' : List Nat) (cond : Bool) : Prop := p.tagState t = x.val ∧ x.val ∈ from' ∧ cond = true;
     on ∧ may [1] (!moving) ∧ d.hif.deferred.any (d.fe.reports t) = false) ∧
    (let d : Dev := hif (fun h => { h with deferred := [⟨0, 0, 1, 0, 20, false, true⟩] }) (tc 2 1 [(Ct.state, 1)] [] []);
     let t : TagNo := 1; let x : StateNo := 1; let p : Plat := d.plat; let on : Prop := d.powered Reg.CMD_OP;
     let ct (f : CtFld) : Nat := p.ct t f;
     let moving : Bool := ct Ct.xfer == 1 && d.sec.xfers.any (fun y => y.tag == t.val && y.out);
     let may (from' : List Nat) (cond : Bool) : Prop := p.tagState t = x.val ∧ x.val ∈ from' ∧ cond = true;
     on ∧ may [1] (!moving) ∧ d.hif.deferred.any (d.fe.reports t) = true) ∧
    (let d : Dev := tc 8 1 [(Ct.state, 2)] [] []; let t : TagNo := 1; let x : StateNo := 2; let p : Plat := d.plat;
     let on : Prop := d.powered Reg.CMD_OP; let ct (f : CtFld) : Nat := p.ct t f; let idle : Bool := ct Ct.xfer == 0;
     let op : Nat := d.hif.opcode t;
     let may (from' : List Nat) (cond : Bool) : Prop := p.tagState t = x.val ∧ x.val ∈ from' ∧ cond = true;
     on ∧ may [1, 2] (idle && ct Ct.din == 0 && d.fe.writesData t) ∧ op = 0x08) ∧
    (let d : Dev := tc 1 1 [(Ct.state, 2)] [(Reg.SEC_SLOTST 0, 0xFFFFFFFF), (Reg.SEC_GLOBAL, 0)] [(12, 1)];
     let t : TagNo := 1; let x : StateNo := 2; let p : Plat := d.plat; let on : Prop := d.powered Reg.CMD_OP;
     let ct (f : CtFld) : Nat := p.ct t f; let idle : Bool := ct Ct.xfer == 0; let op : Nat := d.hif.opcode t;
     let may (from' : List Nat) (cond : Bool) : Prop := p.tagState t = x.val ∧ x.val ∈ from' ∧ cond = true;
     let ks := [0, 0];
     on ∧ may [1, 2] (idle && ct Ct.din == 0 && d.fe.writesData t) ∧ op ≠ 0x08 ∧
       p.resolve (d.hif.nsid t) (d.fe.firstLba t) false (d.hif.nlb t) = .inl ks) ∧
    (let d : Dev := tc 1 1 [(Ct.state, 2)] [(Reg.SEC_GLOBAL, 0)] []; let t : TagNo := 1; let x : StateNo := 2;
     let p : Plat := d.plat; let on : Prop := d.powered Reg.CMD_OP; let ct (f : CtFld) : Nat := p.ct t f;
     let idle : Bool := ct Ct.xfer == 0; let op : Nat := d.hif.opcode t;
     let may (from' : List Nat) (cond : Bool) : Prop := p.tagState t = x.val ∧ x.val ∈ from' ∧ cond = true;
     let r := (3, 64);
     on ∧ may [1, 2] (idle && ct Ct.din == 0 && d.fe.writesData t) ∧ op ≠ 0x08 ∧
       p.resolve (d.hif.nsid t) (d.fe.firstLba t) false (d.hif.nlb t) = .inr r) ∧
    (let d : Dev := tc 1 1 [(Ct.state, 2), (Ct.din, 1)] [] []; let t : TagNo := 1; let x : StateNo := 2;
     let p : Plat := d.plat; let on : Prop := d.powered Reg.CMD_OP; let ct (f : CtFld) : Nat := p.ct t f;
     let idle : Bool := ct Ct.xfer == 0;
     let may (from' : List Nat) (cond : Bool) : Prop := p.tagState t = x.val ∧ x.val ∈ from' ∧ cond = true;
     on ∧ may [1, 2, 3] (idle && ct Ct.din == 1)) ∧
    (let d : Dev := tc 2 1 [(Ct.state, 5)] [] []; let t : TagNo := 1; let x : StateNo := 5; let p : Plat := d.plat;
     let on : Prop := d.powered Reg.CMD_OP; let ct (f : CtFld) : Nat := p.ct t f; let idle : Bool := ct Ct.xfer == 0;
     let free : Bool := idle && ct Ct.tref == 0 && ct Ct.posted == 0;
     let may (from' : List Nat) (cond : Bool) : Prop := p.tagState t = x.val ∧ x.val ∈ from' ∧ cond = true;
     on ∧ may [1, 2, 5] free ∧ (ct Ct.xout = 0 ∨ ct Ct.xlen = 0)) ∧
    (let d : Dev := tc 2 0 [(Ct.state, 2), (Ct.xout, 1), (Ct.xlen, 16)] [] []; let t : TagNo := 1; let x : StateNo := 2;
     let p : Plat := d.plat; let on : Prop := d.powered Reg.CMD_OP; let ct (f : CtFld) : Nat := p.ct t f;
     let idle : Bool := ct Ct.xfer == 0; let free : Bool := idle && ct Ct.tref == 0 && ct Ct.posted == 0;
     let op : Nat := d.hif.opcode t;
     let may (from' : List Nat) (cond : Bool) : Prop := p.tagState t = x.val ∧ x.val ∈ from' ∧ cond = true;
     on ∧ may [1, 2, 5] free ∧ ct Ct.xout = 1 ∧ ct Ct.xlen ≠ 0 ∧ (ct Ct.sqid = 0 ∨ op ≠ 0x02)) ∧
    (let d : Dev := tc 2 1 [(Ct.state, 5), (Ct.xout, 1), (Ct.xlen, 4096)] [(Reg.SEC_SLOTST 0, 0xFFFFFFFF), (Reg.SEC_GLOBAL,
       0)] [];
     let t : TagNo := 1; let x : StateNo := 5; let p : Plat := d.plat; let on : Prop := d.powered Reg.CMD_OP;
     let ct (f : CtFld) : Nat := p.ct t f; let idle : Bool := ct Ct.xfer == 0;
     let free : Bool := idle && ct Ct.tref == 0 && ct Ct.posted == 0; let op : Nat := d.hif.opcode t;
     let may (from' : List Nat) (cond : Bool) : Prop := p.tagState t = x.val ∧ x.val ∈ from' ∧ cond = true; let ks := [0];
     on ∧ may [1, 2, 5] free ∧ ct Ct.xout = 1 ∧ ct Ct.xlen ≠ 0 ∧ ct Ct.sqid ≠ 0 ∧ op = 0x02 ∧
       p.resolve (d.hif.nsid t) (d.hif.slba t) true (ct Ct.xlen / 4096) = .inl ks) ∧
    (let d : Dev := tc 2 1 [(Ct.state, 3)] [] []; let t : TagNo := 1; let x : StateNo := 3; let p : Plat := d.plat;
     let on : Prop := d.powered Reg.CMD_OP; let ct (f : CtFld) : Nat := p.ct t f;
     let moving : Bool := ct Ct.xfer == 1 && d.sec.xfers.any (fun y => y.tag == t.val && y.out);
     let may (from' : List Nat) (cond : Bool) : Prop := p.tagState t = x.val ∧ x.val ∈ from' ∧ cond = true;
     on ∧ may [2, 3] (!moving)) := by
  refine ⟨?_, ?_, ?_, ?_, ?_, ?_, ?_, ?_, ?_, ?_, ?_⟩
  all_goals ((try dsimp only [Dev.holdsAdmin, Dev.holdsIo]); try decide +kernel)

/-- The hypotheses of `Obligations.TransfersEndWithTheirData` are met. -/
theorem witness_TransfersEndWithTheirData :
    (let d : Dev := secd (fun s => { s with keys := [(0, 123456789)], xfers := [⟨1, false, [0]⟩] }) (tc 1 1 [(Ct.state, 2),
       (Ct.xfer, 1)] opened);
     let t : TagNo := 1; let err : Bool := true; let p : Plat := d.plat; let f : Fe := d.fe;
     let ct (x : CtFld) : Nat := p.ct t x;
     let into : Prop := ct Ct.xfer = 1 ∧ ct Ct.din = 0 ∧ f.writesData t = true ∧ (p.tagState t = 1 ∨ p.tagState t = 2);
     into ∧ err = true) ∧
    (let d : Dev := secd (fun s => { s with keys := [(0, 123456789)], xfers := [⟨1, false, [0]⟩] }) (tc 8 1 [(Ct.state, 2),
       (Ct.xfer, 1)] opened);
     let t : TagNo := 1; let err : Bool := false; let p : Plat := d.plat; let f : Fe := d.fe;
     let ct (x : CtFld) : Nat := p.ct t x; let op : Nat := d.hif.opcode t;
     let into : Prop := ct Ct.xfer = 1 ∧ ct Ct.din = 0 ∧ f.writesData t = true ∧ (p.tagState t = 1 ∨ p.tagState t = 2);
     let n : Nat := d.hif.nlb t;
     let zeros : Plat × Buf × Bool := bufPut p d.buf .hif n (ct Ct.bufPage) (List.replicate (4096 * n) 0);
     into ∧ err = false ∧ op = 0x08 ∧ zeros.2.2 = true) ∧
    (let d : Dev := secd (fun s => { s with keys := [(0, 123456789)], xfers := [⟨1, false, [0]⟩] }) (tc 8 1 [(Ct.state, 2),
       (Ct.xfer, 1)] []);
     let t : TagNo := 1; let err : Bool := false; let p : Plat := d.plat; let f : Fe := d.fe;
     let ct (x : CtFld) : Nat := p.ct t x; let op : Nat := d.hif.opcode t;
     let into : Prop := ct Ct.xfer = 1 ∧ ct Ct.din = 0 ∧ f.writesData t = true ∧ (p.tagState t = 1 ∨ p.tagState t = 2);
     let n : Nat := d.hif.nlb t;
     let zeros : Plat × Buf × Bool := bufPut p d.buf .hif n (ct Ct.bufPage) (List.replicate (4096 * n) 0);
     into ∧ err = false ∧ op = 0x08 ∧ zeros.2.2 = false) ∧
    (let d : Dev := secd (fun s => { s with keys := [(0, 123456789)], xfers := [⟨1, false, [0]⟩] }) (tc 1 1 [(Ct.state, 2),
       (Ct.xfer, 1)] opened);
     let t : TagNo := 1; let data : Bytes := List.replicate 16 7; let err : Bool := false; let p : Plat := d.plat;
     let f : Fe := d.fe; let ct (x : CtFld) : Nat := p.ct t x; let op : Nat := d.hif.opcode t;
     let into : Prop := ct Ct.xfer = 1 ∧ ct Ct.din = 0 ∧ f.writesData t = true ∧ (p.tagState t = 1 ∨ p.tagState t = 2);
     let n : Nat := d.hif.nlb t; let lba : Nat := f.firstLba t;
     let cipher : List Byte × Bool := d.sec.encryptAll (d.hif.nsid t) (d.sec.slotsOf t false) lba data;
     let put : Plat × Buf × Bool := bufPut (p.secCount 0 (cipher.1.length / 4096)) d.buf .hif n (ct Ct.bufPage) cipher.1;
     into ∧ err = false ∧ op ≠ 0x08 ∧ cipher.2 = true ∧ put.2.2 = true) ∧
    (let d : Dev := secd (fun s => { s with keys := [(0, 123456789)], xfers := [⟨1, false, [0]⟩] }) (tc 1 1 [(Ct.state, 2),
       (Ct.xfer, 1)] opened);
     let t : TagNo := 1; let data : Bytes := [100, 63, 25, 253, 27, 159, 216, 4, 177, 72, 255, 87, 83, 172, 145, 114];
     let err : Bool := false; let p : Plat := d.plat; let f : Fe := d.fe; let ct (x : CtFld) : Nat := p.ct t x;
     let op : Nat := d.hif.opcode t;
     let into : Prop := ct Ct.xfer = 1 ∧ ct Ct.din = 0 ∧ f.writesData t = true ∧ (p.tagState t = 1 ∨ p.tagState t = 2);
     let lba : Nat := f.firstLba t;
     let cipher : List Byte × Bool := d.sec.encryptAll (d.hif.nsid t) (d.sec.slotsOf t false) lba data;
     into ∧ err = false ∧ op ≠ 0x08 ∧ cipher.2 = false) ∧
    (let d : Dev := mk []; let t : TagNo := 1; let p : Plat := d.plat; let f : Fe := d.fe;
     let ct (x : CtFld) : Nat := p.ct t x;
     let into : Prop := ct Ct.xfer = 1 ∧ ct Ct.din = 0 ∧ f.writesData t = true ∧ (p.tagState t = 1 ∨ p.tagState t = 2);
     ¬ into) ∧
    (let d : Dev := secd (fun s => { s with keys := [(0, 123456789)], xfers := [⟨1, true, [0]⟩] }) (tc 2 1 [(Ct.state, 5),
       (Ct.xfer, 1), (Ct.xlen, 16)] opened);
     let t : TagNo := 1; let err : Bool := true; let p : Plat := d.plat; let ct (x : CtFld) : Nat := p.ct t x;
     let out : Prop := ct Ct.xfer = 1 ∧ ∃ y ∈ d.sec.xfers, y.tag = t.val ∧ y.out = true; out ∧ err = true) ∧
    (let d : Dev := secd (fun s => { s with keys := [(0, 123456789)], xfers := [⟨1, true, [0]⟩] }) (tc 2 1 [(Ct.state, 5),
       (Ct.xfer, 1), (Ct.xlen, 16)] []);
     let t : TagNo := 1; let err : Bool := false; let p : Plat := d.plat; let ct (x : CtFld) : Nat := p.ct t x;
     let out : Prop := ct Ct.xfer = 1 ∧ ∃ y ∈ d.sec.xfers, y.tag = t.val ∧ y.out = true; let len : Nat := ct Ct.xlen;
     let took : Plat × Buf × Option (List Byte) := bufTake p d.buf .hif (len / 4096 + 1) (ct Ct.bufPage) len [];
     out ∧ err = false ∧ took.2.2 = none) ∧
    (let d : Dev := secd (fun s => { s with keys := [(0, 123456789)], xfers := [⟨1, true, [0]⟩] }) (tc 2 1 [(Ct.state, 5),
       (Ct.xfer, 1), (Ct.xlen, 16)] opened);
     let t : TagNo := 1; let err : Bool := false; let p : Plat := d.plat; let ct (x : CtFld) : Nat := p.ct t x;
     let out : Prop := ct Ct.xfer = 1 ∧ ∃ y ∈ d.sec.xfers, y.tag = t.val ∧ y.out = true; let len : Nat := ct Ct.xlen;
     let took : Plat × Buf × Option (List Byte) := bufTake p d.buf .hif (len / 4096 + 1) (ct Ct.bufPage) len [];
     let b := List.replicate 16 0; out ∧ err = false ∧ took.2.2 = some b) ∧
    (let d : Dev := mk []; let t : TagNo := 1; let p : Plat := d.plat; let ct (x : CtFld) : Nat := p.ct t x;
     let out : Prop := ct Ct.xfer = 1 ∧ ∃ y ∈ d.sec.xfers, y.tag = t.val ∧ y.out = true; ¬ out) := by
  refine ⟨?_, ?_, ?_, ?_, ?_, ?_, ?_, ?_, ?_, ?_⟩
  all_goals ((try dsimp only [Dev.holdsAdmin, Dev.holdsIo]); try decide +kernel)

/-- The hypotheses of `Obligations.EventsDescriptorsAndClosings` are met. -/
theorem witness_EventsDescriptorsAndClosings :
    (let d : Dev := mk []; d.powered Reg.CMD_EVQ) ∧
    (let d : Dev := mk []; d.powered Reg.CMD_CTRL) ∧
    (let d : Dev := tg 1 [(Ct.state, 2)] (mk [(Reg.CMD_DQ_TAIL 1, fs [(Fld.CMD_DQ_TAIL_TAIL, 2)]), (descAddr 1 2 (4 * 67),
       1), (descAddr 1 2 (4 * 68), 8193), (descAddr 1 2 4, 268437504)]);
     let n : ActNo := 1; let v : Word := 3; let p : Plat := d.plat;
     let tail : Nat := p.fld (Reg.CMD_DQ_TAIL n) Fld.CMD_DQ_TAIL_TAIL; let goal : Nat := Fld.get Fld.CMD_DQ_TAIL_TAIL v;
     let i : Nat := tail % 32; let ok : Prop := descOk p d.cmd n i (p.desc n i 1 / 2 ^ 11 % 2 ^ 13) = true;
     d.powered (Reg.CMD_DQ_TAIL n) ∧ goal = (tail + 1) % 64 ∧ ok) ∧
    (let d : Dev := mk [(Reg.CMD_DQ_TAIL 1, fs [(Fld.CMD_DQ_TAIL_TAIL, 2)])]; let n : ActNo := 1; let v : Word := 3;
     let p : Plat := d.plat; let tail : Nat := p.fld (Reg.CMD_DQ_TAIL n) Fld.CMD_DQ_TAIL_TAIL;
     let goal : Nat := Fld.get Fld.CMD_DQ_TAIL_TAIL v; let i : Nat := tail % 32;
     let ok : Prop := descOk p d.cmd n i (p.desc n i 1 / 2 ^ 11 % 2 ^ 13) = true;
     d.powered (Reg.CMD_DQ_TAIL n) ∧ goal ≠ tail ∧ ¬ ok) ∧
    (let d : Dev := lnk (fun l => { l with credit := 1 }) (fun c => { c with dq := [(1, [⟨2, [0x2001], false, false, 6, false⟩])] }) [(descAddr 1 2 (4 * 67),
       1), (descAddr 1 2 (4 * 68), 8193), (descAddr 1 2 4, 268437504)];
     let c : CoreNo := 0; let n : ActNo := 1; let p : Plat := d.plat; let l : Link := (d.act n).link;
     let word0 (w : Nat) : Nat := w - w / 2 ^ 16 % 2 ^ 16 * 2 ^ 16 + l.next * 2 ^ 16;
     let y := ⟨2, [0x2001], false, false, 6, false⟩;
     d.cmd.nextPost n = some y ∧ y.abort = false ∧ let words : List Nat := word0 (p.descWord n y.slot 0) :: ((List.range 8).map (p.descWord n y.slot)).drop 1;
     mayTask p d.cmd l n d.activeCount words = true) ∧
    (let d : Dev := mk []; let n : ActNo := 1; let p : Plat := d.plat; let l : Link := (d.act n).link;
     let up : Prop := p.linkUp n = true; (d.cmd.nextPost n = none ∨ d.cmd.hold = true ∨ ¬ up ∨ l.credit = 0)) ∧
    (let d : Dev := lnk id (fun c => { c with dq := [(1, [⟨2, [0x2001], false, true, 6, false⟩])] }); let c : CoreNo := 0;
     let n : ActNo := 1; let y := ⟨2, [0x2001], false, true, 6, false⟩; d.cmd.nextPost n = some y ∧ y.abort = true) ∧
    (let d : Dev := lnk (fun l => { l with hub := [⟨1, 6, 2, 1, 2, 2, 2⟩], up := [.stat 1 6 [0x12 * 2 ^ 56, 0, 0]] }) (fun c => { c with dq := [(1, [⟨2, [0x2001], true, false, 6, false⟩])] });
     let c : CoreNo := 0; let n : ActNo := 1; let p : Plat := d.plat; let l : Link := (d.act n).link;
     let up : Prop := p.linkUp n = true; let tag := 1; let tnum := 6; let ws := [0x12 * 2 ^ 56, 0, 0]; let rest := [];
     let x := ⟨1, 6, 2, 1, 2, 2, 2⟩; let y := ⟨2, [0x2001], true, false, 6, false⟩;
     l.up = .stat tag tnum ws :: rest ∧ up ∧ l.hub.find? (fun z => z.tnum == tnum) = some x ∧ d.cmd.postOf n x = some y) ∧
    (let d : Dev := lnk (fun l => { l with up := [.stat 1 6 [0, 0, 0]] }); let n : ActNo := 1; let p : Plat := d.plat;
     let l : Link := (d.act n).link; let up : Prop := p.linkUp n = true; let tag := 1; let tnum := 6; let ws := [0, 0, 0];
     let rest := []; l.up = .stat tag tnum ws :: rest ∧ up ∧ l.hub.find? (fun z => z.tnum == tnum) = none) ∧
    (let d : Dev := lnk (fun l => { l with hub := [⟨1, 6, 2, 1, 2, 2, 2⟩], up := [.stat 1 6 [0, 0, 0]] }) (fun c => { c with dq := [(1, [⟨2, [0x2001], true, false, 6, false⟩])] });
     let c : CoreNo := 0; let n : ActNo := 1; let p : Plat := d.plat; let l : Link := (d.act n).link;
     let up : Prop := p.linkUp n = true; let tag := 1; let tnum := 6; let ws := [0, 0, 0]; let rest := [];
     let x := ⟨1, 6, 2, 1, 2, 2, 2⟩; let xs := []; let y := ⟨2, [0x2001], true, false, 6, false⟩;
     l.up = .stat tag tnum ws :: rest ∧ up ∧ l.hub = x :: xs ∧ d.cmd.postOf n x = some y) := by
  refine ⟨?_, ?_, ?_, ?_, ?_, ?_, ?_, ?_, ?_, ?_⟩
  all_goals ((try dsimp only [Dev.holdsAdmin, Dev.holdsIo]); try decide +kernel)

/-- The hypotheses of `Obligations.LinksCarryDataAndReset` are met. -/
theorem witness_LinksCarryDataAndReset :
    (let d : Dev := lnk (fun l => { l with up := [.xrdy 1 6 2] }); let n : ActNo := 1; let p : Plat := d.plat;
     let l : Link := (d.act n).link; let up : Prop := p.linkUp n = true; let tag := 1; let tnum := 6; let count := 2;
     let rest := []; l.up = .xrdy tag tnum count :: rest ∧ up) ∧
    (let d : Dev := lnk (fun l => { l with hub := [⟨1, 6, 2, 5, 1, 1, 0⟩] }) id ((descAddr 1 2 (4 * 8),
       16) :: (descAddr 1 2 (4 * 65), 128 * 20) :: opened);
     let n : ActNo := 1; let p : Plat := d.plat; let l : Link := (d.act n).link; let up : Prop := p.linkUp n = true;
     let ready (x : HubTask) : Bool := decide (x.sent < min x.granted x.total);
     let len (x : HubTask) : Nat := if x.kind = 5 then min 4096 ((bits (p.descWord n x.slot 4) 31 0 + 7) / 8 * 8 - 4096 * x.sent) else 4096;
     let got (x : HubTask) : Option (List Byte) := (bufRead p d.buf .hub (4096 * (p.descPage n x.slot + x.sent)) (len x) .good).2.2;
     let x := ⟨1, 6, 2, 5, 1, 1, 0⟩; let b := List.replicate 16 0; l.hub.find? ready = some x ∧ up ∧ got x = some b) ∧
    (let d : Dev := lnk (fun l => { l with hub := [⟨1, 6, 2, 5, 1, 1, 0⟩] }); let n : ActNo := 1; let p : Plat := d.plat;
     let l : Link := (d.act n).link; let up : Prop := p.linkUp n = true;
     let ready (x : HubTask) : Bool := decide (x.sent < min x.granted x.total);
     let len (x : HubTask) : Nat := if x.kind = 5 then min 4096 ((bits (p.descWord n x.slot 4) 31 0 + 7) / 8 * 8 - 4096 * x.sent) else 4096;
     let got (x : HubTask) : Option (List Byte) := (bufRead p d.buf .hub (4096 * (p.descPage n x.slot + x.sent)) (len x) .good).2.2;
     let x := ⟨1, 6, 2, 5, 1, 1, 0⟩; l.hub.find? ready = some x ∧ up ∧ got x = none) ∧
    (let d : Dev := mk []; let n : ActNo := 1; let p : Plat := d.plat; let l : Link := (d.act n).link;
     let up : Prop := p.linkUp n = true; let ready (x : HubTask) : Bool := decide (x.sent < min x.granted x.total);
     (l.hub.find? ready = none ∨ ¬ up)) ∧
    (let d : Dev := lnk (fun l => { l with hub := [⟨1, 6, 2, 5, 1, 1, 0⟩], up := [.data 1 6 1 [9] 4 5 6] });
     let n : ActNo := 1; let p : Plat := d.plat; let l : Link := (d.act n).link; let up : Prop := p.linkUp n = true;
     let tag := 1; let tnum := 6; let sidx := 1; let bytes := [9]; let m0 := 4; let m1 := 5; let w := 6; let rest := [];
     let x := ⟨1, 6, 2, 5, 1, 1, 0⟩;
     l.up = .data tag tnum sidx bytes m0 m1 w :: rest ∧ up ∧ l.hub.find? (fun y => y.tnum == tnum) = some x) ∧
    (let d : Dev := lnk (fun l => { l with hub := [⟨1, 6, 2, 5, 1, 1, 0⟩], up := [.data 1 6 1 [9] 4 5 6] });
     let n : ActNo := 1; let p : Plat := d.plat; let l : Link := (d.act n).link; let up : Prop := p.linkUp n = true;
     let tag := 1; let tnum := 6; let sidx := 1; let bytes := [9]; let m0 := 4; let m1 := 5; let w := 6; let rest := [];
     l.up = .data tag tnum sidx bytes m0 m1 w :: rest ∧ up) ∧
    (let d : Dev := mk []; let n : ActNo := 1; d.powered (Reg.LNK_CTRL n)) := by
  refine ⟨?_, ?_, ?_, ?_, ?_, ?_, ?_⟩
  all_goals ((try dsimp only [Dev.holdsAdmin, Dev.holdsIo]); try decide +kernel)

end Sys2Proof.Tests
end

