-- ==== Sys2Proof/Tests/WitnessManagement.lean ====
section
/-! SUPPORT. Witnesses: for each statement about management, security and hub commands, machines and operands that
meet the hypotheses of each of its clauses together. -/

namespace Sys2Proof.Tests

open Sys2Proof Sys2Proof.Machine

set_option linter.unusedVariables false
set_option maxRecDepth 65536
set_option Elab.async false

/-- The hypotheses of `Obligations.ManagementCommandsAndMailbox`, part 1, are met. -/
theorem witness_ManagementCommandsAndMailbox_part_1 :
    (let d : Dev := mk [(Reg.MGT_MI_CFG, 0)]; let off : Nat := 0; let len : Nat := 0; let v : Nat := 0;
     let unit : Bool := true; let freeze : Bool := true; let assist : Byte := 3; let seek : SeekNo := 2;
     let id : NodeNo := 7; d.plat.miOn = false ∧ let i : Instr := .fleetIdentitySet id;
     i ∈ [Instr.miReadDataStructure off len, .miSubsystemHealthPoll, .miConfigurationGet, .miConfigurationSet unit v,
       .unitStateGet, .friezeRead off len, .friezeFreeze freeze, .fleetBudget assist seek, .fleetIdentitySet id,
       .miUnsupportedCommand]) ∧
    (let d : Dev := mk []; let off : Nat := 0xFF0; let len : Nat := 0x10; d.plat.miOn = true ∧ off + len ≤ 0x1000) ∧
    (let d : Dev := mk []; d.plat.miOn = true ∧ d.plat.standby = false) := by
  refine ⟨?_, ?_, ?_⟩
  all_goals ((try dsimp only [Dev.holdsAdmin, Dev.holdsIo]); try decide +kernel)

/-- The hypotheses of `Obligations.ManagementCommandsAndMailbox`, part 2, are met. -/
theorem witness_ManagementCommandsAndMailbox_part_2 :
    (let d : Dev := mk []; let req : Bytes := [1];
     let cmds : List Instr := [.miControllerHealthPoll req, .miVpdRead req, .miVpdWrite req, .miReset req,
       .miAdminTunnel req];
     d.plat.miOn = true ∧ d.plat.standby = false ∧ d.inRecovery = false ∧ let i : Instr := .miReset req;
     i ∈ cmds ∧ i.wf = true ∧ d.mgt.held = false) ∧
    (let d : Dev := held (mk []); let req : Bytes := [1];
     let cmds : List Instr := [.miControllerHealthPoll req, .miVpdRead req, .miVpdWrite req, .miReset req,
       .miAdminTunnel req];
     d.plat.miOn = true ∧ d.plat.standby = false ∧ d.inRecovery = false ∧ let i : Instr := .miReset req;
     i ∈ cmds ∧ i.wf = true ∧ d.mgt.held = true) ∧
    (let d : Dev := (mk []).onPlat (fun p => { p with standby := true }); let req : Bytes := [1];
     let cmds : List Instr := [.miControllerHealthPoll req, .miVpdRead req, .miVpdWrite req, .miReset req,
       .miAdminTunnel req];
     d.plat.miOn = true ∧ (d.plat.standby = true ∨ d.inRecovery = true) ∧ let i : Instr := .miVpdRead req; i ∈ cmds) ∧
    (let d : Dev := held (mk []); d.mgt.held = true ∧ d.powered Reg.MGT_MBOX) ∧
    (let d : Dev := mk []; d.mgt.held = false ∧ d.powered Reg.MGT_MBOX) := by
  refine ⟨?_, ?_, ?_, ?_, ?_⟩
  all_goals ((try dsimp only [Dev.holdsAdmin, Dev.holdsIo]); try decide +kernel)

/-- The hypotheses of `Obligations.UnitStateRequestsAndSurvival` are met. -/
theorem witness_UnitStateRequestsAndSurvival :
    (let d : Dev := mk []; let u : UnitNo := 35; let code : Nat := 7; d.plat.miOn = true ∧ unitCodeOk u code = false) ∧
    (let d : Dev := mk []; let u : UnitNo := 0; let code : Nat := 1; d.plat.miOn = true ∧ unitCodeOk u code = true) ∧
    (let d : Dev := mk [(Reg.SYS_WDT_CTRL, fs [(Fld.SYS_WDT_CTRL_EN, 1)]), (Reg.SYS_WDT_STAT, fs [(Fld.SYS_WDT_STAT_STAGE,
       2)])];
     d.plat.bit Reg.SYS_WDT_CTRL Fld.SYS_WDT_CTRL_EN = true ∧ d.plat.fld Reg.SYS_WDT_STAT Fld.SYS_WDT_STAT_STAGE = 2) ∧
    (let d : Dev := mk [(Reg.MGT_US_CFG, fs [(Fld.MGT_US_CFG_ARM, 1)]), (Reg.MGT_US 35, fs [(Fld.MGT_US_REQ, 1),
       (Fld.MGT_US_EFF, 2)])];
     let u : UnitNo := 35;
     d.plat.bit Reg.MGT_US_CFG Fld.MGT_US_CFG_ARM = true ∧ d.plat.bit (Reg.MGT_US u) Fld.MGT_US_DIS = false ∧
       d.plat.fld (Reg.MGT_US u) Fld.MGT_US_REQ ≠ d.plat.fld (Reg.MGT_US u) Fld.MGT_US_EFF) := by
  refine ⟨?_, ?_, ?_, ?_⟩
  all_goals ((try dsimp only [Dev.holdsAdmin, Dev.holdsIo]); try decide +kernel)

/-- The hypotheses of `Obligations.FleetTimeStepsAndSlews` are met. -/
theorem witness_FleetTimeStepsAndSlews :
    (let ns : Nat := 8000; 8000 ≤ ns ∧ ns ≤ 12000) ∧
    (let ns : Nat := 12000; 8000 ≤ ns ∧ ns ≤ 12000) ∧
    (let ns : Nat := 12001; ¬ (8000 ≤ ns ∧ ns ≤ 12000)) ∧
    (let d : Dev := marked (mk [(Reg.MGT_TIME_CFG, fs [(Fld.MGT_TIME_CFG_SRC, 1)])]) 1000 1001000; let w : Nat := 0;
     let l : Nat := 1001000000; let m : Nat := 1000000; let chars : Bytes := [0, 0, 0, 0, 0, 0, 0, 0, 0];
     d.plat.fld Reg.MGT_TIME_CFG Fld.MGT_TIME_CFG_SRC = 1 ∧ d.mgt.mark = some l ∧ d.mgt.prevMark = some m ∧
       l - m ≤ 1001000000 ∧ 999000000 ≤ l - m ∧ chars.length = 9 ∧ crc8 (chars.take 8) = leNat (chars.drop 8) ∧
       leNat (chars.take 8) = w) ∧
    (let d : Dev := marked (mk [(Reg.MGT_TIME_CFG, fs [(Fld.MGT_TIME_CFG_SRC, 1)])]) 0 998999; let l : Nat := 998999000;
     let m : Nat := 0; let chars : Bytes := [];
     d.plat.fld Reg.MGT_TIME_CFG Fld.MGT_TIME_CFG_SRC = 1 ∧ d.mgt.mark = some l ∧ d.mgt.prevMark = some m ∧
       l - m ≤ 1001000000 ∧ (l - m < 999000000 ∨ chars.length ≠ 9 ∨ crc8 (chars.take 8) ≠ leNat (chars.drop 8))) ∧
    (let d : Dev := mk [(Reg.MGT_TIME_CFG, fs [(Fld.MGT_TIME_CFG_SRC, 2)]), (Reg.HIF_LINK_STAT 0,
       fs [(Fld.HIF_LINK_STAT_DL_UP, 1)])];
     d.plat.fld Reg.MGT_TIME_CFG Fld.MGT_TIME_CFG_SRC = 2 ∧ d.plat.bit (Reg.HIF_LINK_STAT 0) Fld.HIF_LINK_STAT_DL_UP = true) ∧
    (let d : Dev := { mk [] with mgt := { (mk []).mgt with rem := 1 } }; 0 < d.mgt.rem) ∧
    (let d : Dev := { mk [] with mgt := { (mk []).mgt with rem := -1 } }; d.mgt.rem < 0) ∧
    (let d : Dev := mk []; d.mgt.rem = 0) ∧
    (let d : Dev := mk [(Reg.MGT_TIME_STAT, fs [(Fld.MGT_TIME_STAT_LOCKED, 1)])];
     d.plat.bit Reg.MGT_TIME_STAT Fld.MGT_TIME_STAT_LOCKED = true) := by
  refine ⟨?_, ?_, ?_, ?_, ?_, ?_, ?_, ?_, ?_, ?_⟩
  all_goals ((try dsimp only [Dev.holdsAdmin, Dev.holdsIo]); try decide +kernel)

/-- The hypotheses of `Obligations.KeyCommandsEndWithResult`, part 1, are met. -/
theorem witness_KeyCommandsEndWithResult_part_1 :
    (let s : State := ⟨[], mk []⟩; let k : SlotNo := 127;
     s.dev.plat.on (domainOf Reg.SEC_KEY_CMD) = true ∧ s.dev.plat.bit Reg.SEC_KEY_STAT Fld.SEC_KEY_STAT_BUSY = false ∧
       s.dev.sec.inUse k = false) := by
  (try dsimp only [Dev.holdsAdmin, Dev.holdsIo]); try decide +kernel

/-- The hypotheses of `Obligations.KeyCommandsEndWithResult`, part 2, are met. -/
theorem witness_KeyCommandsEndWithResult_part_2 :
    (let d : Dev := mk [(Reg.SEC_KEY_STAT, fs [(Fld.SEC_KEY_STAT_BUSY, 1)])]; let c : CoreNo := 0; let k : SlotNo := 0;
     let cmds : List (Nat × Instr) := [(1, .keyLoad c k), (2, .keyGen c k), (3, .keyWrap c k), (4, .keyUnwrap c k), (5,
       .keyErase c k)];
     d.powered Reg.SEC_KEY_CMD ∧ let x : Nat × Instr := (2, .keyGen c k);
     x ∈ cmds ∧ d.plat.bit Reg.SEC_KEY_STAT Fld.SEC_KEY_STAT_BUSY = true) ∧
    (let d : Dev := secd (fun s => { s with xfers := [⟨3, true, [5]⟩] }) (mk []); let c : CoreNo := 0; let k : SlotNo := 5;
     let cmds : List (Nat × Instr) := [(1, .keyLoad c k), (2, .keyGen c k), (3, .keyWrap c k), (4, .keyUnwrap c k), (5,
       .keyErase c k)];
     d.powered Reg.SEC_KEY_CMD ∧ let x : Nat × Instr := (5, .keyErase c k);
     x ∈ cmds ∧ d.plat.bit Reg.SEC_KEY_STAT Fld.SEC_KEY_STAT_BUSY = false ∧ d.sec.inUse k = true) ∧
    (let d : Dev := secd (fun s => { s with wait := some (5, 127) }) (mk []); let k : SlotNo := 127; let op := 5;
     d.sec.wait = some (op, k.val) ∧ d.sec.inUse k = false) ∧
    (let d : Dev := secd (fun s => { s with wait := some (1, 5), xfers := [⟨3, true, [5]⟩] }) (mk []); let k : SlotNo := 5;
     let op := 1; d.sec.wait = some (op, k.val) ∧ d.sec.inUse k = true) ∧
    (let d : Dev := mk []; d.powered Reg.SEC_RNG) := by
  refine ⟨?_, ?_, ?_, ?_, ?_⟩
  all_goals ((try dsimp only [Dev.holdsAdmin, Dev.holdsIo]); try decide +kernel)

/-- The hypotheses of `Obligations.CoresStartAndHubServesSources`, part 1, are met. -/
theorem witness_CoresStartAndHubServesSources_part_1 :
    (let d : Dev := mk []; let c : CoreNo := 0; let k : CoreNo := 3; let addr : Nat := 0x100;
     d.powered Reg.SYS_CORE_START ∧ (Instr.coreStart c k addr).wf = true ∧ k ≠ 0 ∧
       (d.plat.fld Reg.SYS_CORE_STAT Fld.SYS_CORE_STAT_RUNNING).testBit k = false) ∧
    (let d : Dev := mk []; let c : CoreNo := 0; let k : CoreNo := 0; let addr : Nat := 0x100;
     d.powered Reg.SYS_CORE_START ∧ (Instr.coreStart c k addr).wf = true ∧
       (k = 0 ∨ (d.plat.fld Reg.SYS_CORE_STAT Fld.SYS_CORE_STAT_RUNNING).testBit k = true)) ∧
    (let d : Dev := mk [(Reg.SYS_CORE_STAT, 8)]; let c : CoreNo := 0; let k : CoreNo := 3; let addr : Nat := 0x100;
     d.powered Reg.SYS_CORE_START ∧ (Instr.coreStart c k addr).wf = true ∧
       (k = 0 ∨ (d.plat.fld Reg.SYS_CORE_STAT Fld.SYS_CORE_STAT_RUNNING).testBit k = true)) ∧
    (let d : Dev := { mk [(Reg.HUB_SRC 255, fs [(Fld.HUB_SRC_INSVC, 1)])] with sys := { (mk []).sys with claimant := [(255, 2)] } };
     let k : CoreNo := 2; let i : SourceNo := 255;
     d.powered (Reg.HUB_COMPLETE k) ∧ d.plat.bit (Reg.HUB_SRC i) Fld.HUB_SRC_INSVC = true ∧
       SMap.get (fun _ => 0) d.sys.claimant i = k.val) ∧
    (let d : Dev := mk [(Reg.HUB_SRC 7, fs [(Fld.HUB_SRC_INSVC, 1)])]; let k : CoreNo := 1; let i : SourceNo := 7;
     d.powered (Reg.HUB_COMPLETE k) ∧ ¬ (d.plat.bit (Reg.HUB_SRC i) Fld.HUB_SRC_INSVC = true ∧
       SMap.get (fun _ => 0) d.sys.claimant i = k.val)) ∧
    (let d : Dev := mk []; let i : SourceNo := 255; d.powered (Reg.HUB_SRC i)) := by
  refine ⟨?_, ?_, ?_, ?_, ?_, ?_⟩
  all_goals ((try dsimp only [Dev.holdsAdmin, Dev.holdsIo]); try decide +kernel)

/-- The hypotheses of `Obligations.CoresStartAndHubServesSources`, part 2, are met. -/
theorem witness_CoresStartAndHubServesSources_part_2 :
    (let d : Dev := mk []; d.powered Reg.HUB_SWI_SET) ∧
    (let d : Dev := mk []; d.powered Reg.HUB_SWI_CLR) := by
  refine ⟨?_, ?_⟩
  all_goals ((try dsimp only [Dev.holdsAdmin, Dev.holdsIo]); try decide +kernel)

/-- The hypotheses of `Obligations.CoresStartAndHubServesSources`, part 3, are met. -/
theorem witness_CoresStartAndHubServesSources_part_3 :
    (let d : Dev := mk []; let k : CoreNo := 3;
     d.powered (Reg.HUB_CLAIM k) ∧ (∀ i : SourceNo, d.plat.qualifies k i = false)) ∧
    (let d : Dev := mk [(Reg.HUB_SWI, 2), (Reg.HUB_SRC 225, fs [(Fld.HUB_SRC_EN, 1), (Fld.HUB_SRC_PRIO, 3),
       (Fld.HUB_SRC_TARGET, 3)])];
     let k : CoreNo := 3; d.powered (Reg.HUB_CLAIM k) ∧ (∃ i : SourceNo, d.plat.qualifies k i = true)) := by
  refine ⟨?_, ?_⟩
  all_goals ((try dsimp only [Dev.holdsAdmin, Dev.holdsIo]); try decide +kernel)

/-- The hypotheses of `Obligations.WatchdogConsoleAndCounters`, part 1, are met. -/
theorem witness_WatchdogConsoleAndCounters_part_1 :
    (let d : Dev := wd 1 1 0; let key : HalfWord := 0xC3A5;
     d.powered Reg.SYS_WDT_KICK ∧ key.val = 0xC3A5 ∧ d.plat.bit Reg.SYS_WDT_CTRL Fld.SYS_WDT_CTRL_EN = true) ∧
    (let d : Dev := wd 1 1 0; let key : HalfWord := 0xC3A4; d.powered Reg.SYS_WDT_KICK ∧ key.val ≠ 0xC3A5) ∧
    (let d : Dev := wd 1 1 0;
     d.plat.bit Reg.SYS_WDT_CTRL Fld.SYS_WDT_CTRL_EN = true ∧ d.plat.fld Reg.SYS_WDT_STAT Fld.SYS_WDT_STAT_STAGE = 1) ∧
    (let d : Dev := wd 2 1 0;
     d.plat.bit Reg.SYS_WDT_CTRL Fld.SYS_WDT_CTRL_EN = true ∧ d.plat.fld Reg.SYS_WDT_STAT Fld.SYS_WDT_STAT_STAGE = 2) ∧
    (let d : Dev := wd 1 1 1; d.powered Reg.SYS_WDT_CTRL ∧ d.plat.bit Reg.SYS_WDT_CTRL Fld.SYS_WDT_CTRL_LOCK = true) ∧
    (let d : Dev := wd 0 0 0; d.powered Reg.SYS_WDT_CTRL ∧ d.plat.bit Reg.SYS_WDT_CTRL Fld.SYS_WDT_CTRL_LOCK = false) ∧
    (let d : Dev := con 63; d.powered Reg.SYS_CON_TX ∧ d.sys.console.length < 64) ∧
    (let d : Dev := con 64; d.powered Reg.SYS_CON_TX ∧ 64 ≤ d.sys.console.length) ∧
    (let d : Dev := con 64; let ch : Byte := 65; let cs : List Byte := List.replicate 63 65;
     d.sys.console = ch :: cs ∧ cs.length < 64) := by
  refine ⟨?_, ?_, ?_, ?_, ?_, ?_, ?_, ?_, ?_⟩
  all_goals ((try dsimp only [Dev.holdsAdmin, Dev.holdsIo]); try decide +kernel)

/-- The hypotheses of `Obligations.WatchdogConsoleAndCounters`, part 2, are met. -/
theorem witness_WatchdogConsoleAndCounters_part_2 :
    (let d : Dev := mk []; let a : Nat := Reg.SYS_CNT_LO 1 + 4;
     let r : RegDesc := (regDesc (Reg.SYS_CNT_LO 1 + 4)).getD ⟨0, 0, 0, 0, 0, 0, 0, 0, 0, 0, 0, 0⟩;
     regDesc a = some r ∧ r.cnt = 2 ∧ d.powered a) ∧
    (let d : Dev := mk []; let a : Nat := Reg.SYS_CNT_LO 1;
     let r : RegDesc := (regDesc (Reg.SYS_CNT_LO 1)).getD ⟨0, 0, 0, 0, 0, 0, 0, 0, 0, 0, 0, 0⟩;
     regDesc a = some r ∧ r.cnt = 1 ∧ d.powered a) ∧
    (let d : Dev := mk []; let a : Nat := Reg.SYS_CNT_LO 1;
     let r : RegDesc := (regDesc (Reg.SYS_CNT_LO 1)).getD ⟨0, 0, 0, 0, 0, 0, 0, 0, 0, 0, 0, 0⟩;
     regDesc a = some r ∧ d.powered Reg.SYS_TIME_LO) ∧
    (let d : Dev := mk []; let a : Nat := Reg.SYS_CNT_LO 1;
     let r : RegDesc := (regDesc (Reg.SYS_CNT_LO 1)).getD ⟨0, 0, 0, 0, 0, 0, 0, 0, 0, 0, 0, 0⟩;
     regDesc a = some r ∧ d.powered Reg.TRC_SNAP) ∧
    (let d : Dev := mk [(Reg.TRC_SNAP_STAT, fs [(Fld.TRC_SNAP_STAT_BUSY, 1)])]; let a : Nat := Reg.SYS_CNT_LO 1;
     let r : RegDesc := (regDesc (Reg.SYS_CNT_LO 1)).getD ⟨0, 0, 0, 0, 0, 0, 0, 0, 0, 0, 0, 0⟩;
     regDesc a = some r ∧ d.plat.bit Reg.TRC_SNAP_STAT Fld.TRC_SNAP_STAT_BUSY = true) := by
  refine ⟨?_, ?_, ?_, ?_, ?_⟩
  all_goals ((try dsimp only [Dev.holdsAdmin, Dev.holdsIo]); try decide +kernel)

/-- The hypotheses of `Obligations.BusAccessesAndTheirErrors`, part 1, are met. -/
theorem witness_BusAccessesAndTheirErrors_part_1 :
    (let d : Dev := mk []; let c : CoreNo := 0; let a : Nat := 0x203FFFFC; let n : Nat := 4; let v : Nat := 7;
     (Instr.registerWrite c a n v).wf = true ∧ 0x20000000 ≤ a ∧ a + n ≤ 0x20400000) ∧
    (let d : Dev := mk []; let c : CoreNo := 0; let a : Nat := 0x3FFFC; let n : Nat := 4; let v : Nat := 7;
     (Instr.registerWrite c a n v).wf = true ∧ a < 0x40000) ∧
    (let d : Dev := mk []; let c : CoreNo := 0; let a : Nat := Reg.THM_STATUS + 2; let n : Nat := 2; let v : Nat := 7;
     (Instr.registerWrite c a n v).wf = true ∧ inWindows a = true ∧ (n ≠ 4 ∨ a % 4 ≠ 0)) ∧
    (let d : Dev := mk []; let c : CoreNo := 0; let a : Nat := Reg.KEEP_CMD + 40; let n : Nat := 4; let v : Nat := 7;
     (Instr.registerWrite c a n v).wf = true ∧ inWindows a = true ∧ n = 4 ∧ a % 4 = 0 ∧ regMapped a = false) ∧
    (let d : Dev := offD 31 (mk []); let c : CoreNo := 0; let a : Nat := Reg.THM_STATUS; let n : Nat := 4; let v : Nat := 7;
     (Instr.registerWrite c a n v).wf = true ∧ inWindows a = true ∧ n = 4 ∧ a % 4 = 0 ∧ regMapped a = true ∧
       d.plat.on (domainOf a) = false) ∧
    (let d : Dev := mk []; let c : CoreNo := 0; let a : Nat := Reg.HUB_THR 3; let n : Nat := 4; let v : Nat := 7;
     (Instr.registerWrite c a n v).wf = true ∧ let k : CoreNo := 3; a = Reg.HUB_THR k ∧ n = 4 ∧ d.powered a) ∧
    (let d : Dev := mk []; let c : CoreNo := 0; let a : Nat := 0x100; let n : Nat := 4; let v : Nat := 7;
     (Instr.registerWrite c a n v).wf = true ∧ inWindows a = false) := by
  refine ⟨?_, ?_, ?_, ?_, ?_, ?_, ?_⟩
  all_goals ((try dsimp only [Dev.holdsAdmin, Dev.holdsIo]); try decide +kernel)

/-- The hypotheses of `Obligations.BusAccessesAndTheirErrors`, part 2, are met. -/
theorem witness_BusAccessesAndTheirErrors_part_2 :
    (let i : Instr := .keyErase 3 7; let d : Dev := offD 28 (mk []); let c : CoreNo := 3; let a : Nat := Reg.SEC_KEY_CMD;
     let w : Bool := true; i.wf = true ∧ i.access = some (c, a, w) ∧ ¬ d.powered a) := by
  (try dsimp only [Dev.holdsAdmin, Dev.holdsIo]); try decide +kernel

/-- The hypotheses of `Obligations.SelfTestsStartAndEnd` are met. -/
theorem witness_SelfTestsStartAndEnd :
    (let d : Dev := mk [(Reg.BCL_MB_CFG, fs [(Fld.BCL_MB_CFG_MEM, 0)]), (Reg.BCL_MB_ADDR, 31), (Reg.BCL_MB_LEN, 32)];
     let test : MbTest := ⟨d.plat.fld Reg.BCL_MB_CFG Fld.BCL_MB_CFG_MEM, d.plat.fld Reg.BCL_MB_CFG Fld.BCL_MB_CFG_UNIT,
       d.plat.fld Reg.BCL_MB_ADDR Fld.BCL_MB_ADDR_BYTES, d.plat.fld Reg.BCL_MB_LEN Fld.BCL_MB_LEN_BYTES, false⟩;
     d.powered Reg.BCL_MB_CTRL ∧ d.plat.bit Reg.BCL_MB_STAT Fld.BCL_MB_STAT_BUSY = false ∧
       (test.addr % 32 ≠ 0 ∨ test.len % 32 ≠ 0 ∨ test.len < 32 ∨ 65536 < test.len ∨ (mbShape test.mem).2 < test.addr + test.len ∨ mbReady d.plat d.buf test.mem test.unit = false)) ∧
    (let d : Dev := mk [(Reg.BCL_MB_CFG, fs [(Fld.BCL_MB_CFG_MEM, 0)]), (Reg.BCL_MB_ADDR, 0), (Reg.BCL_MB_LEN, 65568)];
     let test : MbTest := ⟨d.plat.fld Reg.BCL_MB_CFG Fld.BCL_MB_CFG_MEM, d.plat.fld Reg.BCL_MB_CFG Fld.BCL_MB_CFG_UNIT,
       d.plat.fld Reg.BCL_MB_ADDR Fld.BCL_MB_ADDR_BYTES, d.plat.fld Reg.BCL_MB_LEN Fld.BCL_MB_LEN_BYTES, false⟩;
     d.powered Reg.BCL_MB_CTRL ∧ d.plat.bit Reg.BCL_MB_STAT Fld.BCL_MB_STAT_BUSY = false ∧
       (test.addr % 32 ≠ 0 ∨ test.len % 32 ≠ 0 ∨ test.len < 32 ∨ 65536 < test.len ∨ (mbShape test.mem).2 < test.addr + test.len ∨ mbReady d.plat d.buf test.mem test.unit = false)) ∧
    (let d : Dev := offD 1 (offD 0 (offD 2 (offD 3 (mk [(Reg.BCL_MB_CFG, fs [(Fld.BCL_MB_CFG_MEM, 0)]), (Reg.BCL_MB_ADDR,
       0), (Reg.BCL_MB_LEN, 64)]))));
     let test : MbTest := ⟨d.plat.fld Reg.BCL_MB_CFG Fld.BCL_MB_CFG_MEM, d.plat.fld Reg.BCL_MB_CFG Fld.BCL_MB_CFG_UNIT,
       d.plat.fld Reg.BCL_MB_ADDR Fld.BCL_MB_ADDR_BYTES, d.plat.fld Reg.BCL_MB_LEN Fld.BCL_MB_LEN_BYTES, false⟩;
     d.powered Reg.BCL_MB_CTRL ∧ d.plat.bit Reg.BCL_MB_STAT Fld.BCL_MB_STAT_BUSY = false ∧
       mbMayStart d.plat d.buf test = true) ∧
    (let d : Dev := { mk [] with bcl := { (mk []).bcl with mb := some ⟨0, 0, 0, 64, true⟩ } };
     let t : MbTest := ⟨0, 0, 0, 64, true⟩; d.bcl.mb = some t) ∧
    (let d : Dev := mk []; let v : Word := 0;
     d.powered Reg.BCL_LB_CTRL ∧ d.bcl.lb = none ∧ lbAllowed d.plat (Fld.get Fld.BCL_LB_CTRL_ACT v) = true) ∧
    (let d : Dev := offD 1 (offD 0 (offD 2 (offD 3 (mk [])))); let v : Word := 0;
     d.powered Reg.BCL_LB_CTRL ∧ d.bcl.lb = none ∧ lbAllowed d.plat (Fld.get Fld.BCL_LB_CTRL_ACT v) = false) ∧
    (let d : Dev := { mk [] with bcl := { (mk []).bcl with lb := some (0, 0, 0, 1, 0) } }; d.bcl.lb ≠ none) ∧
    (let d : Dev := mk []; d.powered Reg.BCL_REF_CTRL) ∧
    (let d : Dev := mk [(Reg.BCL_REF_STAT, fs [(Fld.BCL_REF_STAT_BUSY, 1)])];
     d.plat.bit Reg.BCL_REF_STAT Fld.BCL_REF_STAT_BUSY = true) := by
  refine ⟨?_, ?_, ?_, ?_, ?_, ?_, ?_, ?_, ?_⟩
  all_goals ((try dsimp only [Dev.holdsAdmin, Dev.holdsIo]); try decide +kernel)

end Sys2Proof.Tests
end

