-- ==== Sys2Proof/Tests/WitnessMicrocode.lean ====
section
/-! SUPPORT. Witnesses: for each statement about microcode and row commands, machines and operands that
meet the hypotheses of each of its clauses together. -/

namespace Sys2Proof.Tests

open Sys2Proof Sys2Proof.Machine

set_option linter.unusedVariables false
set_option maxRecDepth 65536
set_option Elab.async false

/-- The hypotheses of `Obligations.WorkRegistersFlagsAndCounters`, part 1, are met. -/
theorem witness_WorkRegistersFlagsAndCounters_part_1 :
    (let q : List Instr := []; let d : Dev := ad (tsk 2 0xA 0) (fun q => { q with running := true }); let n : ActNo := 1;
     let a : Ac := d.acWith n (d.serving n); let on : Prop := a.q.running = true ∧ a.busy = true; on) ∧
    (let d : Dev := mk []; let n : ActNo := 1; let sa : WorkReg := 1; let sb : WorkReg := 1; let dst : WorkReg := 2;
     let imm : Word := 0; let a : Ac := d.acWith n (d.serving n); let on : Prop := a.q.running = true ∧ a.busy = true;
     ¬ on ∧ let i : Instr := (Instr.aluAdd n sa sb dst);
     i ∈ [Instr.aluAdd n sa sb dst, .aluSub n sa sb dst, .aluAnd n sa sb dst, .aluOr n sa sb dst, .aluXor n sa sb dst,
       .aluShiftLeft n sa sb dst, .aluShiftRight n sa sb dst, .aluAddImmediate n sa dst imm, .aluCompare n sa sb,
       .aluCompareImmediate n sa imm]) := by
  refine ⟨?_, ?_⟩
  all_goals ((try dsimp only [Dev.holdsAdmin, Dev.holdsIo]); try decide +kernel)

/-- The hypotheses of `Obligations.WorkRegistersFlagsAndCounters`, part 2, are met. -/
theorem witness_WorkRegistersFlagsAndCounters_part_2 :
    (let q : List Instr := [];
     let d : Dev := ad (tsk 2 0xA 0 ++ [(Reg.TSQ_TASK_LO 1 0, 16 * 256)]) (fun q => { q with running := true });
     let n : ActNo := 1; let a : Ac := d.acWith n (d.serving n); let on : Prop := a.q.running = true ∧ a.busy = true;
     on ∧ a.q.ext < a.elen) ∧
    (let q : List Instr := []; let d : Dev := ad (tsk 2 0xA 0) (fun q => { q with running := true }); let n : ActNo := 1;
     let a : Ac := d.acWith n (d.serving n); let on : Prop := a.q.running = true ∧ a.busy = true; on ∧ a.elen ≤ a.q.ext) ∧
    (let d : Dev := mk []; let n : ActNo := 1; let sa : WorkReg := 1; let dst : WorkReg := 1; let sel : LoopReg := 0;
     let imm : Word := 0; let a : Ac := d.acWith n (d.serving n); let on : Prop := a.q.running = true ∧ a.busy = true;
     ¬ on ∧ let i : Instr := (Instr.cntDecrement n sel);
     i ∈ [Instr.aluImmediate n dst imm, .aluTaskField n dst imm, .aluNextExtension n dst, .aluPositionValue n dst imm,
       .cntLoadImmediate n sel imm, .cntDecrement n sel, .cntLoadRegister n sel sa]) := by
  refine ⟨?_, ?_, ?_⟩
  all_goals ((try dsimp only [Dev.holdsAdmin, Dev.holdsIo]); try decide +kernel)

/-- The hypotheses of `Obligations.GateOperationsSetPhaseAndArms` are met. -/
theorem witness_GateOperationsSetPhaseAndArms :
    (let q : List Instr := [];
     let d : Dev := ad (tsk 2 0xA 0) (fun q => { q with running := true }) (fun g => { g with gap := true });
     let n : ActNo := 1; let m : MaskNo := 1; let a : Ac := d.acWith n (d.serving n);
     let g (e : Dev) : Gate := (e.act n).gate; let on : Prop := a.q.running = true ∧ a.busy = true ∧ a.isLoad = false;
     let ops : List (Nat × Nat × Nat × Instr) := [(1, 0, 0, .gateIdle n), (2, 0, 0, .gateRead n), (3, 0, 0, .gateWrite n),
       (4, m, 0, .wgArm n m), (5, m, 0, .wgDrop n m), (6, 0, m, .rgArm n m), (7, 0, m, .rgDrop n m), (8, 0, 0,
       .gateDropAll n)];
     on ∧ (g d).gap = true ∧ let op := 8; let wgm := 0; let rgm := 0; let i := (Instr.gateDropAll n);
     (op, wgm, rgm, i) ∈ ops) ∧
    (let q : List Instr := [];
     let d : Dev := ad (tsk 2 0xA 0) (fun q => { q with running := true }) (fun g => { g with servo := true });
     let n : ActNo := 1; let a : Ac := d.acWith n (d.serving n); let g (e : Dev) : Gate := (e.act n).gate;
     let on : Prop := a.q.running = true ∧ a.busy = true ∧ a.isLoad = false;
     let phases : List (Nat × Instr) := [(0, .gateIdle n), (1, .gateRead n), (2, .gateWrite n)];
     on ∧ (g d).gap = false ∧ let c := 1; let i := (Instr.gateRead n); (c, i) ∈ phases ∧ (g d).servo = true) ∧
    (let q : List Instr := [];
     let d : Dev := ad (tsk 2 0xA 0 ++ [(Reg.HSI_BUS 1, fs [(Fld.HSI_BUS_PHASE,
       2)])]) (fun q => { q with running := true });
     let n : ActNo := 1; let a : Ac := d.acWith n (d.serving n); let g (e : Dev) : Gate := (e.act n).gate;
     let code (e : Dev) : Nat := e.plat.fld (Reg.HSI_BUS n) Fld.HSI_BUS_PHASE;
     let on : Prop := a.q.running = true ∧ a.busy = true ∧ a.isLoad = false;
     let phases : List (Nat × Instr) := [(0, .gateIdle n), (1, .gateRead n), (2, .gateWrite n)];
     on ∧ (g d).gap = false ∧ let c := 1; let i := (Instr.gateRead n);
     (c, i) ∈ phases ∧ (g d).servo = false ∧ (g d).still = false ∧ code d ≠ c) ∧
    (let q : List Instr := [];
     let d : Dev := ad (tsk 2 0xA 0 ++ [(Reg.HSI_BUS 1, fs [(Fld.HSI_BUS_PHASE,
       1)])]) (fun q => { q with running := true });
     let n : ActNo := 1; let a : Ac := d.acWith n (d.serving n); let g (e : Dev) : Gate := (e.act n).gate;
     let code (e : Dev) : Nat := e.plat.fld (Reg.HSI_BUS n) Fld.HSI_BUS_PHASE;
     let on : Prop := a.q.running = true ∧ a.busy = true ∧ a.isLoad = false;
     let phases : List (Nat × Instr) := [(0, .gateIdle n), (1, .gateRead n), (2, .gateWrite n)];
     on ∧ (g d).gap = false ∧ let c := 1; let i := (Instr.gateRead n); (c, i) ∈ phases ∧ (g d).servo = false ∧ code d = c) ∧
    (let q : List Instr := []; let d : Dev := ad (tsk 2 0xA 0) (fun q => { q with running := true }); let n : ActNo := 1;
     let a : Ac := d.acWith n (d.serving n); let g (e : Dev) : Gate := (e.act n).gate;
     let on : Prop := a.q.running = true ∧ a.busy = true ∧ a.isLoad = false; on ∧ (g d).gap = false ∧ a.isWrite = false) ∧
    (let q : List Instr := []; let d : Dev := ad (tsk 1 0xA 0) (fun q => { q with running := true }); let n : ActNo := 1;
     let a : Ac := d.acWith n (d.serving n); let g (e : Dev) : Gate := (e.act n).gate;
     let on : Prop := a.q.running = true ∧ a.busy = true ∧ a.isLoad = false; on ∧ (g d).gap = false ∧ a.isWrite = true) ∧
    (let q : List Instr := []; let d : Dev := ad (tsk 2 0xA 0) (fun q => { q with running := true }); let n : ActNo := 1;
     let a : Ac := d.acWith n (d.serving n); let g (e : Dev) : Gate := (e.act n).gate;
     let on : Prop := a.q.running = true ∧ a.busy = true ∧ a.isLoad = false;
     on ∧ (g d).gap = false ∧ (g d).servo = false ∧ (g d).still = false) ∧
    (let d : Dev := mk []; let n : ActNo := 1; let m : MaskNo := 1; let a : Ac := d.acWith n (d.serving n);
     let on : Prop := a.q.running = true ∧ a.busy = true ∧ a.isLoad = false;
     let ops : List (Nat × Nat × Nat × Instr) := [(1, 0, 0, .gateIdle n), (2, 0, 0, .gateRead n), (3, 0, 0, .gateWrite n),
       (4, m, 0, .wgArm n m), (5, m, 0, .wgDrop n m), (6, 0, m, .rgArm n m), (7, 0, m, .rgDrop n m), (8, 0, 0,
       .gateDropAll n)];
     ¬ on ∧ let op := 4; let wgm := m.val; let rgm := 0; let i := (Instr.wgArm n m); (op, wgm, rgm, i) ∈ ops) := by
  refine ⟨?_, ?_, ?_, ?_, ?_, ?_, ?_, ?_⟩
  all_goals ((try dsimp only [Dev.holdsAdmin, Dev.holdsIo]); try decide +kernel)

/-- The hypotheses of `Obligations.TimelineCodesAndCalls` are met. -/
theorem witness_TimelineCodesAndCalls :
    (let q : List Instr := [];
     let d : Dev := ad (tsk 2 0xA 0) (fun q => { q with running := true, pos := { q.pos with last := some (123, 50) } });
     let n : ActNo := 1; let a : Ac := d.acWith n (d.serving n); let on : Prop := a.q.running = true ∧ a.busy = true;
     on ∧ let p := (123, 50); a.q.pos.last = some p) ∧
    (let q : List Instr := []; let d : Dev := ad (tsk 2 0xA 0) (fun q => { q with running := true }); let n : ActNo := 1;
     let a : Ac := d.acWith n (d.serving n); let on : Prop := a.q.running = true ∧ a.busy = true; on ∧ a.q.pos.last = none) ∧
    (let q : List Instr := []; let d : Dev := ad (tsk 2 0xA 0) (fun q => { q with running := true }); let n : ActNo := 1;
     let v : Byte := 0x80; let a : Ac := d.acWith n (d.serving n); let on : Prop := a.q.running = true ∧ a.busy = true;
     let allowed : Prop := v = 0 ∨ v = 1 ∨ v = 0x30 ∨ 0x80 ≤ v.toNat; on ∧ allowed ∧ a.locked = false) ∧
    (let q : List Instr := [];
     let d : Dev := ad (tsk 2 0xA 0 ++ [(Reg.TSQ_STATUS 1, fs [(Fld.TSQ_STATUS_BUSY, 1), (Fld.TSQ_STATUS_LOCKED,
       1)])]) (fun q => { q with running := true });
     let n : ActNo := 1; let v : Byte := 0x30; let a : Ac := d.acWith n (d.serving n);
     let on : Prop := a.q.running = true ∧ a.busy = true; let allowed : Prop := v = 0 ∨ v = 1 ∨ v = 0x30 ∨ 0x80 ≤ v.toNat;
     on ∧ allowed ∧ a.locked = true) ∧
    (let q : List Instr := []; let d : Dev := ad (tsk 2 0xA 0) (fun q => { q with running := true }); let n : ActNo := 1;
     let v : Byte := 0x7F; let a : Ac := d.acWith n (d.serving n); let on : Prop := a.q.running = true ∧ a.busy = true;
     let allowed : Prop := v = 0 ∨ v = 1 ∨ v = 0x30 ∨ 0x80 ≤ v.toNat; on ∧ ¬ allowed) ∧
    (let q : List Instr := []; let d : Dev := ad (tsk 2 0xA 0) (fun q => { q with running := true }); let n : ActNo := 1;
     let a : Ac := d.acWith n (d.serving n); let on : Prop := a.q.running = true ∧ a.busy = true; on ∧ a.locked = false) ∧
    (let q : List Instr := [];
     let d : Dev := ad (tsk 2 0xA 0 ++ [(Reg.TSQ_STATUS 1, fs [(Fld.TSQ_STATUS_BUSY, 1), (Fld.TSQ_STATUS_LOCKED,
       1)])]) (fun q => { q with running := true });
     let n : ActNo := 1; let a : Ac := d.acWith n (d.serving n); let on : Prop := a.q.running = true ∧ a.busy = true;
     on ∧ a.locked = true) ∧
    (let q : List Instr := [];
     let d : Dev := ad (tsk 2 0xA 0) (fun q => { q with running := true, stack := List.replicate 7 (7, false) });
     let n : ActNo := 1; let a : Ac := d.acWith n (d.serving n); let on : Prop := a.q.running = true ∧ a.busy = true;
     on ∧ a.q.stack.length < 8) ∧
    (let q : List Instr := [];
     let d : Dev := ad (tsk 2 0xA 0) (fun q => { q with running := true, stack := List.replicate 8 (7, false) });
     let n : ActNo := 1; let a : Ac := d.acWith n (d.serving n); let on : Prop := a.q.running = true ∧ a.busy = true;
     on ∧ 8 ≤ a.q.stack.length) ∧
    (let q : List Instr := [];
     let d : Dev := ad (tsk 2 0xA 0) (fun q => { q with running := true, stack := (8191, true) :: List.replicate 15 (7, false) });
     let n : ActNo := 1; let a : Ac := d.acWith n (d.serving n); let on : Prop := a.q.running = true ∧ a.busy = true;
     on ∧ let pc := 8191; let f := true; let s := List.replicate 15 (7, false); a.q.stack = (pc, f) :: s ∧ s.length < 16) ∧
    (let q : List Instr := []; let d : Dev := ad (tsk 2 0xA 0) (fun q => { q with running := true }); let n : ActNo := 1;
     let a : Ac := d.acWith n (d.serving n); let on : Prop := a.q.running = true ∧ a.busy = true; on ∧ a.q.stack = []) ∧
    (let d : Dev := mk []; let n : ActNo := 1; let sa : WorkReg := 0; let tofs : Int := 0; let v : Byte := 0;
     let addr : MicroAddr := 0; let a : Ac := d.acWith n (d.serving n);
     a.q.running = false ∧ let i : Instr := (Instr.tlnNow n tofs);
     i ∈ [Instr.tlnWindow n tofs, .tlnWedge n sa tofs, .tlnNow n tofs, .tlnDisarm n, .setCode n v, .setReason n v,
       .call n addr, .ret n]) := by
  refine ⟨?_, ?_, ?_, ?_, ?_, ?_, ?_, ?_, ?_, ?_, ?_, ?_⟩
  all_goals ((try dsimp only [Dev.holdsAdmin, Dev.holdsIo]); try decide +kernel)

/-- The hypotheses of `Obligations.MicrowordsIssueInOrder` are met. -/
theorem witness_MicrowordsIssueInOrder :
    (let q : List Instr := [];
     let d : Dev := ad (tsk 2 0xA 0 ++ [(Reg.TSQ_PC 1, fs [(Fld.TSQ_PC_PC, 5), (Fld.TSQ_PC_GAP,
       63)])]) (fun q => { q with running := true, cs := (List.range 5).map (fun k => (40 + k, (0 * 2 ^ 157 + 77 * 2 ^ 143 + 0) / 2 ^ (32 * k) % 2 ^ 32)) });
     let n : ActNo := 1; let a : Ac := d.acWith n (d.serving n); let mw : Nat := a.q.microword a.pc;
     let na : Nat := bits mw 159 157; let safe : Prop := bits mw 156 156 = 1;
     let live : Prop := a.q.running = true ∧ a.busy = true ∧ a.gap < 64;
     let whole : Prop := live ∧ a.q.held = false ∧ a.wordFault mw = 0 ∧ a.ready mw = true;
     whole ∧ bits mw 107 105 ≠ 3 ∧ ¬ safe ∧ a.q.stack.length ≤ 8 ∧ na = 0) ∧
    (let q : List Instr := [];
     let d : Dev := ad (tsk 2 0xA 0 ++ [(Reg.TSQ_PC 1, fs [(Fld.TSQ_PC_PC, 5), (Fld.TSQ_PC_GAP,
       63)])]) (fun q => { q with running := true, cs := (List.range 5).map (fun k => (40 + k, (1 * 2 ^ 157 + 77 * 2 ^ 143 + 0) / 2 ^ (32 * k) % 2 ^ 32)) });
     let n : ActNo := 1; let a : Ac := d.acWith n (d.serving n); let mw : Nat := a.q.microword a.pc;
     let na : Nat := bits mw 159 157; let safe : Prop := bits mw 156 156 = 1;
     let live : Prop := a.q.running = true ∧ a.busy = true ∧ a.gap < 64;
     let whole : Prop := live ∧ a.q.held = false ∧ a.wordFault mw = 0 ∧ a.ready mw = true;
     whole ∧ bits mw 107 105 ≠ 3 ∧ ¬ safe ∧ a.q.stack.length ≤ 8 ∧ na = 1) ∧
    (let q : List Instr := [];
     let d : Dev := ad (tsk 2 0xA 0 ++ [(Reg.TSQ_PC 1, fs [(Fld.TSQ_PC_PC, 5), (Fld.TSQ_PC_GAP,
       63)])]) (fun q => { q with running := true, cs := (List.range 5).map (fun k => (40 + k, (2 * 2 ^ 157 + 77 * 2 ^ 143 + 0) / 2 ^ (32 * k) % 2 ^ 32)) });
     let n : ActNo := 1; let a : Ac := d.acWith n (d.serving n); let mw : Nat := a.q.microword a.pc;
     let na : Nat := bits mw 159 157; let safe : Prop := bits mw 156 156 = 1;
     let live : Prop := a.q.running = true ∧ a.busy = true ∧ a.gap < 64;
     let whole : Prop := live ∧ a.q.held = false ∧ a.wordFault mw = 0 ∧ a.ready mw = true;
     whole ∧ bits mw 107 105 ≠ 3 ∧ ¬ safe ∧ a.q.stack.length ≤ 8 ∧ na = 2) ∧
    (let q : List Instr := [];
     let d : Dev := ad (tsk 2 0xA 0 ++ [(Reg.TSQ_PC 1, fs [(Fld.TSQ_PC_PC, 5), (Fld.TSQ_PC_GAP,
       63)])]) (fun q => { q with running := true, cs := (List.range 5).map (fun k => (40 + k, (3 * 2 ^ 157 + 77 * 2 ^ 143 + 0) / 2 ^ (32 * k) % 2 ^ 32)), stack := List.replicate 7 (7, false) });
     let n : ActNo := 1; let a : Ac := d.acWith n (d.serving n); let mw : Nat := a.q.microword a.pc;
     let na : Nat := bits mw 159 157; let safe : Prop := bits mw 156 156 = 1;
     let live : Prop := a.q.running = true ∧ a.busy = true ∧ a.gap < 64;
     let whole : Prop := live ∧ a.q.held = false ∧ a.wordFault mw = 0 ∧ a.ready mw = true;
     whole ∧ bits mw 107 105 ≠ 3 ∧ ¬ safe ∧ a.q.stack.length ≤ 8 ∧ na = 3) ∧
    (let q : List Instr := [];
     let d : Dev := ad (tsk 2 0xA 0 ++ [(Reg.TSQ_PC 1, fs [(Fld.TSQ_PC_PC, 5), (Fld.TSQ_PC_GAP,
       63)])]) (fun q => { q with running := true, cs := (List.range 5).map (fun k => (40 + k, (4 * 2 ^ 157 + 77 * 2 ^ 143 + 0) / 2 ^ (32 * k) % 2 ^ 32)), stack := List.replicate 8 (7, false) });
     let n : ActNo := 1; let a : Ac := d.acWith n (d.serving n); let mw : Nat := a.q.microword a.pc;
     let na : Nat := bits mw 159 157; let safe : Prop := bits mw 156 156 = 1;
     let live : Prop := a.q.running = true ∧ a.busy = true ∧ a.gap < 64;
     let whole : Prop := live ∧ a.q.held = false ∧ a.wordFault mw = 0 ∧ a.ready mw = true;
     whole ∧ bits mw 107 105 ≠ 3 ∧ ¬ safe ∧ a.q.stack.length ≤ 8 ∧ let x := (7, false);
     let s := List.replicate 7 (7, false); na = 4 ∧ a.q.stack = x :: s) ∧
    (let q : List Instr := [];
     let d : Dev := ad (tsk 2 0xA 0 ++ [(Reg.TSQ_PC 1, fs [(Fld.TSQ_PC_PC, 5), (Fld.TSQ_PC_GAP,
       63)])]) (fun q => { q with running := true, cs := (List.range 5).map (fun k => (40 + k, (5 * 2 ^ 157 + 77 * 2 ^ 143 + 3 * 2 ^ 132) / 2 ^ (32 * k) % 2 ^ 32)) });
     let n : ActNo := 1; let a : Ac := d.acWith n (d.serving n); let mw : Nat := a.q.microword a.pc;
     let na : Nat := bits mw 159 157; let safe : Prop := bits mw 156 156 = 1;
     let live : Prop := a.q.running = true ∧ a.busy = true ∧ a.gap < 64;
     let whole : Prop := live ∧ a.q.held = false ∧ a.wordFault mw = 0 ∧ a.ready mw = true;
     whole ∧ bits mw 107 105 ≠ 3 ∧ ¬ safe ∧ a.q.stack.length ≤ 8 ∧ na = 5 ∧ a.cond (bits mw 137 132) = true) ∧
    (let q : List Instr := [];
     let d : Dev := ad (tsk 2 0xA 0 ++ [(Reg.TSQ_PC 1, fs [(Fld.TSQ_PC_PC, 5), (Fld.TSQ_PC_GAP,
       63)])]) (fun q => { q with running := true, cs := (List.range 5).map (fun k => (40 + k, (5 * 2 ^ 157 + 77 * 2 ^ 143 + 2 * 2 ^ 132) / 2 ^ (32 * k) % 2 ^ 32)) });
     let n : ActNo := 1; let a : Ac := d.acWith n (d.serving n); let st : Nat := Reg.TSQ_STATUS a.t;
     let mw : Nat := a.q.microword a.pc; let na : Nat := bits mw 159 157;
     let live : Prop := a.q.running = true ∧ a.busy = true ∧ a.gap < 64;
     let whole : Prop := live ∧ a.q.held = false ∧ a.wordFault mw = 0 ∧ a.ready mw = true;
     let pend : Nat := d.plat.fld st Fld.TSQ_STATUS_PEND;
     whole ∧ mw % 2 ^ 132 = 0 ∧ na = 5 ∧ a.cond (bits mw 137 132) = false ∧ pend = 0) ∧
    (let q : List Instr := [];
     let d : Dev := ad (tsk 2 0xA 0 ++ [(Reg.TSQ_PC 1, fs [(Fld.TSQ_PC_PC, 5), (Fld.TSQ_PC_GAP,
       63)])]) (fun q => { q with running := true, cs := (List.range 5).map (fun k => (40 + k, (1 * 2 ^ 157 + 77 * 2 ^ 143 + 2 ^ 156) / 2 ^ (32 * k) % 2 ^ 32)) });
     let n : ActNo := 1; let a : Ac := d.acWith n (d.serving n); let st : Nat := Reg.TSQ_STATUS a.t;
     let mw : Nat := a.q.microword a.pc; let na : Nat := bits mw 159 157; let safe : Prop := bits mw 156 156 = 1;
     let live : Prop := a.q.running = true ∧ a.busy = true ∧ a.gap < 64;
     let whole : Prop := live ∧ a.q.held = false ∧ a.wordFault mw = 0 ∧ a.ready mw = true;
     let pend : Nat := d.plat.fld st Fld.TSQ_STATUS_PEND; let quiet : Prop := mw % 2 ^ 132 = 0 ∧ na = 1;
     whole ∧ quiet ∧ safe ∧ a.q.stack.length ≤ 8 ∧ pend = 0) ∧
    (let q : List Instr := [];
     let d : Dev := ad (tsk 2 0xA 0 ++ [(Reg.TSQ_PC 1, fs [(Fld.TSQ_PC_PC, 5), (Fld.TSQ_PC_GAP, 63)]), (Reg.TSQ_STATUS 1,
       fs [(Fld.TSQ_STATUS_BUSY, 1), (Fld.TSQ_STATUS_PEND,
       6)])]) (fun q => { q with running := true, cs := (List.range 5).map (fun k => (40 + k, (1 * 2 ^ 157 + 77 * 2 ^ 143 + 2 ^ 156) / 2 ^ (32 * k) % 2 ^ 32)) });
     let n : ActNo := 1; let a : Ac := d.acWith n (d.serving n); let st : Nat := Reg.TSQ_STATUS a.t;
     let mw : Nat := a.q.microword a.pc; let na : Nat := bits mw 159 157; let safe : Prop := bits mw 156 156 = 1;
     let live : Prop := a.q.running = true ∧ a.busy = true ∧ a.gap < 64;
     let whole : Prop := live ∧ a.q.held = false ∧ a.wordFault mw = 0 ∧ a.ready mw = true;
     let pend : Nat := d.plat.fld st Fld.TSQ_STATUS_PEND; let quiet : Prop := mw % 2 ^ 132 = 0 ∧ na = 1;
     whole ∧ quiet ∧ safe ∧ a.q.stack.length ≤ 8 ∧ let b := 4; let v := 1;
     topRequest pend = some (b, v) ∧ d.plat.bit st Fld.TSQ_STATUS_FAULT_ACTIVE = false ∧ a.q.stack.length < 8) ∧
    (let q : List Instr := [];
     let d : Dev := ad (tsk 2 0xA 0 ++ [(Reg.TSQ_PC 1, fs [(Fld.TSQ_PC_PC, 5), (Fld.TSQ_PC_GAP,
       63)])]) (fun q => { q with running := true, cs := (List.range 5).map (fun k => (40 + k, (6 * 2 ^ 157 + 77 * 2 ^ 143 + 0) / 2 ^ (32 * k) % 2 ^ 32)) });
     let n : ActNo := 1; let a : Ac := d.acWith n (d.serving n); let mw : Nat := a.q.microword a.pc;
     let live : Prop := a.q.running = true ∧ a.busy = true ∧ a.gap < 64; live ∧ a.q.held = false ∧ a.wordFault mw ≠ 0) ∧
    (let q : List Instr := [];
     let d : Dev := ad (tsk 2 0xA 0 ++ [(Reg.TSQ_PC 1, fs [(Fld.TSQ_PC_PC, 5), (Fld.TSQ_PC_GAP, 63)]), (Reg.LNK_STATUS 1,
       fs [(Fld.LNK_STATUS_UP_CREDIT, 0), (Fld.LNK_STATUS_DN_GRANT,
       0)])]) (fun q => { q with running := true, cs := (List.range 5).map (fun k => (40 + k, (0 * 2 ^ 157 + 77 * 2 ^ 143 + 2 * 2 ^ 105) / 2 ^ (32 * k) % 2 ^ 32)), tbuf := [(0, some ⟨50, 3, [1, 2], 3, 4, 5⟩)] });
     let n : ActNo := 1; let a : Ac := d.acWith n (d.serving n); let mw : Nat := a.q.microword a.pc;
     let live : Prop := a.q.running = true ∧ a.busy = true ∧ a.gap < 64;
     live ∧ a.q.held = false ∧ a.wordFault mw = 0 ∧ a.ready mw = false) ∧
    (let d : Dev := mk []; let n : ActNo := 1; let a : Ac := d.acWith n (d.serving n);
     let live : Prop := a.q.running = true ∧ a.busy = true ∧ a.gap < 64; ¬ live ∧ let x : Bool := false; True) := by
  refine ⟨?_, ?_, ?_, ?_, ?_, ?_, ?_, ?_, ?_, ?_, ?_, ?_⟩
  all_goals ((try dsimp only [Dev.holdsAdmin, Dev.holdsIo]); try decide +kernel)

/-- The hypotheses of `Obligations.MicrocodeMovesSectors` are met. -/
theorem witness_MicrocodeMovesSectors :
    (let q : List Instr := []; let d : Dev := ad (tsk 2 0xA 0) (fun q => { q with running := true, w := [(1, 65)] });
     let n : ActNo := 1; let sa : WorkReg := 1; let a : Ac := d.acWith n (d.serving n);
     let on : Prop := a.q.running = true ∧ a.busy = true; let c : Nat := a.q.reg sa % 256;
     let may : Prop := 1 ≤ c ∧ c ≤ (if a.isLoad then 16 else 64); on ∧ ¬ may) ∧
    (let q : List Instr := [];
     let d : Dev := ad (tsk 2 0xA 0) (fun q => { q with running := true, w := [(1, 64)], tbuf := [(3, some ⟨50, 3, [1, 2], 3, 4, 5⟩)] });
     let n : ActNo := 1; let sa : WorkReg := 1; let a : Ac := d.acWith n (d.serving n);
     let on : Prop := a.q.running = true ∧ a.busy = true; let c : Nat := a.q.reg sa % 256;
     let may : Prop := 1 ≤ c ∧ c ≤ (if a.isLoad then 16 else 64);
     let space : Prop := a.isLoad = true ∨ c ≤ 64 - a.q.tbuf.length - a.grant; on ∧ may ∧ (a.locked = true ∨ ¬ space)) ∧
    (let q : List Instr := [];
     let d : Dev := ad (tsk 1 0xA 0 ++ [(Reg.LNK_STATUS 1, fs [(Fld.LNK_STATUS_UP_CREDIT, 4), (Fld.LNK_STATUS_DN_GRANT,
       0)])]) (fun q => { q with running := true, w := [(1, 64)] });
     let n : ActNo := 1; let sa : WorkReg := 1; let a : Ac := d.acWith n (d.serving n);
     let on : Prop := a.q.running = true ∧ a.busy = true; let c : Nat := a.q.reg sa % 256;
     let may : Prop := 1 ≤ c ∧ c ≤ (if a.isLoad then 16 else 64);
     let space : Prop := a.isLoad = true ∨ c ≤ 64 - a.q.tbuf.length - a.grant;
     on ∧ may ∧ a.locked = false ∧ space ∧ a.grant + c < 256) ∧
    (let q : List Instr := [];
     let d : Dev := ad (tsk 2 0xA 0) (fun q => { q with running := true, w := [(1, 2)], tbuf := [(3, some ⟨50, 3, [1, 2], 3, 4, 5⟩)] });
     let n : ActNo := 1; let sa : WorkReg := 1; let a : Ac := d.acWith n (d.serving n);
     let on : Prop := a.q.running = true ∧ a.busy = true; let i : Nat := a.q.reg sa % 64; on ∧ a.q.tb i = none) ∧
    (let q : List Instr := [];
     let d : Dev := ad (tsk 2 0xA 0 ++ [(Reg.LNK_STATUS 1, fs [(Fld.LNK_STATUS_UP_CREDIT, 0), (Fld.LNK_STATUS_DN_GRANT,
       0)])]) (fun q => { q with running := true, w := [(1, 3)], tbuf := [(3, some ⟨50, 3, [1, 2], 3, 4, 5⟩)] });
     let n : ActNo := 1; let sa : WorkReg := 1; let a : Ac := d.acWith n (d.serving n);
     let on : Prop := a.q.running = true ∧ a.busy = true; let i : Nat := a.q.reg sa % 64;
     on ∧ a.q.tb i ≠ none ∧ a.upCredit = 0) ∧
    (let q : List Instr := [];
     let d : Dev := ad (tsk 2 0xA 0 ++ [(Reg.LNK_STATUS 1, fs [(Fld.LNK_STATUS_UP_CREDIT, 1), (Fld.LNK_STATUS_DN_GRANT,
       0)])]) (fun q => { q with running := true, w := [(1, 3)], tbuf := [(3, some ⟨50, 3, [1, 2], 3, 4, 5⟩)] });
     let n : ActNo := 1; let sa : WorkReg := 1; let a : Ac := d.acWith n (d.serving n);
     let on : Prop := a.q.running = true ∧ a.busy = true; let i : Nat := a.q.reg sa % 64; let x := ⟨50, 3, [1, 2], 3, 4, 5⟩;
     on ∧ a.q.tb i = some x ∧ a.upCredit ≠ 0) ∧
    (let q : List Instr := []; let d : Dev := ad (tsk 2 0xA 0) (fun q => { q with running := true }); let n : ActNo := 1;
     let a : Ac := d.acWith n (d.serving n); let on : Prop := a.q.running = true ∧ a.busy = true; let s : Pos := a.q.pos;
     on ∧ s.win = none) ∧
    (let q : List Instr := [];
     let d : Dev := ad (tsk 1 0xA 0 ++ [(Reg.TSQ_TASK_LO 1 4 + 4,
       60 * 2 ^ 22)]) (fun q => { q with running := true, tbuf := [(0, some ⟨50, 0, [1], 0, 0, 0⟩), (1, some ⟨50, 1, [2], 0, 0, 0⟩), (2, some ⟨50, 2, [2], 0, 0, 0⟩)] });
     let n : ActNo := 1; let a : Ac := d.acWith n (d.serving n); let on : Prop := a.q.running = true ∧ a.busy = true;
     on ∧ a.isZwrite = true ∧ a.rowDataReady = true) ∧
    (let q : List Instr := []; let d : Dev := ad (tsk 1 0xA 0) (fun q => { q with running := true }); let n : ActNo := 1;
     let a : Ac := d.acWith n (d.serving n); let on : Prop := a.q.running = true ∧ a.busy = true;
     on ∧ a.isZwrite = true ∧ a.rowDataReady = false) ∧
    (let q : List Instr := []; let d : Dev := ad (tsk 2 0xA 0) (fun q => { q with running := true }); let n : ActNo := 1;
     let a : Ac := d.acWith n (d.serving n); let on : Prop := a.q.running = true ∧ a.busy = true; on ∧ a.isZwrite = false) ∧
    (let q : List Instr := [];
     let d : Dev := ad (tsk 1 0xA 0) (fun q => { q with running := true, tbuf := [(3, some ⟨50, 3, [1, 2], 3, 4, 5⟩)], pos := { q.pos with lastWritten := some 50 } });
     let n : ActNo := 1; let a : Ac := d.acWith n (d.serving n); let on : Prop := a.q.running = true ∧ a.busy = true;
     let s : Pos := a.q.pos; let r := 50; on ∧ s.lastWritten = some r ∧ SMap.wf (fun _ => none) a.q.tbuf) ∧
    (let d : Dev := mk []; let n : ActNo := 1; let a : Ac := d.acWith n (d.serving n); let s : Pos := a.q.pos;
     s.lastWritten = none) ∧
    (let d : Dev := mk []; let n : ActNo := 1; let sa : WorkReg := 1; let a : Ac := d.acWith n (d.serving n);
     let on : Prop := a.q.running = true ∧ a.busy = true; let i : Nat := a.q.reg sa % 64;
     ¬ on ∧ let i : Instr := (Instr.statSend n);
     i ∈ [Instr.xrdySend n sa, .dataUpSend n sa, .statSend n, .parityForm n, .tbufRelease n]) := by
  refine ⟨?_, ?_, ?_, ?_, ?_, ?_, ?_, ?_, ?_, ?_, ?_, ?_, ?_⟩
  all_goals ((try dsimp only [Dev.holdsAdmin, Dev.holdsIo]); try decide +kernel)

/-- The hypotheses of `Obligations.RowStoreArmsCollectsAndRebuilds` are met. -/
theorem witness_RowStoreArmsCollectsAndRebuilds :
    (let q : List Instr := [];
     let d : Dev := ad (tsk 2 0xA 0) (fun q => { q with running := true, pos := { q.pos with win := some (ww 110 50 .granted 0xA) } }) (fun g => { g with rows := [rr 49 [(0, ⟨2, 0, [1, 2], 5, 6, [], true, false⟩)] 0] });
     let n : ActNo := 1; let a : Ac := d.acWith n (d.serving n); let on : Prop := a.q.running = true ∧ a.isRead = true;
     let w := ww 110 50 .granted 0xA; on ∧ a.q.pos.win = some w ∧ a.findRow w.lrow = none ∧ a.g.rows.length < 4) ∧
    (let q : List Instr := [];
     let d : Dev := ad (tsk 2 0xA 0) (fun q => { q with running := true, pos := { q.pos with win := some (ww 110 50 .granted 0xA) } }) (fun g => { g with rows := [rr 50 [(0, ⟨2, 0, [1, 2], 5, 6, [], true, false⟩), (1, ⟨2, 0, [1, 2], 5, 6, [], true, false⟩)] 0] });
     let n : ActNo := 1; let a : Ac := d.acWith n (d.serving n); let on : Prop := a.q.running = true ∧ a.isRead = true;
     let w := ww 110 50 .granted 0xA;
     let r := rr 50 [(0, ⟨2, 0, [1, 2], 5, 6, [], true, false⟩), (1, ⟨2, 0, [1, 2], 5, 6, [], true, false⟩)] 0;
     on ∧ a.q.pos.win = some w ∧ a.findRow w.lrow = some r) ∧
    (let q : List Instr := [];
     let d : Dev := ad (tsk 2 0xA 0) (fun q => { q with running := true, pos := { q.pos with win := some (ww 110 50 .granted 0xA) } }) (fun g => { g with rows := [rr 40 [(0, ⟨2, 0, [1, 2], 5, 6, [], true, false⟩)] 0, rr 41 [(0, ⟨2, 0, [1, 2], 5, 6, [], true, false⟩)] 0, rr 42 [(0, ⟨2, 0, [1, 2], 5, 6, [], true, false⟩)] 0, rr 43 [(0, ⟨2, 0, [1, 2], 5, 6, [], true, false⟩)] 0] });
     let n : ActNo := 1; let a : Ac := d.acWith n (d.serving n); let w := ww 110 50 .granted 0xA;
     a.q.pos.win = some w ∧ a.findRow w.lrow = none ∧ 4 ≤ a.g.rows.length) ∧
    (let q : List Instr := [];
     let d : Dev := ad (tsk 2 0xA 0) (fun q => { q with running := true }) (fun g => { g with rows := [rr 50 [(0, ⟨2, 0, [1, 2], 5, 6, [], true, false⟩), (1, ⟨2, 0, [1, 2], 5, 6, [], true, false⟩)] 0, rr 50 [(0, ⟨2, 8 * 2 ^ 60, [], 5, 6, [], true, false⟩), (1, ⟨2, 0, [1, 2], 5, 6, [], true, false⟩)] 0] });
     let n : ActNo := 1; let a : Ac := d.acWith n (d.serving n); let on : Prop := a.q.running = true ∧ a.isRead = true;
     let size : Nat := if a.isConv then 1 else if a.q.scan then a.k else a.k - 1;
     let room : Prop := size ≤ 64 - a.q.tbuf.length - a.grant ∨ a.kind = 6;
     let done (r : RRow) : Prop := (∀ s ∈ a.slots, (r.slot s).st = 2) ∧ r.rebuild = none;
     let r := rr 50 [(0, ⟨2, 0, [1, 2], 5, 6, [], true, false⟩), (1, ⟨2, 0, [1, 2], 5, 6, [], true, false⟩)] 0;
     let rs := [rr 50 [(0, ⟨2, 8 * 2 ^ 60, [], 5, 6, [], true, false⟩), (1, ⟨2, 0, [1, 2], 5, 6, [], true, false⟩)] 0];
     on ∧ a.g.rows = r :: rs ∧ done r ∧ room) ∧
    (let q : List Instr := [];
     let d : Dev := ad (tsk 2 0xA 0) (fun q => { q with running := true }) (fun g => { g with rows := [rr 50 []] });
     let n : ActNo := 1; let a : Ac := d.acWith n (d.serving n);
     let size : Nat := if a.isConv then 1 else if a.q.scan then a.k else a.k - 1;
     let room : Prop := size ≤ 64 - a.q.tbuf.length - a.grant ∨ a.kind = 6;
     let done (r : RRow) : Prop := (∀ s ∈ a.slots, (r.slot s).st = 2) ∧ r.rebuild = none; let r := rr 50 []; let rs := [];
     a.g.rows = r :: rs ∧ (¬ done r ∨ ¬ room)) ∧
    (let q : List Instr := [];
     let d : Dev := ad (tsk 2 0xA 0 ++ [(Reg.TSQ_TASK_LO 1 4, 0), (Reg.TSQ_TASK_LO 1 4 + 4, 60 * 2 ^ 22),
       (Reg.TSQ_TASK_LO 1 5,
       256 + 31)]) (fun q => { q with running := true }) (fun g => { g with rows := [rr 50 [(0, ⟨2, 8 * 2 ^ 60, [], 5, 6, [], true, false⟩), (1, ⟨2, 0, [1, 2], 5, 6, [], true, false⟩)] 0] });
     let n : ActNo := 1; let a : Ac := d.acWith n (d.serving n); let on : Prop := a.q.running = true ∧ a.isRead = true;
     let r := rr 50 [(0, ⟨2, 8 * 2 ^ 60, [], 5, 6, [], true, false⟩), (1, ⟨2, 0, [1, 2], 5, 6, [], true, false⟩)] 0;
     let rs := []; let s := 0; on ∧ a.g.rows = r :: rs ∧ a.canRebuild r = true ∧ r.rebuild = none ∧ a.notGood r = [s]) ∧
    (let q : List Instr := [];
     let d : Dev := ad (tsk 2 0xA 0) (fun q => { q with running := true }) (fun g => { g with rows := [rr 50 [(0, ⟨2, 0, [1, 2], 5, 6, [], true, false⟩), (1, ⟨2, 0, [1, 2], 5, 6, [], true, false⟩)] 0] });
     let n : ActNo := 1; let a : Ac := d.acWith n (d.serving n);
     let r := rr 50 [(0, ⟨2, 0, [1, 2], 5, 6, [], true, false⟩), (1, ⟨2, 0, [1, 2], 5, 6, [], true, false⟩)] 0;
     let rs := []; a.g.rows = r :: rs ∧ (a.canRebuild r = false ∨ r.rebuild ≠ none)) ∧
    (let q : List Instr := [];
     let d : Dev := ad (tsk 2 0xA 0 ++ [(Reg.TSQ_TASK_LO 1 4, 0), (Reg.TSQ_TASK_LO 1 4 + 4, 60 * 2 ^ 22),
       (Reg.TSQ_TASK_LO 1 5, 256 + 31), (Reg.DET_LADDER 1 1,
       6 * (Fld.put Fld.DET_LADDER_CLASS 0 1).toNat)]) (fun q => { q with running := true }) (fun g => { g with rows := [rr 50 [(0, ⟨2, 8 * 2 ^ 60, [], 5, 6, [], true, false⟩), (1, ⟨2, 0, [1, 2], 5, 6, [], true, false⟩)] 0] });
     let n : ActNo := 1; let a : Ac := d.acWith n (d.serving n); let on : Prop := a.q.running = true ∧ a.isRead = true;
     let r := rr 50 [(0, ⟨2, 8 * 2 ^ 60, [], 5, 6, [], true, false⟩), (1, ⟨2, 0, [1, 2], 5, 6, [], true, false⟩)] 0;
     let rs := []; let i := 1;
     on ∧ a.g.rows = r :: rs ∧ a.permitted r i = true ∧ i < 32 ∧ (∀ j, j < i → a.permitted r j = false)) ∧
    (let q : List Instr := [];
     let d : Dev := ad (tsk 2 0xA 0) (fun q => { q with running := true }) (fun g => { g with rows := [rr 50 [(0, ⟨2, 0, [1, 2], 5, 6, [], true, false⟩), (1, ⟨2, 0, [1, 2], 5, 6, [], true, false⟩)] 0] });
     let n : ActNo := 1; let a : Ac := d.acWith n (d.serving n);
     let r := rr 50 [(0, ⟨2, 0, [1, 2], 5, 6, [], true, false⟩), (1, ⟨2, 0, [1, 2], 5, 6, [], true, false⟩)] 0;
     let rs := []; a.g.rows = r :: rs ∧ (∀ i, i < 32 → a.permitted r i = false)) ∧
    (let d : Dev := mk []; let n : ActNo := 1; let m : MaskNo := 1; let a : Ac := d.acWith n (d.serving n);
     let on : Prop := a.q.running = true ∧ a.isRead = true; ¬ on ∧ let i : Instr := (Instr.chnCollect n);
     i ∈ [Instr.chnArm n m, .chnCollect n, .chnRebuild n, .chnLadderStep n]) := by
  refine ⟨?_, ?_, ?_, ?_, ?_, ?_, ?_, ?_, ?_, ?_⟩
  all_goals ((try dsimp only [Dev.holdsAdmin, Dev.holdsIo]); try decide +kernel)

/-- The hypotheses of `Obligations.SetpointsAndCodesAreQueued` are met. -/
theorem witness_SetpointsAndCodesAreQueued :
    (let d : Dev := ad ((Reg.ARM_STATUS 1, fs [(Fld.ARM_STATUS_MODE,
       2)]) :: tsk 2 0xA 0) (fun q => { q with running := true, pos := { q.pos with last := some (100, 50) } });
     let a : Ac := d.acWith 1 (d.serving 1);
     a.q.running = true ∧ a.busy = true ∧ a.q.pos.last = some (100, 50) ∧
       2 ≤ d.plat.fld (Reg.ARM_STATUS 1) Fld.ARM_STATUS_MODE ∧ d.plat.fld (Reg.ARM_STATUS 1) Fld.ARM_STATUS_MODE ≤ 4) ∧
    (let q : List Instr := [];
     let d : Dev := ad (tsk 2 0xA 0 ++ [(Reg.ARM_STATUS 1, fs [(Fld.ARM_STATUS_MODE,
       4)])]) (fun q => { q with running := true, pos := { q.pos with win := some (ww 110 50 .granted 0xA), sp := some ⟨0xF0, 3, true, false, 3, 99, [], []⟩ } });
     let n : ActNo := 1; let m : MaskNo := 1; let a : Ac := d.acWith n (d.serving n); let s : Pos := a.q.pos;
     let on : Prop := a.q.running = true ∧ a.busy = true;
     let mode : Nat := d.plat.fld (Reg.ARM_STATUS n) Fld.ARM_STATUS_MODE; let loops : Prop := 2 ≤ mode ∧ mode ≤ 4;
     let sp : Nat := m.val &&& s.gsplits; let w := ww 110 50 .granted 0xA; let r := ⟨0xF0, 3, true, false, 3, 99, [], []⟩;
     on ∧ s.win = some w ∧ s.sp = some r ∧ a.findRow w.lrow = none ∧ loops) ∧
    (let q : List Instr := [];
     let d : Dev := ad (tsk 2 0xA 0) (fun q => { q with running := true, pos := { q.pos with win := some (ww 110 50 .granted 0xA), sp := some ⟨0xF0, 3, true, false, 3, 99, [], []⟩ } });
     let n : ActNo := 1; let m : MaskNo := 1; let a : Ac := d.acWith n (d.serving n); let s : Pos := a.q.pos;
     let on : Prop := a.q.running = true ∧ a.busy = true;
     let mode : Nat := d.plat.fld (Reg.ARM_STATUS n) Fld.ARM_STATUS_MODE; let loops : Prop := 2 ≤ mode ∧ mode ≤ 4;
     let sp : Nat := m.val &&& s.gsplits; let w := ww 110 50 .granted 0xA; let r := ⟨0xF0, 3, true, false, 3, 99, [], []⟩;
     on ∧ s.win = some w ∧ s.sp = some r ∧ a.findRow w.lrow = none ∧ ¬ loops ∧ d.plat.on (4 * n.val + 3) = true) ∧
    (let d : Dev := mk []; let n : ActNo := 1; let a : Ac := d.acWith n (d.serving n); let s : Pos := a.q.pos; s.win = none) ∧
    (let d : Dev := mk []; let n : ActNo := 1; let a : Ac := d.acWith n (d.serving n); let s : Pos := a.q.pos;
     s.last = none) ∧
    (let q : List Instr := [];
     let d : Dev := ad (tsk 1 0xA 0) (fun q => { q with running := true, pos := { q.pos with win := some (ww 110 50 .granted 0xA) } });
     let n : ActNo := 1; let m : MaskNo := 2; let h : HeadNo := 1; let a : Ac := d.acWith n (d.serving n);
     let on : Prop := a.q.running = true ∧ a.busy = true;
     let t := (((ad (tsk 1 0xA 0) (fun q => { q with running := true, pos := { q.pos with win := some (ww 110 50 .granted 0xA) } })).acWith 1 1).winTrack).getD 0;
     on ∧ a.winTrack = some t ∧ m.val.testBit h = true ∧ a.useHeads.testBit h = true) ∧
    (let q : List Instr := []; let d : Dev := ad (tsk 2 0xA 0) (fun q => { q with running := true }); let n : ActNo := 1;
     let m : MaskNo := 1; let h : HeadNo := 1; let a : Ac := d.acWith n (d.serving n);
     let on : Prop := a.q.running = true ∧ a.busy = true; on ∧ (m.val.testBit h = false ∨ a.useHeads.testBit h = false)) ∧
    (let d : Dev := mk []; let n : ActNo := 1; let m : MaskNo := 1; let a : Ac := d.acWith n (d.serving n);
     let on : Prop := a.q.running = true ∧ a.busy = true; ¬ on ∧ let i : Instr := (Instr.srvSetpoint n);
     i ∈ [Instr.srvSetpoint n, .srvSplit n m, .srvRecentre n, .wrpCodes n m, .wrpAssistOff n]) := by
  refine ⟨?_, ?_, ?_, ?_, ?_, ?_, ?_, ?_⟩
  all_goals ((try dsimp only [Dev.holdsAdmin, Dev.holdsIo]); try decide +kernel)

end Sys2Proof.Tests
end

