-- ==== Sys2Proof/Tests/WitnessPlatform.lean ====
section
/-! SUPPORT. Witnesses: for each statement about thermal, power, reset and Frieze commands, machines and operands that
meet the hypotheses of each of its clauses together. -/

namespace Sys2Proof.Tests

open Sys2Proof Sys2Proof.Machine

set_option linter.unusedVariables false
set_option maxRecDepth 65536
set_option Elab.async false

/-- The hypotheses of `Obligations.SensorSamplesSetDemands` are met. -/
theorem witness_SensorSamplesSetDemands :
    (let d : Dev := mk [(Reg.THM_CTRL, fs [(Fld.THM_CTRL_EN, 1)]), (Reg.THM_TEMP 3, fs [(Fld.THM_TEMP_VALUE, 100),
       (Fld.THM_TEMP_EST, 100), (Fld.THM_TEMP_FAILED, 0)])];
     let i : SensorNo := 3; let raw : Int := 100; let fault : Bool := false;
     let a : Int := d.plat.sfld (Reg.THM_SNSTRIM i) Fld.THM_SNSTRIM_APPLIED;
     let goal : Int := d.plat.sfld (Reg.THM_SNSTRIM i) Fld.THM_SNSTRIM_TARGET;
     let t : Int := raw + (if a < goal then a + 1 else if goal < a then a - 1 else a);
     let est : Int := d.plat.sfld (Reg.THM_TEMP i) Fld.THM_TEMP_EST;
     let off : Nat := if 80 < t - est ∨ t - est < -80 then min 16 (SMap.get (fun _ => 0) d.thm.mism i + 1) else 0;
     let failed : Bool := d.plat.bit (Reg.THM_TEMP i) Fld.THM_TEMP_FAILED;
     let bad : Prop := fault = true ∨ t < -160 ∨ 600 < t ∨ off = 16; d.plat.thmOn = true ∧ failed = false ∧ ¬ bad) ∧
    (let d : Dev := mk [(Reg.THM_CTRL, fs [(Fld.THM_CTRL_EN, 1)]), (Reg.THM_TEMP 3, fs [(Fld.THM_TEMP_VALUE, 600),
       (Fld.THM_TEMP_EST, 600), (Fld.THM_TEMP_FAILED, 0)])];
     let i : SensorNo := 3; let raw : Int := 600; let fault : Bool := false;
     let a : Int := d.plat.sfld (Reg.THM_SNSTRIM i) Fld.THM_SNSTRIM_APPLIED;
     let goal : Int := d.plat.sfld (Reg.THM_SNSTRIM i) Fld.THM_SNSTRIM_TARGET;
     let t : Int := raw + (if a < goal then a + 1 else if goal < a then a - 1 else a);
     let est : Int := d.plat.sfld (Reg.THM_TEMP i) Fld.THM_TEMP_EST;
     let off : Nat := if 80 < t - est ∨ t - est < -80 then min 16 (SMap.get (fun _ => 0) d.thm.mism i + 1) else 0;
     let failed : Bool := d.plat.bit (Reg.THM_TEMP i) Fld.THM_TEMP_FAILED;
     let bad : Prop := fault = true ∨ t < -160 ∨ 600 < t ∨ off = 16; d.plat.thmOn = true ∧ failed = false ∧ ¬ bad) ∧
    (let d : Dev := mk [(Reg.THM_CTRL, fs [(Fld.THM_CTRL_EN, 1)]), (Reg.THM_TEMP 3, fs [(Fld.THM_TEMP_VALUE, 600),
       (Fld.THM_TEMP_EST, 600), (Fld.THM_TEMP_FAILED, 0)])];
     let i : SensorNo := 3; let raw : Int := 601; let fault : Bool := false;
     let a : Int := d.plat.sfld (Reg.THM_SNSTRIM i) Fld.THM_SNSTRIM_APPLIED;
     let goal : Int := d.plat.sfld (Reg.THM_SNSTRIM i) Fld.THM_SNSTRIM_TARGET;
     let t : Int := raw + (if a < goal then a + 1 else if goal < a then a - 1 else a);
     let est : Int := d.plat.sfld (Reg.THM_TEMP i) Fld.THM_TEMP_EST;
     let off : Nat := if 80 < t - est ∨ t - est < -80 then min 16 (SMap.get (fun _ => 0) d.thm.mism i + 1) else 0;
     let failed : Bool := d.plat.bit (Reg.THM_TEMP i) Fld.THM_TEMP_FAILED;
     let bad : Prop := fault = true ∨ t < -160 ∨ 600 < t ∨ off = 16;
     d.plat.thmOn = true ∧ failed = false ∧ bad ∧ est ≤ 2027) ∧
    (let d : Dev := mk [(Reg.THM_CTRL, fs [(Fld.THM_CTRL_EN, 1)])]; let i : SensorNo := 23; let raw : Int := 0;
     let fault : Bool := true; let a : Int := d.plat.sfld (Reg.THM_SNSTRIM i) Fld.THM_SNSTRIM_APPLIED;
     let goal : Int := d.plat.sfld (Reg.THM_SNSTRIM i) Fld.THM_SNSTRIM_TARGET;
     let t : Int := raw + (if a < goal then a + 1 else if goal < a then a - 1 else a);
     let est : Int := d.plat.sfld (Reg.THM_TEMP i) Fld.THM_TEMP_EST;
     let off : Nat := if 80 < t - est ∨ t - est < -80 then min 16 (SMap.get (fun _ => 0) d.thm.mism i + 1) else 0;
     let failed : Bool := d.plat.bit (Reg.THM_TEMP i) Fld.THM_TEMP_FAILED;
     let bad : Prop := fault = true ∨ t < -160 ∨ 600 < t ∨ off = 16;
     d.plat.thmOn = true ∧ failed = false ∧ bad ∧ est ≤ 2027) ∧
    (let d : Dev := mk [(Reg.THM_CTRL, fs [(Fld.THM_CTRL_EN, 1)]), (Reg.THM_TEMP 3, fs [(Fld.THM_TEMP_VALUE, 0),
       (Fld.THM_TEMP_EST, 2027), (Fld.THM_TEMP_FAILED, 1)])];
     let i : SensorNo := 3; let est : Int := d.plat.sfld (Reg.THM_TEMP i) Fld.THM_TEMP_EST;
     let failed : Bool := d.plat.bit (Reg.THM_TEMP i) Fld.THM_TEMP_FAILED; d.plat.thmOn = true ∧ failed = true ∧ est ≤ 2027) ∧
    (let d : Dev := offD 31 (mk []); let i : SensorNo := 3; d.plat.thmOn = false) := by
  refine ⟨?_, ?_, ?_, ?_, ?_, ?_⟩
  all_goals ((try dsimp only [Dev.holdsAdmin, Dev.holdsIo]); try decide +kernel)

/-- The hypotheses of `Obligations.ModelThrottleCapAndTrip` are met. -/
theorem witness_ModelThrottleCapAndTrip :
    (let d : Dev := mk [(Reg.THM_CTRL, fs [(Fld.THM_CTRL_EN, 1)])]; d.plat.thmOn = true) ∧
    (let d : Dev := mk [(Reg.THM_CTRL, fs [(Fld.THM_CTRL_EN, 1)]), (Reg.THM_STATUS, fs [(Fld.THM_STATUS_LEVEL, 1),
       (Fld.THM_STATUS_HOLD, 0)])];
     let ended : Thm := { d.thm with rateOn := false };
     d.plat.bit Reg.THM_STATUS Fld.THM_STATUS_HOLD = false ∧ (throttleWant d.plat ended).1 < d.plat.level) ∧
    (let d : Dev := mk [(Reg.THM_CTRL, fs [(Fld.THM_CTRL_EN, 1)]), (Reg.THM_STATUS, fs [(Fld.THM_STATUS_LEVEL, 0),
       (Fld.THM_STATUS_HOLD, 0)])];
     let ended : Thm := { d.thm with rateOn := false };
     (d.plat.bit Reg.THM_STATUS Fld.THM_STATUS_HOLD = true ∨ d.plat.level ≤ (throttleWant d.plat ended).1)) ∧
    (let d : Dev := mk [(Reg.THM_CTRL, fs [(Fld.THM_CTRL_EN, 1)]), (Reg.THM_STATUS, fs [(Fld.THM_STATUS_LEVEL, 7),
       (Fld.THM_STATUS_HOLD, 1)])];
     d.plat.bit Reg.THM_STATUS Fld.THM_STATUS_HOLD = true) ∧
    (let d : Dev := mk []; d.plat.on 31 = true) ∧
    (let d : Dev := thm (fun t => { t with refWait := [(1, some 4)] }) (mk []); let n : ActNo := 1; let r := 4;
     SMap.get (fun _ => none) d.thm.refWait n = some r ∧ (d.act n).gate.rg = 0 ∧ (d.act n).gate.servo = false ∧
       d.plat.on (4 * n) = true) ∧
    (let d : Dev := offD 4 (thm (fun t => { t with refWait := [(1, some 4)] }) (mk [])); let n : ActNo := 1; let r := 4;
     SMap.get (fun _ => none) d.thm.refWait n = some r ∧
       ((d.act n).gate.rg ≠ 0 ∨ (d.act n).gate.servo = true ∨ d.plat.on (4 * n) = false)) ∧
    (let d : Dev := thm (fun t => { t with tripCnt := [(31, 9)] }) (mk [(Reg.THM_CTRL, fs [(Fld.THM_CTRL_EN, 1)]),
       (Reg.THM_TRIP, fs [(Fld.THM_TRIP_COUNT, 9)])]);
     let i : Fin 32 := 31;
     d.plat.thmOn = true ∧ d.thm.tripped = none ∧
       atLeast1 (d.plat.fld Reg.THM_TRIP Fld.THM_TRIP_COUNT) ≤ SMap.get (fun _ => 0) d.thm.tripCnt i ∧ (∀ j : Fin 32,
       j < i → SMap.get (fun _ => 0) d.thm.tripCnt j < atLeast1 (d.plat.fld Reg.THM_TRIP Fld.THM_TRIP_COUNT))) ∧
    (let d : Dev := thm (fun t => { t with tripped := some 4 }) (mk [(Reg.THM_CTRL, fs [(Fld.THM_CTRL_EN, 1)])]);
     (d.plat.thmOn = false ∨ d.thm.tripped ≠ none)) := by
  refine ⟨?_, ?_, ?_, ?_, ?_, ?_, ?_, ?_, ?_⟩
  all_goals ((try dsimp only [Dev.holdsAdmin, Dev.holdsIo]); try decide +kernel)

/-- The hypotheses of `Obligations.DomainsSwitchOneAtATime` are met. -/
theorem witness_DomainsSwitchOneAtATime :
    (let d : Dev := mk []; let k : DomainNo := 0; let hi : Bool := false; let v : Word := 0xFFFFFFFF;
     let want : Nat := if hi then d.plat.reqSet % 2 ^ 32 + 2 ^ 32 * (v.toNat % 16) else v.toNat + 2 ^ 32 * (d.plat.reqSet / 2 ^ 32);
     d.powered Reg.PWR_REQ_LO ∧ want.testBit 25 = true ∧ want.testBit 27 = true ∧ want.testBit 34 = true ∧ (∀ j : DomainNo,
       want.testBit j = true → ∀ r ∈ requires j, want.testBit r = true)) ∧
    (let d : Dev := mk []; let k : DomainNo := 0; let hi : Bool := false; let v : Word := 0;
     let want : Nat := if hi then d.plat.reqSet % 2 ^ 32 + 2 ^ 32 * (v.toNat % 16) else v.toNat + 2 ^ 32 * (d.plat.reqSet / 2 ^ 32);
     d.powered Reg.PWR_REQ_LO ∧ let j : Nat := 25;
     j ∈ [25, 27, 34] ∧ d.plat.statSet.testBit j = true ∧ want.testBit j = false) ∧
    (let d : Dev := mk []; let k : DomainNo := 0; let hi : Bool := true; let v : Word := 0;
     let want : Nat := if hi then d.plat.reqSet % 2 ^ 32 + 2 ^ 32 * (v.toNat % 16) else v.toNat + 2 ^ 32 * (d.plat.reqSet / 2 ^ 32);
     d.powered Reg.PWR_REQ_LO ∧ let j : Nat := 34;
     j ∈ [25, 27, 34] ∧ d.plat.statSet.testBit j = true ∧ want.testBit j = false) ∧
    (let d : Dev := offD 3 (mk []); let k : DomainNo := 3;
     d.plat.standby = false ∧ d.thm.tripped = none ∧ k.val ≠ 29 ∧ d.plat.reqSet.testBit k = true ∧ d.plat.on k = false ∧
       (∀ r ∈ requires k, d.plat.on r = true)) ∧
    (let d : Dev := unreq 3 (offD 15 (mk [])); let k : DomainNo := 3;
     d.plat.standby = false ∧ d.thm.tripped = none ∧ k.val ≠ 29 ∧ d.plat.reqSet.testBit k = false ∧ d.plat.on k = true ∧
       (∀ j : DomainNo, d.plat.on j = true → k.val ∉ requires j)) ∧
    (let d : Dev := mk []; let k : DomainNo := 0; (∃ j : DomainNo, d.plat.on j = true ∧ k.val ∈ requires j)) ∧
    (let d : Dev := offD 0 (mk []); let k : DomainNo := 3; (∃ r ∈ requires k, d.plat.on r = false)) ∧
    (let d : Dev := mk []; d.powered Reg.PWR_STBY) := by
  refine ⟨?_, ?_, ?_, ?_, ?_, ?_, ?_, ?_⟩
  all_goals ((try dsimp only [Dev.holdsAdmin, Dev.holdsIo]); try decide +kernel)

/-- The hypotheses of `Obligations.PowerLinkFramesAndBrownOut` are met. -/
theorem witness_PowerLinkFramesAndBrownOut :
    (let bs : Bytes := []; let framing : Bool := false;
     (framing = true ∨ bs.length ≠ 3 ∨ bs.headD 0 ≠ 0x53 ∨ crcOk bs = false)) ∧
    (let bs : Bytes := crc [0x53, 8]; let framing : Bool := false;
     framing = false ∧ bs.length = 3 ∧ bs.headD 0 = 0x53 ∧ crcOk bs = true) ∧
    (let bs : Bytes := [0x52]; let framing : Bool := false; framing = false ∧ bs.length < 36 ∧ bs.headD 0 = 0x52) ∧
    (let bs : Bytes := List.replicate 37 0x52; let framing : Bool := false;
     (framing = true ∨ 36 < bs.length ∨ bs.headD 0 ≠ 0x52 ∨ (bs.length = 36 ∧ crcOk bs = false))) ∧
    (let bs : Bytes := crc (0x52 :: List.replicate 34 0); let framing : Bool := false;
     framing = false ∧ bs.length = 36 ∧ bs.headD 0 = 0x52 ∧ crcOk bs = true) ∧
    (let d : Dev := mk []; d.keep.brown = false) ∧
    (let d : Dev := { mk [] with keep := { (mk []).keep with brown := true } };
     d.keep.brown = true ∧ d.plat.bit Reg.SYS_PL_PCL Fld.SYS_PL_PCL_BROWNOUT = false) ∧
    (let d : Dev := thm (fun t => { t with tripped := some 31 }) (mk []); let i := 31; d.thm.tripped = some i) ∧
    (let d : Dev := mk []; d.thm.tripped = none) := by
  refine ⟨?_, ?_, ?_, ?_, ?_, ?_, ?_, ?_, ?_⟩
  all_goals ((try dsimp only [Dev.holdsAdmin, Dev.holdsIo]); try decide +kernel)

/-- The hypotheses of `Obligations.ResetsSurvivalAndBoot`, part 1, are met. -/
theorem witness_ResetsSurvivalAndBoot_part_1 :
    (let d : Dev := booted (.inReset true) (mk []); let testMode : Bool := false; let por := true;
     d.sys.boot = .inReset por ∧ (por = false ∨ testMode = false)) ∧
    (let d : Dev := booted (.inReset false) (mk []); let testMode : Bool := true; let por := false;
     d.sys.boot = .inReset por ∧ (por = false ∨ testMode = false)) ∧
    (let d : Dev := booted (.inReset true) (mk []); let testMode : Bool := true;
     testMode = true ∧ d.sys.boot = .inReset true) ∧
    (let d : Dev := booted .handedOff (mk []); let testMode : Bool := true; (∀ por, d.sys.boot ≠ .inReset por)) := by
  refine ⟨?_, ?_, ?_, ?_⟩
  all_goals ((try dsimp only [Dev.holdsAdmin, Dev.holdsIo]); try decide +kernel)

/-- The hypotheses of `Obligations.ResetsSurvivalAndBoot`, part 2, are met. -/
theorem witness_ResetsSurvivalAndBoot_part_2 :
    (let d : Dev := booted (.waiting []) (mk []);
     d.sys.boot = .waiting [] ∧ (d.keep.ready 0 = false ∨ d.keep.ready 1 = false)) ∧
    (let d : Dev := slot0 [] (booted (.waiting []) (mk []));
     d.sys.boot = .waiting [] ∧ d.keep.ready 0 = true ∧ d.keep.ready 1 = true ∧ d.plat.on 29 = true ∧
       d.keep.pending 0 = none ∧ d.keep.pending 1 = none ∧ d.keep.chooseSlot = none) ∧
    (let d : Dev := slot0 image (booted (.waiting []) (mk []));
     d.sys.boot = .waiting [] ∧ d.keep.ready 0 = true ∧ d.keep.ready 1 = true ∧ d.plat.on 29 = true ∧ d.keep.pending 0 = none ∧ d.keep.pending 1 = none ∧ let i := ((slot0 image (mk [])).keep.chooseSlot.map (fun r => r.1)).getD 9;
     let x := ((slot0 image (mk [])).keep.chooseSlot.map (fun r => r.2.1)).getD ⟨0, 0, 0, 0, 0⟩;
     let fell := ((slot0 image (mk [])).keep.chooseSlot.map (fun r => r.2.2)).getD true;
     d.keep.chooseSlot = some (i, x, fell)) ∧
    (let d : Dev := booted (.ready 1 2 3 4 5) (mk []); let i := 1; let load := 2; let len := 3; let entry := 4;
     let version := 5; d.sys.boot = .ready i load len entry version) ∧
    (let d : Dev := booted .handedOff (mk []); let off : Nat := 0; let bs : Bytes := [];
     d.plat.miOn = true ∧ d.sys.boot ≠ .recovery ∧ let i : Instr := .recoveryBoot;
     i ∈ [Instr.recoveryWrite off bs, .recoveryBoot]) ∧
    (let d : Dev := booted .recovery (mk []); let off : Nat := 0x3FEFFF; let bs : Bytes := [1];
     d.plat.miOn = true ∧ d.sys.boot = .recovery ∧ bs.length ≤ 2032 ∧ off + bs.length ≤ 0x3FF000) ∧
    (let d : Dev := booted .recovery (mk []); let off : Nat := 0x3FF000; let bs : Bytes := [1];
     d.plat.miOn = true ∧ d.sys.boot = .recovery ∧ (2032 < bs.length ∨ 0x3FF000 < off + bs.length)) ∧
    (let d : Dev := booted .recovery (mk []);
     d.plat.miOn = true ∧ d.sys.boot = .recovery ∧ imageHeader (SMap.bytes zeroByte d.sys.sram 0 64) = none) ∧
    (let d : Dev := { mk [] with sys := { (mk []).sys with boot := .recovery, sram := SMap.store zeroByte [] 0 image } };
     d.plat.miOn = true ∧ d.sys.boot = .recovery ∧ let x := (imageHeader (image.take 64)).getD ⟨0, 0, 0, 0, 0⟩;
     imageHeader (SMap.bytes zeroByte d.sys.sram 0 64) = some x ∧
       x.ok (SMap.bytes zeroByte d.sys.sram 0 64) (SMap.bytes zeroByte d.sys.sram 64 x.len) = true) := by
  refine ⟨?_, ?_, ?_, ?_, ?_, ?_, ?_, ?_, ?_⟩
  all_goals ((try dsimp only [Dev.holdsAdmin, Dev.holdsIo]); try decide +kernel)

/-- The hypotheses of `Obligations.FriezePostsRecordsAndTraceMessages`, part 1, are met. -/
theorem witness_FriezePostsRecordsAndTraceMessages_part_1 :
    (let d : Dev := mk []; let v : Word := BitVec.ofNat 32 (fs [(Fld.FRZ_POST_TYPE, 0x8000), (Fld.FRZ_POST_LENW, 4)]);
     let typ : Nat := Fld.get Fld.FRZ_POST_TYPE v; let lenw : Nat := Fld.get Fld.FRZ_POST_LENW v;
     d.powered Reg.FRZ_POST ∧ (lenw < 5 ∨ 64 < lenw ∨ typ < 0x8000)) ∧
    (let d : Dev := frz [⟨5, 256, 0x8001, true, []⟩, ⟨5, 256, 0x8001, true, []⟩, ⟨5, 256, 0x8001, true, []⟩] (mk []);
     let v : Word := BitVec.ofNat 32 (fs [(Fld.FRZ_POST_TYPE, 0x8000), (Fld.FRZ_POST_LENW, 5)]);
     let typ : Nat := Fld.get Fld.FRZ_POST_TYPE v; let lenw : Nat := Fld.get Fld.FRZ_POST_LENW v;
     d.powered Reg.FRZ_POST ∧ 5 ≤ lenw ∧ lenw ≤ 64 ∧ 0x8000 ≤ typ ∧ d.plat.frz.waiting 256 < 4) ∧
    (let d : Dev := frz [⟨5, 256, 0x8001, true, []⟩, ⟨5, 256, 0x8001, true, []⟩, ⟨5, 256, 0x8001, true, []⟩, ⟨5, 256,
       0x8001, true, []⟩] (mk []);
     let v : Word := BitVec.ofNat 32 (fs [(Fld.FRZ_POST_TYPE, 0x8000), (Fld.FRZ_POST_LENW, 63)]);
     let typ : Nat := Fld.get Fld.FRZ_POST_TYPE v; let lenw : Nat := Fld.get Fld.FRZ_POST_LENW v;
     d.powered Reg.FRZ_POST ∧ 5 ≤ lenw ∧ lenw ≤ 64 ∧ 0x8000 ≤ typ ∧ 4 ≤ d.plat.frz.waiting 256) ∧
    (let d : Dev := mk [(Reg.FRZ_STATUS, fs [(Fld.FRZ_STATUS_FROZEN, 1)])];
     d.powered Reg.FRZ_CTRL ∧ d.plat.bit Reg.FRZ_STATUS Fld.FRZ_STATUS_FROZEN = true) ∧
    (let d : Dev := mk []; d.powered Reg.FRZ_CTRL ∧ d.plat.bit Reg.FRZ_STATUS Fld.FRZ_STATUS_FROZEN = false) := by
  refine ⟨?_, ?_, ?_, ?_, ?_⟩
  all_goals ((try dsimp only [Dev.holdsAdmin, Dev.holdsIo]); try decide +kernel)

/-- The hypotheses of `Obligations.FriezePostsRecordsAndTraceMessages`, part 2, are met. -/
theorem witness_FriezePostsRecordsAndTraceMessages_part_2 :
    (let d : Dev := mk [(Reg.FRZ_CTRL, fs [(Fld.FRZ_CTRL_FREEZE_MI, 1)]), (Reg.FRZ_STATUS, fs [(Fld.FRZ_STATUS_FROZEN,
       1)])];
     d.plat.frozen = true) ∧
    (let d : Dev := frz [⟨5, 256, 0x8001, true, []⟩] (mk []); d.plat.frozen = false ∧ d.plat.frz.queue ≠ []) := by
  refine ⟨?_, ?_⟩
  all_goals ((try dsimp only [Dev.holdsAdmin, Dev.holdsIo]); try decide +kernel)

/-- The hypotheses of `Obligations.FriezePostsRecordsAndTraceMessages`, part 3, are met. -/
theorem witness_FriezePostsRecordsAndTraceMessages_part_3 :
    (let d : Dev := trc 255 (mk [(Reg.TRC_CFG, fs [(Fld.TRC_CFG_EN, 1), (Fld.TRC_CFG_FW, 1), (Fld.TRC_CFG_TAG, 0xFFFF),
       (Fld.TRC_CFG_FRZ, 1)])]);
     let unit : Nat := 4;
     d.plat.bit Reg.TRC_CFG Fld.TRC_CFG_EN = true ∧ d.plat.trc.syncDue = false ∧
       (d.plat.time - d.plat.trc.prev).toNat ≤ 65535 ∧ d.plat.trc.fifo.length < 256 ∧
       (d.plat.fld Reg.TRC_CFG Fld.TRC_CFG_TAG).testBit unit = true) ∧
    (let d : Dev := trc 255 (mk [(Reg.TRC_CFG, fs [(Fld.TRC_CFG_EN, 1), (Fld.TRC_CFG_FW, 1), (Fld.TRC_CFG_TAG, 0xFFFF),
       (Fld.TRC_CFG_FRZ, 1)])]);
     let unit : Nat := 4;
     d.plat.bit Reg.TRC_CFG Fld.TRC_CFG_EN = true ∧ d.plat.trc.syncDue = false ∧
       (d.plat.time - d.plat.trc.prev).toNat ≤ 65535 ∧ d.plat.trc.fifo.length < 256 ∧
       d.plat.bit Reg.TRC_CFG Fld.TRC_CFG_FW = true ∧ d.powered Reg.TRC_FW) ∧
    (let d : Dev := trc 255 (mk [(Reg.TRC_CFG, fs [(Fld.TRC_CFG_EN, 1), (Fld.TRC_CFG_FW, 1), (Fld.TRC_CFG_TAG, 0xFFFF),
       (Fld.TRC_CFG_FRZ, 1)])]);
     let unit : Nat := 4;
     d.plat.bit Reg.TRC_CFG Fld.TRC_CFG_EN = true ∧ d.plat.trc.syncDue = false ∧
       (d.plat.time - d.plat.trc.prev).toNat ≤ 65535 ∧ d.plat.trc.fifo.length < 256 ∧
       d.plat.bit Reg.TRC_CFG Fld.TRC_CFG_FRZ = true) ∧
    (let d : Dev := trc 256 (mk [(Reg.TRC_CFG, fs [(Fld.TRC_CFG_EN, 1), (Fld.TRC_CFG_FW, 1), (Fld.TRC_CFG_TAG, 0xFFFF),
       (Fld.TRC_CFG_FRZ, 1)])]);
     d.plat.bit Reg.TRC_CFG Fld.TRC_CFG_EN = true ∧ d.plat.trc.syncDue = false ∧
       (d.plat.time - d.plat.trc.prev).toNat ≤ 65535 ∧ 256 ≤ d.plat.trc.fifo.length ∧
       d.plat.bit Reg.TRC_CFG Fld.TRC_CFG_FW = true) ∧
    (let d : Dev := trc 255 (mk [(Reg.TRC_CFG, fs [(Fld.TRC_CFG_EN, 1), (Fld.TRC_CFG_FW, 1), (Fld.TRC_CFG_TAG, 0xFFFF),
       (Fld.TRC_CFG_FRZ, 1)])]);
     d.plat.bit Reg.TRC_CFG Fld.TRC_CFG_EN = true ∧ d.plat.trc.fifo.length < 256) ∧
    (let d : Dev := trc 256 (mk [(Reg.TRC_CFG, fs [(Fld.TRC_CFG_EN, 1), (Fld.TRC_CFG_FW, 1), (Fld.TRC_CFG_TAG, 0xFFFF),
       (Fld.TRC_CFG_FRZ, 1)])]);
     let m := ⟨3, [1]⟩; let ms := List.replicate 255 ⟨3, [1]⟩;
     d.plat.bit Reg.TRC_CFG Fld.TRC_CFG_EN = true ∧ d.plat.trc.fifo = m :: ms ∧ ms.length < 256 ∧ d.plat.trc.dropped = 0) ∧
    (let d : Dev := mk []; let c : CoreNo := 0; let v : Word := 0;
     d.plat.bit Reg.TRC_CFG Fld.TRC_CFG_EN = false ∧ let i : Instr := .traceSync;
     i ∈ [Instr.traceMessageSend (.fw c v), .traceSync, .traceMessageOut]) := by
  refine ⟨?_, ?_, ?_, ?_, ?_, ?_, ?_⟩
  all_goals ((try dsimp only [Dev.holdsAdmin, Dev.holdsIo]); try decide +kernel)

end Sys2Proof.Tests
end

