-- ==== Sys2Proof/Tests/WitnessRead.lean ====
section
/-! SUPPORT. Witnesses: for each statement about read path and servo commands, machines and operands that
meet the hypotheses of each of its clauses together. -/

namespace Sys2Proof.Tests

open Sys2Proof Sys2Proof.Machine

set_option linter.unusedVariables false
set_option maxRecDepth 65536
set_option Elab.async false

/-- The hypotheses of `Obligations.RowsOpenAndCloseByTheirRules`, part 1, are met. -/
theorem witness_RowsOpenAndCloseByTheirRules_part_1 :
    (let q : List Instr := [];
     let d : Dev := ad (tsk 1 0xA 0) (fun q => { q with running := true, pos := { q.pos with win := some (ww 110 50 .granted 0xA) } });
     let n : ActNo := 1; let a : Ac := d.acWith n (d.serving n); let s : Pos := a.q.pos;
     let on : Prop := a.q.running = true ∧ a.busy = true; on ∧ s.win.isSome = true) ∧
    (let q : List Instr := [];
     let d : Dev := ad (tsk 1 0xA 0 ++ [(Reg.TSQ_STATUS 1, fs [(Fld.TSQ_STATUS_BUSY, 1), (Fld.TSQ_STATUS_LOCKED,
       1)])]) (fun q => { q with running := true });
     let n : ActNo := 1; let a : Ac := d.acWith n (d.serving n); let s : Pos := a.q.pos;
     let on : Prop := a.q.running = true ∧ a.busy = true; on ∧ s.win = none ∧ a.locked = true) ∧
    (let q : List Instr := []; let d : Dev := ad (tsk 1 0xA 0) (fun q => { q with running := true }); let n : ActNo := 1;
     let a : Ac := d.acWith n (d.serving n); let s : Pos := a.q.pos; let on : Prop := a.q.running = true ∧ a.busy = true;
     on ∧ s.win = none ∧ a.locked = false ∧ a.rowsDone = true) ∧
    (let q : List Instr := [];
     let d : Dev := ad (tsk 1 0xA 0 ++ [(Reg.TSQ_TASK_LO 1 4 + 4,
       60 * 2 ^ 22)]) (fun q => { q with running := true, pos := { q.pos with left := 1 } });
     let n : ActNo := 1; let a : Ac := d.acWith n (d.serving n); let s : Pos := a.q.pos;
     let on : Prop := a.q.running = true ∧ a.busy = true;
     let go : Prop := on ∧ s.win = none ∧ a.locked = false ∧ a.rowsDone = false; go ∧ a.isZwrite = true ∧ s.slack = 0) ∧
    (let q : List Instr := [];
     let d : Dev := ad (tsk 1 0xA 0 ++ [(Reg.TSQ_TASK_LO 1 4 + 4,
       60 * 2 ^ 22)]) (fun q => { q with running := true, pos := { q.pos with left := 1, slack := 1, map := List.replicate 1019 0 } });
     let n : ActNo := 1; let a : Ac := d.acWith n (d.serving n); let s : Pos := a.q.pos;
     let on : Prop := a.q.running = true ∧ a.busy = true;
     let go : Prop := on ∧ s.win = none ∧ a.locked = false ∧ a.rowsDone = false;
     go ∧ (a.isZwrite = true → s.slack ≠ 0) ∧ 1020 < s.map.length + 2) ∧
    (let q : List Instr := [];
     let d : Dev := let d := ad (tsk 1 0xA 0 ++ [(Reg.TSQ_TASK_LO 1 4 + 4, 60 * 2 ^ 22), (Reg.TSQ_TASK_LO 1 6, 5)]) (fun q => { q with running := true, pos := { q.pos with left := 1, slack := 1 } });
     { d with plat := { d.plat with time := 7 } }; let n : ActNo := 1; let a : Ac := d.acWith n (d.serving n);
     let s : Pos := a.q.pos; let on : Prop := a.q.running = true ∧ a.busy = true;
     let go : Prop := on ∧ s.win = none ∧ a.locked = false ∧ a.rowsDone = false;
     go ∧ (a.isZwrite = true → s.slack ≠ 0) ∧ s.map.length + 2 ≤ 1020 ∧ a.deadline ≠ 0 ∧ a.deadline < d.plat.time.toNat) ∧
    (let q : List Instr := [];
     let d : Dev := ad (tsk 3 0xA 0 ++ [(Reg.TSQ_TASK_LO 1 4 + 4, 60 * 2 ^ 22)]) (fun q => { q with running := true });
     let n : ActNo := 1; let a : Ac := d.acWith n (d.serving n); let s : Pos := a.q.pos;
     let on : Prop := a.q.running = true ∧ a.busy = true;
     let fits : Prop := s.map.length + 2 ≤ 1020 ∧ (a.deadline = 0 ∨ d.plat.time.toNat ≤ a.deadline);
     let go : Prop := on ∧ s.win = none ∧ a.locked = false ∧ a.rowsDone = false; go ∧ a.isConv = true ∧ fits) ∧
    (let q : List Instr := [];
     let d : Dev := ad (tsk 1 0xA 0 ++ [(Reg.TSQ_TASK_LO 1 4 + 4, 60 * 2 ^ 22)]) (fun q => imgB 0x30 [1, 0, 4,
       0] { q with running := true, pos := { q.pos with left := 1, slack := 1, q := 2 } });
     let n : ActNo := 1; let a : Ac := d.acWith n (d.serving n); let s : Pos := a.q.pos;
     let on : Prop := a.q.running = true ∧ a.busy = true;
     let fits : Prop := s.map.length + 2 ≤ 1020 ∧ (a.deadline = 0 ∨ d.plat.time.toNat ≤ a.deadline);
     let go : Prop := on ∧ s.win = none ∧ a.locked = false ∧ a.rowsDone = false; let p := 2;
     go ∧ a.isConv = false ∧ (a.isZwrite = true → s.slack ≠ 0) ∧ fits ∧ s.q ≤ p ∧ p < a.img.tracks * a.img.perTrack ∧
       a.img.usable a.member p = true ∧ (∀ i, i < p → s.q ≤ i → a.img.usable a.member i = false)) ∧
    (let q : List Instr := [];
     let d : Dev := ad (tsk 2 0xA 0 ++ [(Reg.TSQ_TASK_LO 1 4 + 4, 60 * 2 ^ 22)]) (fun q => imgB 0x30 [1, 0, 4,
       0] { q with running := true, pos := { q.pos with left := 1, q := 4 } });
     let n : ActNo := 1; let a : Ac := d.acWith n (d.serving n); let s : Pos := a.q.pos;
     let on : Prop := a.q.running = true ∧ a.busy = true;
     let fits : Prop := s.map.length + 2 ≤ 1020 ∧ (a.deadline = 0 ∨ d.plat.time.toNat ≤ a.deadline);
     let go : Prop := on ∧ s.win = none ∧ a.locked = false ∧ a.rowsDone = false;
     go ∧ a.isConv = false ∧ (a.isZwrite = true → s.slack ≠ 0) ∧ fits ∧ (∀ i,
       i < a.img.tracks * a.img.perTrack → s.q ≤ i → a.img.usable a.member i = false)) ∧
    (let d : Dev := mk []; let n : ActNo := 1; let a : Ac := d.acWith n (d.serving n);
     let on : Prop := a.q.running = true ∧ a.busy = true; ¬ on) := by
  refine ⟨?_, ?_, ?_, ?_, ?_, ?_, ?_, ?_, ?_, ?_⟩
  all_goals ((try dsimp only [Dev.holdsAdmin, Dev.holdsIo]); try decide +kernel)

/-- The hypotheses of `Obligations.RowsOpenAndCloseByTheirRules`, part 2, are met. -/
theorem witness_RowsOpenAndCloseByTheirRules_part_2 :
    (let q : List Instr := [];
     let d : Dev := ad (tsk 1 0xA 0) (fun q => { q with running := true, pos := { q.pos with win := some ({ ww 110 50 .proceeding 0xA with ended := true }) } });
     let n : ActNo := 1; let w : Win := { ww 110 50 .proceeding 0xA with ended := true };
     let a : Ac := d.acWith n (d.serving n); let s : Pos := a.q.pos; let on : Prop := a.q.running = true ∧ a.busy = true;
     let ready : Prop := on ∧ s.win = some w ∧ w.ended = true ∧ (a.isRead = true → a.g.rg = 0);
     let judged : Prop := ready ∧ a.isRead = false ∧ w.st ≠ .stale ∧ w.st ≠ .notWritten; judged ∧ w.dropped = 0) ∧
    (let q : List Instr := [];
     let d : Dev := ad (tsk 1 0xA 0) (fun q => { q with running := true, pos := { q.pos with win := some ({ ww 110 50 .proceeding 0xA with ended := true, dropped := 2 }) } });
     let n : ActNo := 1; let w : Win := { ww 110 50 .proceeding 0xA with ended := true, dropped := 2 };
     let a : Ac := d.acWith n (d.serving n); let s : Pos := a.q.pos; let on : Prop := a.q.running = true ∧ a.busy = true;
     let ready : Prop := on ∧ s.win = some w ∧ w.ended = true ∧ (a.isRead = true → a.g.rg = 0);
     let judged : Prop := ready ∧ a.isRead = false ∧ w.st ≠ .stale ∧ w.st ≠ .notWritten; judged ∧ w.dropped ≠ 0) ∧
    (let q : List Instr := [];
     let d : Dev := ad (tsk 1 0xA 0) (fun q => { q with running := true, pos := { q.pos with win := some ({ ww 110 50 .notWritten 0xA with ended := true }) } });
     let n : ActNo := 1; let w : Win := { ww 110 50 .notWritten 0xA with ended := true };
     let a : Ac := d.acWith n (d.serving n); let s : Pos := a.q.pos; let on : Prop := a.q.running = true ∧ a.busy = true;
     let ready : Prop := on ∧ s.win = some w ∧ w.ended = true ∧ (a.isRead = true → a.g.rg = 0);
     ready ∧ a.isRead = false ∧ w.st = .notWritten) ∧
    (let q : List Instr := [];
     let d : Dev := ad (tsk 1 0xA 0) (fun q => { q with running := true, pos := { q.pos with win := some ({ ww 110 50 .stale 0xA with ended := true }) } });
     let n : ActNo := 1; let w : Win := { ww 110 50 .stale 0xA with ended := true }; let a : Ac := d.acWith n (d.serving n);
     let s : Pos := a.q.pos; let on : Prop := a.q.running = true ∧ a.busy = true;
     let ready : Prop := on ∧ s.win = some w ∧ w.ended = true ∧ (a.isRead = true → a.g.rg = 0);
     ready ∧ a.isRead = false ∧ w.st = .stale) ∧
    (let q : List Instr := [];
     let d : Dev := ad (tsk 2 0xA 0) (fun q => { q with running := true, pos := { q.pos with win := some ({ ww 110 50 .proceeding 0xA with ended := true }) } });
     let n : ActNo := 1; let w : Win := { ww 110 50 .proceeding 0xA with ended := true };
     let a : Ac := d.acWith n (d.serving n); let s : Pos := a.q.pos; let on : Prop := a.q.running = true ∧ a.busy = true;
     let ready : Prop := on ∧ s.win = some w ∧ w.ended = true ∧ (a.isRead = true → a.g.rg = 0);
     ready ∧ a.isRead = true ∧ a.readJudge w = false) ∧
    (let q : List Instr := [];
     let d : Dev := ad (tsk 2 0xA 0) (fun q => { q with running := true, pos := { q.pos with win := some ({ ww 110 50 .proceeding 0xA with ended := true }) } }) (fun g => { g with rows := [{ rr 50 [(0, ⟨2, 0, [1, 2], 5, 6, [], true, false⟩), (1, ⟨2, 0, [1, 2], 5, 6, [], true, false⟩)] with pend := false }] });
     let n : ActNo := 1; let w : Win := { ww 110 50 .proceeding 0xA with ended := true };
     let a : Ac := d.acWith n (d.serving n); let s : Pos := a.q.pos; let on : Prop := a.q.running = true ∧ a.busy = true;
     let ready : Prop := on ∧ s.win = some w ∧ w.ended = true ∧ (a.isRead = true → a.g.rg = 0);
     let r := { rr 50 [(0, ⟨2, 0, [1, 2], 5, 6, [], true, false⟩), (1, ⟨2, 0, [1, 2], 5, 6, [], true, false⟩)] with pend := false };
     ready ∧ a.isRead = true ∧ a.findRow w.lrow = some r ∧ a.readJudge w = true) ∧
    (let q : List Instr := [];
     let d : Dev := ad (tsk 2 0xA 0) (fun q => { q with running := true, pos := { q.pos with win := some (ww 110 50 .proceeding 0xA) } });
     let n : ActNo := 1; let w : Win := ww 110 50 .proceeding 0xA; let a : Ac := d.acWith n (d.serving n);
     let s : Pos := a.q.pos; let on : Prop := a.q.running = true ∧ a.busy = true;
     on ∧ (s.win = none ∨ s.win = some w ∧ (w.ended = false ∨ a.isRead = true ∧ a.g.rg ≠ 0))) ∧
    (let d : Dev := mk []; let n : ActNo := 1; let w : Win := ww 110 50 .granted 0xA;
     let a : Ac := d.acWith n (d.serving n); let on : Prop := a.q.running = true ∧ a.busy = true; ¬ on) := by
  refine ⟨?_, ?_, ?_, ?_, ?_, ?_, ?_, ?_⟩
  all_goals ((try dsimp only [Dev.holdsAdmin, Dev.holdsIo]); try decide +kernel)

/-- The hypotheses of `Obligations.ReadGatesCaptureASector` are met. -/
theorem witness_ReadGatesCaptureASector :
    (let d : Dev := ad (tsk 2 0xA 0 ++ []) (wp (ww 110 50 .proceeding 0xA)) (fun g => { g with rows := [rr 49 [], rr 50 [(1, ⟨1, 5, [], 0, 0, [], false, false⟩)], rr 51 []], rgArm := 0xA, chn := 0xA, rg := 2 });
     let n : ActNo := 1; let h : HeadNo := 3; let a : Ac := d.acWith n (d.serving n);
     let up (m : Nat) : Prop := m.testBit h = true; let w := ww 110 50 .proceeding 0xA;
     let r := rr 50 [(1, ⟨1, 5, [], 0, 0, [], false, false⟩)];
     a.q.pos.win = some w ∧ a.findRow w.lrow = some r ∧ a.isRead = true ∧ w.st = .proceeding ∧ up a.g.rgArm ∧ up a.g.chn ∧
       ¬ up a.g.rg) ∧
    (let d : Dev := ad (tsk 2 0xA 0 ++ []) (wp (ww 110 50 .proceeding 0xA)) (fun g => { g with rows := [rr 49 [], rr 50 [(1, ⟨1, 5, [], 0, 0, [], false, false⟩)], rr 51 []], rgArm := 0xA });
     let n : ActNo := 1; let h : HeadNo := 3; let a : Ac := d.acWith n (d.serving n);
     let up (m : Nat) : Prop := m.testBit h = true;
     (a.isRead = false ∨ a.q.pos.win = none ∨ ¬ up a.g.rgArm ∨ ¬ up a.g.chn ∨ up a.g.rg)) ∧
    (let d : Dev := ad (tsk 2 0xA 0 ++ []) (wp (ww 110 50 .proceeding 0xA)) (fun g => { g with rows := [rr 49 [], rr 50 [(1, ⟨1, 5, [], 0, 0, [], false, false⟩)], rr 51 []], rg := 0xA });
     let n : ActNo := 1; let h : HeadNo := 3; let a : Ac := d.acWith n (d.serving n);
     let up (m : Nat) : Prop := m.testBit h = true; up a.g.rg) ∧
    (let d : Dev := ad (tsk 2 0xA 0 ++ []) (wp (ww 110 50 .proceeding 0xA)) (fun g => { g with rows := [rr 49 [], rr 50 [(1, ⟨1, 5, [], 0, 0, [], false, false⟩)], rr 51 []], rgArm := 0xA, chn := 0xA, rg := 2 });
     let n : ActNo := 1; let h : HeadNo := 3; let a : Ac := d.acWith n (d.serving n);
     let up (m : Nat) : Prop := m.testBit h = true; ¬ up a.g.rg) ∧
    (let d : Dev := ad (tsk 2 0xA 0 ++ []) (wp (ww 110 50 .proceeding 0xA)) (fun g => { g with rows := [rr 49 [], rr 50 [(1, ⟨1, 5, [], 0, 0, [], false, false⟩)], rr 51 []], rg := 8, acq := 8 });
     let n : ActNo := 1; let h : HeadNo := 3; let a : Ac := d.acWith n (d.serving n);
     let up (m : Nat) : Prop := m.testBit h = true; up a.g.acq ∧ d.plat.on (4 * n.val) = true) ∧
    (let d : Dev := ad (tsk 2 0xA 0 ++ []) (wp (ww 110 50 .proceeding 0xA)) (fun g => { g with rows := [rr 49 [], rr 50 [(1, ⟨1, 5, [], 0, 0, [], false, false⟩)], rr 51 []], rgArm := 0xA, chn := 0xA, rg := 2 });
     let n : ActNo := 1; let h : HeadNo := 3; let a : Ac := d.acWith n (d.serving n);
     let up (m : Nat) : Prop := m.testBit h = true; (¬ up a.g.acq ∨ d.plat.on (4 * n.val) = false)) := by
  refine ⟨?_, ?_, ?_, ?_, ?_, ?_⟩
  all_goals ((try dsimp only [Dev.holdsAdmin, Dev.holdsIo]); try decide +kernel)

/-- The hypotheses of `Obligations.FramingDecidesTheSyncCode` are met. -/
theorem witness_FramingDecidesTheSyncCode :
    (let d : Dev := ad (tsk 2 0xA 0 ++ [(Reg.RFE_SYNC_CFG 1 3, fs [(Fld.RFE_SYNC_CFG_SM1_THR, 7), (Fld.RFE_SYNC_CFG_SM2_THR,
       3)]), (Reg.RFE_RDR_CFG 1 3 1, fs [(Fld.RFE_RDR_CFG_ON,
       1)])]) (imgB 0x44 [200] ∘ wp (ww 110 50 .proceeding 0xA)) (fun g => { g with rows := [rr 49 [], rr 50 [(1, ⟨1, 5, [], 0, 0, [], false, false⟩)], rr 51 []], rg := 0xA });
     let n : ActNo := 1; let h : HeadNo := 3; let ds1 : Nats := [7, 8, 6, 3]; let ds2 : Nats := [4, 4];
     let r : RRow := rr 50 [(1, ⟨1, 5, [], 0, 0, [], false, false⟩)]; let x : RSlot := ⟨1, 5, [], 0, 0, [], false, false⟩;
     let a : Ac := d.acWith n (d.serving n);
     let t1 : Nat := min (d.plat.fld (Reg.RFE_SYNC_CFG n h) Fld.RFE_SYNC_CFG_SM1_THR) 6;
     let t2 : Nat := min (d.plat.fld (Reg.RFE_SYNC_CFG n h) Fld.RFE_SYNC_CFG_SM2_THR) 6;
     let hit (t : Nat) (ds : Nats) (i : Nat) : Prop := i < ds.length ∧ ds.getD i 0 ≤ t;
     let miss (t : Nat) (ds : Nats) : Prop := ∀ i, i < ds.length → ¬ hit t ds i;
     let first (i : Nat) : Prop := hit t1 ds1 i ∧ ∀ j, j < i → ¬ hit t1 ds1 j;
     let on : Prop := d.plat.on (4 * n.val) = true ∧ d.plat.on (4 * n.val + 1) = true;
     let i : Instr := .framingDecision n h ds1 ds2; a.capturing h = some (r, x) ∧ on ∧ a.readerOn h = true ∧ let i1 := 2;
     first i1 ∧ miss t2 ds2) ∧
    (let d : Dev := ad (tsk 2 0xA 0 ++ [(Reg.RFE_SYNC_CFG 1 3, fs [(Fld.RFE_SYNC_CFG_SM1_THR, 7), (Fld.RFE_SYNC_CFG_SM2_THR,
       3)]), (Reg.RFE_RDR_CFG 1 3 1, fs [(Fld.RFE_RDR_CFG_ON,
       1)])]) (imgB 0x44 [200] ∘ wp (ww 110 50 .proceeding 0xA)) (fun g => { g with rows := [rr 49 [], rr 50 [(1, ⟨1, 5, [], 0, 0, [], false, false⟩)], rr 51 []], rg := 0xA });
     let n : ActNo := 1; let h : HeadNo := 3; let ds1 : Nats := [6, 0]; let ds2 : Nats := [4, 4, 1, 4, 3, 9];
     let r : RRow := rr 50 [(1, ⟨1, 5, [], 0, 0, [], false, false⟩)]; let x : RSlot := ⟨1, 5, [], 0, 0, [], false, false⟩;
     let a : Ac := d.acWith n (d.serving n);
     let t1 : Nat := min (d.plat.fld (Reg.RFE_SYNC_CFG n h) Fld.RFE_SYNC_CFG_SM1_THR) 6;
     let t2 : Nat := min (d.plat.fld (Reg.RFE_SYNC_CFG n h) Fld.RFE_SYNC_CFG_SM2_THR) 6;
     let hit (t : Nat) (ds : Nats) (i : Nat) : Prop := i < ds.length ∧ ds.getD i 0 ≤ t;
     let first (i : Nat) : Prop := hit t1 ds1 i ∧ ∀ j, j < i → ¬ hit t1 ds1 j;
     let best (j : Nat) : Prop := hit t2 ds2 j ∧ ∀ k, k < ds2.length → k ≠ j → hit t2 ds2 k → ds2.getD j 0 < ds2.getD k 0;
     let on : Prop := d.plat.on (4 * n.val) = true ∧ d.plat.on (4 * n.val + 1) = true;
     let i : Instr := .framingDecision n h ds1 ds2; a.capturing h = some (r, x) ∧ on ∧ a.readerOn h = true ∧ let i1 := 0;
     let j := 2; first i1 ∧ best j) ∧
    (let d : Dev := ad (tsk 2 0xA 0 ++ [(Reg.RFE_SYNC_CFG 1 3, fs [(Fld.RFE_SYNC_CFG_SM1_THR, 7), (Fld.RFE_SYNC_CFG_SM2_THR,
       3)]), (Reg.RFE_RDR_CFG 1 3 1, fs [(Fld.RFE_RDR_CFG_ON,
       1)])]) (imgB 0x44 [200] ∘ wp (ww 110 50 .proceeding 0xA)) (fun g => { g with rows := [rr 49 [], rr 50 [(1, ⟨1, 5, [], 0, 0, [], false, false⟩)], rr 51 []], rg := 0xA });
     let n : ActNo := 1; let h : HeadNo := 3; let ds1 : Nats := [7]; let ds2 : Nats := [4, 4, 4, 4, 3, 9];
     let r : RRow := rr 50 [(1, ⟨1, 5, [], 0, 0, [], false, false⟩)]; let x : RSlot := ⟨1, 5, [], 0, 0, [], false, false⟩;
     let a : Ac := d.acWith n (d.serving n);
     let t1 : Nat := min (d.plat.fld (Reg.RFE_SYNC_CFG n h) Fld.RFE_SYNC_CFG_SM1_THR) 6;
     let t2 : Nat := min (d.plat.fld (Reg.RFE_SYNC_CFG n h) Fld.RFE_SYNC_CFG_SM2_THR) 6;
     let hit (t : Nat) (ds : Nats) (i : Nat) : Prop := i < ds.length ∧ ds.getD i 0 ≤ t;
     let miss (t : Nat) (ds : Nats) : Prop := ∀ i, i < ds.length → ¬ hit t ds i;
     let best (j : Nat) : Prop := hit t2 ds2 j ∧ ∀ k, k < ds2.length → k ≠ j → hit t2 ds2 k → ds2.getD j 0 < ds2.getD k 0;
     let on : Prop := d.plat.on (4 * n.val) = true ∧ d.plat.on (4 * n.val + 1) = true;
     let i : Instr := .framingDecision n h ds1 ds2; a.capturing h = some (r, x) ∧ on ∧ a.readerOn h = true ∧ let j := 4;
     miss t1 ds1 ∧ best j) ∧
    (let d : Dev := ad (tsk 2 0xA 0 ++ [(Reg.RFE_SYNC_CFG 1 3, fs [(Fld.RFE_SYNC_CFG_SM1_THR, 7), (Fld.RFE_SYNC_CFG_SM2_THR,
       3)]), (Reg.RFE_RDR_CFG 1 3 1, fs [(Fld.RFE_RDR_CFG_ON,
       1)])]) (imgB 0x44 [200] ∘ wp (ww 110 50 .proceeding 0xA)) (fun g => { g with rows := [rr 49 [], rr 50 [(1, ⟨1, 5, [], 0, 0, [], false, false⟩)], rr 51 []], rg := 0xA });
     let n : ActNo := 1; let h : HeadNo := 3; let ds1 : Nats := [7]; let ds2 : Nats := [4];
     let r : RRow := rr 50 [(1, ⟨1, 5, [], 0, 0, [], false, false⟩)]; let x : RSlot := ⟨1, 5, [], 0, 0, [], false, false⟩;
     let a : Ac := d.acWith n (d.serving n);
     let t1 : Nat := min (d.plat.fld (Reg.RFE_SYNC_CFG n h) Fld.RFE_SYNC_CFG_SM1_THR) 6;
     let t2 : Nat := min (d.plat.fld (Reg.RFE_SYNC_CFG n h) Fld.RFE_SYNC_CFG_SM2_THR) 6;
     let hit (t : Nat) (ds : Nats) (i : Nat) : Prop := i < ds.length ∧ ds.getD i 0 ≤ t;
     let miss (t : Nat) (ds : Nats) : Prop := ∀ i, i < ds.length → ¬ hit t ds i;
     let on : Prop := d.plat.on (4 * n.val) = true ∧ d.plat.on (4 * n.val + 1) = true;
     let i : Instr := .framingDecision n h ds1 ds2;
     a.capturing h = some (r, x) ∧ on ∧ a.readerOn h = true ∧ miss t1 ds1 ∧ miss t2 ds2) ∧
    (let d : Dev := ad (tsk 2 0xA 0 ++ []) (wp (ww 110 50 .proceeding 0xA)) (fun g => { g with rows := [rr 49 [], rr 50 [(1, ⟨1, 5, [], 0, 0, [], false, false⟩)], rr 51 []], rg := 0xA });
     let n : ActNo := 1; let h : HeadNo := 3; let r : RRow := rr 50 [(1, ⟨1, 5, [], 0, 0, [], false, false⟩)];
     let x : RSlot := ⟨1, 5, [], 0, 0, [], false, false⟩; let a : Ac := d.acWith n (d.serving n);
     let on : Prop := d.plat.on (4 * n.val) = true ∧ d.plat.on (4 * n.val + 1) = true;
     a.capturing h = some (r, x) ∧ on ∧ a.readerOn h = false) ∧
    (let d : Dev := mk []; let n : ActNo := 1; let h : HeadNo := 3; let a : Ac := d.acWith n (d.serving n);
     a.capturing h = none) ∧
    (let d : Dev := offD 4 (mk []); let n : ActNo := 1; let h : HeadNo := 3;
     let on : Prop := d.plat.on (4 * n.val) = true ∧ d.plat.on (4 * n.val + 1) = true; ¬ on) := by
  refine ⟨?_, ?_, ?_, ?_, ?_, ?_, ?_⟩
  all_goals ((try dsimp only [Dev.holdsAdmin, Dev.holdsIo]); try decide +kernel)

/-- The hypotheses of `Obligations.AsperitiesTrimsAndReadSpares`, part 1, are met. -/
theorem witness_AsperitiesTrimsAndReadSpares_part_1 :
    (let d : Dev := ad (tsk 2 0xA 0 ++ [(Reg.RFE_TA_CFG 1 3, fs [(Fld.RFE_TA_CFG_EN, 1), (Fld.RFE_TA_CFG_HOLD_MAX, 3)]),
       (Reg.RFE_RDR_CFG 1 3 1, fs [(Fld.RFE_RDR_CFG_ON,
       1)])]) (wp (ww 110 50 .proceeding 0xA)) (fun g => { g with rows := [rr 49 [], rr 50 [(1, ⟨1, 5, [], 0, 0, [], false, false⟩)], rr 51 []], rg := 0xA });
     let n : ActNo := 1; let i : InputNo := 10; let h : HeadNo := 3; let a : Ac := d.acWith n (d.serving n);
     let head : Nat := i.val / 3; let up (m : Nat) : Prop := m.testBit i = true;
     let rfe : Prop := d.plat.on (4 * n.val) = true;
     let live : Prop := rfe ∧ d.plat.bit (Reg.RFE_TA_CFG n head) Fld.RFE_TA_CFG_EN = true ∧
       d.plat.bit (Reg.RFE_RDR_CFG n head (i.val % 3)) Fld.RFE_RDR_CFG_ON = true;
     live ∧ ¬ up a.g.ta) ∧
    (let d : Dev := mk []; let n : ActNo := 1; let i : InputNo := 10; let h : HeadNo := 3;
     let a : Ac := d.acWith n (d.serving n); let head : Nat := i.val / 3; let up (m : Nat) : Prop := m.testBit i = true;
     let rfe : Prop := d.plat.on (4 * n.val) = true;
     let live : Prop := rfe ∧ d.plat.bit (Reg.RFE_TA_CFG n head) Fld.RFE_TA_CFG_EN = true ∧
       d.plat.bit (Reg.RFE_RDR_CFG n head (i.val % 3)) Fld.RFE_RDR_CFG_ON = true;
     (¬ live ∨ up a.g.ta)) ∧
    (let d : Dev := ad (tsk 2 0xA 0 ++ []) (wp (ww 110 50 .proceeding 0xA)) (fun g => { g with rows := [rr 49 [], rr 50 [(1, ⟨1, 5, [], 0, 0, [], false, false⟩)], rr 51 []], rg := 0xA, ta := 2 ^ 10 });
     let n : ActNo := 1; let i : InputNo := 10; let h : HeadNo := 3; let a : Ac := d.acWith n (d.serving n);
     let up (m : Nat) : Prop := m.testBit i = true; up a.g.ta) ∧
    (let d : Dev := mk []; let n : ActNo := 1; let i : InputNo := 10; let h : HeadNo := 3;
     let a : Ac := d.acWith n (d.serving n); let up (m : Nat) : Prop := m.testBit i = true; ¬ up a.g.ta) ∧
    (let d : Dev := ad (tsk 2 0xA 0 ++ [(Reg.RFE_TA_CFG 1 3, fs [(Fld.RFE_TA_CFG_EN, 1), (Fld.RFE_TA_CFG_HOLD_MAX,
       3)])]) (wp (ww 110 50 .proceeding 0xA)) (fun g => { g with rows := [rr 49 [], rr 50 [(1, ⟨1, 5, [], 0, 0, [], false, false⟩)], rr 51 []], rg := 0xA, ta := 2 ^ 10 });
     let n : ActNo := 1; let i : InputNo := 10; let h : HeadNo := 3; let a : Ac := d.acWith n (d.serving n);
     let head : Nat := i.val / 3; let up (m : Nat) : Prop := m.testBit i = true;
     let rfe : Prop := d.plat.on (4 * n.val) = true;
     rfe ∧ up a.g.ta ∧ d.plat.fld (Reg.RFE_TA_CFG n head) Fld.RFE_TA_CFG_HOLD_MAX ≠ 0) ∧
    (let d : Dev := mk []; let n : ActNo := 1; let i : InputNo := 10; let h : HeadNo := 3;
     let a : Ac := d.acWith n (d.serving n); let head : Nat := i.val / 3; let up (m : Nat) : Prop := m.testBit i = true;
     (¬ up a.g.ta ∨ d.plat.fld (Reg.RFE_TA_CFG n head) Fld.RFE_TA_CFG_HOLD_MAX = 0)) ∧
    (let d : Dev := mk [(Reg.DET_DROP 1 3, fs [(Fld.DET_DROP_EN, 1)])]; let n : ActNo := 1; let i : InputNo := 10;
     let h : HeadNo := 3; let a : Ac := d.acWith n (d.serving n); let drop : Nat := Reg.DET_DROP n (a.detHd h);
     d.plat.bit drop Fld.DET_DROP_EN = true ∧ d.plat.on (4 * n.val + 1) = true) ∧
    (let d : Dev := mk [(Reg.DET_DROP 1 3, 0)]; let n : ActNo := 1; let i : InputNo := 10; let h : HeadNo := 3;
     let a : Ac := d.acWith n (d.serving n); let drop : Nat := Reg.DET_DROP n (a.detHd h);
     d.plat.bit drop Fld.DET_DROP_EN = false) ∧
    (let d : Dev := offD 4 (mk []); let n : ActNo := 1; let i : InputNo := 10; let h : HeadNo := 3;
     let rfe : Prop := d.plat.on (4 * n.val) = true; ¬ rfe) := by
  refine ⟨?_, ?_, ?_, ?_, ?_, ?_, ?_, ?_, ?_⟩
  all_goals ((try dsimp only [Dev.holdsAdmin, Dev.holdsIo]); try decide +kernel)

/-- The hypotheses of `Obligations.AsperitiesTrimsAndReadSpares`, part 2, are met. -/
theorem witness_AsperitiesTrimsAndReadSpares_part_2 :
    (let d : Dev := mk [(Reg.RFE_SPARE 1 1, fs [(Fld.RFE_SPARE_EN, 1), (Fld.RFE_SPARE_INPUT, 5)])]; let n : ActNo := 1;
     let k : PairNo := 0; let v : Word := BitVec.ofNat 32 (fs [(Fld.RFE_SPARE_EN, 1), (Fld.RFE_SPARE_INPUT, 5)]);
     let r : Nat := Reg.RFE_SPARE n k; let o : Word := d.plat.rd (Reg.RFE_SPARE n (1 - k.val));
     let names (w : Word) (m : Nat) : Prop := Fld.get Fld.RFE_SPARE_EN w = 1 ∧ Fld.get Fld.RFE_SPARE_INPUT w = m ∧ m < 24;
     let clash : Prop := ∃ m : InputNo, names v m ∧ names o m; let still : Bool := (d.act n).gate.still;
     d.powered r ∧ clash ∧ still = false) ∧
    (let d : Dev := ad [] id (fun g => { g with still := true }); let n : ActNo := 1; let k : PairNo := 0;
     let r : Nat := Reg.RFE_SPARE n k; let still : Bool := (d.act n).gate.still; d.powered r ∧ still = true) ∧
    (let d : Dev := mk [(Reg.RFE_SPARE 1 1, fs [(Fld.RFE_SPARE_EN, 1), (Fld.RFE_SPARE_INPUT, 31)])]; let n : ActNo := 1;
     let k : PairNo := 0; let v : Word := BitVec.ofNat 32 (fs [(Fld.RFE_SPARE_EN, 1), (Fld.RFE_SPARE_INPUT, 31)]);
     let r : Nat := Reg.RFE_SPARE n k; let o : Word := d.plat.rd (Reg.RFE_SPARE n (1 - k.val));
     let names (w : Word) (m : Nat) : Prop := Fld.get Fld.RFE_SPARE_EN w = 1 ∧ Fld.get Fld.RFE_SPARE_INPUT w = m ∧ m < 24;
     let clash : Prop := ∃ m : InputNo, names v m ∧ names o m; let still : Bool := (d.act n).gate.still;
     d.powered r ∧ ¬ clash ∧ still = false) ∧
    (let d : Dev := mk []; let n : ActNo := 1; let k : PairNo := 0; let det : Nat := Reg.DET_SPARE n; d.powered det) := by
  refine ⟨?_, ?_, ?_, ?_⟩
  all_goals ((try dsimp only [Dev.holdsAdmin, Dev.holdsIo]); try decide +kernel)

/-- The hypotheses of `Obligations.DecodesGiveSectorResults` are met. -/
theorem witness_DecodesGiveSectorResults :
    (let d : Dev := ad (tsk 2 0xA 0) (wp (ww 110 50 .proceeding 0xA)) (fun g => { g with rows := [rr 49 [(1, ⟨1, 5, [], 0, 0, [], false, false⟩)], rr 50 [(1, ⟨1, 5 * 2 ^ 48, [], 0, 0, [(0, 1000000)], true, false⟩)] 0] });
     let n : ActNo := 1; let h : HeadNo := 3;
     let r : RRow := rr 50 [(1, ⟨1, 5 * 2 ^ 48, [], 0, 0, [(0, 1000000)], true, false⟩)] 0;
     let a : Ac := d.acWith n (d.serving n); let s : Nat := a.slotNo h; let x : RSlot := r.slot s;
     let waits (y : RRow) : Bool := (y.slot s).st == 1 && (y.slot s).framed;
     let limit : Nat := d.plat.fld (Reg.DET_DROP n (a.detHd h)) Fld.DET_DROP_MAXERA;
     let on : Prop := a.isRead = true ∧ a.headset.testBit h = true ∧ d.plat.on (4 * n.val + 1) = true;
     on ∧ a.g.rows.find? waits = some r ∧ a.findRow r.lrow = some r ∧ limit < erasedBits x.eras) ∧
    (let d : Dev := ad (tsk 2 0xA 0) (wp (ww 110 50 .proceeding 0xA)) (fun g => { g with rows := [rr 49 [(1, ⟨1, 5, [], 0, 0, [], false, false⟩)], rr 50 [(1, ⟨1, 5 * 2 ^ 48, [], 0, 0, [], true, false⟩)] 0] });
     let n : ActNo := 1; let h : HeadNo := 3; let info : Bytes := []; let parity : Nat := 1;
     let r : RRow := rr 50 [(1, ⟨1, 5 * 2 ^ 48, [], 0, 0, [], true, false⟩)] 0; let a : Ac := d.acWith n (d.serving n);
     let s : Nat := a.slotNo h; let x : RSlot := r.slot s;
     let waits (y : RRow) : Bool := (y.slot s).st == 1 && (y.slot s).framed;
     let limit : Nat := d.plat.fld (Reg.DET_DROP n (a.detHd h)) Fld.DET_DROP_MAXERA;
     let on : Prop := a.isRead = true ∧ a.headset.testBit h = true ∧ d.plat.on (4 * n.val + 1) = true;
     on ∧ a.g.rows.find? waits = some r ∧ a.findRow r.lrow = some r ∧ erasedBits x.eras ≤ limit ∧ ldpcParity info ≠ parity) ∧
    (let d : Dev := ad (tsk 2 0xA 0) (wp (ww 110 50 .proceeding 0xA)) (fun g => { g with rows := [rr 49 [(1, ⟨1, 5, [], 0, 0, [], false, false⟩)], rr 50 [(1, ⟨1, 5 * 2 ^ 48, [], 0, 0, [], true, false⟩)] 0] });
     let n : ActNo := 1; let h : HeadNo := 3; let info : Bytes := List.replicate 33 0;
     let parity : Nat := ldpcParity (List.replicate 33 0);
     let r : RRow := rr 50 [(1, ⟨1, 5 * 2 ^ 48, [], 0, 0, [], true, false⟩)] 0; let a : Ac := d.acWith n (d.serving n);
     let s : Nat := a.slotNo h; let x : RSlot := r.slot s;
     let waits (y : RRow) : Bool := (y.slot s).st == 1 && (y.slot s).framed;
     let limit : Nat := d.plat.fld (Reg.DET_DROP n (a.detHd h)) Fld.DET_DROP_MAXERA;
     let on : Prop := a.isRead = true ∧ a.headset.testBit h = true ∧ d.plat.on (4 * n.val + 1) = true;
     on ∧ a.g.rows.find? waits = some r ∧ a.findRow r.lrow = some r ∧ erasedBits x.eras ≤ limit ∧ ldpcParity info = parity ∧
       crc32 (info.take 4112) ≠ leNat (info.drop 4112)) ∧
    (let d : Dev := ad (tsk 2 0xA 0) (wp (ww 110 50 .proceeding 0xA)) (fun g => { g with rows := [rr 49 [(1, ⟨1, 5, [], 0, 0, [], false, false⟩)], rr 51 [(1, ⟨1, 5 * 2 ^ 48, [], 0, 0, [], true, false⟩)] 0] });
     let n : ActNo := 1; let h : HeadNo := 3; let info : Bytes := leafData; let parity : Nat := ldpcParity leafData;
     let r : RRow := rr 51 [(1, ⟨1, 5 * 2 ^ 48, [], 0, 0, [], true, false⟩)] 0; let a : Ac := d.acWith n (d.serving n);
     let s : Nat := a.slotNo h; let x : RSlot := r.slot s;
     let waits (y : RRow) : Bool := (y.slot s).st == 1 && (y.slot s).framed;
     let m : Nat := leNat ((info.drop 4096).take 16);
     let limit : Nat := d.plat.fld (Reg.DET_DROP n (a.detHd h)) Fld.DET_DROP_MAXERA;
     let on : Prop := a.isRead = true ∧ a.headset.testBit h = true ∧ d.plat.on (4 * n.val + 1) = true;
     on ∧ a.g.rows.find? waits = some r ∧ a.findRow r.lrow = some r ∧ erasedBits x.eras ≤ limit ∧ ldpcParity info = parity ∧
       crc32 (info.take 4112) = leNat (info.drop 4112) ∧ info.length = 4116 ∧
       a.metaOk r.lrow s (m % 2 ^ 64) (m / 2 ^ 64) = false) ∧
    (let d : Dev := ad (tsk 2 0xA 0) (wp (ww 110 50 .proceeding 0xA)) (fun g => { g with rows := [rr 49 [(1, ⟨1, 5, [], 0, 0, [], false, false⟩)], rr 50 [(1, ⟨1, 5 * 2 ^ 48, [], 0, 0, [], true, false⟩)] 0] });
     let n : ActNo := 1; let h : HeadNo := 3; let info : Bytes := leafData; let parity : Nat := ldpcParity leafData;
     let r : RRow := rr 50 [(1, ⟨1, 5 * 2 ^ 48, [], 0, 0, [], true, false⟩)] 0; let a : Ac := d.acWith n (d.serving n);
     let s : Nat := a.slotNo h; let x : RSlot := r.slot s;
     let waits (y : RRow) : Bool := (y.slot s).st == 1 && (y.slot s).framed;
     let m : Nat := leNat ((info.drop 4096).take 16);
     let limit : Nat := d.plat.fld (Reg.DET_DROP n (a.detHd h)) Fld.DET_DROP_MAXERA;
     let on : Prop := a.isRead = true ∧ a.headset.testBit h = true ∧ d.plat.on (4 * n.val + 1) = true;
     on ∧ a.g.rows.find? waits = some r ∧ a.findRow r.lrow = some r ∧ erasedBits x.eras ≤ limit ∧ ldpcParity info = parity ∧
       crc32 (info.take 4112) = leNat (info.drop 4112) ∧ info.length = 4116 ∧
       a.metaOk r.lrow s (m % 2 ^ 64) (m / 2 ^ 64) = true) ∧
    (let d : Dev := mk []; let n : ActNo := 1; let h : HeadNo := 0; let a : Ac := d.acWith n (d.serving n);
     let s : Nat := a.slotNo h; let waits (y : RRow) : Bool := (y.slot s).st == 1 && (y.slot s).framed;
     a.g.rows.find? waits = none) ∧
    (let d : Dev := mk []; let n : ActNo := 1; let h : HeadNo := 0; let a : Ac := d.acWith n (d.serving n);
     let on : Prop := a.isRead = true ∧ a.headset.testBit h = true ∧ d.plat.on (4 * n.val + 1) = true; ¬ on) := by
  refine ⟨?_, ?_, ?_, ?_, ?_, ?_, ?_⟩
  · (try dsimp only [Dev.holdsAdmin, Dev.holdsIo]); try decide +kernel
  · (try dsimp only [Dev.holdsAdmin, Dev.holdsIo]); try decide +kernel
  · (try dsimp only [Dev.holdsAdmin, Dev.holdsIo]); try decide +kernel
  · intro d n h info parity r a s x waits m limit on; exact ⟨by decide +kernel, by decide +kernel, by decide +kernel, by decide +kernel, rfl, leaf_crc, leaf_length, by rw [show m = leNat leafMeta from congrArg leNat leaf_meta]; decide +kernel⟩
  · intro d n h info parity r a s x waits m limit on; exact ⟨by decide +kernel, by decide +kernel, by decide +kernel, by decide +kernel, rfl, leaf_crc, leaf_length, by rw [show m = leNat leafMeta from congrArg leNat leaf_meta]; decide +kernel⟩
  · (try dsimp only [Dev.holdsAdmin, Dev.holdsIo]); try decide +kernel
  · (try dsimp only [Dev.holdsAdmin, Dev.holdsIo]); try decide +kernel

/-- The hypotheses of `Obligations.ArmatureTakesCommandsAtTheWedge` are met. -/
theorem witness_ArmatureTakesCommandsAtTheWedge :
    (let d : Dev := mk []; let c : CoreNo := 0; let n : ActNo := 1;
     let cmds : List (Nat × Nat × Instr) := [(1, 0, .armCmdOff c n), (2, 1, .armCmdLoad c n), (3, 6, .armCmdRetract c n),
       (4, 7, .armCmdDirect c n)];
     let k := 1; let target := 0; let i := (Instr.armCmdOff c n); (k, target, i) ∈ cmds ∧ d.powered (Reg.ARM_CTRL n)) ∧
    (let d : Dev := mk []; let c : CoreNo := 0; let n : ActNo := 1;
     let cmds : List (Nat × Nat × Instr) := [(1, 0, .armCmdOff c n), (2, 1, .armCmdLoad c n), (3, 6, .armCmdRetract c n),
       (4, 7, .armCmdDirect c n)];
     let k := 2; let target := 1; let i := (Instr.armCmdLoad c n); (k, target, i) ∈ cmds ∧ d.powered (Reg.ARM_CTRL n)) ∧
    (let d : Dev := mk []; let c : CoreNo := 0; let n : ActNo := 1;
     let cmds : List (Nat × Nat × Instr) := [(1, 0, .armCmdOff c n), (2, 1, .armCmdLoad c n), (3, 6, .armCmdRetract c n),
       (4, 7, .armCmdDirect c n)];
     let k := 3; let target := 6; let i := (Instr.armCmdRetract c n); (k, target, i) ∈ cmds ∧ d.powered (Reg.ARM_CTRL n)) ∧
    (let d : Dev := mk []; let c : CoreNo := 0; let n : ActNo := 1;
     let cmds : List (Nat × Nat × Instr) := [(1, 0, .armCmdOff c n), (2, 1, .armCmdLoad c n), (3, 6, .armCmdRetract c n),
       (4, 7, .armCmdDirect c n)];
     let k := 4; let target := 7; let i := (Instr.armCmdDirect c n); (k, target, i) ∈ cmds ∧ d.powered (Reg.ARM_CTRL n)) ∧
    (let d : Dev := am [md 5] (fun m => { m with cmd := some 1 }); let c : CoreNo := 0; let n : ActNo := 1;
     let m : Arm := (d.act n).arm; let mode : Nat := d.plat.fld (Reg.ARM_STATUS n) Fld.ARM_STATUS_MODE;
     let on : Prop := d.plat.on (4 * n.val + 3) = true;
     let cmds : List (Nat × Nat × Instr) := [(1, 0, .armCmdOff c n), (2, 1, .armCmdLoad c n), (3, 6, .armCmdRetract c n),
       (4, 7, .armCmdDirect c n)];
     let allowed (k : Nat) : Prop := k = 1 ∨ k = 3 ∨ (k = 2 ∧ (mode = 0 ∨ mode = 5 ∨ mode = 6)) ∨ (k = 4 ∧ mode = 0 ∧
       d.plat.effAct n = 2);
     let k := 1; let target := 0; let i := (Instr.armCmdOff c n); (k, target, i) ∈ cmds ∧ on ∧ m.cmd = some k ∧ allowed k) ∧
    (let d : Dev := am [md 6] (fun m => { m with cmd := some 2 }); let c : CoreNo := 0; let n : ActNo := 1;
     let m : Arm := (d.act n).arm; let mode : Nat := d.plat.fld (Reg.ARM_STATUS n) Fld.ARM_STATUS_MODE;
     let on : Prop := d.plat.on (4 * n.val + 3) = true;
     let cmds : List (Nat × Nat × Instr) := [(1, 0, .armCmdOff c n), (2, 1, .armCmdLoad c n), (3, 6, .armCmdRetract c n),
       (4, 7, .armCmdDirect c n)];
     let allowed (k : Nat) : Prop := k = 1 ∨ k = 3 ∨ (k = 2 ∧ (mode = 0 ∨ mode = 5 ∨ mode = 6)) ∨ (k = 4 ∧ mode = 0 ∧
       d.plat.effAct n = 2);
     let k := 2; let target := 1; let i := (Instr.armCmdLoad c n); (k, target, i) ∈ cmds ∧ on ∧ m.cmd = some k ∧ allowed k) ∧
    (let d : Dev := am [md 2] (fun m => { m with cmd := some 3 }); let c : CoreNo := 0; let n : ActNo := 1;
     let m : Arm := (d.act n).arm; let mode : Nat := d.plat.fld (Reg.ARM_STATUS n) Fld.ARM_STATUS_MODE;
     let on : Prop := d.plat.on (4 * n.val + 3) = true;
     let cmds : List (Nat × Nat × Instr) := [(1, 0, .armCmdOff c n), (2, 1, .armCmdLoad c n), (3, 6, .armCmdRetract c n),
       (4, 7, .armCmdDirect c n)];
     let allowed (k : Nat) : Prop := k = 1 ∨ k = 3 ∨ (k = 2 ∧ (mode = 0 ∨ mode = 5 ∨ mode = 6)) ∨ (k = 4 ∧ mode = 0 ∧
       d.plat.effAct n = 2);
     let k := 3; let target := 6; let i := (Instr.armCmdRetract c n);
     (k, target, i) ∈ cmds ∧ on ∧ m.cmd = some k ∧ allowed k) ∧
    (let d : Dev := am [md 0] (fun m => { m with cmd := some 4 }); let c : CoreNo := 0; let n : ActNo := 1;
     let m : Arm := (d.act n).arm; let mode : Nat := d.plat.fld (Reg.ARM_STATUS n) Fld.ARM_STATUS_MODE;
     let on : Prop := d.plat.on (4 * n.val + 3) = true;
     let cmds : List (Nat × Nat × Instr) := [(1, 0, .armCmdOff c n), (2, 1, .armCmdLoad c n), (3, 6, .armCmdRetract c n),
       (4, 7, .armCmdDirect c n)];
     let allowed (k : Nat) : Prop := k = 1 ∨ k = 3 ∨ (k = 2 ∧ (mode = 0 ∨ mode = 5 ∨ mode = 6)) ∨ (k = 4 ∧ mode = 0 ∧
       d.plat.effAct n = 2);
     let k := 4; let target := 7; let i := (Instr.armCmdDirect c n);
     (k, target, i) ∈ cmds ∧ on ∧ m.cmd = some k ∧ allowed k) ∧
    (let d : Dev := am [md 3] (fun m => { m with cmd := some 2 }); let c : CoreNo := 0; let n : ActNo := 1;
     let m : Arm := (d.act n).arm; let mode : Nat := d.plat.fld (Reg.ARM_STATUS n) Fld.ARM_STATUS_MODE;
     let on : Prop := d.plat.on (4 * n.val + 3) = true;
     let cmds : List (Nat × Nat × Instr) := [(1, 0, .armCmdOff c n), (2, 1, .armCmdLoad c n), (3, 6, .armCmdRetract c n),
       (4, 7, .armCmdDirect c n)];
     let allowed (k : Nat) : Prop := k = 1 ∨ k = 3 ∨ (k = 2 ∧ (mode = 0 ∨ mode = 5 ∨ mode = 6)) ∨ (k = 4 ∧ mode = 0 ∧
       d.plat.effAct n = 2);
     let k := 2; let target := 1; let i := (Instr.armCmdLoad c n);
     (k, target, i) ∈ cmds ∧ on ∧ m.cmd = some k ∧ ¬ allowed k) ∧
    (let d : Dev := am [md 1] (fun m => { m with cmd := some 4 }); let c : CoreNo := 0; let n : ActNo := 1;
     let m : Arm := (d.act n).arm; let mode : Nat := d.plat.fld (Reg.ARM_STATUS n) Fld.ARM_STATUS_MODE;
     let on : Prop := d.plat.on (4 * n.val + 3) = true;
     let cmds : List (Nat × Nat × Instr) := [(1, 0, .armCmdOff c n), (2, 1, .armCmdLoad c n), (3, 6, .armCmdRetract c n),
       (4, 7, .armCmdDirect c n)];
     let allowed (k : Nat) : Prop := k = 1 ∨ k = 3 ∨ (k = 2 ∧ (mode = 0 ∨ mode = 5 ∨ mode = 6)) ∨ (k = 4 ∧ mode = 0 ∧
       d.plat.effAct n = 2);
     let k := 4; let target := 7; let i := (Instr.armCmdDirect c n);
     (k, target, i) ∈ cmds ∧ on ∧ m.cmd = some k ∧ ¬ allowed k) ∧
    (let d : Dev := offD 7 (mk []); let n : ActNo := 1; let on : Prop := d.plat.on (4 * n.val + 3) = true; ¬ on) ∧
    (let d : Dev := am [md 3] (fun m => { m with settled := 200 }); let n : ActNo := 1; let m : Arm := (d.act n).arm;
     let mode : Nat := d.plat.fld (Reg.ARM_STATUS n) Fld.ARM_STATUS_MODE; let on : Prop := d.plat.on (4 * n.val + 3) = true;
     on ∧ mode = 3 ∧ atLeast1 (d.plat.fld (Reg.ARM_SETTLE n) Fld.ARM_SETTLE_SETTLE_N) ≤ m.settled) ∧
    (let d : Dev := mk []; let n : ActNo := 1; let mode : Nat := d.plat.fld (Reg.ARM_STATUS n) Fld.ARM_STATUS_MODE;
     mode ≠ 3) ∧
    (let d : Dev := am [md 1] (fun m => { m with seen := [(2, 8)] }); let n : ActNo := 1; let m : Arm := (d.act n).arm;
     let mode : Nat := d.plat.fld (Reg.ARM_STATUS n) Fld.ARM_STATUS_MODE; let on : Prop := d.plat.on (4 * n.val + 3) = true;
     on ∧ mode = 1 ∧ (∃ h : HeadNo, 8 ≤ getN m.seen h)) ∧
    (let d : Dev := am [] (fun m => { m with shock := 1 }); let n : ActNo := 1; let m : Arm := (d.act n).arm;
     let on : Prop := d.plat.on (4 * n.val + 3) = true; on ∧ m.shock = 1) := by
  refine ⟨?_, ?_, ?_, ?_, ?_, ?_, ?_, ?_, ?_, ?_, ?_, ?_, ?_, ?_, ?_⟩
  all_goals ((try dsimp only [Dev.holdsAdmin, Dev.holdsIo]); try decide +kernel)

/-- The hypotheses of `Obligations.ServoLossesAndDriveLinks`, part 1, are met. -/
theorem witness_ServoLossesAndDriveLinks_part_1 :
    (let d : Dev := am [(Reg.ARM_LOSS 1, fs [(Fld.ARM_LOSS_ALL_MAX, 4), (Fld.ARM_LOSS_HEAD_MAX, 5), (Fld.ARM_LOSS_GATE,
       2)]), md 2] (fun m => { m with noField := 4 });
     let n : ActNo := 1; let m : Arm := (d.act n).arm; let mode : Nat := d.plat.fld (Reg.ARM_STATUS n) Fld.ARM_STATUS_MODE;
     let on : Prop := d.plat.on (4 * n.val + 3) = true;
     let loss (f : Fld) : Nat := atLeast1 (d.plat.fld (Reg.ARM_LOSS n) f);
     let loops : Prop := mode = 2 ∨ mode = 3 ∨ mode = 4; on ∧ loops ∧ loss Fld.ARM_LOSS_ALL_MAX ≤ m.noField) ∧
    (let d : Dev := am [(Reg.ARM_LOSS 1, fs [(Fld.ARM_LOSS_ALL_MAX, 4), (Fld.ARM_LOSS_HEAD_MAX, 5), (Fld.ARM_LOSS_GATE,
       2)])] (fun m => { m with noField := 3 });
     let n : ActNo := 1; let m : Arm := (d.act n).arm; let loss (f : Fld) : Nat := atLeast1 (d.plat.fld (Reg.ARM_LOSS n) f);
     m.noField < loss Fld.ARM_LOSS_ALL_MAX) ∧
    (let d : Dev := am [md 1, (Reg.ARM_LOAD 1, fs [(Fld.ARM_LOAD_TMO, 5)])] (fun m => { m with inLoad := 5 });
     let n : ActNo := 1; let h : HeadNo := 0; let m : Arm := (d.act n).arm;
     let mode : Nat := d.plat.fld (Reg.ARM_STATUS n) Fld.ARM_STATUS_MODE; let on : Prop := d.plat.on (4 * n.val + 3) = true;
     on ∧ mode = 1 ∧ (∀ h : HeadNo, getN m.seen h < 8) ∧ d.plat.fld (Reg.ARM_LOAD n) Fld.ARM_LOAD_TMO ≤ m.inLoad) ∧
    (let d : Dev := am ((Reg.ARM_LOSS 1, fs [(Fld.ARM_LOSS_ALL_MAX, 4), (Fld.ARM_LOSS_HEAD_MAX, 5), (Fld.ARM_LOSS_GATE,
       2)]) :: hds) (fun m => { m with missed := [(2, 5)] });
     let n : ActNo := 1; let h : HeadNo := 2; let m : Arm := (d.act n).arm; let a : Ac := d.acWith n (d.serving n);
     let on : Prop := d.plat.on (4 * n.val + 3) = true;
     let loss (f : Fld) : Nat := atLeast1 (d.plat.fld (Reg.ARM_LOSS n) f);
     on ∧ a.active.testBit h = true ∧ loss Fld.ARM_LOSS_HEAD_MAX ≤ getN m.missed h) ∧
    (let d : Dev := mk []; let n : ActNo := 1; let h : HeadNo := 7; let m : Arm := (d.act n).arm;
     let a : Ac := d.acWith n (d.serving n); let loss (f : Fld) : Nat := atLeast1 (d.plat.fld (Reg.ARM_LOSS n) f);
     (a.active.testBit h = false ∨ getN m.missed h < loss Fld.ARM_LOSS_HEAD_MAX)) ∧
    (let d : Dev := am [(Reg.ARM_SAT_LIMIT 1, fs [(Fld.ARM_SAT_LIMIT_SEEK, 9), (Fld.ARM_SAT_LIMIT_TRK, 3)]),
       md 2] (fun m => { m with satV := 10 });
     let n : ActNo := 1; let h : HeadNo := 0; let m : Arm := (d.act n).arm;
     let mode : Nat := d.plat.fld (Reg.ARM_STATUS n) Fld.ARM_STATUS_MODE; let on : Prop := d.plat.on (4 * n.val + 3) = true;
     let limit : Nat := d.plat.fld (Reg.ARM_SAT_LIMIT n) (if mode = 2 then Fld.ARM_SAT_LIMIT_SEEK else Fld.ARM_SAT_LIMIT_TRK);
     let loops : Prop := mode = 2 ∨ mode = 3 ∨ mode = 4;
     on ∧ loops ∧ d.plat.bit (Reg.ARM_STATUS n) Fld.ARM_STATUS_SAT_ACT = false ∧ (limit < m.satV ∨ ∃ h : HeadNo,
       limit < getN m.satM h)) ∧
    (let d : Dev := am [(Reg.ARM_SAT_LIMIT 1, fs [(Fld.ARM_SAT_LIMIT_SEEK, 9), (Fld.ARM_SAT_LIMIT_TRK, 3)]),
       md 4] (fun m => { m with satV := 3, satM := [(2, 3)] });
     let n : ActNo := 1; let h : HeadNo := 0; let m : Arm := (d.act n).arm;
     let mode : Nat := d.plat.fld (Reg.ARM_STATUS n) Fld.ARM_STATUS_MODE;
     let limit : Nat := d.plat.fld (Reg.ARM_SAT_LIMIT n) (if mode = 2 then Fld.ARM_SAT_LIMIT_SEEK else Fld.ARM_SAT_LIMIT_TRK);
     limit ≥ m.satV ∧ (∀ h : HeadNo, getN m.satM h ≤ limit)) := by
  refine ⟨?_, ?_, ?_, ?_, ?_, ?_, ?_⟩
  all_goals ((try dsimp only [Dev.holdsAdmin, Dev.holdsIo]); try decide +kernel)

/-- The hypotheses of `Obligations.ServoLossesAndDriveLinks`, part 2, are met. -/
theorem witness_ServoLossesAndDriveLinks_part_2 :
    (let d : Dev := mk []; let n : ActNo := 1;
     let live : Prop := d.plat.on (4 * n.val + 3) = true ∧ d.plat.bit (Reg.ARM_SDL_CFG n) Fld.ARM_SDL_CFG_EN = true; ¬ live) ∧
    (let d : Dev := mk [(Reg.ARM_SDL_CFG 1, fs [(Fld.ARM_SDL_CFG_EN, 1)]), (Reg.SPL_CTRL, fs [(Fld.SPL_CTRL_EN, 1),
       (Fld.SPL_CTRL_MODE, 2)])];
     let n : ActNo := 1; let w : Word := sfr 6 0x80012;
     let live : Prop := d.plat.on (4 * n.val + 3) = true ∧ d.plat.bit (Reg.ARM_SDL_CFG n) Fld.ARM_SDL_CFG_EN = true;
     let good (ty : Nat) : Prop := w.toNat / 2 ^ 28 = ty ∧ crc8 (beBytes 3 (w.toNat / 256)) = w.toNat % 256; live ∧ good 6) ∧
    (let d : Dev := mk [(Reg.ARM_SDL_CFG 1, fs [(Fld.ARM_SDL_CFG_EN, 1)]), (Reg.SPL_CTRL, fs [(Fld.SPL_CTRL_EN, 1),
       (Fld.SPL_CTRL_MODE, 2)])];
     let n : ActNo := 1; let w : Word := sfr 7 0;
     let live : Prop := d.plat.on (4 * n.val + 3) = true ∧ d.plat.bit (Reg.ARM_SDL_CFG n) Fld.ARM_SDL_CFG_EN = true;
     let good (ty : Nat) : Prop := w.toNat / 2 ^ 28 = ty ∧ crc8 (beBytes 3 (w.toNat / 256)) = w.toNat % 256;
     live ∧ ¬ good 6) ∧
    (let d : Dev := mk [(Reg.ARM_SDL_CFG 1, fs [(Fld.ARM_SDL_CFG_EN, 1)]), (Reg.SPL_CTRL, fs [(Fld.SPL_CTRL_EN, 1),
       (Fld.SPL_CTRL_MODE, 2)])];
     let w : Word := sfr 7 0x80012;
     let good (ty : Nat) : Prop := w.toNat / 2 ^ 28 = ty ∧ crc8 (beBytes 3 (w.toNat / 256)) = w.toNat % 256;
     let spun : Prop := d.plat.on 3 = true ∧ d.plat.bit Reg.SPL_CTRL Fld.SPL_CTRL_EN = true; spun ∧ good 7) ∧
    (let d : Dev := mk [(Reg.ARM_SDL_CFG 1, fs [(Fld.ARM_SDL_CFG_EN, 1)]), (Reg.SPL_CTRL, fs [(Fld.SPL_CTRL_EN, 1),
       (Fld.SPL_CTRL_MODE, 2)])];
     let w : Word := sfr 6 0;
     let good (ty : Nat) : Prop := w.toNat / 2 ^ 28 = ty ∧ crc8 (beBytes 3 (w.toNat / 256)) = w.toNat % 256;
     let spun : Prop := d.plat.on 3 = true ∧ d.plat.bit Reg.SPL_CTRL Fld.SPL_CTRL_EN = true; spun ∧ ¬ good 7) ∧
    (let d : Dev := mk []; d.powered Reg.SPL_CTRL) := by
  refine ⟨?_, ?_, ?_, ?_, ?_, ?_⟩
  all_goals ((try dsimp only [Dev.holdsAdmin, Dev.holdsIo]); try decide +kernel)

/-- The hypotheses of `Obligations.ServoFieldsLoopsAndInhibit`, part 1, are met. -/
theorem witness_ServoFieldsLoopsAndInhibit_part_1 :
    (let d : Dev := am [(Reg.ARM_LOSS 1, fs [(Fld.ARM_LOSS_ALL_MAX, 4), (Fld.ARM_LOSS_HEAD_MAX, 5), (Fld.ARM_LOSS_GATE,
       2)]), (Reg.SVD_CFG 1 2, fs [(Fld.SVD_CFG_EN, 1), (Fld.SVD_CFG_RDR, 1), (Fld.SVD_CFG_SAM_THR, 5)]),
       (Reg.RFE_RDR_CFG 1 2 1, fs [(Fld.RFE_RDR_CFG_ON, 1)])] (fun m => { m with lastY := [(2, some 57344)] });
     let n : ActNo := 1; let h : HeadNo := 2; let wid : Nat := 0; let diff : Nat := 4; let gray : Nat := 9;
     let place : Int := -8; let m : Arm := (d.act n).arm; let cfg : Nat := Reg.SVD_CFG n h;
     let rdr : Nat := d.plat.fld cfg Fld.SVD_CFG_RDR; let g : Nat := grayDecode gray;
     let mode : Nat := d.plat.fld (Reg.ARM_STATUS n) Fld.ARM_STATUS_MODE;
     let gate : Nat := d.plat.fld (Reg.ARM_LOSS n) Fld.ARM_LOSS_GATE;
     let sam : Prop := rdr < 3 ∧ d.plat.bit (Reg.RFE_RDR_CFG n h rdr) Fld.RFE_RDR_CFG_ON = true ∧
       diff ≤ min 4 (d.plat.fld cfg Fld.SVD_CFG_SAM_THR) ∧ place.natAbs ≤ 8;
     let prev : Option Int := SMap.get (fun _ => none) m.lastY h;
     let near (y0 : Int) : Prop := ((g : Int) - (y0 + (if mode = 2 then m.v else 0) + 2048) / 4096).natAbs ≤ gate;
     d.plat.bit cfg Fld.SVD_CFG_EN = true ∧ d.plat.on (4 * n) = true ∧ d.plat.on (4 * n + 2) = true ∧ sam ∧
       wid = (d.act n).gate.wedge ∧ (∀ y0, prev = some y0 → near y0)) ∧
    (let d : Dev := am [(Reg.ARM_LOSS 1, fs [(Fld.ARM_LOSS_ALL_MAX, 4), (Fld.ARM_LOSS_HEAD_MAX, 5), (Fld.ARM_LOSS_GATE,
       2)]), (Reg.SVD_CFG 1 2, fs [(Fld.SVD_CFG_EN, 1), (Fld.SVD_CFG_RDR, 1), (Fld.SVD_CFG_SAM_THR, 5)]),
       (Reg.RFE_RDR_CFG 1 2 1, fs [(Fld.RFE_RDR_CFG_ON, 1)])] (fun m => { m with lastY := [(2, some 0)] });
     let n : ActNo := 1; let h : HeadNo := 2; let wid : Nat := 0; let diff : Nat := 4; let gray : Nat := 9;
     let place : Int := 8; let m : Arm := (d.act n).arm; let cfg : Nat := Reg.SVD_CFG n h;
     let rdr : Nat := d.plat.fld cfg Fld.SVD_CFG_RDR; let g : Nat := grayDecode gray;
     let mode : Nat := d.plat.fld (Reg.ARM_STATUS n) Fld.ARM_STATUS_MODE;
     let gate : Nat := d.plat.fld (Reg.ARM_LOSS n) Fld.ARM_LOSS_GATE;
     let sam : Prop := rdr < 3 ∧ d.plat.bit (Reg.RFE_RDR_CFG n h rdr) Fld.RFE_RDR_CFG_ON = true ∧
       diff ≤ min 4 (d.plat.fld cfg Fld.SVD_CFG_SAM_THR) ∧ place.natAbs ≤ 8;
     let prev : Option Int := SMap.get (fun _ => none) m.lastY h;
     let near (y0 : Int) : Prop := ((g : Int) - (y0 + (if mode = 2 then m.v else 0) + 2048) / 4096).natAbs ≤ gate;
     d.plat.bit cfg Fld.SVD_CFG_EN = true ∧ d.plat.on (4 * n) = true ∧ d.plat.on (4 * n + 2) = true ∧ let y0 := 0;
     sam ∧ wid = (d.act n).gate.wedge ∧ prev = some y0 ∧ ¬ near y0) ∧
    (let d : Dev := am [(Reg.SVD_CFG 1 2, fs [(Fld.SVD_CFG_EN, 1), (Fld.SVD_CFG_RDR, 1), (Fld.SVD_CFG_SAM_THR, 5)]),
       (Reg.RFE_RDR_CFG 1 2 1, fs [(Fld.RFE_RDR_CFG_ON, 1)])];
     let n : ActNo := 1; let h : HeadNo := 2; let wid : Nat := 0; let diff : Nat := 4; let place : Int := 9;
     let cfg : Nat := Reg.SVD_CFG n h; let rdr : Nat := d.plat.fld cfg Fld.SVD_CFG_RDR;
     let sam : Prop := rdr < 3 ∧ d.plat.bit (Reg.RFE_RDR_CFG n h rdr) Fld.RFE_RDR_CFG_ON = true ∧
       diff ≤ min 4 (d.plat.fld cfg Fld.SVD_CFG_SAM_THR) ∧ place.natAbs ≤ 8;
     d.plat.bit cfg Fld.SVD_CFG_EN = true ∧ d.plat.on (4 * n) = true ∧ d.plat.on (4 * n + 2) = true ∧ ¬ (sam ∧
       wid = (d.act n).gate.wedge)) ∧
    (let d : Dev := mk []; let n : ActNo := 1; let h : HeadNo := 0; let cfg : Nat := Reg.SVD_CFG n h;
     d.plat.bit cfg Fld.SVD_CFG_EN = false) ∧
    (let q : List Instr := []; let d : Dev := ad [bsy] (fun q => { q with pos := { q.pos with fed := true } });
     let n : ActNo := 1; let a : Ac := d.acWith n (d.serving n); a.busy = true ∧ a.q.pos.fed = true) ∧
    (let d : Dev := mk []; let n : ActNo := 1; let a : Ac := d.acWith n (d.serving n);
     (a.busy = false ∨ a.q.pos.fed = false)) := by
  refine ⟨?_, ?_, ?_, ?_, ?_, ?_⟩
  all_goals ((try dsimp only [Dev.holdsAdmin, Dev.holdsIo]); try decide +kernel)

/-- The hypotheses of `Obligations.ServoFieldsLoopsAndInhibit`, part 2, are met. -/
theorem witness_ServoFieldsLoopsAndInhibit_part_2 :
    (let d : Dev := am [(Reg.ARM_CTRL 1, fs [(Fld.ARM_CTRL_OUTER, 2)]),
       md 4] (fun m => { m with wedges := 3, demods := [(2, ⟨true, 99000⟩)] });
     let n : ActNo := 1; let m : Arm := (d.act n).arm; let mode : Nat := d.plat.fld (Reg.ARM_STATUS n) Fld.ARM_STATUS_MODE;
     d.plat.on (4 * n.val + 3) = true ∧ 2 ≤ mode ∧ mode ≤ 4 ∧ m.cmd = none ∧ m.inbox = [] ∧
       m.wedges % 2 ^ d.plat.fld (Reg.ARM_CTRL n) Fld.ARM_CTRL_OUTER ≠ 0) := by
  (try dsimp only [Dev.holdsAdmin, Dev.holdsIo]); try decide +kernel

end Sys2Proof.Tests
end

