-- ==== Sys2Proof/Tests/WitnessSteps.lean ====
section
/-! SUPPORT. Witnesses: for each statement about every command and every step, machines and operands that
meet the hypotheses of each of its clauses together. -/

namespace Sys2Proof.Tests

open Sys2Proof Sys2Proof.Machine

set_option linter.unusedVariables false
set_option maxRecDepth 65536
set_option Elab.async false

/-- The hypotheses of `Obligations.PartsFrame` are met. -/
theorem witness_PartsFrame : ∃ s t, exec .nvmSubsystemReset s = .next t ∧ Part.act 0 ∉ Instr.parts .nvmSubsystemReset s.dev :=
  ⟨State.reset, _, rfl, by decide +kernel⟩

/-- The hypotheses of `Obligations.StepKeepsMemoriesCanonical` are met. -/
theorem witness_StepKeepsMemoriesCanonical : ∃ s t, step s = .next t ∧ s.MemoriesCanonical ∧ s.dev.sys.sram ≠ [] := by
  let d : Dev := { mk [(Reg.SYS_WDT_CTRL, 5)] with sys := { (mk []).sys with sram := [(5, 7)] } }
  refine ⟨⟨[.nvmSubsystemReset], d⟩, _, rfl, ?_, by decide +kernel⟩
  unfold State.MemoriesCanonical
  decide +kernel

/-- The hypotheses of `Obligations.StepKeepsTablesCanonical` are met. -/
theorem witness_StepKeepsTablesCanonical : ∃ s t, step s = .next t ∧ s.TablesCanonical ∧ s.dev.plat.regs ≠ [] := by
  let d : Dev := mk [(Reg.SYS_WDT_CTRL, 5)]
  refine ⟨⟨[.nvmSubsystemReset], d⟩, _, rfl, ?_, by decide +kernel⟩
  unfold State.TablesCanonical
  decide +kernel

end Sys2Proof.Tests
end

