-- ==== Sys2Proof/Tests/WitnessStore.lean ====
section
/-! SUPPORT. Witnesses: for each statement about buffer and Keep commands, machines and operands that
meet the hypotheses of each of its clauses together. -/

namespace Sys2Proof.Tests

open Sys2Proof Sys2Proof.Machine

set_option linter.unusedVariables false
set_option maxRecDepth 65536
set_option Elab.async false

/-- The hypotheses of `Obligations.BufferOpensAfterItsThreeSteps` are met. -/
theorem witness_BufferOpensAfterItsThreeSteps :
    (let d : Dev := bufd [(Fld.BUF_STATUS_OPEN, 1)]; let st (f : Fld) : Bool := d.plat.bit Reg.BUF_STATUS f;
     let opened : Bool := st Fld.BUF_STATUS_OPEN; let busy : Bool := st Fld.BUF_STATUS_BUSY;
     d.powered Reg.BUF_CTRL ∧ (opened = true ∨ busy = true ∨ st Fld.BUF_STATUS_ST_BUSY = true)) ∧
    (let d : Dev := bufd []; let st (f : Fld) : Bool := d.plat.bit Reg.BUF_STATUS f;
     let opened : Bool := st Fld.BUF_STATUS_OPEN; let busy : Bool := st Fld.BUF_STATUS_BUSY;
     d.powered Reg.BUF_CTRL ∧ opened = false ∧ busy = false ∧ st Fld.BUF_STATUS_ST_BUSY = false) ∧
    (let d : Dev := bufd [(Fld.BUF_STATUS_WC_FAIL, 1)]; let st (f : Fld) : Bool := d.plat.bit Reg.BUF_STATUS f;
     let opened : Bool := st Fld.BUF_STATUS_OPEN; let busy : Bool := st Fld.BUF_STATUS_BUSY;
     let passed : Bool := !st Fld.BUF_STATUS_ST_BUSY && !st Fld.BUF_STATUS_WC_FAIL && !st Fld.BUF_STATUS_PC_FAIL;
     d.powered Reg.BUF_CTRL ∧ (opened = true ∨ busy = true ∨ passed = false)) ∧
    (let d : Dev := bufd [(Fld.BUF_STATUS_TRAINED, 1), (Fld.BUF_STATUS_FILLED, 1)];
     let st (f : Fld) : Bool := d.plat.bit Reg.BUF_STATUS f; let opened : Bool := st Fld.BUF_STATUS_OPEN;
     let busy : Bool := st Fld.BUF_STATUS_BUSY;
     let passed : Bool := !st Fld.BUF_STATUS_ST_BUSY && !st Fld.BUF_STATUS_WC_FAIL && !st Fld.BUF_STATUS_PC_FAIL;
     d.powered Reg.BUF_CTRL ∧ opened = false ∧ busy = false ∧ passed = true) ∧
    (let d : Dev := bufd []; let st (f : Fld) : Bool := d.plat.bit Reg.BUF_STATUS f;
     let opened : Bool := st Fld.BUF_STATUS_OPEN; let busy : Bool := st Fld.BUF_STATUS_BUSY;
     d.powered Reg.BUF_CTRL ∧ (opened = true ∨ busy = true ∨ st Fld.BUF_STATUS_TRAINED = false)) ∧
    (let d : Dev := bufd [(Fld.BUF_STATUS_TRAINED, 1)]; let st (f : Fld) : Bool := d.plat.bit Reg.BUF_STATUS f;
     let opened : Bool := st Fld.BUF_STATUS_OPEN; let busy : Bool := st Fld.BUF_STATUS_BUSY;
     d.powered Reg.BUF_CTRL ∧ opened = false ∧ busy = false ∧ st Fld.BUF_STATUS_TRAINED = true) ∧
    (let d : Dev := bufd [(Fld.BUF_STATUS_ST_BUSY, 1)]; let st (f : Fld) : Bool := d.plat.bit Reg.BUF_STATUS f;
     st Fld.BUF_STATUS_ST_BUSY = true) ∧
    (let d : Dev := bufd [(Fld.BUF_STATUS_BUSY, 1)] [(Reg.BUF_DCFG, fs [(Fld.BUF_DCFG_SIZE, 3), (Fld.BUF_DCFG_RANKS, 1)])];
     let size : Nat := 3; let ranks : Nat := 1; let conv : Bool := true;
     let st (f : Fld) : Bool := d.plat.bit Reg.BUF_STATUS f; let busy : Bool := st Fld.BUF_STATUS_BUSY;
     let s : Nat := d.plat.fld Reg.BUF_DCFG Fld.BUF_DCFG_SIZE; let r : Nat := d.plat.fld Reg.BUF_DCFG Fld.BUF_DCFG_RANKS;
     let listed : Prop := (s = 0 ∧ r = 0) ∨ s = 1 ∨ (s = 2 ∧ r = 1) ∨ (s = 3 ∧ r = 1);
     busy = true ∧ st Fld.BUF_STATUS_TRAINED = false ∧ listed ∧ s = size ∧ r = ranks ∧ conv = true) ∧
    (let d : Dev := bufd [(Fld.BUF_STATUS_BUSY, 1)] [(Reg.BUF_DCFG, fs [(Fld.BUF_DCFG_SIZE, 3), (Fld.BUF_DCFG_RANKS, 1)])];
     let size : Nat := 3; let ranks : Nat := 1; let conv : Bool := false;
     let st (f : Fld) : Bool := d.plat.bit Reg.BUF_STATUS f; let busy : Bool := st Fld.BUF_STATUS_BUSY;
     let s : Nat := d.plat.fld Reg.BUF_DCFG Fld.BUF_DCFG_SIZE; let r : Nat := d.plat.fld Reg.BUF_DCFG Fld.BUF_DCFG_RANKS;
     let listed : Prop := (s = 0 ∧ r = 0) ∨ s = 1 ∨ (s = 2 ∧ r = 1) ∨ (s = 3 ∧ r = 1);
     busy = true ∧ st Fld.BUF_STATUS_TRAINED = false ∧ ¬ (listed ∧ s = size ∧ r = ranks ∧ conv = true)) ∧
    (let d : Dev := bufd [(Fld.BUF_STATUS_BUSY, 1), (Fld.BUF_STATUS_TRAINED, 1)];
     let st (f : Fld) : Bool := d.plat.bit Reg.BUF_STATUS f; let busy : Bool := st Fld.BUF_STATUS_BUSY;
     busy = true ∧ st Fld.BUF_STATUS_TRAINED = true) ∧
    (let d : Dev := bufd [(Fld.BUF_STATUS_TRAINED, 1)]; let st (f : Fld) : Bool := d.plat.bit Reg.BUF_STATUS f;
     d.plat.on 20 = true ∧ st Fld.BUF_STATUS_TRAINED = true) := by
  refine ⟨?_, ?_, ?_, ?_, ?_, ?_, ?_, ?_, ?_, ?_, ?_⟩
  all_goals ((try dsimp only [Dev.holdsAdmin, Dev.holdsIo]); try decide +kernel)

/-- The hypotheses of `Obligations.BufferServesOrRefusesRequests` are met. -/
theorem witness_BufferServesOrRefusesRequests :
    (let d : Dev := mk []; let r : Requester := .hif; let a : Nat := 0x1000; let n : Nat := 8;
     let bs : Bytes := List.replicate 8 1; let chk : ArrayCheck := .good;
     (Instr.bufferRequest r a n none chk []).wf = true ∧ 0 < n ∧ bs.length = n ∧ let pages : Nat := d.plat.fld Reg.BUF_USABLE Fld.BUF_USABLE_PAGES;
     let opened : Bool := d.plat.bit Reg.BUF_STATUS Fld.BUF_STATUS_OPEN; (opened = false ∨ pages ≤ a / 4096)) ∧
    (let d : Dev := bufo; let r : Requester := .hif; let a : Nat := 0x2000; let n : Nat := 8;
     let bs : Bytes := List.replicate 8 1; let chk : ArrayCheck := .good;
     (Instr.bufferRequest r a n none chk []).wf = true ∧ 0 < n ∧ bs.length = n ∧ let pages : Nat := d.plat.fld Reg.BUF_USABLE Fld.BUF_USABLE_PAGES;
     let opened : Bool := d.plat.bit Reg.BUF_STATUS Fld.BUF_STATUS_OPEN; (opened = false ∨ pages ≤ a / 4096)) ∧
    (let d : Dev := bufo [(Reg.BUF_RET 3, fs [(Fld.BUF_RET_VALID, 1), (Fld.BUF_RET_PAGE, 1)])];
     let r : Requester := .core 1; let a : Nat := 0x1FFC; let n : Nat := 4; let bs : Bytes := List.replicate 4 1;
     let chk : ArrayCheck := .corrected;
     (Instr.bufferRequest r a n none chk []).wf = true ∧ 0 < n ∧ bs.length = n ∧ let pages : Nat := d.plat.fld Reg.BUF_USABLE Fld.BUF_USABLE_PAGES;
     let opened : Bool := d.plat.bit Reg.BUF_STATUS Fld.BUF_STATUS_OPEN;
     opened = true ∧ a / 4096 < pages ∧ d.plat.retired (a / 4096) = true) ∧
    (let d : Dev := bufo; let r : Requester := .core 1; let a : Nat := 0x1FFC; let n : Nat := 4; let w : Nat := 255;
     let bs : Bytes := List.replicate 4 1; let chk : ArrayCheck := .uncorrectable 2;
     (Instr.bufferRequest r a n none chk []).wf = true ∧ 0 < n ∧ bs.length = n ∧ let pages : Nat := d.plat.fld Reg.BUF_USABLE Fld.BUF_USABLE_PAGES;
     let opened : Bool := d.plat.bit Reg.BUF_STATUS Fld.BUF_STATUS_OPEN;
     let clean : Prop := d.buf.wbuf = [] ∧ (∀ x ∈ pageWords (a / 4096), d.buf.mark x = 0) ∧
       SMap.get (fun _ => 0) d.buf.perr (a / 4096) = 0 ∧ d.plat.bit Reg.BUF_INJ Fld.BUF_INJ_ARM = false;
     opened = true ∧ a / 4096 < pages ∧ d.plat.retired (a / 4096) = false ∧
       d.plat.bit Reg.STC_CTRL Fld.STC_CTRL_EN = false ∧ clean ∧ w ∈ wordsOf a n) ∧
    (let d : Dev := bufo [(Reg.STC_CTRL, fs [(Fld.STC_CTRL_EN, 1)])] (ln 32 15); let r : Requester := .hif;
     let a : Nat := 0x1078; let n : Nat := 8; let bs : Bytes := List.replicate 8 1; let chk : ArrayCheck := .good;
     (Instr.bufferRequest r a n none chk []).wf = true ∧ 0 < n ∧ bs.length = n ∧ let pages : Nat := d.plat.fld Reg.BUF_USABLE Fld.BUF_USABLE_PAGES;
     let opened : Bool := d.plat.bit Reg.BUF_STATUS Fld.BUF_STATUS_OPEN;
     opened = true ∧ a / 4096 < pages ∧ d.plat.retired (a / 4096) = false ∧ let way := 15;
     let x := ⟨lineTag 32, false, List.replicate 128 7⟩;
     d.plat.bit Reg.STC_CTRL Fld.STC_CTRL_EN = true ∧ a % 128 + n ≤ 128 ∧ d.buf.find d.plat (a / 128) = some way ∧
       d.buf.line (lineSet (a / 128)) way = some x) := by
  refine ⟨?_, ?_, ?_, ?_, ?_⟩
  all_goals ((try dsimp only [Dev.holdsAdmin, Dev.holdsIo]); try decide +kernel)

/-- The hypotheses of `Obligations.BufferMaintenanceAndStageCache`, part 1, are met. -/
theorem witness_BufferMaintenanceAndStageCache_part_1 :
    (let d : Dev := bufd [] [] (fun b => { b with wbuf := [⟨4, true, List.replicate 128 1⟩, ⟨9, false, List.replicate 128 1⟩, ⟨8, false, List.replicate 128 1⟩] });
     let xs : List WriteBack := [⟨4, true, List.replicate 128 1⟩];
     let ys : List WriteBack := [⟨8, false, List.replicate 128 1⟩]; let w : WriteBack := ⟨9, false, List.replicate 128 1⟩;
     d.buf.wbuf = xs ++ w :: ys ∧ (∀ x ∈ xs, x.issued = true) ∧ w.issued = false) ∧
    (let d : Dev := bufd [] [] (fun b => { b with wbuf := [⟨4, false, List.replicate 128 1⟩, ⟨9, true, List.replicate 128 1⟩, ⟨8, false, List.replicate 128 1⟩] });
     let xs : List WriteBack := [⟨4, false, List.replicate 128 1⟩];
     let ys : List WriteBack := [⟨8, false, List.replicate 128 1⟩]; let w : WriteBack := ⟨9, true, List.replicate 128 1⟩;
     d.buf.wbuf = xs ++ w :: ys ∧ (∀ x ∈ xs, x.issued = false) ∧ w.issued = true ∧ w.data.length = 128 ∧
       (∀ x ∈ wordsOf (128 * w.line) 128, d.buf.mark x = 0) ∧ d.plat.bit Reg.BUF_INJ Fld.BUF_INJ_ARM = false) ∧
    (let d : Dev := bufo [(Reg.BUF_SCRUB, fs [(Fld.BUF_SCRUB_EN, 1)]), (Reg.BUF_RET 3, fs [(Fld.BUF_RET_VALID, 1),
       (Fld.BUF_RET_PAGE, 0)])];
     let page : Nat := d.plat.fld Reg.BUF_SCRUB_POS Fld.BUF_SCRUB_POS_PAGE;
     d.plat.bit Reg.BUF_SCRUB Fld.BUF_SCRUB_EN = true ∧ d.plat.bit Reg.BUF_STATUS Fld.BUF_STATUS_OPEN = true ∧
       d.plat.retired page = true) ∧
    (let d : Dev := bufo [(Reg.BUF_SCRUB, fs [(Fld.BUF_SCRUB_EN, 1)]), (Reg.BUF_SCRUB_POS, fs [(Fld.BUF_SCRUB_POS_PAGE,
       1)])];
     let page : Nat := d.plat.fld Reg.BUF_SCRUB_POS Fld.BUF_SCRUB_POS_PAGE;
     d.plat.bit Reg.BUF_SCRUB Fld.BUF_SCRUB_EN = true ∧ d.plat.bit Reg.BUF_STATUS Fld.BUF_STATUS_OPEN = true ∧
       d.plat.retired page = false ∧ (∀ x ∈ pageWords page, d.buf.mark x = 0)) ∧
    (let d : Dev := bufo [(Reg.BUF_SCRUB, fs [(Fld.BUF_SCRUB_EN, 1)])];
     let page : Nat := d.plat.fld Reg.BUF_SCRUB_POS Fld.BUF_SCRUB_POS_PAGE;
     d.plat.bit Reg.BUF_SCRUB Fld.BUF_SCRUB_EN = true ∧ d.plat.bit Reg.BUF_STATUS Fld.BUF_STATUS_OPEN = true ∧ let x : Nat := 127;
     x ∈ pageWords page ∧ d.plat.retired page = false ∧ (∀ y ∈ pageWords page, d.buf.mark y = 0)) ∧
    (let d : Dev := bufo; d.plat.bit Reg.BUF_SCRUB Fld.BUF_SCRUB_EN = false) ∧
    (let d : Dev := mk []; let n : RetNo := 2047; d.powered (Reg.BUF_RET n)) ∧
    (let d : Dev := mk []; let r : PairNo := 1; d.powered (Reg.BUF_BANK_RET r)) ∧
    (let d : Dev := mk []; d.powered Reg.BUF_INJ) := by
  refine ⟨?_, ?_, ?_, ?_, ?_, ?_, ?_, ?_, ?_⟩
  all_goals ((try dsimp only [Dev.holdsAdmin, Dev.holdsIo]); try decide +kernel)

/-- The hypotheses of `Obligations.BufferMaintenanceAndStageCache`, part 2, are met. -/
theorem witness_BufferMaintenanceAndStageCache_part_2 :
    (let d : Dev := bufo [(Reg.STC_CTRL, fs [(Fld.STC_CTRL_EN, 1)])]; let c : CoreNo := 0; let way : WayNo := 15;
     let st (f : Fld) : Bool := d.plat.bit Reg.STC_STATUS f; let en : Bool := d.plat.bit Reg.STC_CTRL Fld.STC_CTRL_EN;
     let ops : List (Nat × Nat × Instr) := [(1, 0, .cleanAll c), (2, 0, .invalidateAll c), (3, 0, .cleanInvAll c), (4, 0,
       .cleanRange c), (5, 0, .cleanInvRange c), (6, way.val, .cleanInvWay c way)];
     d.powered Reg.STC_OP ∧ let op := 2; let w := 0; let i := (Instr.invalidateAll c);
     (op, w, i) ∈ ops ∧ (st Fld.STC_STATUS_BUSY = true ∨ (op = 2 ∧ en = true))) ∧
    (let d : Dev := bufo [(Reg.STC_CTRL, fs [(Fld.STC_CTRL_EN, 1)])]; let c : CoreNo := 0; let way : WayNo := 15;
     let st (f : Fld) : Bool := d.plat.bit Reg.STC_STATUS f; let en : Bool := d.plat.bit Reg.STC_CTRL Fld.STC_CTRL_EN;
     let ops : List (Nat × Nat × Instr) := [(1, 0, .cleanAll c), (2, 0, .invalidateAll c), (3, 0, .cleanInvAll c), (4, 0,
       .cleanRange c), (5, 0, .cleanInvRange c), (6, way.val, .cleanInvWay c way)];
     d.powered Reg.STC_OP ∧ let op := 6; let w := 15; let i := (Instr.cleanInvWay c 15);
     (op, w, i) ∈ ops ∧ st Fld.STC_STATUS_BUSY = false ∧ ¬ (op = 2 ∧ en = true)) ∧
    (let d : Dev := bufd [] [] (fun b => { b with op := some ⟨2, 0, 0, 0, true, []⟩ }); let o := ⟨2, 0, 0, 0, true, []⟩;
     d.buf.op = some o) ∧
    (let d : Dev := mk []; d.buf.op = none) ∧
    (let d : Dev := mk []; d.powered Reg.STC_CTRL) ∧
    (let d : Dev := mk []; let v : Word := 0xFFFF; d.powered Reg.STC_FENCE ∧ Fld.get Fld.STC_FENCE_WAYS v = 0xFFFF) ∧
    (let d : Dev := mk []; let v : Word := 0xFFFE; d.powered Reg.STC_FENCE ∧ Fld.get Fld.STC_FENCE_WAYS v ≠ 0xFFFF) := by
  refine ⟨?_, ?_, ?_, ?_, ?_, ?_, ?_⟩
  all_goals ((try dsimp only [Dev.holdsAdmin, Dev.holdsIo]); try decide +kernel)

/-- The hypotheses of `Obligations.KeepCommandsIssueAndPulse`, part 1, are met. -/
theorem witness_KeepCommandsIssueAndPulse_part_1 :
    (let d : Dev := mk []; let c : CoreNo := 0; let r : RegionNo := 0;
     let addr : Nat := d.plat.fld Reg.KEEP_ADDR Fld.KEEP_ADDR_OFS; let bank : Nat := bankOf (addr / 4096);
     let cmds : List (Nat × Nat × Nat × Instr) := [(1, bank, 0, .program c), (2, bank, 0, .erase c), (3, bank, 0, .info c),
       (4, bank, 0, .remap c), (5, 0, r.val, .defineRegion c r), (6, 0, r.val, .setPassword c r), (7, 0, r.val,
       .unlock c r), (8, 0, r.val, .lock c r)];
     d.powered Reg.KEEP_CMD ∧ let op := 1; let b := 0; let reg := 0; let i := (Instr.program c);
     (op, b, reg, i) ∈ cmds ∧ (d.keep.ready b = false ∨ d.keep.streams b = true)) ∧
    (let d : Dev := kep (fun k => { k with brown := true }) (mk []); let c : CoreNo := 0; let r : RegionNo := 15;
     let addr : Nat := d.plat.fld Reg.KEEP_ADDR Fld.KEEP_ADDR_OFS; let bank : Nat := bankOf (addr / 4096);
     let cmds : List (Nat × Nat × Nat × Instr) := [(1, bank, 0, .program c), (2, bank, 0, .erase c), (3, bank, 0, .info c),
       (4, bank, 0, .remap c), (5, 0, r.val, .defineRegion c r), (6, 0, r.val, .setPassword c r), (7, 0, r.val,
       .unlock c r), (8, 0, r.val, .lock c r)];
     d.powered Reg.KEEP_CMD ∧ let op := 8; let b := 0; let reg := 15; let i := (Instr.lock c 15);
     (op, b, reg, i) ∈ cmds ∧ d.keep.ready b = true ∧ d.keep.streams b = false ∧ d.keep.brown = true) ∧
    (let d : Dev := kep id (mk [(Reg.KEEP_ADDR, 0x4001000)]); let c : CoreNo := 0; let r : RegionNo := 15;
     let addr : Nat := d.plat.fld Reg.KEEP_ADDR Fld.KEEP_ADDR_OFS; let bank : Nat := bankOf (addr / 4096);
     let cmds : List (Nat × Nat × Nat × Instr) := [(1, bank, 0, .program c), (2, bank, 0, .erase c), (3, bank, 0, .info c),
       (4, bank, 0, .remap c), (5, 0, r.val, .defineRegion c r), (6, 0, r.val, .setPassword c r), (7, 0, r.val,
       .unlock c r), (8, 0, r.val, .lock c r)];
     d.powered Reg.KEEP_CMD ∧ let op := 2; let b := 1; let reg := 0; let i := (Instr.erase c);
     (op, b, reg, i) ∈ cmds ∧ d.keep.ready b = true ∧ d.keep.streams b = false ∧ d.keep.brown = false) := by
  refine ⟨?_, ?_, ?_⟩
  all_goals ((try dsimp only [Dev.holdsAdmin, Dev.holdsIo]); try decide +kernel)

/-- The hypotheses of `Obligations.KeepCommandsIssueAndPulse`, part 2, are met. -/
theorem witness_KeepCommandsIssueAndPulse_part_2 :
    (let d : Dev := kcr 0 (kc 1 0x1100); let b : BankNo := 0; let stuck : Bytes := []; let k : KCmd := kc 1 0x1100;
     d.keep.running b = some k ∧ k.result = none ∧ let s : Nat := k.addr / 4096; k.op = 1 ∧ k.latch.length = 256) ∧
    (let d : Dev := kcr 1 (kc 2 0x4001000); let b : BankNo := 1; let stuck : Bytes := []; let k : KCmd := kc 2 0x4001000;
     d.keep.running b = some k ∧ k.result = none ∧ let s : Nat := k.addr / 4096;
     let verified : Bool := stuck.all (fun x => x == 0); k.op = 2 ∧ verified = true) ∧
    (let d : Dev := kcr 1 (kc 2 0x4001000); let b : BankNo := 1; let stuck : Bytes := [1]; let k : KCmd := kc 2 0x4001000;
     d.keep.running b = some k ∧ k.result = none ∧ let s : Nat := k.addr / 4096;
     let verified : Bool := stuck.all (fun x => x == 0); k.op = 2 ∧ verified = false ∧ k.pulses + 1 < k.hard) ∧
    (let d : Dev := kcr 1 { kc 2 0x4001000 with hard := 1 }; let b : BankNo := 1; let stuck : Bytes := [1];
     let k : KCmd := { kc 2 0x4001000 with hard := 1 };
     d.keep.running b = some k ∧ k.result = none ∧ let s : Nat := k.addr / 4096;
     let verified : Bool := stuck.all (fun x => x == 0); k.op = 2 ∧ verified = false ∧ k.hard ≤ k.pulses + 1) ∧
    (let d : Dev := kcr 0 (kc 4 0x1000); let b : BankNo := 0; let stuck : Bytes := []; let k : KCmd := kc 4 0x1000;
     d.keep.running b = some k ∧ k.result = none ∧ let s : Nat := k.addr / 4096;
     k.op = 4 ∧ k.page = 16 ∧ k.latch.length = 256 ∧
       programBytes (SMap.bytes erasedByte d.keep.cells (spareCell b k.spare 3840) 256) k.latch stuck = wantBytes (SMap.bytes erasedByte d.keep.cells (spareCell b k.spare 3840) 256) k.latch) := by
  refine ⟨?_, ?_, ?_, ?_, ?_⟩
  all_goals ((try dsimp only [Dev.holdsAdmin, Dev.holdsIo]); try decide +kernel)

/-- The hypotheses of `Obligations.KeepCommandsEndWithResult` are met. -/
theorem witness_KeepCommandsEndWithResult :
    (let d : Dev := kcr 0 (kc 1 0x1100 (some 4)); let b : BankNo := 0; let k : KCmd := kc 1 0x1100 (some 4);
     d.keep.running b = some k ∧ (k.op = 1 ∨ k.op = 2 ∨ k.op = 4) ∧ let r := 4; k.result = some r) ∧
    (let d : Dev := kcr 0 (kc 4 0x1000); let b : BankNo := 0; let k : KCmd := kc 4 0x1000;
     d.keep.running b = some k ∧ (k.op = 1 ∨ k.op = 2 ∨ k.op = 4) ∧ k.result = none) ∧
    (let d : Dev := kcr 0 (kc 3 0x1000); let b : BankNo := 0; let k : KCmd := kc 3 0x1000;
     d.keep.running b = some k ∧ k.op = 3 ∧ k.addr % 4096 = 0 ∧ d.keep.pending (bankOf (k.addr / 4096)) = none) ∧
    (let d : Dev := kcr 0 (kc 5 0x1001); let b : BankNo := 0; let k : KCmd := kc 5 0x1001;
     d.keep.running b = some k ∧ (k.op = 3 ∨ k.op = 5) ∧ k.addr % 4096 ≠ 0) ∧
    (let d : Dev := kcr 0 ({ kc 5 0x7FFF000 with arg := 2 }); let b : BankNo := 0;
     let k : KCmd := { kc 5 0x7FFF000 with arg := 2 };
     d.keep.running b = some k ∧ k.op = 5 ∧ k.addr % 4096 = 0 ∧ 32768 < k.addr / 4096 + k.arg) ∧
    (let d : Dev := kep (fun k => { k with cmd := [(0, some ({ kc 5 0x7FFF000 with arg := 1 }))], regions := [(3, ⟨1, 2, some 3, false⟩)] }) (mk []);
     let b : BankNo := 0; let k : KCmd := { kc 5 0x7FFF000 with arg := 1 }; let reg : KRegion := d.keep.region k.region;
     d.keep.running b = some k ∧ k.op = 5 ∧ k.addr % 4096 = 0 ∧ k.addr / 4096 + k.arg ≤ 32768 ∧ reg.locked = true) ∧
    (let d : Dev := kcr 0 ({ kc 5 0x7FFF000 with arg := 1 }); let b : BankNo := 0;
     let k : KCmd := { kc 5 0x7FFF000 with arg := 1 }; let reg : KRegion := d.keep.region k.region;
     d.keep.running b = some k ∧ k.op = 5 ∧ k.addr % 4096 = 0 ∧ k.addr / 4096 + k.arg ≤ 32768 ∧ reg.locked = false) ∧
    (let d : Dev := kep (fun k => { k with cmd := [(0, some (kc 6 0))], regions := [(3, ⟨1, 2, some 3, false⟩)] }) (mk []);
     let b : BankNo := 0; let k : KCmd := kc 6 0; let reg : KRegion := d.keep.region k.region;
     d.keep.running b = some k ∧ k.op = 6 ∧ reg.locked = true) ∧
    (let d : Dev := kcr 0 (kc 6 0); let b : BankNo := 0; let k : KCmd := kc 6 0;
     let reg : KRegion := d.keep.region k.region; d.keep.running b = some k ∧ k.op = 6 ∧ reg.locked = false) ∧
    (let d : Dev := kep (fun k => { k with cmd := [(0, some (kc 7 0))], pwFail := 8 }) (mk []); let b : BankNo := 0;
     let k : KCmd := kc 7 0; d.keep.running b = some k ∧ k.op = 7 ∧ 8 ≤ d.keep.pwFail) ∧
    (let d : Dev := kep (fun k => { k with cmd := [(0, some (kc 7 0))], pwFail := 7, regions := [(3, ⟨1, 2, some 8, true⟩)] }) (mk []);
     let b : BankNo := 0; let k : KCmd := kc 7 0; let reg : KRegion := d.keep.region k.region;
     d.keep.running b = some k ∧ k.op = 7 ∧ d.keep.pwFail < 8 ∧ reg.pw = some k.pw) ∧
    (let d : Dev := kep (fun k => { k with cmd := [(0, some (kc 7 0))], pwFail := 6, regions := [(3, ⟨1, 2, some 9, true⟩)] }) (mk []);
     let b : BankNo := 0; let k : KCmd := kc 7 0; let reg : KRegion := d.keep.region k.region;
     d.keep.running b = some k ∧ k.op = 7 ∧ d.keep.pwFail < 7 ∧ (∃ x, reg.pw = some x ∧ x ≠ k.pw)) ∧
    (let d : Dev := kep (fun k => { k with cmd := [(0, some (kc 7 0))], pwFail := 7, regions := [(3, ⟨1, 2, some 9, true⟩)] }) (mk []);
     let b : BankNo := 0; let k : KCmd := kc 7 0; let reg : KRegion := d.keep.region k.region;
     d.keep.running b = some k ∧ k.op = 7 ∧ d.keep.pwFail = 7 ∧ (∃ x, reg.pw = some x ∧ x ≠ k.pw)) ∧
    (let d : Dev := kcr 0 (kc 8 0); let b : BankNo := 0; let k : KCmd := kc 8 0; d.keep.running b = some k ∧ k.op = 8) := by
  refine ⟨?_, ?_, ?_, ?_, ?_, ?_, ?_, ?_, ?_, ?_, ?_, ?_, ?_, ?_⟩
  all_goals ((try dsimp only [Dev.holdsAdmin, Dev.holdsIo]); try decide +kernel)

/-- The hypotheses of `Obligations.KeepReadsAndStreams` are met. -/
theorem witness_KeepReadsAndStreams :
    (let d : Dev := kep id (mk []); let o : Nat := 0x7FFFFFC; let n : Nat := 4;
     d.plat.on 29 = true ∧ d.keep.running (bankOf (o / 4096)) = none ∧ (n = 1 ∨ n = 2 ∨ n = 4)) ∧
    (let d : Dev := kcr 1 (kc 1 0x4000000); let o : Nat := 0x4000000; let n : Nat := 4;
     d.plat.on 29 = true ∧ d.keep.running (bankOf (o / 4096)) ≠ none) ∧
    (let d : Dev := kep (fun k => { k with stream := some (0, 0x20000000, 64, none) }) (mk []);
     d.powered Reg.KEEP_STR_CTRL ∧ d.keep.stream ≠ none) ∧
    (let d : Dev := kep id (mk [(Reg.KEEP_STR_SRC, 32), (Reg.KEEP_STR_DST_LO, 0x203FFFE0), (Reg.KEEP_STR_LEN, 64)]);
     let src : Nat := d.plat.fld Reg.KEEP_STR_SRC Fld.KEEP_STR_SRC_SRC;
     let len : Nat := d.plat.fld Reg.KEEP_STR_LEN Fld.KEEP_STR_LEN_LEN; let dst : Nat := d.plat.strDst;
     let fits : Prop := src % 32 = 0 ∧ dst % 32 = 0 ∧ len % 32 = 0 ∧ len ≠ 0 ∧ len ≤ 0x1000000 ∧ src + len ≤ 0x8000000 ∧
       d.plat.strDstOk dst len = true;
     d.powered Reg.KEEP_STR_CTRL ∧ d.keep.stream = none ∧ ¬ fits) ∧
    (let d : Dev := kep (fun k => { k with cmd := [(1, some (kc 1 0x4000000))] }) (mk [(Reg.KEEP_STR_SRC, 0x3FFFFE0),
       (Reg.KEEP_STR_DST_LO, 0x20000000), (Reg.KEEP_STR_LEN, 64)]);
     let src : Nat := d.plat.fld Reg.KEEP_STR_SRC Fld.KEEP_STR_SRC_SRC;
     let len : Nat := d.plat.fld Reg.KEEP_STR_LEN Fld.KEEP_STR_LEN_LEN; let dst : Nat := d.plat.strDst;
     let fits : Prop := src % 32 = 0 ∧ dst % 32 = 0 ∧ len % 32 = 0 ∧ len ≠ 0 ∧ len ≤ 0x1000000 ∧ src + len ≤ 0x8000000 ∧
       d.plat.strDstOk dst len = true;
     let free : Prop := ∀ b : BankNo, src < (b.val + 1) * 2 ^ 26 → b.val * 2 ^ 26 < src + len → d.keep.running b = none;
     d.powered Reg.KEEP_STR_CTRL ∧ d.keep.stream = none ∧ fits ∧ ¬ free) ∧
    (let d : Dev := kep id (mk [(Reg.KEEP_STR_SRC, 32), (Reg.KEEP_STR_DST_LO, 0x203FFFC0), (Reg.KEEP_STR_LEN, 64)]);
     let src : Nat := d.plat.fld Reg.KEEP_STR_SRC Fld.KEEP_STR_SRC_SRC;
     let len : Nat := d.plat.fld Reg.KEEP_STR_LEN Fld.KEEP_STR_LEN_LEN; let dst : Nat := d.plat.strDst;
     let fits : Prop := src % 32 = 0 ∧ dst % 32 = 0 ∧ len % 32 = 0 ∧ len ≠ 0 ∧ len ≤ 0x1000000 ∧ src + len ≤ 0x8000000 ∧
       d.plat.strDstOk dst len = true;
     let free : Prop := ∀ b : BankNo, src < (b.val + 1) * 2 ^ 26 → b.val * 2 ^ 26 < src + len → d.keep.running b = none;
     d.powered Reg.KEEP_STR_CTRL ∧ d.keep.stream = none ∧ fits ∧ free) ∧
    (let d : Dev := kep (fun k => { k with stream := some (0, 0x20000000, 64, none) }) (mk []);
     d.powered Reg.KEEP_STR_CTRL ∧ let a := 0; let t := 0x20000000; let m := 64; d.keep.stream = some (a, t, m, none)) ∧
    (let d : Dev := kep (fun k => { k with stream := some (0, 0x203FFFC0, 64, some 32) }) (mk []); let a := 0;
     let t := 0x203FFFC0; let m := 64; let stop := some 32;
     d.keep.stream = some (a, t, m, stop) ∧ 0x20000000 ≤ t ∧ t + m ≤ 0x20400000 ∧ stop.getD m < 2 ^ 25) := by
  refine ⟨?_, ?_, ?_, ?_, ?_, ?_, ?_, ?_⟩
  all_goals ((try dsimp only [Dev.holdsAdmin, Dev.holdsIo]); try decide +kernel)

end Sys2Proof.Tests
end

