-- ==== Sys2Proof/Tests/WitnessTasks.lean ====
section
/-! SUPPORT. Witnesses: for each statement about task and sequencer state commands, machines and operands that
meet the hypotheses of each of its clauses together. -/

namespace Sys2Proof.Tests

open Sys2Proof Sys2Proof.Machine

set_option linter.unusedVariables false
set_option maxRecDepth 65536
set_option Elab.async false

/-- The hypotheses of `Obligations.TasksEnterAndAreChecked` are met. -/
theorem witness_TasksEnterAndAreChecked :
    (let q : List Instr := [];
     let d : Dev := ad (tsk 2 0xA 0 ++ [(Reg.LNK_CTRL 1,
       0xFFFFFFFF)]) (fun q => { q with running := true }) (fun g => g) (fun l => { l with down := [.task 5 6 [1] []] });
     let n : ActNo := 1; let f : LinkFault := .corrected; let a : Ac := d.acWith n (d.serving n);
     let held : Nat := a.l.queue.length + (if a.busy then 1 else 0); let tag := 5; let tnum := 6; let ws := [1];
     let xs := []; let rest := [];
     a.l.down = .task tag tnum ws xs :: rest ∧ a.linkOn = true ∧ held < 2 ∧ (f = .good ∨ f = .corrected)) ∧
    (let q : List Instr := [];
     let d : Dev := ad (tsk 2 0xA 0 ++ [(Reg.LNK_CTRL 1,
       0xFFFFFFFF)]) (fun q => { q with running := true }) (fun g => g) (fun l => { l with down := [.task 5 6 [1] []], queue := [⟨5, 6, [5 * 2 ^ 60 + 3 * 2 ^ 40, 0, 0, 0, 16384, 0, 0, 0], []⟩] });
     let n : ActNo := 1; let f : LinkFault := .good; let a : Ac := d.acWith n (d.serving n);
     let held : Nat := a.l.queue.length + (if a.busy then 1 else 0); let tag := 5; let tnum := 6; let ws := [1];
     let xs := []; let rest := []; a.l.down = .task tag tnum ws xs :: rest ∧ a.linkOn = true ∧ 2 ≤ held ∧ f = .good) ∧
    (let q : List Instr := [];
     let d : Dev := ad (tsk 2 0xA 0 ++ [(Reg.LNK_CTRL 1,
       0xFFFFFFFF)]) (fun q => { q with running := true }) (fun g => g) (fun l => { l with down := [.task 5 6 [1] []] });
     let n : ActNo := 1; let f : LinkFault := .uncorrectable; let a : Ac := d.acWith n (d.serving n); let tag := 5;
     let tnum := 6; let ws := [1]; let xs := []; let rest := [];
     a.l.down = .task tag tnum ws xs :: rest ∧ a.linkOn = true ∧ f = .uncorrectable) ∧
    (let q : List Instr := [];
     let d : Dev := ad (tsk 2 0xA 0 ++ [(Reg.LNK_CTRL 1,
       0xFFFFFFFF)]) (fun q => { q with running := true }) (fun g => g) (fun l => { l with down := [.task 5 6 [1] []] });
     let n : ActNo := 1; let f : LinkFault := .protocol; let a : Ac := d.acWith n (d.serving n); let tag := 5;
     let tnum := 6; let ws := [1]; let xs := []; let rest := [];
     a.l.down = .task tag tnum ws xs :: rest ∧ a.linkOn = true ∧ f = .protocol) ∧
    (let d : Dev := mk [(Reg.LNK_CTRL 1, 0)]; let n : ActNo := 1; let a : Ac := d.acWith n (d.serving n); a.linkOn = false) ∧
    (let q : List Instr := [];
     let d : Dev := ad ([(Reg.TSQ_CTRL 1, fs [(Fld.TSQ_CTRL_RUN,
       1)])]) (fun q => { q with running := true }) (fun g => g) (fun l => { l with queue := [⟨5, 6, [], []⟩] });
     let n : ActNo := 1; let a : Ac := d.acWith n (d.serving n); let b (e : Dev) : Ac := e.acWith n (d.serving n);
     let ready : Prop := a.busy = false ∧ d.plat.bit (Reg.TSQ_CTRL a.t) Fld.TSQ_CTRL_RUN = true ∧
       d.plat.bit (Reg.TSQ_STATUS a.t) Fld.TSQ_STATUS_HALTED = false ∧ d.plat.on (4 * n.val + 2) = true;
     let x := ⟨5, 6, [], []⟩; let xs := []; a.l.queue = x :: xs ∧ ready ∧ let c : Ac := a.loadTask x;
     let formed : Prop := c.wellFormed (d.plat.bit (Reg.TSQ_SCAN a.t) Fld.TSQ_SCAN_EN) = true; ¬ formed) ∧
    (let q : List Instr := [];
     let d : Dev := ad ([(Reg.TSQ_CTRL 1, fs [(Fld.TSQ_CTRL_RUN,
       1)])]) (fun q => { q with running := true }) (fun g => g) (fun l => { l with queue := [⟨5, 6, [2 * 2 ^ 60 + 3 * 2 ^ 40, 0xABCD * 2 ^ 32 + 7 * 2 ^ 20 + 0xA, 3 * 2 ^ 40 + 50 * 2 ^ 20 + 5, 0, 4 * 2 ^ 54 + 2 ^ 51, 0, 0, 0], []⟩] });
     let n : ActNo := 1; let a : Ac := d.acWith n (d.serving n); let b (e : Dev) : Ac := e.acWith n (d.serving n);
     let ready : Prop := a.busy = false ∧ d.plat.bit (Reg.TSQ_CTRL a.t) Fld.TSQ_CTRL_RUN = true ∧
       d.plat.bit (Reg.TSQ_STATUS a.t) Fld.TSQ_STATUS_HALTED = false ∧ d.plat.on (4 * n.val + 2) = true;
     let x := ⟨5, 6, [2 * 2 ^ 60 + 3 * 2 ^ 40, 0xABCD * 2 ^ 32 + 7 * 2 ^ 20 + 0xA, 3 * 2 ^ 40 + 50 * 2 ^ 20 + 5, 0,
       4 * 2 ^ 54 + 2 ^ 51, 0, 0, 0], []⟩;
     let xs := []; a.l.queue = x :: xs ∧ ready ∧ let c : Ac := a.loadTask x;
     let formed : Prop := c.wellFormed (d.plat.bit (Reg.TSQ_SCAN a.t) Fld.TSQ_SCAN_EN) = true;
     formed ∧ c.kind ≠ 5 ∧ c.bindReason ≠ 0) ∧
    (let q : List Instr := [];
     let d : Dev := ad ([(Reg.TSQ_CTRL 1, fs [(Fld.TSQ_CTRL_RUN, 1)]), (Reg.TSQ_MQ_ST 1 3, fs [(Fld.TSQ_MQ_ST_VALID, 1)]),
       (Reg.TSQ_MQ_ID 1 3,
       0xABCD)]) (fun q => imgB 0x13 [0xA] <| imgB 0x3C [8] { q with running := true }) (fun g => g) (fun l => { l with queue := [⟨5, 6, [2 * 2 ^ 60 + 3 * 2 ^ 40, 0xABCD * 2 ^ 32 + 7 * 2 ^ 20 + 0xA, 3 * 2 ^ 40 + 50 * 2 ^ 20 + 5, 0, 4 * 2 ^ 54 + 2 ^ 51, 0, 0, 0], []⟩] });
     let n : ActNo := 1; let a : Ac := d.acWith n (d.serving n); let b (e : Dev) : Ac := e.acWith n (d.serving n);
     let ready : Prop := a.busy = false ∧ d.plat.bit (Reg.TSQ_CTRL a.t) Fld.TSQ_CTRL_RUN = true ∧
       d.plat.bit (Reg.TSQ_STATUS a.t) Fld.TSQ_STATUS_HALTED = false ∧ d.plat.on (4 * n.val + 2) = true;
     let x := ⟨5, 6, [2 * 2 ^ 60 + 3 * 2 ^ 40, 0xABCD * 2 ^ 32 + 7 * 2 ^ 20 + 0xA, 3 * 2 ^ 40 + 50 * 2 ^ 20 + 5, 0,
       4 * 2 ^ 54 + 2 ^ 51, 0, 0, 0], []⟩;
     let xs := []; a.l.queue = x :: xs ∧ ready ∧ let c : Ac := a.loadTask x;
     let formed : Prop := c.wellFormed (d.plat.bit (Reg.TSQ_SCAN a.t) Fld.TSQ_SCAN_EN) = true;
     formed ∧ c.kind ≠ 5 ∧ c.bindReason = 0 ∧ c.sample.staleReason ≠ 0) ∧
    (let q : List Instr := [];
     let d : Dev := ad ([(Reg.TSQ_CTRL 1, fs [(Fld.TSQ_CTRL_RUN, 1)]), (Reg.TSQ_MQ_ST 1 3, fs [(Fld.TSQ_MQ_ST_VALID, 1)]),
       (Reg.TSQ_MQ_ID 1 3, 0xABCD), (Reg.TSQ_ENV_AGE 1,
       0)]) (fun q => imgB 0x13 [0xA] <| imgB 0x3C [8] { q with running := true }) (fun g => g) (fun l => { l with queue := [⟨5, 6, [2 * 2 ^ 60 + 3 * 2 ^ 40, 0xABCD * 2 ^ 32 + 7 * 2 ^ 20 + 0xA, 3 * 2 ^ 40 + 50 * 2 ^ 20 + 5, 0, 4 * 2 ^ 54 + 2 ^ 51, 0, 0, 0], []⟩] });
     let n : ActNo := 1; let a : Ac := d.acWith n (d.serving n); let b (e : Dev) : Ac := e.acWith n (d.serving n);
     let ready : Prop := a.busy = false ∧ d.plat.bit (Reg.TSQ_CTRL a.t) Fld.TSQ_CTRL_RUN = true ∧
       d.plat.bit (Reg.TSQ_STATUS a.t) Fld.TSQ_STATUS_HALTED = false ∧ d.plat.on (4 * n.val + 2) = true;
     let x := ⟨5, 6, [2 * 2 ^ 60 + 3 * 2 ^ 40, 0xABCD * 2 ^ 32 + 7 * 2 ^ 20 + 0xA, 3 * 2 ^ 40 + 50 * 2 ^ 20 + 5, 0,
       4 * 2 ^ 54 + 2 ^ 51, 0, 0, 0], []⟩;
     let xs := []; a.l.queue = x :: xs ∧ ready ∧ let c : Ac := a.loadTask x;
     let formed : Prop := c.wellFormed (d.plat.bit (Reg.TSQ_SCAN a.t) Fld.TSQ_SCAN_EN) = true;
     formed ∧ (c.kind = 5 ∨ c.bindReason = 0 ∧ c.sample.staleReason = 0)) ∧
    (let d : Dev := mk []; let n : ActNo := 1; let a : Ac := d.acWith n (d.serving n);
     let ready : Prop := a.busy = false ∧ d.plat.bit (Reg.TSQ_CTRL a.t) Fld.TSQ_CTRL_RUN = true ∧
       d.plat.bit (Reg.TSQ_STATUS a.t) Fld.TSQ_STATUS_HALTED = false ∧ d.plat.on (4 * n.val + 2) = true;
     (a.l.queue = [] ∨ ¬ ready)) := by
  refine ⟨?_, ?_, ?_, ?_, ?_, ?_, ?_, ?_, ?_, ?_⟩
  all_goals ((try dsimp only [Dev.holdsAdmin, Dev.holdsIo]); try decide +kernel)

/-- The hypotheses of `Obligations.AbortsAndDataReachTheTask` are met. -/
theorem witness_AbortsAndDataReachTheTask :
    (let q : List Instr := [];
     let d : Dev := ad ([(Reg.LNK_CTRL 1,
       0xFFFFFFFF)]) (fun q => { q with running := true }) (fun g => g) (fun l => { l with down := [.abrt 5 6], queue := [⟨5, 6, [5 * 2 ^ 60 + 3 * 2 ^ 40, 0, 0, 0, 16384, 0, 0, 0], []⟩] });
     let n : ActNo := 1; let tag : Nat := 5; let tnum : Nat := 6; let rest : List DnPkt := [];
     let a : Ac := d.acWith n (d.serving n); let found (x : Queued) : Bool := x.tag == tag && x.tnum == tnum;
     a.l.down = .abrt tag tnum :: rest ∧ a.linkOn = true ∧ let x := ⟨5, 6, [5 * 2 ^ 60 + 3 * 2 ^ 40, 0, 0, 0, 16384, 0, 0, 0], []⟩;
     a.l.queue.find? found = some x ∧ a.busy = false) ∧
    (let q : List Instr := [];
     let d : Dev := ad (tsk 2 0xA 0 ++ [(Reg.LNK_CTRL 1,
       0xFFFFFFFF)]) (fun q => { q with running := true }) (fun g => g) (fun l => { l with down := [.abrt 5 6], queue := [⟨5, 6, [5 * 2 ^ 60 + 3 * 2 ^ 40, 0, 0, 0, 16384, 0, 0, 0], []⟩] });
     let n : ActNo := 1; let tag : Nat := 5; let tnum : Nat := 6; let rest : List DnPkt := [];
     let a : Ac := d.acWith n (d.serving n); let found (x : Queued) : Bool := x.tag == tag && x.tnum == tnum;
     a.l.down = .abrt tag tnum :: rest ∧ a.linkOn = true ∧ let x := ⟨5, 6, [5 * 2 ^ 60 + 3 * 2 ^ 40, 0, 0, 0, 16384, 0, 0, 0], []⟩;
     a.l.queue.find? found = some x ∧ a.busy = true) ∧
    (let q : List Instr := [];
     let d : Dev := ad (tsk 2 0xA 0 ++ [(Reg.LNK_CTRL 1, 0xFFFFFFFF), (Reg.TSQ_TNUM 1, fs [(Fld.TSQ_TNUM_TAG, 5),
       (Fld.TSQ_TNUM_TNUM,
       6)])]) (fun q => { q with running := true, ponr := true }) (fun g => g) (fun l => { l with down := [.abrt 5 6] });
     let n : ActNo := 1; let tag : Nat := 5; let tnum : Nat := 6; let rest : List DnPkt := [];
     let a : Ac := d.acWith n (d.serving n); let mine : Prop := a.busy = true ∧ a.tag = tag ∧ a.tnum = tnum;
     let found (x : Queued) : Bool := x.tag == tag && x.tnum == tnum;
     a.l.down = .abrt tag tnum :: rest ∧ a.linkOn = true ∧ a.l.queue.find? found = none ∧ mine ∧ a.q.ponr = true) ∧
    (let q : List Instr := [];
     let d : Dev := ad (tsk 2 0xA 0 ++ [(Reg.LNK_CTRL 1, 0xFFFFFFFF), (Reg.TSQ_TNUM 1, fs [(Fld.TSQ_TNUM_TAG, 5),
       (Fld.TSQ_TNUM_TNUM,
       6)])]) (fun q => { q with running := true }) (fun g => g) (fun l => { l with down := [.abrt 5 6] });
     let n : ActNo := 1; let tag : Nat := 5; let tnum : Nat := 6; let rest : List DnPkt := [];
     let a : Ac := d.acWith n (d.serving n); let mine : Prop := a.busy = true ∧ a.tag = tag ∧ a.tnum = tnum;
     let found (x : Queued) : Bool := x.tag == tag && x.tnum == tnum;
     a.l.down = .abrt tag tnum :: rest ∧ a.linkOn = true ∧ a.l.queue.find? found = none ∧ mine ∧ a.q.ponr = false) ∧
    (let q : List Instr := [];
     let d : Dev := ad (tsk 2 0xA 0 ++ [(Reg.LNK_CTRL 1,
       0xFFFFFFFF)]) (fun q => { q with running := true }) (fun g => g) (fun l => { l with down := [.abrt 5 6] });
     let n : ActNo := 1; let tag : Nat := 5; let tnum : Nat := 6; let rest : List DnPkt := [];
     let a : Ac := d.acWith n (d.serving n); let mine : Prop := a.busy = true ∧ a.tag = tag ∧ a.tnum = tnum;
     let found (x : Queued) : Bool := x.tag == tag && x.tnum == tnum;
     a.l.down = .abrt tag tnum :: rest ∧ a.linkOn = true ∧ a.l.queue.find? found = none ∧ ¬ mine) ∧
    (let q : List Instr := [];
     let d : Dev := ad (tsk 2 0xA 0 ++ [(Reg.LNK_CTRL 1, 0xFFFFFFFF), (Reg.TSQ_TNUM 1, fs [(Fld.TSQ_TNUM_TAG, 5),
       (Fld.TSQ_TNUM_TNUM,
       6)])]) (fun q => { q with running := true }) (fun g => g) (fun l => { l with down := [.data 5 6 1 [7] true] });
     let n : ActNo := 1; let tag : Nat := 5; let tnum : Nat := 6; let sidx : Nat := 1; let bytes : List Byte := [7];
     let bad : Bool := true; let rest : List DnPkt := []; let a : Ac := d.acWith n (d.serving n);
     a.l.down = .data tag tnum sidx bytes bad :: rest ∧ a.linkOn = true ∧ bad = true) ∧
    (let q : List Instr := [];
     let d : Dev := ad ([(Reg.LNK_CTRL 1, 0xFFFFFFFF), (Reg.TSQ_TNUM 1, fs [(Fld.TSQ_TNUM_TAG, 5), (Fld.TSQ_TNUM_TNUM,
       6)])]) (fun q => { q with running := true }) (fun g => g) (fun l => { l with down := [.data 5 6 1 [7] false] });
     let n : ActNo := 1; let tag : Nat := 5; let tnum : Nat := 6; let sidx : Nat := 1; let bytes : List Byte := [7];
     let bad : Bool := false; let rest : List DnPkt := []; let a : Ac := d.acWith n (d.serving n);
     a.l.down = .data tag tnum sidx bytes bad :: rest ∧ a.linkOn = true ∧ bad = false ∧ (a.busy = false ∨ a.tnum ≠ tnum)) ∧
    (let q : List Instr := [];
     let d : Dev := ad (tsk 2 0xA 0 ++ [(Reg.LNK_CTRL 1, 0xFFFFFFFF), (Reg.TSQ_TNUM 1, fs [(Fld.TSQ_TNUM_TAG, 5),
       (Fld.TSQ_TNUM_TNUM, 6)]), (Reg.LNK_STATUS 1, fs [(Fld.LNK_STATUS_DN_GRANT,
       0)])]) (fun q => { q with running := true }) (fun g => g) (fun l => { l with down := [.data 5 6 1 [7] false] });
     let n : ActNo := 1; let tag : Nat := 5; let tnum : Nat := 6; let sidx : Nat := 1; let bytes : List Byte := [7];
     let bad : Bool := false; let rest : List DnPkt := []; let a : Ac := d.acWith n (d.serving n);
     a.l.down = .data tag tnum sidx bytes bad :: rest ∧ a.linkOn = true ∧ bad = false ∧ a.busy = true ∧ a.tnum = tnum ∧
       a.grant = 0) ∧
    (let q : List Instr := [];
     let d : Dev := ad (tsk 2 0xA 0 ++ [(Reg.LNK_CTRL 1, 0xFFFFFFFF), (Reg.TSQ_TNUM 1, fs [(Fld.TSQ_TNUM_TAG, 5),
       (Fld.TSQ_TNUM_TNUM, 6)]), (Reg.LNK_STATUS 1, fs [(Fld.LNK_STATUS_DN_GRANT,
       1)])]) (fun q => { q with running := true }) (fun g => g) (fun l => { l with down := [.data 5 6 1 [7] false] });
     let n : ActNo := 1; let tag : Nat := 5; let tnum : Nat := 6; let sidx : Nat := 1; let bytes : List Byte := [7];
     let bad : Bool := false; let rest : List DnPkt := []; let a : Ac := d.acWith n (d.serving n);
     a.l.down = .data tag tnum sidx bytes bad :: rest ∧ a.linkOn = true ∧ bad = false ∧ a.busy = true ∧ a.tnum = tnum ∧
       a.grant ≠ 0 ∧ a.isLoad = false) ∧
    (let q : List Instr := [];
     let d : Dev := ad (tsk 5 0xA 0 ++ [(Reg.LNK_CTRL 1, 0xFFFFFFFF), (Reg.TSQ_TNUM 1, fs [(Fld.TSQ_TNUM_TAG, 5),
       (Fld.TSQ_TNUM_TNUM, 6)]), (Reg.LNK_STATUS 1, fs [(Fld.LNK_STATUS_DN_GRANT, 1)]), (Reg.TSQ_STATUS 1,
       fs [(Fld.TSQ_STATUS_BUSY, 1), (Fld.TSQ_STATUS_LOCKED,
       1)])]) (fun q => { q with running := true }) (fun g => g) (fun l => { l with down := [.data 5 6 1 [7] false] });
     let n : ActNo := 1; let tag : Nat := 5; let tnum : Nat := 6; let sidx : Nat := 1; let bytes : List Byte := [7];
     let bad : Bool := false; let rest : List DnPkt := []; let a : Ac := d.acWith n (d.serving n);
     a.l.down = .data tag tnum sidx bytes bad :: rest ∧ a.linkOn = true ∧ bad = false ∧ a.isLoad = true ∧ a.tnum = tnum ∧
       a.grant ≠ 0 ∧ a.locked = true) ∧
    (let q : List Instr := [];
     let d : Dev := ad (tsk 5 0xA 0 ++ [(Reg.LNK_CTRL 1, 0xFFFFFFFF), (Reg.TSQ_TNUM 1, fs [(Fld.TSQ_TNUM_TAG, 5),
       (Fld.TSQ_TNUM_TNUM, 6)]), (Reg.LNK_STATUS 1, fs [(Fld.LNK_STATUS_DN_GRANT,
       1)])]) (fun q => { q with running := true }) (fun g => g) (fun l => { l with down := [.data 5 6 1 [7] false] });
     let n : ActNo := 1; let tag : Nat := 5; let tnum : Nat := 6; let sidx : Nat := 1; let bytes : List Byte := [7];
     let bad : Bool := false; let rest : List DnPkt := []; let a : Ac := d.acWith n (d.serving n);
     a.l.down = .data tag tnum sidx bytes bad :: rest ∧ a.linkOn = true ∧ bad = false ∧ a.isLoad = true ∧ a.tnum = tnum ∧
       a.grant ≠ 0 ∧ a.locked = false ∧ sidx < 16) ∧
    (let d : Dev := mk [(Reg.LNK_CTRL 1, 0)]; let n : ActNo := 1; let a : Ac := d.acWith n (d.serving n);
     let i : Instr := .abrtReceive n .good; let j : Instr := .dataDownReceive n .good;
     a.linkOn = false ∧ let x : Instr := j; x ∈ [i, j]) := by
  refine ⟨?_, ?_, ?_, ?_, ?_, ?_, ?_, ?_, ?_, ?_, ?_, ?_⟩
  all_goals ((try dsimp only [Dev.holdsAdmin, Dev.holdsIo]); try decide +kernel)

/-- The hypotheses of `Obligations.TimeoutsParityErrorsAndTimedEvents` are met. -/
theorem witness_TimeoutsParityErrorsAndTimedEvents :
    (let q : List Instr := [];
     let d : Dev := ad (tsk 2 0xA 0 ++ [(Reg.TSQ_WAIT_LIMIT 1,
       9)]) (fun q => { q with running := true, held := true }) (fun g => g) (fun l => l);
     let n : ActNo := 1; let a : Ac := d.acWith n (d.serving n); let limit (r : Nat) : Prop := (d.plat.rd r).toNat ≠ 0;
     let waits : Prop := a.q.running = true ∧ a.q.held = true ∧ limit (Reg.TSQ_WAIT_LIMIT a.t); waits ∧ a.busy = true) ∧
    (let d : Dev := mk []; let n : ActNo := 1; let a : Ac := d.acWith n (d.serving n);
     let limit (r : Nat) : Prop := (d.plat.rd r).toNat ≠ 0;
     let waits : Prop := a.q.running = true ∧ a.q.held = true ∧ limit (Reg.TSQ_WAIT_LIMIT a.t); ¬ waits) ∧
    (let q : List Instr := [];
     let d : Dev := ad (tsk 2 0xA 0 ++ [(Reg.TSQ_PC 1, fs [(Fld.TSQ_PC_GAP,
       64)])]) (fun q => { q with running := true }) (fun g => g) (fun l => l);
     let n : ActNo := 1; let a : Ac := d.acWith n (d.serving n); let gaps : Prop := a.q.running = true ∧ 64 ≤ a.gap;
     gaps ∧ a.busy = true) ∧
    (let d : Dev := mk []; let n : ActNo := 1; let a : Ac := d.acWith n (d.serving n);
     let gaps : Prop := a.q.running = true ∧ 64 ≤ a.gap; ¬ gaps) ∧
    (let q : List Instr := [];
     let d : Dev := ad (tsk 2 0xA 0 ++ [(Reg.TSQ_STATUS 1, fs [(Fld.TSQ_STATUS_BUSY, 1), (Fld.TSQ_STATUS_LOCKED, 1)]),
       (Reg.TSQ_END_LIMIT 1, 9)]) (fun q => { q with running := true }) (fun g => g) (fun l => l);
     let n : ActNo := 1; let a : Ac := d.acWith n (d.serving n); let limit (r : Nat) : Prop := (d.plat.rd r).toNat ≠ 0;
     let late : Prop := a.busy = true ∧ a.locked = true ∧ limit (Reg.TSQ_END_LIMIT a.t); late ∧ a.q.pos.win = none) ∧
    (let d : Dev := mk []; let n : ActNo := 1; let a : Ac := d.acWith n (d.serving n);
     let limit (r : Nat) : Prop := (d.plat.rd r).toNat ≠ 0;
     let late : Prop := a.busy = true ∧ a.locked = true ∧ limit (Reg.TSQ_END_LIMIT a.t); ¬ late) ∧
    (let q : List Instr := [];
     let d : Dev := ad (tsk 2 0xA 0 ++ []) (fun q => { q with running := true }) (fun g => g) (fun l => l);
     let n : ActNo := 1; let a : Ac := d.acWith n (d.serving n); a.busy = true ∧ a.isLoad = false ∧ a.q.pos.win = none) ∧
    (let d : Dev := mk []; let n : ActNo := 1; let a : Ac := d.acWith n (d.serving n); (a.busy = false ∨ a.isLoad = true)) ∧
    (let q : List Instr := [];
     let d : Dev := ad (tsk 2 0xA 0 ++ []) (fun q => { q with running := true, cmp := .window 4 5 }) (fun g => g) (fun l => l);
     let n : ActNo := 1; let a : Ac := d.acWith n (d.serving n); let on : Prop := a.q.running = true ∧ a.busy = true;
     let p := 4; let o := 5; on ∧ a.q.cmp = .window p o) ∧
    (let q : List Instr := [];
     let d : Dev := ad (tsk 2 0xA 0 ++ []) (fun q => { q with running := true, cmp := .now 5 }) (fun g => g) (fun l => l);
     let n : ActNo := 1; let a : Ac := d.acWith n (d.serving n); let on : Prop := a.q.running = true ∧ a.busy = true;
     let o := 5; on ∧ a.q.cmp = .now o) ∧
    (let q : List Instr := [];
     let d : Dev := ad (tsk 2 0xA 0 ++ []) (fun q => imgB 0x24 [5] { q with running := true, cmp := .wedge 4 5 }) (fun g => g) (fun l => l);
     let n : ActNo := 1; let a : Ac := d.acWith n (d.serving n); let on : Prop := a.q.running = true ∧ a.busy = true;
     let w := 4; let o := 5; on ∧ a.q.cmp = .wedge w o ∧ w < a.img.wedges) ∧
    (let q : List Instr := [];
     let d : Dev := ad (tsk 2 0xA 0 ++ []) (fun q => imgB 0x24 [5] { q with running := true, cmp := .wedge 5 5 }) (fun g => g) (fun l => l);
     let n : ActNo := 1; let a : Ac := d.acWith n (d.serving n); let w := 5; let o := 5;
     a.q.cmp = .wedge w o ∧ a.img.wedges ≤ w) ∧
    (let d : Dev := mk []; let n : ActNo := 1; let a : Ac := d.acWith n (d.serving n); a.q.cmp = .off) ∧
    (let q : List Instr := [];
     let d : Dev := ad (tsk 1 0xA 0 ++ []) (fun q => { q with running := true, parity := [(50, [1])], pos := { q.pos with lrow := 50 } }) (fun g => g) (fun l => l);
     let n : ActNo := 1; let a : Ac := d.acWith n (d.serving n);
     let formed : Prop := a.isZwrite = true ∧ ∃ y ∈ a.q.parity, y.1 = a.q.pos.lrow; formed) ∧
    (let d : Dev := mk []; let n : ActNo := 1; let a : Ac := d.acWith n (d.serving n);
     let formed : Prop := a.isZwrite = true ∧ ∃ y ∈ a.q.parity, y.1 = a.q.pos.lrow; ¬ formed) ∧
    (let q : List Instr := [];
     let d : Dev := ad (tsk 2 0xA 0 ++ []) (fun q => { q with running := true }) (fun g => { g with rows := [{ rr 50 [] with rebuild := some 0 }] }) (fun l => l);
     let n : ActNo := 1; let a : Ac := d.acWith n (d.serving n); let r := { rr 50 [] with rebuild := some 0 }; let rs := [];
     let s := 0; a.g.rows = r :: rs ∧ r.rebuild = some s) ∧
    (let q : List Instr := [];
     let d : Dev := ad (tsk 2 0xA 0 ++ []) (fun q => { q with running := true }) (fun g => { g with rows := [rr 50 []] }) (fun l => l);
     let n : ActNo := 1; let a : Ac := d.acWith n (d.serving n); let r := rr 50 []; let rs := [];
     a.g.rows = r :: rs ∧ r.rebuild = none) := by
  refine ⟨?_, ?_, ?_, ?_, ?_, ?_, ?_, ?_, ?_, ?_, ?_, ?_, ?_, ?_, ?_, ?_, ?_⟩
  all_goals ((try dsimp only [Dev.holdsAdmin, Dev.holdsIo]); try decide +kernel)

/-- The hypotheses of `Obligations.SequencerRegistersAndTheSpare` are met. -/
theorem witness_SequencerRegistersAndTheSpare :
    (let d : Dev := mk [(Reg.TSQ_STATUS 1, fs [(Fld.TSQ_STATUS_DETACHED, 1)])]; let t : SeqNo := 1; let p : Plat := d.plat;
     let st : Nat := Reg.TSQ_STATUS t; let ctl : Nat := Reg.TSQ_CTRL t; let on : Prop := d.powered ctl;
     on ∧ p.bit st Fld.TSQ_STATUS_DETACHED = true) ∧
    (let d : Dev := mk []; let t : SeqNo := 1; let p : Plat := d.plat; let st : Nat := Reg.TSQ_STATUS t;
     let ctl : Nat := Reg.TSQ_CTRL t; let on : Prop := d.powered ctl; on ∧ p.bit st Fld.TSQ_STATUS_DETACHED = false) ∧
    (let d : Dev := mk [(Reg.TSQ_STATUS 1, fs [(Fld.TSQ_STATUS_CS_BUSY, 1)])]; let t : SeqNo := 1; let p : Plat := d.plat;
     let st : Nat := Reg.TSQ_STATUS t; p.bit st Fld.TSQ_STATUS_CS_BUSY = true) ∧
    (let d : Dev := mk []; let t : SeqNo := 1; let p : Plat := d.plat; let st : Nat := Reg.TSQ_STATUS t;
     p.bit st Fld.TSQ_STATUS_CS_BUSY = false) ∧
    (let d : Dev := mk []; let t : SeqNo := 1; let i : CsWordNo := 0; let p : Plat := d.plat;
     let st : Nat := Reg.TSQ_STATUS t; let cs : Nat := 0x41020000 + 0x400000 * t.val + 4 * i.val;
     let testing : Prop := d.bcl.testing 2 t = true;
     let idle (k : Nat) : Prop := p.bit (Reg.TSQ_CTRL k) Fld.TSQ_CTRL_RUN = false ∧
       p.bit (Reg.TSQ_STATUS k) Fld.TSQ_STATUS_BUSY = false;
     d.powered cs ∧ ¬ testing ∧ idle t ∧ p.bit st Fld.TSQ_STATUS_CS_BUSY = false) ∧
    (let d : Dev := mk [(Reg.TSQ_STATUS 1, fs [(Fld.TSQ_STATUS_BUSY, 1)])]; let t : SeqNo := 1; let i : CsWordNo := 0;
     let p : Plat := d.plat; let st : Nat := Reg.TSQ_STATUS t; let cs : Nat := 0x41020000 + 0x400000 * t.val + 4 * i.val;
     let testing : Prop := d.bcl.testing 2 t = true;
     let idle (k : Nat) : Prop := p.bit (Reg.TSQ_CTRL k) Fld.TSQ_CTRL_RUN = false ∧
       p.bit (Reg.TSQ_STATUS k) Fld.TSQ_STATUS_BUSY = false;
     d.powered cs ∧ (testing ∨ ¬ idle t ∨ p.bit st Fld.TSQ_STATUS_CS_BUSY = true)) ∧
    (let d : Dev := mk []; let attach : Bool := false; let host : ActNo := 0; let p : Plat := d.plat;
     let was : Bool := p.bit (Reg.TSQ_CTRL 4) Fld.TSQ_CTRL_ATTACH;
     let old : Nat := p.fld (Reg.TSQ_CTRL 4) Fld.TSQ_CTRL_HOST; let same : Prop := was = attach ∧ old = host;
     d.powered (Reg.TSQ_CTRL 4) ∧ same) ∧
    (let d : Dev := mk [(Reg.TSQ_STATUS 1, fs [(Fld.TSQ_STATUS_BUSY, 1)])]; let attach : Bool := true;
     let host : ActNo := 1; let p : Plat := d.plat; let was : Bool := p.bit (Reg.TSQ_CTRL 4) Fld.TSQ_CTRL_ATTACH;
     let old : Nat := p.fld (Reg.TSQ_CTRL 4) Fld.TSQ_CTRL_HOST;
     let idle (k : Nat) : Prop := p.bit (Reg.TSQ_CTRL k) Fld.TSQ_CTRL_RUN = false ∧
       p.bit (Reg.TSQ_STATUS k) Fld.TSQ_STATUS_BUSY = false;
     let free : Prop := idle 4 ∧ (attach = true → idle host) ∧ (was = true → idle old);
     let same : Prop := was = attach ∧ old = host; d.powered (Reg.TSQ_CTRL 4) ∧ ¬ same ∧ ¬ free) ∧
    (let d : Dev := mk []; let attach : Bool := true; let host : ActNo := 1; let p : Plat := d.plat;
     let was : Bool := p.bit (Reg.TSQ_CTRL 4) Fld.TSQ_CTRL_ATTACH;
     let old : Nat := p.fld (Reg.TSQ_CTRL 4) Fld.TSQ_CTRL_HOST;
     let idle (k : Nat) : Prop := p.bit (Reg.TSQ_CTRL k) Fld.TSQ_CTRL_RUN = false ∧
       p.bit (Reg.TSQ_STATUS k) Fld.TSQ_STATUS_BUSY = false;
     let free : Prop := idle 4 ∧ (attach = true → idle host) ∧ (was = true → idle old);
     let same : Prop := was = attach ∧ old = host; d.powered (Reg.TSQ_CTRL 4) ∧ ¬ same ∧ free) ∧
    (let d : Dev := mk []; let t : SeqNo := 1; d.powered (Reg.TSQ_ENV t)) := by
  refine ⟨?_, ?_, ?_, ?_, ?_, ?_, ?_, ?_, ?_, ?_⟩
  all_goals ((try dsimp only [Dev.holdsAdmin, Dev.holdsIo]); try decide +kernel)

end Sys2Proof.Tests
end

section
/-! The start of a core and the Interrupt Hub (R382 to R387): what a start, a claim, a completion, the source registers and the
software interrupts do to the registers, and the obligation they settle. -/

namespace Sys2Proof.Machine

/-! ## Accesses that reach their register -/

/-- A register write whose domain is on completes with its effect. -/
theorem ends_regWrite {i : Instr} {q : List Instr} {d : Dev} {c : Fin 4} {a : Nat} {f : Dev → Dev}
    (h : ∀ s, exec i s = s.does (fun d => d.regWrite c a f)) (on : d.powered a) {P : Dev → Prop} (hp : P (f d)) :
    Ends i ⟨q, d⟩ P :=
  ends_does (h _) (by rwa [dev_regWrite_on _ _ _ _ on])

/-- A register read whose domain is on completes with its effect. -/
theorem ends_regRead {i : Instr} {q : List Instr} {d : Dev} {c : Fin 4} {a : Nat} {f : Dev → Dev}
    (h : ∀ s, exec i s = s.does (fun d => d.regRead c a f)) (on : d.powered a) {P : Dev → Prop} (hp : P (f d)) :
    Ends i ⟨q, d⟩ P :=
  ends_does (h _) (by rwa [dev_regRead_on _ _ _ _ on])

/-! ## Starting a core (R382) -/

theorem sys_core_setCore_same (y : Sys) (c : Nat) (k : CoreState) : (y.setCore c k).core c = k :=
  smap_get_set_same _ _ _ _

theorem sys_core_setCore_ne (y : Sys) (c j : Nat) (k : CoreState) (h : j ≠ c) : (y.setCore c k).core j = y.core j :=
  smap_get_set_ne _ _ _ _ _ h

/-- Setting one bit of a register shows in a wider field that covers it. -/
theorem plat_fld_putBit_testBit (p : Plat) (a k : Nat) (g : Fld) (hk : k < g.w) (hg : g.lo + g.w ≤ 32) :
    ((p.putBit a ⟨g.lo + k, 1⟩ true).fld a g).testBit k = true := by
  rw [Plat.fld, fld_get_testBit, Plat.putBit, Plat.setFld, plat_rd_wr_same, fld_put_getLsbD _ _ _ _ (by omega)]
  simp [hk]

theorem coreStart_refused (p : Plat) (y : Sys) (k addr : Nat)
    (h : k = 0 ∨ (p.fld Reg.SYS_CORE_STAT Fld.SYS_CORE_STAT_RUNNING).testBit k = true) :
    coreStart p y k addr = (p.setFlag Reg.SYS_EVT Fld.SYS_EVT_START_REFUSED, y) := if_pos h

/-- A start of a core that is not running, at an address of control SRAM that the register can name. -/
theorem coreStart_starts (p : Plat) (y : Sys) (k addr : Nat) (h0 : k ≠ 0)
    (hr : (p.fld Reg.SYS_CORE_STAT Fld.SYS_CORE_STAT_RUNNING).testBit k = false) (ha : addr < 0x400000) (h4 : addr % 4 = 0) :
    coreStart p y k addr = (p.putBit Reg.SYS_CORE_STAT ⟨k, 1⟩ true,
      y.setCore k { y.core k with
        pc := BitVec.ofNat 40 (0x20000000 + addr), mmode := true, a0 := BitVec.ofNat 64 k, a1 := (y.core 0).a1,
        a2 := (y.core 0).a2 }) := by
  have hat : addr / 4 * 4 % 0x400000 = addr := by omega
  rw [coreStart, if_neg (by simp [h0, hr]), hat]

/-- A start address of a well-formed command lies in control SRAM and is a word's. -/
theorem coreStart_wf {c k : CoreNo} {addr : Nat} (h : (Instr.coreStart c k addr).wf = true) :
    addr < 0x400000 ∧ addr % 4 = 0 := by
  have hw : (decide (addr < 0x400000) && decide (addr % 4 = 0)) = true := h
  simpa using hw

/-! ## The source registers (R385) -/

/-- A descriptor of one array covers no offset behind the array's end. -/
theorem covers_lt {r : RegDesc} {o : Nat} (h : r.covers o = true) (hs : r.s2 = 0) : o < r.off + r.n1 * max 1 r.s1 := by
  simp only [RegDesc.covers, hs, Nat.mod_zero, Bool.and_eq_true, decide_eq_true_eq] at h
  obtain ⟨⟨⟨hoff, hn⟩, -⟩, hm⟩ := h
  have hdiv : r.s1 * ((o - r.off) / r.s1) = o - r.off := by
    have := Nat.div_add_mod (o - r.off) r.s1
    omega
  have hlt : o - r.off < r.n1 * max 1 r.s1 := by
    rcases Nat.eq_zero_or_pos r.s1 with h0 | hpos
    · rw [h0, Nat.zero_mul] at hdiv
      rw [h0, Nat.div_zero] at hn
      simpa [h0, ← hdiv] using hn
    · rw [← hdiv, Nat.max_eq_right hpos, Nat.mul_comm r.n1]
      exact Nat.mul_lt_mul_of_pos_left hn hpos
  omega

/-- The descriptor of an offset is the first that covers it. -/
theorem findDesc_append_cons {ds rs : List RegDesc} {r : RegDesc} {o : Nat} (h : ∀ x ∈ ds, x.covers o = false)
    (hr : r.covers o = true) : findDesc (ds ++ r :: rs) o = some r := by
  induction ds with
  | nil => simp [findDesc, hr]
  | cons x ds ih =>
    rw [List.cons_append, findDesc, h x (by simp), if_neg (by simp)]
    exact ih (fun y hy => h y (by simp [hy]))

/-- The descriptor of HUB_SRCi: EN, TARGET and PRIO are RW, no bit is cleared by a 1 (R401). -/
def hubSrcDesc : RegDesc := ⟨0x1000, 256, 4, 1, 0, 0x80000037, 0, 0, 0, 0, 0, 0⟩

theorem hubSrcDesc_covers (i : SourceNo) : hubSrcDesc.covers (0x1000 + 4 * i) = true := by
  simp [RegDesc.covers, hubSrcDesc]

/-- Every array listed before HUB_SRC ends below it. -/
theorem regsSYS_before_hubSrc (o : Nat) (ho : 0x1000 ≤ o) : ∀ r ∈ regsSYS.take 17, r.covers o = false := by
  intro r hr
  have hend : ∀ r ∈ regsSYS.take 17, r.s2 = 0 ∧ r.off + r.n1 * max 1 r.s1 ≤ 0x1000 := by decide
  obtain ⟨hs, he⟩ := hend r hr
  refine Bool.eq_false_iff.2 (fun hc => ?_)
  have hlt := covers_lt hc hs
  omega

theorem regDesc_hubSrc (i : SourceNo) : regDesc (Reg.HUB_SRC i) = some hubSrcDesc := by
  have hw : (0x40001000 + 4 * i.val - 0x40000000) / 0x100000 = 0 := by omega
  have ho : (0x40001000 + 4 * i.val) % 0x100000 = 0x1000 + 4 * i := by omega
  rw [Reg.HUB_SRC, regDesc, if_neg (by omega), if_pos (by omega), hw, ho]
  exact findDesc_append_cons (ds := regsSYS.take 17) (rs := regsSYS.drop 18)
    (regsSYS_before_hubSrc _ (Nat.le_add_right _ _)) (hubSrcDesc_covers i)

theorem fwWrite_hubSrc_rw (p : Plat) (i : SourceNo) (v : Word) (f : Fld) (hf : f.lo + f.w ≤ 32)
    (h : ∀ b < f.w, hubSrcDesc.rw.testBit (f.lo + b) = true) :
    (p.fwWrite (Reg.HUB_SRC i) v).fld (Reg.HUB_SRC i) f = Fld.get f v := by
  rw [Plat.fld, fwWrite_rd_same p _ v _ (regDesc_hubSrc i)]
  exact writeMasks_get_rw _ _ v f hf (fun b hb => ⟨h b hb, Nat.zero_testBit _⟩)

theorem fwWrite_hubSrc_insvc (p : Plat) (i : SourceNo) (v : Word) :
    (p.fwWrite (Reg.HUB_SRC i) v).fld (Reg.HUB_SRC i) Fld.HUB_SRC_INSVC = p.fld (Reg.HUB_SRC i) Fld.HUB_SRC_INSVC := by
  rw [Plat.fld, fwWrite_rd_same p _ v _ (regDesc_hubSrc i)]
  exact writeMasks_get_ro _ _ v _ (by decide) (by decide)

/-! ## Completion (R384) -/

theorem hubComplete_ends (p : Plat) (y : Sys) (c i : Nat)
    (h : p.bit (Reg.HUB_SRC i) Fld.HUB_SRC_INSVC = true ∧ SMap.get (fun _ => 0) y.claimant i = c) :
    hubComplete p y c i = p.setFld (Reg.HUB_SRC i) Fld.HUB_SRC_INSVC 0 := if_pos h

theorem hubComplete_ignored (p : Plat) (y : Sys) (c i : Nat)
    (h : ¬ (p.bit (Reg.HUB_SRC i) Fld.HUB_SRC_INSVC = true ∧ SMap.get (fun _ => 0) y.claimant i = c)) :
    hubComplete p y c i = p := if_neg h

theorem plat_bit_setFld_zero (p : Plat) (a : Nat) (f : Fld) (h : f.lo + f.w ≤ 32) : (p.setFld a f 0).bit a f = false := by
  simp [Plat.bit, plat_fld_setFld_same p a f 0 h]

/-- A source that is not in service is pending exactly while asserted (R383). -/
theorem pendingSrc_of_not_inService (p : Plat) (i : Nat) (h : p.bit (Reg.HUB_SRC i) Fld.HUB_SRC_INSVC = false) :
    p.pendingSrc i = p.asserted i := by simp [Plat.pendingSrc, h]

/-- A source in service is not pending (R383). -/
theorem pendingSrc_of_inService (p : Plat) (i : Nat) (h : p.bit (Reg.HUB_SRC i) Fld.HUB_SRC_INSVC = true) :
    p.pendingSrc i = false := by simp [Plat.pendingSrc, h]

/-! ## Software interrupts (R386) -/

theorem asserted_software (p : Plat) (j : Nat) : p.asserted (224 + j) = (p.rd Reg.HUB_SWI).getLsbD j := by
  simp [Plat.asserted]

theorem asserted_swi_set (p : Plat) (v : Word) (j : Nat) :
    (p.swi true v).asserted (224 + j) = (p.asserted (224 + j) || v.getLsbD j) := by
  simp [asserted_software, Plat.swi]

theorem asserted_swi_clear (p : Plat) (v : Word) (j : Nat) (hj : j < 32) :
    (p.swi false v).asserted (224 + j) = (p.asserted (224 + j) && !v.getLsbD j) := by
  simp [asserted_software, Plat.swi, hj]

theorem keeps_swi (p : Plat) (set : Bool) (v : Word) : p.keeps (p.swi set v) [Reg.HUB_SWI] :=
  keeps_wr p _ _ _ (by simp)

/-! ## Claim (R384) -/

/-- Source `i` comes before source `j` in the order of claims: a higher PRIO, or the lower number of equals. -/
def Plat.claimedBefore (p : Plat) (i j : Nat) : Prop :=
  p.fld (Reg.HUB_SRC j) Fld.HUB_SRC_PRIO < p.fld (Reg.HUB_SRC i) Fld.HUB_SRC_PRIO ∨
  (p.fld (Reg.HUB_SRC j) Fld.HUB_SRC_PRIO = p.fld (Reg.HUB_SRC i) Fld.HUB_SRC_PRIO ∧ i ≤ j)

theorem claimedBefore_refl (p : Plat) (i : Nat) : p.claimedBefore i i := .inr ⟨rfl, Nat.le_refl i⟩

theorem claimedBefore_trans {p : Plat} {i j k : Nat} (h : p.claimedBefore i j) (h' : p.claimedBefore j k) :
    p.claimedBefore i k := by
  unfold Plat.claimedBefore at *; omega

/-- `best` is what a claim of core `c` takes of the sources below `n`: the first of those that qualify, none if none does. -/
def Plat.isBestBelow (p : Plat) (c n : Nat) : Option Nat → Prop
  | none => ∀ j < n, p.qualifies c j = false
  | some i => i < n ∧ p.qualifies c i = true ∧ ∀ j < n, p.qualifies c j = true → p.claimedBefore i j

/-- The search of `bestSrc` at source `i`. -/
def Plat.claimStep (p : Plat) (c : Nat) (best : Option Nat) (i : Nat) : Option Nat :=
  if p.qualifies c i then
    match best with
    | none => some i
    | some j => if p.fld (Reg.HUB_SRC j) Fld.HUB_SRC_PRIO < p.fld (Reg.HUB_SRC i) Fld.HUB_SRC_PRIO then some i else some j
  else best

theorem bestSrc_eq_foldl (p : Plat) (c : Nat) : p.bestSrc c = (List.range 256).foldl (p.claimStep c) none := rfl

/-- A source that does not qualify leaves the best as it is. -/
theorem isBestBelow_succ_of_not_qualifies {p : Plat} {c n : Nat} {best : Option Nat} (hq : p.qualifies c n = false)
    (h : p.isBestBelow c n best) : p.isBestBelow c (n + 1) best := by
  cases best with
  | none => exact fun j hj => (Nat.lt_succ_iff_lt_or_eq.1 hj).elim (h j) (fun e => e ▸ hq)
  | some i =>
    obtain ⟨hi, hqi, hmax⟩ := h
    refine ⟨by omega, hqi, fun j hj hqj => ?_⟩
    rcases Nat.lt_succ_iff_lt_or_eq.1 hj with hj | rfl
    · exact hmax j hj hqj
    · simp [hq] at hqj

/-- A source that qualifies is the best when it comes before every lower one that does. -/
theorem isBestBelow_succ_of_first {p : Plat} {c n : Nat} (hq : p.qualifies c n = true)
    (h : ∀ j < n, p.qualifies c j = true → p.claimedBefore n j) : p.isBestBelow c (n + 1) (some n) := by
  refine ⟨by omega, hq, fun j hj hqj => ?_⟩
  rcases Nat.lt_succ_iff_lt_or_eq.1 hj with hj | rfl
  · exact h j hj hqj
  · exact claimedBefore_refl p j

theorem isBestBelow_claimStep {p : Plat} {c n : Nat} {best : Option Nat} (h : p.isBestBelow c n best) :
    p.isBestBelow c (n + 1) (p.claimStep c best n) := by
  unfold Plat.claimStep
  split
  · next hq =>
    cases best with
    | none => exact isBestBelow_succ_of_first hq (fun j hj hqj => by simp [h j hj] at hqj)
    | some i =>
      obtain ⟨hi, hqi, hmax⟩ := h
      dsimp only
      split
      · next hlt => exact isBestBelow_succ_of_first hq (fun j hj hqj => claimedBefore_trans (.inl hlt) (hmax j hj hqj))
      · next hge =>
        refine ⟨by omega, hqi, fun j hj hqj => ?_⟩
        rcases Nat.lt_succ_iff_lt_or_eq.1 hj with hj | rfl
        · exact hmax j hj hqj
        · unfold Plat.claimedBefore; omega
  · next hq => exact isBestBelow_succ_of_not_qualifies (by simpa using hq) h

theorem isBestBelow_foldl (p : Plat) (c n : Nat) : p.isBestBelow c n ((List.range n).foldl (p.claimStep c) none) := by
  induction n with
  | zero => exact fun j hj => absurd hj (Nat.not_lt_zero j)
  | succ n ih =>
    rw [List.range_succ, List.foldl_append]
    exact isBestBelow_claimStep ih

/-- The search finds what R384 says a claim takes. -/
theorem isBestBelow_bestSrc (p : Plat) (c : Nat) : p.isBestBelow c 256 (p.bestSrc c) :=
  bestSrc_eq_foldl p c ▸ isBestBelow_foldl p c 256

theorem bestSrc_eq_none {p : Plat} {c : Nat} (h : ∀ i : SourceNo, p.qualifies c i = false) : p.bestSrc c = none := by
  have hb := isBestBelow_bestSrc p c
  cases e : p.bestSrc c with
  | none => rfl
  | some i =>
    rw [e] at hb
    obtain ⟨hi, hqi, -⟩ := hb
    simp [h ⟨i, hi⟩] at hqi

theorem bestSrc_eq_some {p : Plat} {c : Nat} (h : ∃ i : SourceNo, p.qualifies c i = true) :
    ∃ i : SourceNo, p.bestSrc c = some i.val ∧ p.qualifies c i = true ∧
      ∀ j : SourceNo, p.qualifies c j = true → p.claimedBefore i j := by
  have hb := isBestBelow_bestSrc p c
  cases e : p.bestSrc c with
  | none =>
    obtain ⟨i, hi⟩ := h
    rw [e] at hb
    simp [hb i i.isLt] at hi
  | some i =>
    rw [e] at hb
    obtain ⟨hi, hqi, hmax⟩ := hb
    exact ⟨⟨i, hi⟩, rfl, hqi, fun j => hmax j j.isLt⟩

theorem hubClaim_none {p : Plat} {y : Sys} {c : Nat} (h : p.bestSrc c = none) : hubClaim p y c = ({ p with resp := 0 }, y) := by
  rw [hubClaim, h]

theorem hubClaim_some {p : Plat} {y : Sys} {c i : Nat} (h : p.bestSrc c = some i) :
    hubClaim p y c = ({ p.setFlag (Reg.HUB_SRC i) Fld.HUB_SRC_INSVC with resp := BitVec.ofNat 32 (2 ^ 31 + i) },
      { y with claimant := SMap.set (fun _ => 0) y.claimant i c }) := by
  rw [hubClaim, h]

/-! ## The commands -/

theorem exec_coreStart (c k : CoreNo) (addr : Nat) (s : State) : exec (.coreStart c k addr) s =
    s.does (fun d => d.regWrite c Reg.SYS_CORE_START (fun d => d.onSys (fun p y => coreStart p y k addr))) := rfl

theorem exec_hubClaim (c k : CoreNo) (s : State) : exec (.hubClaim c k) s =
    s.does (fun d => d.regRead c (Reg.HUB_CLAIM k) (fun d => d.onSys (fun p y => hubClaim p y k))) := rfl

theorem exec_hubComplete (c k : CoreNo) (i : SourceNo) (s : State) : exec (.hubComplete c k i) s =
    s.does (fun d => d.regWrite c (Reg.HUB_COMPLETE k) (fun d => d.onPlat (fun p => hubComplete p d.sys k i))) := rfl

theorem exec_hubSrcWrite (c : CoreNo) (i : SourceNo) (v : Word) (s : State) : exec (.hubSrcWrite c i v) s =
    s.does (fun d => d.regWrite c (Reg.HUB_SRC i) (fun d => d.fw (Reg.HUB_SRC i) v)) := rfl

theorem exec_swiSet (c : CoreNo) (v : Word) (s : State) : exec (.swiSet c v) s =
    s.does (fun d => d.regWrite c Reg.HUB_SWI_SET (fun d => d.onPlat (fun p => p.swi true v))) := rfl

theorem exec_swiClear (c : CoreNo) (v : Word) (s : State) : exec (.swiClear c v) s =
    s.does (fun d => d.regWrite c Reg.HUB_SWI_CLR (fun d => d.onPlat (fun p => p.swi false v))) := rfl

theorem exec_machineTimer (k : CoreNo) (s : State) : exec (.machineTimer k) s =
    s.does (fun d => d.onSys (fun p y => (p, timerLevel p y k))) := rfl

section Commands

variable (q : List Instr) (d : Dev) (c k : CoreNo) (i : SourceNo) (v : Word)

theorem ends_coreStart_starts (addr : Nat) (on : d.powered Reg.SYS_CORE_START) (hw : (Instr.coreStart c k addr).wf = true)
    (h0 : k ≠ 0) (hr : (d.plat.fld Reg.SYS_CORE_STAT Fld.SYS_CORE_STAT_RUNNING).testBit k = false) :
    Ends (.coreStart c k addr) ⟨q, d⟩ (fun e =>
      (e.plat.fld Reg.SYS_CORE_STAT Fld.SYS_CORE_STAT_RUNNING).testBit k = true ∧
      e.sys.core k = { d.sys.core k with
        pc := BitVec.ofNat 40 (0x20000000 + addr), mmode := true, a0 := BitVec.ofNat 64 k, a1 := (d.sys.core 0).a1,
        a2 := (d.sys.core 0).a2 } ∧
      (∀ j, j ≠ k.val → e.sys.core j = d.sys.core j) ∧ d.plat.keeps e.plat [Reg.SYS_CORE_STAT]) := by
  obtain ⟨ha, h4⟩ := coreStart_wf hw
  refine ends_regWrite (exec_coreStart c k addr) on ?_
  simp only [dev_onSys_plat, dev_onSys_sys,
    coreStart_starts d.plat d.sys k addr (fun e => h0 (Fin.ext e)) hr ha h4]
  refine ⟨?_, sys_core_setCore_same _ _ _, fun j hj => sys_core_setCore_ne _ _ _ _ hj, keeps_putBit _ _ _ _ _ (by simp)⟩
  simpa [Fld.SYS_CORE_STAT_RUNNING] using
    plat_fld_putBit_testBit d.plat Reg.SYS_CORE_STAT k Fld.SYS_CORE_STAT_RUNNING k.isLt (by decide)

theorem ends_coreStart_refused (addr : Nat) (on : d.powered Reg.SYS_CORE_START)
    (h : k = 0 ∨ (d.plat.fld Reg.SYS_CORE_STAT Fld.SYS_CORE_STAT_RUNNING).testBit k = true) :
    Ends (.coreStart c k addr) ⟨q, d⟩ (fun e =>
      e = { d with plat := d.plat.setFlag Reg.SYS_EVT Fld.SYS_EVT_START_REFUSED }) := by
  refine ends_regWrite (exec_coreStart c k addr) on ?_
  simp only [Dev.onSys, coreStart_refused d.plat d.sys k addr (h.imp_left (congrArg Fin.val))]

theorem ends_hubComplete_ends (on : d.powered (Reg.HUB_COMPLETE k))
    (h : d.plat.bit (Reg.HUB_SRC i) Fld.HUB_SRC_INSVC = true ∧ SMap.get (fun _ => 0) d.sys.claimant i = k.val) :
    Ends (.hubComplete c k i) ⟨q, d⟩ (fun e =>
      e.plat.bit (Reg.HUB_SRC i) Fld.HUB_SRC_INSVC = false ∧ e.plat.pendingSrc i = e.plat.asserted i ∧
      e.plat.bit (Reg.HUB_SRC i) Fld.HUB_SRC_EN = d.plat.bit (Reg.HUB_SRC i) Fld.HUB_SRC_EN ∧
      d.plat.keeps e.plat [Reg.HUB_SRC i]) := by
  have hoff := plat_bit_setFld_zero d.plat (Reg.HUB_SRC i) Fld.HUB_SRC_INSVC (by decide)
  refine ends_regWrite (exec_hubComplete c k i) on ?_
  simp only [dev_onPlat_plat, hubComplete_ends d.plat d.sys k i h]
  refine ⟨hoff, pendingSrc_of_not_inService _ _ hoff, ?_, keeps_setFld _ _ _ _ _ (by simp)⟩
  rw [Plat.bit, Plat.bit, plat_fld_setFld_field _ _ _ _ _ (by decide)]

theorem ends_hubComplete_ignored (on : d.powered (Reg.HUB_COMPLETE k))
    (h : ¬ (d.plat.bit (Reg.HUB_SRC i) Fld.HUB_SRC_INSVC = true ∧ SMap.get (fun _ => 0) d.sys.claimant i = k.val)) :
    Ends (.hubComplete c k i) ⟨q, d⟩ (fun e => e = d) := by
  refine ends_regWrite (exec_hubComplete c k i) on ?_
  simp only [Dev.onPlat, hubComplete_ignored d.plat d.sys k i h]

theorem ends_hubSrcWrite (on : d.powered (Reg.HUB_SRC i)) :
    Ends (.hubSrcWrite c i v) ⟨q, d⟩ (fun e =>
      e.plat.fld (Reg.HUB_SRC i) Fld.HUB_SRC_EN = Fld.get Fld.HUB_SRC_EN v ∧
      e.plat.fld (Reg.HUB_SRC i) Fld.HUB_SRC_PRIO = Fld.get Fld.HUB_SRC_PRIO v ∧
      e.plat.fld (Reg.HUB_SRC i) Fld.HUB_SRC_TARGET = Fld.get Fld.HUB_SRC_TARGET v ∧
      e.plat.fld (Reg.HUB_SRC i) Fld.HUB_SRC_INSVC = d.plat.fld (Reg.HUB_SRC i) Fld.HUB_SRC_INSVC ∧
      d.plat.keeps e.plat [Reg.HUB_SRC i]) :=
  ends_regWrite (exec_hubSrcWrite c i v) on
    ⟨fwWrite_hubSrc_rw d.plat i v _ (by decide) (by decide), fwWrite_hubSrc_rw d.plat i v _ (by decide) (by decide),
      fwWrite_hubSrc_rw d.plat i v _ (by decide) (by decide), fwWrite_hubSrc_insvc d.plat i v,
      keeps_fwWrite d.plat _ v _ (by simp)⟩

theorem ends_machineTimer :
    Ends (.machineTimer k) ⟨q, d⟩ (fun e =>
      (e.sys.core k).mtip = decide (d.plat.mtimecmp k ≤ d.plat.time.toNat) ∧ (e.sys.core k).pc = (d.sys.core k).pc ∧
      (∀ j, j ≠ k.val → e.sys.core j = d.sys.core j) ∧ e.plat = d.plat) := by
  refine ends_does (exec_machineTimer k _) ?_
  simp only [dev_onSys_plat, dev_onSys_sys, timerLevel, sys_core_setCore_same, true_and, and_true]
  exact fun j hj => sys_core_setCore_ne _ _ _ _ hj

theorem ends_swiSet (j : Fin 32) (on : d.powered Reg.HUB_SWI_SET) :
    Ends (.swiSet c v) ⟨q, d⟩ (fun e =>
      e.plat.asserted (224 + j) = (d.plat.asserted (224 + j) || v.getLsbD j) ∧ d.plat.keeps e.plat [Reg.HUB_SWI]) :=
  ends_regWrite (exec_swiSet c v) on ⟨asserted_swi_set d.plat v j, keeps_swi d.plat true v⟩

theorem ends_swiClear (j : Fin 32) (on : d.powered Reg.HUB_SWI_CLR) :
    Ends (.swiClear c v) ⟨q, d⟩ (fun e =>
      e.plat.asserted (224 + j) = (d.plat.asserted (224 + j) && !v.getLsbD j) ∧ d.plat.keeps e.plat [Reg.HUB_SWI]) :=
  ends_regWrite (exec_swiClear c v) on ⟨asserted_swi_clear d.plat v j j.isLt, keeps_swi d.plat false v⟩

theorem ends_hubClaim_none (on : d.powered (Reg.HUB_CLAIM k)) (h : ∀ i : SourceNo, d.plat.qualifies k i = false) :
    Ends (.hubClaim c k) ⟨q, d⟩ (fun e => e = { d with plat := { d.plat with resp := 0 } }) := by
  refine ends_regRead (exec_hubClaim c k) on ?_
  simp only [Dev.onSys, hubClaim_none (bestSrc_eq_none h)]

theorem ends_hubClaim_some (on : d.powered (Reg.HUB_CLAIM k)) (h : d.plat.bestSrc k = some i.val) :
    Ends (.hubClaim c k) ⟨q, d⟩ (fun e =>
      e.plat.resp = BitVec.ofNat 32 (2 ^ 31 + i) ∧ e.plat.bit (Reg.HUB_SRC i) Fld.HUB_SRC_INSVC = true ∧
      e.plat.pendingSrc i = false ∧ SMap.get (fun _ => 0) e.sys.claimant i = k.val ∧
      d.plat.keeps e.plat [Reg.HUB_SRC i]) := by
  refine ends_regRead (exec_hubClaim c k) on ?_
  simp only [dev_onSys_plat, dev_onSys_sys, hubClaim_some h, true_and]
  have hset := plat_bit_setFlag_same d.plat (Reg.HUB_SRC i) Fld.HUB_SRC_INSVC (by decide) rfl
  exact ⟨hset, pendingSrc_of_inService _ _ hset, smap_get_set_same _ _ _ _, keeps_setFlag d.plat _ _ _ (by simp)⟩

end Commands

/-- Settles O5, command by command: the claim by what the search for the best source keeps from one source to the next, the
source registers by their descriptor. -/
theorem coresStartAndHubServesSources : Obligations.CoresStartAndHubServesSources := by
  unfold Obligations.CoresStartAndHubServesSources
  refine ⟨fun q d c k i addr v => ⟨fun on hw => ⟨?_, ?_⟩, fun on => ⟨?_, ?_⟩, ?_, ?_⟩,
    fun q d c v j => ⟨?_, ?_⟩, fun q d c k on => ⟨?_, fun hq => ?_⟩⟩
  · exact ends_coreStart_starts q d c k addr on hw
  · exact ends_coreStart_refused q d c k addr on
  · exact ends_hubComplete_ends q d c k i on
  · exact ends_hubComplete_ignored q d c k i on
  · exact ends_hubSrcWrite q d c i v
  · exact ends_machineTimer q d k
  · exact ends_swiSet q d c v j
  · exact ends_swiClear q d c v j
  · exact ends_hubClaim_none q d c k on
  · obtain ⟨i, hi, hqi, hmax⟩ := bestSrc_eq_some hq
    exact ⟨i, hqi, hmax, ends_hubClaim_some q d c k i on hi⟩

end Sys2Proof.Machine
end

section
/-! The key commands, the random source and the known-answer tests (R426 to R430): the two shapes that the effect of a key
command has on a slot, what its end writes, when it waits or is refused, and the obligation they settle. -/

namespace Sys2Proof.Machine

/-! ## Flags of other registers and fields -/

theorem plat_bit_setFlag_ne (p : Plat) (a b : Nat) (f g : Fld) (h : b ≠ a) : (p.setFlag a f).bit b g = p.bit b g :=
  keeps_bit (keeps_setFlag p a f [a] List.mem_cons_self) b g (by simp [h])

theorem plat_bit_putBit_ne (p : Plat) (a b : Nat) (f g : Fld) (v : Bool) (h : b ≠ a) :
    (p.putBit a f v).bit b g = p.bit b g :=
  keeps_bit (keeps_putBit p a f v [a] List.mem_cons_self) b g (by simp [h])

theorem plat_bit_setFlag_field (p : Plat) (a : Nat) (f g : Fld) (h : f.lo + f.w ≤ g.lo ∨ g.lo + g.w ≤ f.lo) :
    (p.setFlag a f).bit a g = p.bit a g := by
  rw [Plat.bit, Plat.bit, Plat.setFlag, plat_fld_setFld_field p a f g 1 h]

/-! ## The LOADED bits -/

/-- The LOADED bits of a slot are not a staging word. -/
theorem slotst_notMem_keystg {j : Nat} (hj : j < 128) : Reg.SEC_SLOTST (j / 32) ∉ (List.range 18).map Reg.SEC_KEYSTG := by
  simp only [List.mem_map, List.mem_range, Reg.SEC_KEYSTG, Reg.SEC_SLOTST]
  omega

theorem slotLoaded_of_keeps {p q : Plat} {xs : List Nat} (h : p.keeps q xs) {j : Nat} (hj : Reg.SEC_SLOTST (j / 32) ∉ xs) :
    q.slotLoaded j = p.slotLoaded j := by
  rw [Plat.slotLoaded, Plat.slotLoaded, h _ hj]

theorem keeps_putStg (p : Plat) (bs : List Nat) (b : Bool) : p.keeps (p.putStg bs b) ((List.range 18).map Reg.SEC_KEYSTG) :=
  putStg_keeps p bs b _ (fun _ hw => List.mem_map_of_mem (List.mem_range.2 hw))

theorem slotLoaded_putStg (p : Plat) (bs : List Nat) (b : Bool) {j : Nat} (hj : j < 128) :
    (p.putStg bs b).slotLoaded j = p.slotLoaded j :=
  slotLoaded_of_keeps (keeps_putStg p bs b) (slotst_notMem_keystg hj)

theorem slotLoaded_setLoaded_same (p : Plat) (k : Nat) (b : Bool) : (p.setLoaded k b).slotLoaded k = b := by
  rw [Plat.slotLoaded, Plat.setLoaded, Plat.putBit, Plat.setFld, plat_rd_wr_same,
    fld_put_getLsbD _ _ _ _ (Nat.mod_lt k (by decide))]
  cases b <;> simp

theorem slotLoaded_setLoaded_ne (p : Plat) {k j : Nat} (b : Bool) (h : j ≠ k) :
    (p.setLoaded k b).slotLoaded j = p.slotLoaded j := by
  by_cases hw : j / 32 = k / 32
  · rw [Plat.slotLoaded, Plat.slotLoaded, Plat.setLoaded, Plat.putBit, Plat.setFld, hw, plat_rd_wr_same,
      fld_put_getLsbD _ _ _ _ (Nat.mod_lt j (by decide)), if_neg (by dsimp only; omega)]
  · refine slotLoaded_of_keeps (keeps_putBit p _ _ b [Reg.SEC_SLOTST (k / 32)] List.mem_cons_self) ?_
    simp only [List.mem_singleton, Reg.SEC_SLOTST]
    omega

/-! ## The effect of a key command (Tables SEC-1 and SEC-2) -/

/-- The key store with `key` in slot `k`. -/
def Sec.setKey (s : Sec) (k key : Nat) : Sec := { s with keys := SMap.set (fun _ => 0) s.keys k key }

theorem sec_key_setKey_same (s : Sec) (k key : Nat) : (s.setKey k key).key k = key := smap_get_set_same _ _ _ _

theorem sec_key_setKey_ne (s : Sec) {k j : Nat} (key : Nat) (h : j ≠ k) : (s.setKey k key).key j = s.key j :=
  smap_get_set_ne _ _ _ _ _ h

/-- An effect that leaves the slot as it is. -/
def effectLeaves (p : Plat) (s : Sec) (bs : List Nat) (shown : Bool) (res : Nat) : Plat × Sec × Nat :=
  (p.putStg bs shown, s, res)

/-- An effect that puts `key` in slot `k`, with the slot LOADED or EMPTY. -/
def effectPuts (p : Plat) (s : Sec) (k : Nat) (loaded : Bool) (key : Nat) : Plat × Sec × Nat :=
  ((p.setLoaded k loaded).putStg [] false, s.setKey k key, 0)

/-- The two halves of a key are equal (R426). -/
def equalHalves (key : Nat) : Prop := key % 2 ^ 256 = key / 2 ^ 256 % 2 ^ 256

section Effects

variable (p : Plat) (s : Sec) (k : Nat)

theorem loadKey_equal {key : Nat} (h : equalHalves key) : loadKey p s k key = (p, s, 1) := if_pos h

theorem loadKey_loads {key : Nat} (h : ¬ equalHalves key) : loadKey p s k key = (p.setLoaded k true, s.setKey k key, 0) :=
  if_neg h

theorem keyEffect_load_equal (h : equalHalves (numOf (p.stgBytes 16))) :
    keyEffect p s 1 k = effectLeaves p s [] false 1 := by
  simp only [keyEffect, loadKey_equal p s k h, effectLeaves]

theorem keyEffect_load (h : ¬ equalHalves (numOf (p.stgBytes 16))) :
    keyEffect p s 1 k = effectPuts p s k true (numOf (p.stgBytes 16)) := by
  simp only [keyEffect, loadKey_loads p s k h, effectPuts]

theorem keyEffect_gen_fails (h : s.rngFail = true) : keyEffect p s 2 k = effectLeaves p s [] false 3 := if_pos h

theorem keyEffect_gen (h : s.rngFail = false) :
    keyEffect p s 2 k = effectPuts p.useFree s k true (p.freeVal % 2 ^ 512) := if_neg (by simp [h])

theorem keyEffect_wrap (h : p.slotLoaded k = true) :
    keyEffect p s 3 k = effectLeaves p s (kwWrap rootKey (leNats 64 (s.key k))) true 0 := if_pos h

theorem keyEffect_wrap_empty (h : p.slotLoaded k = false) : keyEffect p s 3 k = effectLeaves p s [] false 4 :=
  if_neg (by simp [h])

theorem keyEffect_unwrap_fails (h : kwUnwrap rootKey (p.stgBytes 18) = none) :
    keyEffect p s 4 k = effectLeaves p s [] false 2 := by
  simp only [keyEffect, h, effectLeaves]

theorem keyEffect_unwrap_equal {bs : List Nat} (h : kwUnwrap rootKey (p.stgBytes 18) = some bs)
    (he : equalHalves (numOf bs)) : keyEffect p s 4 k = effectLeaves p s [] false 1 := by
  simp only [keyEffect, h, loadKey_equal p s k he, effectLeaves]

theorem keyEffect_unwrap {bs : List Nat} (h : kwUnwrap rootKey (p.stgBytes 18) = some bs)
    (he : ¬ equalHalves (numOf bs)) : keyEffect p s 4 k = effectPuts p s k true (numOf bs) := by
  simp only [keyEffect, h, loadKey_loads p s k he, effectPuts]

theorem keyEffect_erase : keyEffect p s 5 k = effectPuts p s k false 0 := rfl

theorem keyEffect_other {op : Nat} (h : op ∉ [1, 2, 3, 4, 5]) : keyEffect p s op k = effectLeaves p s [] false 15 := by
  unfold keyEffect
  split
  iterate 5 exact absurd (by decide) h
  rfl

/-- The effect of a key command has one of the two shapes; only WRAP stages words. -/
theorem keyEffect_cases (op : Nat) :
    (∃ bs shown res, (op ≠ 3 → bs = []) ∧ keyEffect p s op k = effectLeaves p s bs shown res) ∨
    (∃ q loaded key, q.regs = p.regs ∧ keyEffect p s op k = effectPuts q s k loaded key) := by
  by_cases hop : op ∈ [1, 2, 3, 4, 5]
  · simp only [List.mem_cons, List.not_mem_nil, or_false] at hop
    obtain rfl | rfl | rfl | rfl | rfl := hop
    · by_cases h : equalHalves (numOf (p.stgBytes 16))
      · exact .inl ⟨_, _, _, fun _ => rfl, keyEffect_load_equal p s k h⟩
      · exact .inr ⟨_, _, _, rfl, keyEffect_load p s k h⟩
    · cases h : s.rngFail with
      | true => exact .inl ⟨_, _, _, fun _ => rfl, keyEffect_gen_fails p s k h⟩
      | false => exact .inr ⟨p.useFree, _, _, rfl, keyEffect_gen p s k h⟩
    · cases h : p.slotLoaded k with
      | true => exact .inl ⟨_, _, _, fun h3 => absurd rfl h3, keyEffect_wrap p s k h⟩
      | false => exact .inl ⟨_, _, _, fun _ => rfl, keyEffect_wrap_empty p s k h⟩
    · cases h : kwUnwrap rootKey (p.stgBytes 18) with
      | none => exact .inl ⟨_, _, _, fun _ => rfl, keyEffect_unwrap_fails p s k h⟩
      | some bs =>
        by_cases he : equalHalves (numOf bs)
        · exact .inl ⟨_, _, _, fun _ => rfl, keyEffect_unwrap_equal p s k h he⟩
        · exact .inr ⟨_, _, _, rfl, keyEffect_unwrap p s k h he⟩
    · exact .inr ⟨_, _, _, rfl, keyEffect_erase p s k⟩
  · exact .inl ⟨_, _, _, fun _ => rfl, keyEffect_other p s k hop⟩

end Effects

/-! ## What every effect leaves alone -/

theorem keystg_subset_keyRegs (k : Nat) : (List.range 18).map Reg.SEC_KEYSTG ⊆ keyRegs k :=
  List.subset_append_right _ _

theorem slotst_mem_keyRegs (k : Nat) : Reg.SEC_SLOTST (k / 32) ∈ keyRegs k := by simp [keyRegs]

theorem keeps_setLoaded_putStg {p q : Plat} (h : q.regs = p.regs) (k : Nat) (loaded : Bool) (bs : List Nat) (shown : Bool) :
    p.keeps ((q.setLoaded k loaded).putStg bs shown) (keyRegs k) :=
  keeps_trans (keeps_of_regs h _) (keeps_trans (keeps_putBit q _ _ loaded _ (slotst_mem_keyRegs k))
    (keeps_mono (keeps_putStg _ bs shown) (keystg_subset_keyRegs k)))

section Frame

variable (p : Plat) (s : Sec) (op k : Nat)

theorem keeps_keyEffect : p.keeps (keyEffect p s op k).1 (keyRegs k) := by
  obtain ⟨bs, shown, res, -, h⟩ | ⟨q, loaded, key, hq, h⟩ := keyEffect_cases p s k op <;> rw [h]
  · exact keeps_mono (keeps_putStg p bs shown) (keystg_subset_keyRegs k)
  · exact keeps_setLoaded_putStg hq k loaded [] false

theorem keyEffect_other_slot {j : Nat} (hj : j < 128) (hne : j ≠ k) :
    (keyEffect p s op k).2.1.key j = s.key j ∧ (keyEffect p s op k).1.slotLoaded j = p.slotLoaded j := by
  obtain ⟨bs, shown, res, -, h⟩ | ⟨q, loaded, key, hq, h⟩ := keyEffect_cases p s k op <;> rw [h]
  · exact ⟨rfl, slotLoaded_putStg p bs shown hj⟩
  · refine ⟨sec_key_setKey_ne s key hne, ?_⟩
    calc ((q.setLoaded k loaded).putStg [] false).slotLoaded j
        = (q.setLoaded k loaded).slotLoaded j := slotLoaded_putStg _ [] false hj
      _ = q.slotLoaded j := slotLoaded_setLoaded_ne q loaded hne
      _ = p.slotLoaded j := slotLoaded_of_keeps (keeps_of_regs hq []) List.not_mem_nil

theorem keyEffect_xfers : (keyEffect p s op k).2.1.xfers = s.xfers := by
  obtain ⟨bs, shown, res, -, h⟩ | ⟨q, loaded, key, hq, h⟩ := keyEffect_cases p s k op <;> rw [h] <;> rfl

/-- Every command but WRAP leaves the staging words 0 (R426). -/
theorem keyEffect_staging_zero (hop : op ≠ 3) {w : Nat} (hw : w < 18) :
    (keyEffect p s op k).1.rd (Reg.SEC_KEYSTG w) = 0 := by
  have hz (q : Plat) (shown : Bool) : (q.putStg [] shown).rd (Reg.SEC_KEYSTG w) = 0 := by
    rw [putStg_stg q [] shown w hw, List.drop_nil, List.take_nil]
    rfl
  obtain ⟨bs, shown, res, hbs, h⟩ | ⟨q, loaded, key, hq, h⟩ := keyEffect_cases p s k op <;> rw [h]
  · rw [effectLeaves, hbs hop]
    exact hz p shown
  · exact hz _ false

end Frame

/-! ## The end of a key command -/

/-- The registers after the end of a key command with RESULT `res` (Table SEC-2). -/
def Plat.keyEnd (p : Plat) (res : Nat) : Plat :=
  ((p.setFld Reg.SEC_KEY_STAT Fld.SEC_KEY_STAT_BUSY 0).setFld Reg.SEC_KEY_STAT Fld.SEC_KEY_STAT_RESULT res).setFlag
    Reg.SEC_EVT Fld.SEC_EVT_KEY_DONE

theorem keyRun_eq (p : Plat) (s : Sec) (op k : Nat) : keyRun p s op k =
    ((keyEffect p s op k).1.keyEnd (keyEffect p s op k).2.2, { (keyEffect p s op k).2.1 with wait := none }) := rfl

theorem keeps_keyEnd (p : Plat) (res : Nat) : p.keeps (p.keyEnd res) [Reg.SEC_KEY_STAT, Reg.SEC_EVT] :=
  keeps_trans (keeps_setFld p _ _ 0 _ (by simp))
    (keeps_trans (keeps_setFld _ _ _ res _ (by simp)) (keeps_setFlag _ _ _ _ (by simp)))

theorem keyEnd_result (p : Plat) {res : Nat} (h : res < 16) :
    (p.keyEnd res).fld Reg.SEC_KEY_STAT Fld.SEC_KEY_STAT_RESULT = res := by
  rw [Plat.keyEnd, Plat.setFlag, plat_fld_setFld_ne _ _ _ _ _ _ (by decide), plat_fld_setFld_same _ _ _ _ (by decide)]
  exact Nat.mod_eq_of_lt h

theorem keyEnd_busy (p : Plat) (res : Nat) : (p.keyEnd res).bit Reg.SEC_KEY_STAT Fld.SEC_KEY_STAT_BUSY = false := by
  rw [Plat.keyEnd, plat_bit_setFlag_ne _ _ _ _ _ (by decide), Plat.bit, plat_fld_setFld_field _ _ _ _ _ (by decide)]
  exact plat_bit_setFld_zero p _ _ (by decide)

theorem keyEnd_done (p : Plat) (res : Nat) : (p.keyEnd res).bit Reg.SEC_EVT Fld.SEC_EVT_KEY_DONE = true :=
  plat_bit_setFlag_same _ _ _ (by decide) rfl

theorem keyEnd_slotLoaded (p : Plat) (res j : Nat) : (p.keyEnd res).slotLoaded j = p.slotLoaded j :=
  slotLoaded_of_keeps (keeps_keyEnd p res) (by
    simp only [List.mem_cons, List.not_mem_nil, or_false, Reg.SEC_SLOTST, Reg.SEC_KEY_STAT, Reg.SEC_EVT]
    omega)

theorem keyEnd_staging (p : Plat) (res w : Nat) : (p.keyEnd res).rd (Reg.SEC_KEYSTG w) = p.rd (Reg.SEC_KEYSTG w) :=
  keeps_keyEnd p res _ (by
    simp only [List.mem_cons, List.not_mem_nil, or_false, Reg.SEC_KEYSTG, Reg.SEC_KEY_STAT, Reg.SEC_EVT]
    omega)

/-! ## A key command that runs -/

/-- The part after key command `op` has run on slot `k`. -/
def Dev.keyRan (d : Dev) (op k : Nat) : Dev := d.onSec (fun p s => keyRun p s op k)

/-- A key command on slot `k` has ended from `d` to `e` with RESULT `res`, and the rest is as it was. -/
def KeyEnded (d : Dev) (k : SlotNo) (res : Nat) (e : Dev) : Prop :=
  e.plat.fld Reg.SEC_KEY_STAT Fld.SEC_KEY_STAT_RESULT = res ∧ e.plat.bit Reg.SEC_KEY_STAT Fld.SEC_KEY_STAT_BUSY = false ∧
  e.plat.bit Reg.SEC_EVT Fld.SEC_EVT_KEY_DONE = true ∧ d.plat.keeps e.plat (keyRegs k) ∧
  (∀ j : SlotNo, j ≠ k → e.sec.key j = d.sec.key j ∧ e.plat.slotLoaded j = d.plat.slotLoaded j)

/-- Slot `k` holds `key`, and is LOADED or EMPTY. -/
def SlotHolds (k : SlotNo) (loaded : Bool) (key : Nat) (e : Dev) : Prop := e.sec.key k = key ∧ e.plat.slotLoaded k = loaded

/-- Slot `k` is as it was. -/
def SlotSame (d : Dev) (k : SlotNo) (e : Dev) : Prop :=
  e.sec.key k = d.sec.key k ∧ e.plat.slotLoaded k = d.plat.slotLoaded k

section Ran

variable {d : Dev} {op : Nat} {k : SlotNo}

theorem keeps_keyRan : d.plat.keeps (d.keyRan op k).plat (keyRegs k) :=
  keeps_trans (keeps_keyEffect d.plat d.sec op k) (keeps_mono (keeps_keyEnd _ _) (by simp [keyRegs]))

theorem keyRan_ended {res : Nat} (h : (keyEffect d.plat d.sec op k).2.2 = res) (hr : res < 16) :
    KeyEnded d k res (d.keyRan op k) := by
  refine ⟨?_, keyEnd_busy _ _, keyEnd_done _ _, keeps_keyRan, fun j hj => ?_⟩
  · exact (keyEnd_result _ (h ▸ hr)).trans h
  · obtain ⟨hkey, hloaded⟩ := keyEffect_other_slot d.plat d.sec op k j.isLt (fun e => hj (Fin.ext e))
    exact ⟨hkey, (keyEnd_slotLoaded _ _ _).trans hloaded⟩

theorem keyRan_leaves {bs : List Nat} {shown : Bool} {res : Nat} (hr : res < 16)
    (h : keyEffect d.plat d.sec op k = effectLeaves d.plat d.sec bs shown res) :
    KeyEnded d k res (d.keyRan op k) ∧ SlotSame d k (d.keyRan op k) := by
  refine ⟨keyRan_ended (congrArg (·.2.2) h) hr, congrArg (·.2.1.key k) h, ?_⟩
  calc (d.keyRan op k).plat.slotLoaded k
      = (keyEffect d.plat d.sec op k).1.slotLoaded k := keyEnd_slotLoaded _ _ _
    _ = (d.plat.putStg bs shown).slotLoaded k := by rw [h]; rfl
    _ = d.plat.slotLoaded k := slotLoaded_putStg _ _ _ k.isLt

theorem keyRan_puts {p : Plat} {loaded : Bool} {key : Nat}
    (h : keyEffect d.plat d.sec op k = effectPuts p d.sec k loaded key) :
    KeyEnded d k 0 (d.keyRan op k) ∧ SlotHolds k loaded key (d.keyRan op k) := by
  refine ⟨keyRan_ended (congrArg (·.2.2) h) (by decide), ?_, ?_⟩
  · exact (congrArg (·.2.1.key k) h).trans (sec_key_setKey_same d.sec k key)
  · calc (d.keyRan op k).plat.slotLoaded k
        = (keyEffect d.plat d.sec op k).1.slotLoaded k := keyEnd_slotLoaded _ _ _
      _ = ((p.setLoaded k loaded).putStg [] false).slotLoaded k := by rw [h]; rfl
      _ = (p.setLoaded k loaded).slotLoaded k := slotLoaded_putStg _ _ _ k.isLt
      _ = loaded := slotLoaded_setLoaded_same p k loaded

theorem keyRan_load_equal (h : equalHalves (numOf (d.plat.stgBytes 16))) :
    KeyEnded d k 1 (d.keyRan 1 k) ∧ SlotSame d k (d.keyRan 1 k) :=
  keyRan_leaves (by decide) (keyEffect_load_equal _ _ _ h)

theorem keyRan_load (h : ¬ equalHalves (numOf (d.plat.stgBytes 16))) :
    KeyEnded d k 0 (d.keyRan 1 k) ∧ SlotHolds k true (numOf (d.plat.stgBytes 16)) (d.keyRan 1 k) :=
  keyRan_puts (keyEffect_load _ _ _ h)

theorem keyRan_gen_fails (h : d.sec.rngFail = true) : KeyEnded d k 3 (d.keyRan 2 k) ∧ SlotSame d k (d.keyRan 2 k) :=
  keyRan_leaves (by decide) (keyEffect_gen_fails _ _ _ h)

theorem keyRan_gen (h : d.sec.rngFail = false) :
    KeyEnded d k 0 (d.keyRan 2 k) ∧ SlotHolds k true (d.plat.freeVal % 2 ^ 512) (d.keyRan 2 k) :=
  keyRan_puts (keyEffect_gen _ _ _ h)

theorem keyRan_wrap_empty (h : d.plat.slotLoaded k = false) :
    KeyEnded d k 4 (d.keyRan 3 k) ∧ SlotSame d k (d.keyRan 3 k) :=
  keyRan_leaves (by decide) (keyEffect_wrap_empty _ _ _ h)

theorem keyRan_wrap (h : d.plat.slotLoaded k = true) : KeyEnded d k 0 (d.keyRan 3 k) ∧ SlotSame d k (d.keyRan 3 k) :=
  keyRan_leaves (by decide) (keyEffect_wrap _ _ _ h)

/-- WRAP leaves its slot as it is, LOADED or EMPTY. -/
theorem keyRan_wrap_same : SlotSame d k (d.keyRan 3 k) := by
  cases h : d.plat.slotLoaded k with
  | true => exact (keyRan_wrap h).2
  | false => exact (keyRan_wrap_empty h).2

/-- WRAP stages the words of the wrapped key. -/
theorem keyRan_wrap_staging (h : d.plat.slotLoaded k = true) {w : Nat} (hw : w < 18) :
    (d.keyRan 3 k).plat.rd (Reg.SEC_KEYSTG w) =
      BitVec.ofNat 32 (numOf (((kwWrap rootKey (leNats 64 (d.sec.key k))).drop (4 * w)).take 4)) :=
  calc (d.keyRan 3 k).plat.rd (Reg.SEC_KEYSTG w)
      = (keyEffect d.plat d.sec 3 k).1.rd (Reg.SEC_KEYSTG w) := keyEnd_staging _ _ w
    _ = (d.plat.putStg (kwWrap rootKey (leNats 64 (d.sec.key k))) true).rd (Reg.SEC_KEYSTG w) := by
      rw [keyEffect_wrap _ _ _ h]; rfl
    _ = _ := putStg_stg _ _ _ w hw

theorem keyRan_unwrap_fails (h : kwUnwrap rootKey (d.plat.stgBytes 18) = none) :
    KeyEnded d k 2 (d.keyRan 4 k) ∧ SlotSame d k (d.keyRan 4 k) :=
  keyRan_leaves (by decide) (keyEffect_unwrap_fails _ _ _ h)

theorem keyRan_unwrap_equal {bs : List Nat} (h : kwUnwrap rootKey (d.plat.stgBytes 18) = some bs)
    (he : equalHalves (numOf bs)) : KeyEnded d k 1 (d.keyRan 4 k) ∧ SlotSame d k (d.keyRan 4 k) :=
  keyRan_leaves (by decide) (keyEffect_unwrap_equal _ _ _ h he)

theorem keyRan_unwrap {bs : List Nat} (h : kwUnwrap rootKey (d.plat.stgBytes 18) = some bs)
    (he : ¬ equalHalves (numOf bs)) :
    KeyEnded d k 0 (d.keyRan 4 k) ∧ SlotHolds k true (numOf bs) (d.keyRan 4 k) :=
  keyRan_puts (keyEffect_unwrap _ _ _ h he)

theorem keyRan_erase : KeyEnded d k 0 (d.keyRan 5 k) ∧ SlotHolds k false 0 (d.keyRan 5 k) :=
  keyRan_puts (keyEffect_erase _ _ _)

theorem keyRan_staging_zero (hop : op ≠ 3) {w : Nat} (hw : w < 18) : (d.keyRan op k).plat.rd (Reg.SEC_KEYSTG w) = 0 :=
  (keyEnd_staging _ _ w).trans (keyEffect_staging_zero d.plat d.sec op k hop hw)

theorem keyRan_xfers : (d.keyRan op k).sec.xfers = d.sec.xfers := keyEffect_xfers d.plat d.sec op k

end Ran

/-! ## The random source and the known-answer tests (R429, R430) -/

theorem rngRead_failed (p : Plat) (s : Sec) (h : s.rngFail = true) : rngRead p s = { p with resp := 0 } := if_pos (.inl h)

theorem rngRead_healthy (p : Plat) (s : Sec) (h : s.rngFail = false) (on : p.on 28 = true) :
    rngRead p s = { p.useFree with resp := BitVec.ofNat 32 p.freeVal } := if_neg (by simp [h, on])

/-- The registers after known-answer tests in which no engine failed: READY, and VALID as the random source is. -/
def Plat.katPassed (p : Plat) (s : Sec) : Plat :=
  (p.setFlag Reg.SEC_STATUS Fld.SEC_STATUS_READY).putBit Reg.SEC_RNG_STAT Fld.SEC_RNG_STAT_VALID (!s.rngFail)

theorem katEnd_passed (p : Plat) (s : Sec) : katEnd p s false = p.katPassed s := rfl

theorem katEnd_failed (p : Plat) (s : Sec) : katEnd p s true =
    ((p.katPassed s).setFlag Reg.SEC_STATUS Fld.SEC_STATUS_KAT_FAIL).setFlag Reg.SEC_EVT Fld.SEC_EVT_KAT_FAIL := rfl

theorem katPassed_ready (p : Plat) (s : Sec) : (p.katPassed s).bit Reg.SEC_STATUS Fld.SEC_STATUS_READY = true :=
  (plat_bit_putBit_ne _ _ _ _ _ _ (by decide)).trans (plat_bit_setFlag_same p _ _ (by decide) rfl)

theorem katPassed_valid (p : Plat) (s : Sec) :
    (p.katPassed s).bit Reg.SEC_RNG_STAT Fld.SEC_RNG_STAT_VALID = !s.rngFail :=
  plat_bit_putBit_same _ _ _ _ (by decide) rfl

theorem katPassed_status_katFail (p : Plat) (s : Sec) :
    (p.katPassed s).bit Reg.SEC_STATUS Fld.SEC_STATUS_KAT_FAIL = p.bit Reg.SEC_STATUS Fld.SEC_STATUS_KAT_FAIL :=
  (plat_bit_putBit_ne _ _ _ _ _ _ (by decide)).trans (plat_bit_setFlag_field p _ _ _ (by decide))

theorem keeps_katPassed (p : Plat) (s : Sec) : p.keeps (p.katPassed s) [Reg.SEC_STATUS, Reg.SEC_RNG_STAT] :=
  keeps_trans (keeps_setFlag p _ _ _ (by simp)) (keeps_putBit _ _ _ _ _ (by simp))

/-! ## The commands -/

/-- `x` is a key command on slot `k` with its code of Table SEC-1. -/
def IsKeyCmd (c : CoreNo) (k : SlotNo) (x : Nat × Instr) : Prop :=
  x ∈ [(1, .keyLoad c k), (2, .keyGen c k), (3, .keyWrap c k), (4, .keyUnwrap c k), (5, .keyErase c k)]

theorem isKeyCmd_load (c : CoreNo) (k : SlotNo) : IsKeyCmd c k (1, .keyLoad c k) := .head _

theorem isKeyCmd_gen (c : CoreNo) (k : SlotNo) : IsKeyCmd c k (2, .keyGen c k) := .tail _ (.head _)

theorem isKeyCmd_wrap (c : CoreNo) (k : SlotNo) : IsKeyCmd c k (3, .keyWrap c k) := .tail _ (.tail _ (.head _))

theorem isKeyCmd_unwrap (c : CoreNo) (k : SlotNo) : IsKeyCmd c k (4, .keyUnwrap c k) :=
  .tail _ (.tail _ (.tail _ (.head _)))

theorem isKeyCmd_erase (c : CoreNo) (k : SlotNo) : IsKeyCmd c k (5, .keyErase c k) :=
  .tail _ (.tail _ (.tail _ (.tail _ (.head _))))

/-- The key commands that leave the staging words 0 are those but WRAP. -/
theorem isKeyCmd_of_clears {c : CoreNo} {k : SlotNo} {i : Instr}
    (hi : i ∈ [Instr.keyLoad c k, .keyGen c k, .keyUnwrap c k, .keyErase c k]) : ∃ op, op ≠ 3 ∧ IsKeyCmd c k (op, i) := by
  simp only [List.mem_cons, List.not_mem_nil, or_false] at hi
  obtain rfl | rfl | rfl | rfl := hi
  · exact ⟨1, by decide, isKeyCmd_load c k⟩
  · exact ⟨2, by decide, isKeyCmd_gen c k⟩
  · exact ⟨4, by decide, isKeyCmd_unwrap c k⟩
  · exact ⟨5, by decide, isKeyCmd_erase c k⟩

theorem exec_keyCmd {c : CoreNo} {k : SlotNo} {x : Nat × Instr} (hx : IsKeyCmd c k x) (s : State) : exec x.2 s =
    s.does (fun d => d.regWrite c Reg.SEC_KEY_CMD (fun d => d.onSec (fun p s => keyWrite p s x.1 k))) := by
  simp only [IsKeyCmd, List.mem_cons, List.not_mem_nil, or_false] at hx
  obtain rfl | rfl | rfl | rfl | rfl := hx <;> rfl

theorem exec_keyCommandRun (s : State) : exec .keyCommandRun s = s.does (fun d => d.onSec keyCommandRun) := rfl

theorem exec_rngHealthFail (s : State) : exec .rngHealthFail s = s.does (fun d => d.onSec rngHealthFail) := rfl

theorem exec_katEnd (failed : Bool) (s : State) :
    exec (.katEnd failed) s = s.does (fun d => d.onPlat (fun p => katEnd p d.sec failed)) := rfl

theorem exec_rngRead (c : CoreNo) (s : State) : exec (.rngRead c) s =
    s.does (fun d => d.regRead c Reg.SEC_RNG (fun d => d.onPlat (fun p => rngRead p d.sec))) := rfl

section Commands

variable {q : List Instr} {d : Dev} {c : CoreNo} {k : SlotNo} {x : Nat × Instr}

/-- A key command that finds BUSY 0 and its slot in no transfer runs at once. -/
theorem ends_keyCmd_runs (hx : IsKeyCmd c k x) (on : d.powered Reg.SEC_KEY_CMD)
    (idle : d.plat.bit Reg.SEC_KEY_STAT Fld.SEC_KEY_STAT_BUSY = false) (free : d.sec.inUse k = false) {P : Dev → Prop}
    (hp : P (d.keyRan x.1 k)) : Ends x.2 ⟨q, d⟩ P := by
  refine ends_regWrite (exec_keyCmd hx) on ?_
  have hrun : keyWrite d.plat d.sec x.1 k = keyRun d.plat d.sec x.1 k := by simp [keyWrite, idle, free]
  rwa [Dev.onSec, hrun]

theorem ends_keyCmd_refused (hx : IsKeyCmd c k x) (on : d.powered Reg.SEC_KEY_CMD)
    (busy : d.plat.bit Reg.SEC_KEY_STAT Fld.SEC_KEY_STAT_BUSY = true) :
    Ends x.2 ⟨q, d⟩ (fun e => e = { d with plat := d.plat.setFlag Reg.SEC_EVT Fld.SEC_EVT_KEY_REFUSED }) := by
  refine ends_regWrite (exec_keyCmd hx) on ?_
  simp only [Dev.onSec, keyWrite, busy, if_true]

theorem ends_keyCmd_waits (hx : IsKeyCmd c k x) (on : d.powered Reg.SEC_KEY_CMD)
    (idle : d.plat.bit Reg.SEC_KEY_STAT Fld.SEC_KEY_STAT_BUSY = false) (used : d.sec.inUse k = true) :
    Ends x.2 ⟨q, d⟩ (fun e =>
      e.plat.bit Reg.SEC_KEY_STAT Fld.SEC_KEY_STAT_BUSY = true ∧ e.sec = { d.sec with wait := some (x.1, k.val) } ∧
      d.plat.keeps e.plat [Reg.SEC_KEY_STAT]) := by
  refine ends_regWrite (exec_keyCmd hx) on ?_
  have hwait : keyWrite d.plat d.sec x.1 k =
      ({ d.plat.setFlag Reg.SEC_KEY_STAT Fld.SEC_KEY_STAT_BUSY with stgShown := false },
        { d.sec with wait := some (x.1, k.val) }) := by simp [keyWrite, idle, used]
  simp only [dev_onSec_plat, dev_onSec_sec, hwait, true_and]
  exact ⟨plat_bit_setFlag_same d.plat _ _ (by decide) rfl, keeps_setFlag d.plat _ Fld.SEC_KEY_STAT_BUSY _ (by simp)⟩

/-- A waiting key command runs once no transfer uses its slot (R427). -/
theorem ends_keyCommandRun_runs {op : Nat} (hw : d.sec.wait = some (op, k.val)) (free : d.sec.inUse k = false)
    {P : Dev → Prop} (hp : P (d.keyRan op k)) : Ends .keyCommandRun ⟨q, d⟩ P := by
  refine ends_does (exec_keyCommandRun _) ?_
  have hrun : keyCommandRun d.plat d.sec = keyRun d.plat d.sec op k := by simp [keyCommandRun, hw, free]
  rwa [Dev.onSec, hrun]

theorem ends_keyCommandRun_waits {op : Nat} (hw : d.sec.wait = some (op, k.val)) (used : d.sec.inUse k = true) :
    Ends .keyCommandRun ⟨q, d⟩ (fun e => e = d) := by
  refine ends_does (exec_keyCommandRun _) ?_
  simp [Dev.onSec, keyCommandRun, hw, used]

theorem ends_rngHealthFail : Ends .rngHealthFail ⟨q, d⟩ (fun e =>
    e.plat.bit Reg.SEC_EVT Fld.SEC_EVT_RNG_FAIL = true ∧ e.plat.bit Reg.SEC_RNG_STAT Fld.SEC_RNG_STAT_VALID = false ∧
    e.sec = { d.sec with rngFail := true } ∧ d.plat.keeps e.plat [Reg.SEC_EVT, Reg.SEC_RNG_STAT]) := by
  refine ends_does (exec_rngHealthFail _) ⟨?_, plat_bit_setFld_zero _ _ _ (by decide), rfl, ?_⟩
  · have hset := plat_bit_setFlag_same d.plat Reg.SEC_EVT Fld.SEC_EVT_RNG_FAIL (by decide) rfl
    exact (keeps_bit (keeps_setFld _ _ _ 0 [Reg.SEC_RNG_STAT] List.mem_cons_self) _ _ (by decide)).trans hset
  · exact keeps_trans (keeps_setFlag _ _ _ _ (by simp)) (keeps_setFld _ _ _ _ _ (by simp))

theorem ends_katEnd (failed : Bool) : Ends (.katEnd failed) ⟨q, d⟩ (fun e =>
    e.plat.bit Reg.SEC_STATUS Fld.SEC_STATUS_READY = true ∧
    e.plat.bit Reg.SEC_RNG_STAT Fld.SEC_RNG_STAT_VALID = !d.sec.rngFail ∧
    e.plat.bit Reg.SEC_STATUS Fld.SEC_STATUS_KAT_FAIL = (failed || d.plat.bit Reg.SEC_STATUS Fld.SEC_STATUS_KAT_FAIL) ∧
    e.plat.bit Reg.SEC_EVT Fld.SEC_EVT_KAT_FAIL = (failed || d.plat.bit Reg.SEC_EVT Fld.SEC_EVT_KAT_FAIL) ∧
    d.plat.keeps e.plat [Reg.SEC_STATUS, Reg.SEC_RNG_STAT, Reg.SEC_EVT]) := by
  refine ends_does (exec_katEnd failed _) ?_
  have hkeeps : d.plat.keeps (d.plat.katPassed d.sec) [Reg.SEC_STATUS, Reg.SEC_RNG_STAT, Reg.SEC_EVT] :=
    keeps_mono (keeps_katPassed d.plat d.sec) (by simp)
  cases failed with
  | false =>
    exact ⟨katPassed_ready _ _, katPassed_valid _ _, katPassed_status_katFail _ _,
      keeps_bit (keeps_katPassed d.plat d.sec) _ _ (by decide), hkeeps⟩
  | true =>
    simp only [dev_onPlat_plat, katEnd_failed, Bool.true_or]
    refine ⟨?_, ?_, ?_, plat_bit_setFlag_same _ _ _ (by decide) rfl, ?_⟩
    · rw [plat_bit_setFlag_ne _ _ _ _ _ (by decide), plat_bit_setFlag_field _ _ _ _ (by decide), katPassed_ready]
    · rw [plat_bit_setFlag_ne _ _ _ _ _ (by decide), plat_bit_setFlag_ne _ _ _ _ _ (by decide), katPassed_valid]
    · rw [plat_bit_setFlag_ne _ _ _ _ _ (by decide), plat_bit_setFlag_same _ _ _ (by decide) rfl]
    · exact keeps_trans hkeeps (keeps_trans (keeps_setFlag _ _ _ _ (by simp)) (keeps_setFlag _ _ _ _ (by simp)))

theorem ends_rngRead (on : d.powered Reg.SEC_RNG) : Ends (.rngRead c) ⟨q, d⟩ (fun e =>
    (d.sec.rngFail = true → e = { d with plat := { d.plat with resp := 0 } }) ∧
    (d.sec.rngFail = false →
      e = { d with plat := { d.plat with resp := BitVec.ofNat 32 (Config.freeBits d.plat.free), free := d.plat.free + 1 } })) := by
  refine ends_regRead (exec_rngRead c) on ⟨fun h => ?_, fun h => ?_⟩
  · rw [Dev.onPlat, rngRead_failed d.plat d.sec h]
  · rw [Dev.onPlat, rngRead_healthy d.plat d.sec h on]
    rfl

end Commands

/-- Settles O4: what a command leaves comes from the two shapes that its effect has on the slot, one lemma for each RESULT; whether
it runs, waits or is refused is said once for all five commands. -/
theorem keyCommandsEndWithResult : Obligations.KeyCommandsEndWithResult := by
  unfold Obligations.KeyCommandsEndWithResult
  refine ⟨fun s c k on idle free => ⟨?load, ?gen, ?wrap, ?unwrap, ?staging, ?erase⟩, fun q d c k =>
    ⟨fun on x hx => ⟨ends_keyCmd_refused hx on, ends_keyCmd_waits hx on⟩, fun op hw => ⟨fun free => ?run, ?wait⟩,
      ends_rngHealthFail, ends_katEnd, ends_rngRead⟩⟩
  case load => exact ends_keyCmd_runs (isKeyCmd_load c k) on idle free ⟨keyRan_load_equal, keyRan_load⟩
  case gen => exact ends_keyCmd_runs (isKeyCmd_gen c k) on idle free ⟨keyRan_gen_fails, keyRan_gen⟩
  case wrap =>
    exact ends_keyCmd_runs (isKeyCmd_wrap c k) on idle free ⟨keyRan_wrap_same, fun h => (keyRan_wrap_empty h).1,
      fun h => ⟨(keyRan_wrap h).1, fun w hw => keyRan_wrap_staging h hw⟩⟩
  case unwrap =>
    cases h : kwUnwrap rootKey (s.dev.plat.stgBytes 18) with
    | none => exact ends_keyCmd_runs (isKeyCmd_unwrap c k) on idle free (keyRan_unwrap_fails h)
    | some bs => exact ends_keyCmd_runs (isKeyCmd_unwrap c k) on idle free ⟨keyRan_unwrap_equal h, keyRan_unwrap h⟩
  case staging =>
    intro i hi
    obtain ⟨op, hop, hx⟩ := isKeyCmd_of_clears hi
    exact ends_keyCmd_runs hx on idle free (fun w hw => keyRan_staging_zero hop hw)
  case erase => exact ends_keyCmd_runs (isKeyCmd_erase c k) on idle free keyRan_erase
  case run =>
    refine ends_keyCommandRun_runs hw free ⟨keyEnd_busy _ _, keyEnd_done _ _, rfl, keyRan_xfers, keeps_keyRan, ?_⟩
    rintro rfl
    exact keyRan_erase.2
  case wait => exact ends_keyCommandRun_waits hw

end Sys2Proof.Machine
end

section
/-! The Unit States (R460 to R462): what a Unit State Set and a disagreement write, the registers of the management window that
the controller resets leave alone, what the chip resets leave of the requested fields, and the obligation they settle. -/

namespace Sys2Proof.Machine

/-! ## The Unit State Registers -/

theorem unitReg_ne_mgtEvt (u : Nat) : Reg.MGT_US u ≠ Reg.MGT_EVT := by
  unfold Reg.MGT_US Reg.MGT_EVT
  omega

theorem unitReg_notMem_postRegs (u : Nat) : Reg.MGT_US u ∉ postRegs := by
  simp only [postRegs, List.mem_cons, List.not_mem_nil, or_false, Reg.MGT_US, Reg.FRZ_STATUS, Reg.FRZ_LOST_LO, Reg.FRZ_EVT]
  omega

theorem mgtEvt_notMem_postRegs : Reg.MGT_EVT ∉ postRegs := by decide

/-- A unit starts with SERVICE requested (R460). -/
theorem unitReg_resetWord (u : UnitNo) : Fld.get Fld.MGT_US_REQ (resetWord (Reg.MGT_US u)) = 1 := by
  revert u
  decide

/-- The requested field is what survives of a Unit State Register (Table SUW-2). -/
theorem unitReg_surviveMask (u : UnitNo) : surviveMask (Reg.MGT_US u) = Fld.mask Fld.MGT_US_REQ := by
  have hu := u.isLt
  unfold surviveMask
  rw [if_neg (by simp only [Reg.MGT_US, Reg.SYS_RST_CAUSE, Reg.MGT_BUDGET, Reg.FRZ_LOST_LO, Reg.FRZ_LOST_HI]; omega),
    if_pos (by simp only [Reg.MGT_US]; omega)]

/-- A field is the same in words that agree in its bits. -/
theorem fld_get_congr {f : Fld} {v w : Word} (h : v &&& f.mask = w &&& f.mask) (hf : f.lo + f.w ≤ 32) :
    Fld.get f v = Fld.get f w := by
  apply Nat.eq_of_testBit_eq
  intro i
  rw [fld_get_testBit, fld_get_testBit]
  by_cases hi : i < f.w
  · have hbit := congrArg (·.getLsbD (f.lo + i)) h
    simpa [fld_mask_getLsbD f (f.lo + i) (by omega), hi] using hbit
  · simp [hi]

theorem surviving_and_surviveMask (a : Nat) (w : Word) : surviving a w &&& surviveMask a = w &&& surviveMask a := by
  unfold surviving
  ext i hi
  simp only [BitVec.getElem_and, BitVec.getElem_or, BitVec.getElem_not]
  cases (surviveMask a)[i] <;> simp

theorem unitReg_surviving (u : UnitNo) (w : Word) :
    Fld.get Fld.MGT_US_REQ (surviving (Reg.MGT_US u) w) = Fld.get Fld.MGT_US_REQ w :=
  fld_get_congr (unitReg_surviveMask u ▸ surviving_and_surviveMask (Reg.MGT_US u) w) (by decide)

/-! ## What a posted record depends on -/

/-- Whether an event was posted is seen in the time before it and in the queues before and after it. -/
theorem posted_congr {p p' q q' : Plat} {src typ : Nat} {payload : List Byte} (h : p'.posted q' src typ payload)
    (ht : p'.time = p.time) (hp : p'.frz = p.frz) (hq : q.frz = q'.frz) : p.posted q src typ payload := by
  unfold Plat.posted at h ⊢
  rwa [hq, ← ht, ← hp]

theorem postUnit_fld (p : Plat) (u src kind b : Nat) (f : Fld) (h : b ∉ postRegs) :
    (p.postUnit u src kind).fld b f = p.fld b f := post_fld _ _ _ _ _ _ h

theorem postUnit_bit (p : Plat) (u src kind b : Nat) (f : Fld) (h : b ∉ postRegs) :
    (p.postUnit u src kind).bit b f = p.bit b f := keeps_bit (keeps_post _ _ _ _) _ _ h

theorem keeps_postUnit (p : Plat) (u src kind : Nat) : p.keeps (p.postUnit u src kind) postRegs := keeps_post _ _ _ _

theorem posted_postUnit (p : Plat) (u src kind : Nat) : p.posted (p.postUnit u src kind) src 0x000C
    [BitVec.ofNat 8 u, BitVec.ofNat 8 (p.fld (Reg.MGT_US u) Fld.MGT_US_REQ),
      BitVec.ofNat 8 (p.fld (Reg.MGT_US u) Fld.MGT_US_EFF), BitVec.ofNat 8 kind] := posted_post _ _ _ _

/-! ## The end of a disagreement (R462) -/

theorem agree_eq (p : Plat) (u : Nat) : p.agree u = p ∨ p.agree u = p.setFld (Reg.MGT_US u) Fld.MGT_US_DIS 0 := by
  unfold Plat.agree
  split
  · exact .inr rfl
  · exact .inl rfl

theorem agree_frz (p : Plat) (u : Nat) : (p.agree u).frz = p.frz := by
  obtain h | h := agree_eq p u <;> rw [h]
  rfl

theorem keeps_agree (p : Plat) (u : Nat) : p.keeps (p.agree u) [Reg.MGT_US u] := by
  obtain h | h := agree_eq p u <;> rw [h]
  · exact keeps_refl _ _
  · exact keeps_setFld _ _ _ _ _ List.mem_cons_self

/-- The requested and effective fields stand below DIS, and stay when it clears. -/
theorem agree_fld (p : Plat) (u : Nat) (f : Fld) (hf : f.lo + f.w ≤ Fld.MGT_US_DIS.lo) :
    (p.agree u).fld (Reg.MGT_US u) f = p.fld (Reg.MGT_US u) f := by
  obtain h | h := agree_eq p u <;> rw [h]
  exact plat_fld_setFld_field _ _ _ _ _ (.inr hf)

/-! ## A Unit State Set (R460) -/

theorem unitCodeOk_lt {u c : Nat} (h : unitCodeOk u c = true) : c < 4 := by
  match c with
  | 0 | 1 | 2 | 3 => decide
  | c + 4 => exact absurd h Bool.false_ne_true

/-- The registers with `c` requested of unit `u`, before the record is posted. -/
def Plat.requested (p : Plat) (u c : Nat) : Plat :=
  (p.setFld (Reg.MGT_US u) Fld.MGT_US_REQ c).setFlag Reg.MGT_EVT Fld.MGT_EVT_REQ

theorem unitStateSet_refused {p : Plat} {g : Mgt} {u c : Nat} (on : p.miOn = true) (h : unitCodeOk u c = false) :
    unitStateSet p g u c = (p, g.say .invalidParameter []) := by
  simp [unitStateSet, miServe, on, h]

theorem unitStateSet_accepted {p : Plat} {g : Mgt} {u c : Nat} (on : p.miOn = true) (h : unitCodeOk u c = true)
    (hu : u < 36) :
    unitStateSet p g u c = (((p.requested u c).postUnit u 112 0).agree u, g.say .success []) := by
  simp [unitStateSet, miServe, on, h, hu, Plat.requested]

section Requested

variable (p : Plat) (u c : Nat)

theorem requested_fld (f : Fld) :
    (p.requested u c).fld (Reg.MGT_US u) f = (p.setFld (Reg.MGT_US u) Fld.MGT_US_REQ c).fld (Reg.MGT_US u) f :=
  plat_fld_setFld_ne _ _ _ _ _ _ (unitReg_ne_mgtEvt u)

theorem requested_req {c : Nat} (h : c < 16) : (p.requested u c).fld (Reg.MGT_US u) Fld.MGT_US_REQ = c := by
  rw [requested_fld, plat_fld_setFld_same _ _ _ _ (by decide)]
  exact Nat.mod_eq_of_lt h

theorem requested_eff :
    (p.requested u c).fld (Reg.MGT_US u) Fld.MGT_US_EFF = p.fld (Reg.MGT_US u) Fld.MGT_US_EFF := by
  rw [requested_fld, plat_fld_setFld_field _ _ _ _ _ (by decide)]

theorem requested_evt : (p.requested u c).bit Reg.MGT_EVT Fld.MGT_EVT_REQ = true :=
  plat_bit_setFlag_same _ _ _ (by decide) rfl

theorem keeps_requested : p.keeps (p.requested u c) [Reg.MGT_US u, Reg.MGT_EVT] :=
  keeps_trans (keeps_setFld _ _ _ _ _ (by simp)) (keeps_setFlag _ _ _ _ (by simp))

end Requested

/-! ## A disagreement (R462) -/

/-- The registers with the disagreement of unit `u` marked, before the record is posted. -/
def Plat.disagreed (p : Plat) (u : Nat) : Plat :=
  (p.setFlag (Reg.MGT_US u) Fld.MGT_US_DIS).setFlag Reg.MGT_EVT Fld.MGT_EVT_DISAGREE

theorem unitDisagree_reports {p : Plat} {u : Nat} (arm : p.bit Reg.MGT_US_CFG Fld.MGT_US_CFG_ARM = true)
    (new : p.bit (Reg.MGT_US u) Fld.MGT_US_DIS = false)
    (differ : p.fld (Reg.MGT_US u) Fld.MGT_US_REQ ≠ p.fld (Reg.MGT_US u) Fld.MGT_US_EFF) :
    unitDisagree p u = (p.disagreed u).postUnit u 114 1 := if_pos ⟨arm, new, differ⟩

section Disagreed

variable (p : Plat) (u : Nat)

theorem disagreed_dis : (p.disagreed u).bit (Reg.MGT_US u) Fld.MGT_US_DIS = true :=
  (plat_bit_setFlag_ne _ _ _ _ _ (unitReg_ne_mgtEvt u)).trans (plat_bit_setFlag_same _ _ _ (by decide) rfl)

theorem disagreed_evt : (p.disagreed u).bit Reg.MGT_EVT Fld.MGT_EVT_DISAGREE = true :=
  plat_bit_setFlag_same _ _ _ (by decide) rfl

theorem disagreed_fld (f : Fld) (hf : f.lo + f.w ≤ Fld.MGT_US_DIS.lo) :
    (p.disagreed u).fld (Reg.MGT_US u) f = p.fld (Reg.MGT_US u) f :=
  (plat_fld_setFld_ne _ _ _ _ _ _ (unitReg_ne_mgtEvt u)).trans (plat_fld_setFld_field _ _ _ _ _ (.inr hf))

theorem keeps_disagreed : p.keeps (p.disagreed u) [Reg.MGT_US u, Reg.MGT_EVT] :=
  keeps_trans (keeps_setFlag _ _ _ _ (by simp)) (keeps_setFlag _ _ _ _ (by simp))

end Disagreed

/-! ## What the resets leave of the management window -/

/-- Every register from the management window on reads the same in `q` as in `p`. -/
def Plat.keepsMgt (p q : Plat) : Prop := ∀ a, Reg.MGT_NODE ≤ a → q.rd a = p.rd a

theorem keepsMgt_of_keeps {p q : Plat} {xs : List Nat} (h : p.keeps q xs) (hx : ∀ x ∈ xs, x < Reg.MGT_NODE) :
    p.keepsMgt q := fun a ha => h a (fun hm => absurd (hx a hm) (Nat.not_lt.2 ha))

theorem keepsMgt_refl (p : Plat) : p.keepsMgt p := fun _ _ => rfl

theorem keepsMgt_trans {p q r : Plat} (h : p.keepsMgt q) (k : q.keepsMgt r) : p.keepsMgt r :=
  fun a ha => (k a ha).trans (h a ha)

theorem keepsMgt_wr (p : Plat) {a : Nat} (w : Word) (h : a < Reg.MGT_NODE) : p.keepsMgt (p.wr a w) :=
  keepsMgt_of_keeps (keeps_wr p a w [a] List.mem_cons_self) (by simpa using h)

theorem keepsMgt_setFld (p : Plat) {a : Nat} (f : Fld) (v : Nat) (h : a < Reg.MGT_NODE) : p.keepsMgt (p.setFld a f v) :=
  keepsMgt_wr p _ h

/-- Steps that each keep the window keep it one after the other; `g` takes the registers out of what the steps act on. -/
theorem keepsMgt_foldl {α β : Type} (g : α → Plat) (f : α → β → α) (l : List β) (e : α)
    (h : ∀ e, ∀ x ∈ l, (g e).keepsMgt (g (f e x))) : (g e).keepsMgt (g (l.foldl f e)) :=
  List.foldlRecOn l f (motive := fun r => (g e).keepsMgt (g r)) (keepsMgt_refl _) (fun r hr x hx => keepsMgt_trans hr (h r x hx))

theorem keepsMgt_unitReq {p q : Plat} (h : p.keepsMgt q) (u : Nat) :
    q.fld (Reg.MGT_US u) Fld.MGT_US_REQ = p.fld (Reg.MGT_US u) Fld.MGT_US_REQ := by
  rw [Plat.fld, Plat.fld, h _ (by unfold Reg.MGT_NODE Reg.MGT_US; omega)]

/-! ### Controller resets (R306) -/

/-- The Command Table lies below the management window. -/
theorem entryWord_lt (t w : Nat) (h : w < 16) : entryWord t w < Reg.MGT_NODE := by
  unfold entryWord Reg.MGT_NODE
  omega

theorem keepsMgt_setCt (p : Plat) (t : Nat) (f : CtFld) (v : Nat) (h : f.word < 16) : p.keepsMgt (p.setCt t f v) :=
  keepsMgt_setFld p _ _ (entryWord_lt t _ h)

theorem keepsMgt_addCount (p : Plat) (s : Nat) (up : Bool) (h : s < 8) : p.keepsMgt (p.addCount s up) :=
  keepsMgt_setFld p _ _ (by unfold Reg.CMD_CNT Reg.MGT_NODE; omega)

theorem keepsMgt_moveTag (p : Plat) (t s : Nat) (h : s < 8) : p.keepsMgt (p.moveTag t s) := by
  unfold Plat.moveTag
  split
  · exact keepsMgt_refl p
  · exact keepsMgt_trans (keepsMgt_addCount _ _ _ (fld_get_lt Ct.state.f _))
      (keepsMgt_trans (keepsMgt_addCount _ _ _ h) (keepsMgt_setCt _ _ _ _ (by decide)))

theorem keepsMgt_abortedRecord (e : Fe) (t : Nat) : e.p.keepsMgt (e.abortedRecord t).p :=
  keepsMgt_of_keeps (keeps_postEvent _ _ _ _ _) (by decide)

theorem keepsMgt_resetTag (e : Fe) (t : Nat) : e.p.keepsMgt (e.resetTag t).p := by
  unfold Fe.resetTag
  dsimp only
  split
  · exact keepsMgt_trans (keepsMgt_abortedRecord e t)
      (keepsMgt_trans (keepsMgt_setCt _ t Ct.xfer 0 (by decide)) (keepsMgt_moveTag _ _ _ (by decide)))
  · exact keepsMgt_refl _

theorem finishReset_p (e : Fe) (n : Nat) : (e.finishReset n).p = e.p := by
  unfold Fe.finishReset
  split <;> rfl

theorem keepsMgt_ctrlReset (e : Fe) (n : Nat) : e.p.keepsMgt (e.ctrlReset n).p := by
  unfold Fe.ctrlReset
  rw [finishReset_p]
  exact keepsMgt_foldl Fe.p Fe.resetTag _ { e with h := _ } (fun e t _ => keepsMgt_resetTag e t)

theorem keepsMgt_functionLevelReset (e : Fe) (n : Nat) :
    e.p.keepsMgt (({ e with p := e.p.setFlag Reg.HIF_EVT Fld.HIF_EVT_FLR } : Fe).ctrlReset n).p :=
  keepsMgt_trans (keepsMgt_setFld e.p _ _ (by decide)) (keepsMgt_ctrlReset { e with p := _ } n)

theorem keepsMgt_nvmSubsystemReset (e : Fe) : e.p.keepsMgt ((List.range 64).foldl (fun e n => e.ctrlReset n) e).p :=
  keepsMgt_foldl Fe.p _ _ e (fun e n _ => keepsMgt_ctrlReset e n)

/-! ### Chip resets (R471) -/

theorem mbLost_regs (d : Dev) : d.mbLost.plat.regs = d.plat.regs := by
  unfold Dev.mbLost
  split
  · rfl
  · dsimp only
    split
    · rfl
    · rfl
    · split
      · rw [dev_setTsq_plat]
        rfl
      · rfl

theorem recoverZones_regs (p : Plat) (h : Hif) : (recoverZones p h).1.regs = p.regs := by
  unfold recoverZones
  split
  · rfl
  · refine List.foldlRecOn (motive := fun r : Plat × SMap (Option Zone) => r.1.regs = p.regs) _ _ rfl (fun r hr x _ => ?_)
    split
    · exact hr
    · exact hr

theorem keepsMgt_keepShow (p : Plat) (k : Keep) : p.keepsMgt (keepShow p k) := by
  unfold keepShow
  split
  · dsimp only
    refine keepsMgt_trans ?_ (keepsMgt_foldl id _ (List.range 16) _ (fun p n hn => ?region))
    case region =>
      have hn := List.mem_range.1 hn
      exact keepsMgt_trans (keepsMgt_wr p _ (by unfold Reg.KEEP_REGION_LO Reg.MGT_NODE; omega))
        (keepsMgt_wr _ _ (by unfold Reg.KEEP_REGION_HI Reg.MGT_NODE; omega))
    refine keepsMgt_trans ?_ (keepsMgt_setFld _ _ _ (by decide))
    refine keepsMgt_trans ?_ (keepsMgt_setFld _ _ _ (by decide))
    refine keepsMgt_trans ?_ (keepsMgt_setFld _ _ _ (by decide))
    refine keepsMgt_trans ?_ (keepsMgt_foldl id _ [0, 1] _ (fun p b hb => keepsMgt_wr p _ ?intent))
    case intent =>
      revert b
      decide
    refine keepsMgt_trans ?_ (keepsMgt_wr _ _ (by decide))
    refine keepsMgt_trans ?_ (keepsMgt_wr _ _ (by decide))
    exact keepsMgt_wr p _ (by decide)
  · exact keepsMgt_refl p

/-- A pin or watchdog reset keeps the requested field of every unit (R460, Table SUW-2). -/
theorem chipReset_unitReq (d : Dev) (f : Fld) (u : UnitNo) :
    (d.chipReset f).plat.fld (Reg.MGT_US u) Fld.MGT_US_REQ = d.plat.fld (Reg.MGT_US u) Fld.MGT_US_REQ := by
  have hrst : Reg.MGT_US u ≠ Reg.SYS_RST_CAUSE := by
    unfold Reg.MGT_US Reg.SYS_RST_CAUSE
    omega
  have hz := recoverZones_regs (d.mbLost.plat.chipReset f) d.mbLost.hif
  calc (d.chipReset f).plat.fld (Reg.MGT_US u) Fld.MGT_US_REQ
      = (recoverZones (d.mbLost.plat.chipReset f) d.mbLost.hif).1.fld (Reg.MGT_US u) Fld.MGT_US_REQ :=
        keepsMgt_unitReq (keepsMgt_keepShow _ _) u
    _ = (d.mbLost.plat.chipReset f).fld (Reg.MGT_US u) Fld.MGT_US_REQ :=
        keeps_fld (keeps_of_regs hz []) _ _ List.not_mem_nil
    _ = Fld.get Fld.MGT_US_REQ (surviving (Reg.MGT_US u) (d.mbLost.plat.rd (Reg.MGT_US u))) :=
        congrArg (Fld.get _) (plat_chipReset_rd _ f _ hrst)
    _ = d.mbLost.plat.fld (Reg.MGT_US u) Fld.MGT_US_REQ := unitReg_surviving u _
    _ = d.plat.fld (Reg.MGT_US u) Fld.MGT_US_REQ := keeps_fld (keeps_of_regs (mbLost_regs d) []) _ _ List.not_mem_nil

theorem watchdogReset_resets {d : Dev} (en : d.plat.bit Reg.SYS_WDT_CTRL Fld.SYS_WDT_CTRL_EN = true)
    (stage : d.plat.fld Reg.SYS_WDT_STAT Fld.SYS_WDT_STAT_STAGE = 2) :
    d.watchdogReset = d.chipReset Fld.SYS_RST_CAUSE_WDT := if_pos ⟨en, stage⟩

/-- A register that nothing has written since power-on reads its Reset value. -/
theorem plat_fld_of_regs_nil {p : Plat} (h : p.regs = []) (a : Nat) (f : Fld) : p.fld a f = Fld.get f (resetWord a) := by
  rw [Plat.fld, Plat.rd, h]
  rfl

/-! ## The commands -/

theorem exec_unitStateSet (u code : Nat) (s : State) : exec (.unitStateSet u code) s =
    s.does (fun d => d.onMgt (fun p g => unitStateSet p g u code)) := rfl

theorem exec_unitStateDisagree (u : UnitNo) (s : State) : exec (.unitStateDisagree u) s =
    s.does (fun d => d.onPlat (fun p => unitDisagree p u)) := rfl

theorem exec_powerOnReset (s : State) : exec .powerOnReset s = s.does Dev.powerOnReset := rfl

theorem exec_pinReset (s : State) : exec .pinReset s = s.does (fun d => d.chipReset Fld.SYS_RST_CAUSE_PIN) := rfl

theorem exec_watchdogReset (s : State) : exec .watchdogReset s = s.does Dev.watchdogReset := rfl

theorem exec_nvmSubsystemReset (s : State) : exec .nvmSubsystemReset s =
    s.does (fun d => d.onFe (fun e => (List.range 64).foldl (fun e n => e.ctrlReset n) e)) := rfl

theorem exec_functionLevelReset (n : CtlNo) (s : State) : exec (.functionLevelReset n) s =
    s.does (fun d => d.onFe (fun e => ({ e with p := e.p.setFlag Reg.HIF_EVT Fld.HIF_EVT_FLR } : Fe).ctrlReset n)) := rfl

theorem exec_controllerEnableClear (n : CtlNo) (s : State) : exec (.controllerEnableClear n) s =
    s.does (fun d => d.onFe (fun e => e.ctrlReset n)) := rfl

section Commands

variable {q : List Instr} {d : Dev} {u : UnitNo} {code : Nat}

theorem ends_unitStateSet_refused (on : d.plat.miOn = true) (h : unitCodeOk u code = false) :
    Ends (.unitStateSet u code) ⟨q, d⟩ (fun e =>
      e = { d with mgt := { d.mgt with answer := ⟨.invalidParameter, []⟩, answers := d.mgt.answers + 1 } }) := by
  refine ends_does (exec_unitStateSet u code _) ?_
  rw [Dev.onMgt, unitStateSet_refused on h]
  rfl

theorem ends_unitStateSet_accepted (on : d.plat.miOn = true) (h : unitCodeOk u code = true) :
    Ends (.unitStateSet u code) ⟨q, d⟩ (fun e =>
      e.mgt.answer = ⟨.success, []⟩ ∧ e.plat.fld (Reg.MGT_US u) Fld.MGT_US_REQ = code ∧
      e.plat.fld (Reg.MGT_US u) Fld.MGT_US_EFF = d.plat.fld (Reg.MGT_US u) Fld.MGT_US_EFF ∧
      e.plat.bit Reg.MGT_EVT Fld.MGT_EVT_REQ = true ∧
      d.plat.posted e.plat 112 0x000C [BitVec.ofNat 8 u, BitVec.ofNat 8 code,
        BitVec.ofNat 8 (d.plat.fld (Reg.MGT_US u) Fld.MGT_US_EFF), 0] ∧
      d.plat.keeps e.plat ([Reg.MGT_US u, Reg.MGT_EVT] ++ postRegs)) := by
  have hreq := requested_req d.plat u (c := code) (by have := unitCodeOk_lt h; omega)
  have heff := requested_eff d.plat u code
  refine ends_does (exec_unitStateSet u code _) ?_
  simp only [dev_onMgt_plat, dev_onMgt_mgt, unitStateSet_accepted on h u.isLt]
  refine ⟨rfl, ?req, ?eff, ?evt, ?record, ?frame⟩
  case req => rw [agree_fld _ _ _ (by decide), postUnit_fld _ _ _ _ _ _ (unitReg_notMem_postRegs u), hreq]
  case eff => rw [agree_fld _ _ _ (by decide), postUnit_fld _ _ _ _ _ _ (unitReg_notMem_postRegs u), heff]
  case evt =>
    rw [keeps_bit (keeps_agree _ _) _ _ (by simpa using (unitReg_ne_mgtEvt u).symm),
      postUnit_bit _ _ _ _ _ _ mgtEvt_notMem_postRegs, requested_evt]
  case record =>
    have hrec := posted_postUnit (d.plat.requested u code) u 112 0
    rw [hreq, heff] at hrec
    exact posted_congr hrec rfl rfl (agree_frz _ _)
  case frame =>
    exact keeps_trans (keeps_mono (keeps_requested _ _ _) (List.subset_append_left _ _))
      (keeps_trans (keeps_mono (keeps_postUnit _ _ _ _) (List.subset_append_right _ _))
        (keeps_mono (keeps_agree _ _) (by simp)))

theorem ends_unitStateDisagree (arm : d.plat.bit Reg.MGT_US_CFG Fld.MGT_US_CFG_ARM = true)
    (new : d.plat.bit (Reg.MGT_US u) Fld.MGT_US_DIS = false)
    (differ : d.plat.fld (Reg.MGT_US u) Fld.MGT_US_REQ ≠ d.plat.fld (Reg.MGT_US u) Fld.MGT_US_EFF) :
    Ends (.unitStateDisagree u) ⟨q, d⟩ (fun e =>
      e.plat.bit (Reg.MGT_US u) Fld.MGT_US_DIS = true ∧ e.plat.bit Reg.MGT_EVT Fld.MGT_EVT_DISAGREE = true ∧
      d.plat.posted e.plat 114 0x000C [BitVec.ofNat 8 u, BitVec.ofNat 8 (d.plat.fld (Reg.MGT_US u) Fld.MGT_US_REQ),
        BitVec.ofNat 8 (d.plat.fld (Reg.MGT_US u) Fld.MGT_US_EFF), 1] ∧
      d.plat.keeps e.plat ([Reg.MGT_US u, Reg.MGT_EVT] ++ postRegs)) := by
  refine ends_does (exec_unitStateDisagree u _) ?_
  simp only [dev_onPlat_plat, unitDisagree_reports arm new differ]
  refine ⟨?dis, ?evt, ?record, ?frame⟩
  case dis => rw [postUnit_bit _ _ _ _ _ _ (unitReg_notMem_postRegs u), disagreed_dis]
  case evt => rw [postUnit_bit _ _ _ _ _ _ mgtEvt_notMem_postRegs, disagreed_evt]
  case record =>
    have hrec := posted_postUnit (d.plat.disagreed u) u 114 1
    rw [disagreed_fld _ _ _ (by decide), disagreed_fld _ _ _ (by decide)] at hrec
    exact posted_congr hrec rfl rfl rfl
  case frame =>
    exact keeps_trans (keeps_mono (keeps_disagreed _ _) (List.subset_append_left _ _))
      (keeps_mono (keeps_postUnit _ _ _ _) (List.subset_append_right _ _))

theorem ends_powerOnReset_unitReq :
    Ends .powerOnReset ⟨q, d⟩ (fun e => e.plat.fld (Reg.MGT_US u) Fld.MGT_US_REQ = 1) :=
  ends_does (exec_powerOnReset _) ((plat_fld_of_regs_nil rfl _ _).trans (unitReg_resetWord u))

theorem ends_watchdogReset_unitReq (en : d.plat.bit Reg.SYS_WDT_CTRL Fld.SYS_WDT_CTRL_EN = true)
    (stage : d.plat.fld Reg.SYS_WDT_STAT Fld.SYS_WDT_STAT_STAGE = 2) :
    Ends .watchdogReset ⟨q, d⟩ (fun e =>
      e.plat.fld (Reg.MGT_US u) Fld.MGT_US_REQ = d.plat.fld (Reg.MGT_US u) Fld.MGT_US_REQ) := by
  refine ends_does (exec_watchdogReset _) ?_
  rw [watchdogReset_resets en stage]
  exact chipReset_unitReq d _ u

theorem ends_reset_unitReq {c : CtlNo} {i : Instr}
    (hi : i ∈ [Instr.pinReset, .nvmSubsystemReset, .functionLevelReset c, .controllerEnableClear c]) :
    Ends i ⟨q, d⟩ (fun e => e.plat.fld (Reg.MGT_US u) Fld.MGT_US_REQ = d.plat.fld (Reg.MGT_US u) Fld.MGT_US_REQ) := by
  simp only [List.mem_cons, List.not_mem_nil, or_false] at hi
  obtain rfl | rfl | rfl | rfl := hi
  · exact ends_does (exec_pinReset _) (chipReset_unitReq d _ u)
  · refine ends_does (exec_nvmSubsystemReset _) ?_
    rw [dev_onFe_plat]
    exact keepsMgt_unitReq (keepsMgt_nvmSubsystemReset d.fe) u
  · exact ends_does (exec_functionLevelReset c _) (keepsMgt_unitReq (keepsMgt_functionLevelReset d.fe c) u)
  · exact ends_does (exec_controllerEnableClear c _) (keepsMgt_unitReq (keepsMgt_ctrlReset d.fe c) u)

end Commands

/-- Settles O2: a set and a disagreement mark their registers and post one record; the controller resets write below the
management window, and of the window a chip reset keeps the requested fields. -/
theorem unitStateRequestsAndSurvival : Obligations.UnitStateRequestsAndSurvival := by
  unfold Obligations.UnitStateRequestsAndSurvival
  intro q d u code c
  exact ⟨ends_unitStateSet_refused, ends_unitStateSet_accepted,
    (plat_fld_of_regs_nil rfl _ _).trans (unitReg_resetWord u), ends_powerOnReset_unitReq,
    fun i hi => ends_reset_unitReq hi, ends_watchdogReset_unitReq, ends_unitStateDisagree⟩

end Sys2Proof.Machine
end
